-- ==== Sys2Proof/Word.lean ====
section
/-! DEFINITION. The words of the module and the plainest things made of them: 32-bit register words (R5),
bytes, 16-bit pixels and lanes, and the sparse table type in which the state keeps whatever is addressed by number. -/

namespace Sys2Proof

/-- A register word (R5). -/
abbrev Word := BitVec 32

/-- A byte of SRAM, of GDDR6 or of a message. -/
abbrev Byte := BitVec 8

/-- A 16-bit pixel, and a 16-bit lane of a folio vector register (R182). -/
abbrev Lane := BitVec 16

/-- A sparse table: pairs of a key and a value, keys strictly rising, no pair that holds the default of its key.
The operations and the canonical form stand in Machine/Ops.lean. -/
abbrev Store (α : Type) := List (Nat × α)

/-- A field of a register: its least bit and its width in bits. -/
structure Bits where
  lo : Nat
  len : Nat
  deriving DecidableEq, Repr

end Sys2Proof
end

