-- ==== Sys2Proof/Syntax.lean ====
section
/-! DEFINITION. The commands of the module, one constructor per row of the command table, and the messages, packets
and frames they carry. -/

namespace Sys2Proof

/-- The access paths of R12: an OHT control session, the two-wire port, firmware. -/
inductive Path where
  | oht (session : Nat)
  | twi
  | fw
  deriving DecidableEq, Repr

/-- What happens in the GDDR6 controller between commands (R424 to R427): the request of a source for one burst or more of a chunk at an
address, or a turn of a channel, with the banks whose heads other device timing holds up and whether an activate would break the
four-activate window. -/
inductive MemOp where
  | request (a source : Nat) (write : Bool)
  | turn (k blocked : Nat) (window : Bool)
  deriving DecidableEq, Repr

/-- Where a GDDR6 access goes and who makes it (R424). -/
structure MemTarget where
  a : Nat
  source : Nat
  deriving DecidableEq, Repr

/-- Lanes of a link, as a bit mask. -/
structure LaneSet where
  link : Nat
  lanes : Nat
  deriving DecidableEq, Repr

/-- An ECHO that comes in: a reply to the module's own, or the peer's (R75, R163), with its data. -/
structure Echo where
  reply : Bool
  data : BitVec 48
  deriving DecidableEq, Repr

/-- What a receiver finds on one active lane at an alignment-marker position (R62, R63): the sync header and the body, and the exclusive or
of the scrambled bodies of the lane's blocks since the last alignment marker. -/
structure AmLane where
  head : Nat
  body : BitVec 64
  sum : BitVec 64
  deriving DecidableEq, Repr

/-- What the lanes of a port bring while one packet is taken in (R59 to R61, R66): per logical lane the 58 bits received before, the latest as
bit 0, and the rows from that of the SOL on, each with the sync header and the body of a block per lane as they stand on the lane. -/
structure PacketRows where
  before : List (BitVec 58)
  rows : List (List (Nat × BitVec 64))
  deriving DecidableEq, Repr

/-- A line packet as the port reassembles it (R64 to R67): the SOL body, the data blocks, the EOL body unless the packet was cut short, and
whether a block of R65 stood inside it. -/
structure LinePacket where
  sol : BitVec 64
  blocks : List (BitVec 64)
  eol : Option (BitVec 64)
  bad : Bool
  deriving DecidableEq, Repr

/-- What a LINKEQ or DESKEW run measured on one lane (R137, R139): the equalizer words, the eye in mV and 1/64 UI, invalid
headers of the check, the mean delay in UI and in ps, and the spread over the AM rows in UI. -/
structure LaneMeas where
  ctle : Word
  dfe : Word
  slice : Word
  veye : Nat
  heye : Nat
  badHeaders : Nat
  delayUi : Nat
  delayPs : Nat
  spreadUi : Nat
  deriving DecidableEq, Repr

/-- A copy of a seam frame as received (R164 to R166): SOF fields, data blocks, EOF CRC. -/
structure SeamFrame where
  line : Nat
  copy : Nat
  last : Bool
  chunk : Nat
  nblk : Nat
  blocks : List (BitVec 64)
  crc : Nat
  deriving DecidableEq, Repr

/-- A PTP message as its rules use it (R411, R412): domain, sequenceId, twoStepFlag, correctionField in 2^-16 ns, its timestamp in
seconds and nanoseconds, the sender's clock identity and port number, the requesting port's where the message carries it, and
the transport of PTP_CTRL by which it came. -/
structure PtpMsg where
  domain : Nat
  seq : Nat
  twoStep : Bool
  corr : Int
  sec : Nat
  ns : Nat
  src : Nat
  srcPort : Nat
  reqClock : Nat
  reqPort : Nat
  transport : Nat
  deriving DecidableEq, Repr

/-- What an Announce message tells of its grandmaster (R412, R419). -/
structure PtpSet where
  prio1 : Nat
  cls : Nat
  accuracy : Nat
  variance : Nat
  prio2 : Nat
  gm : Nat
  steps : Nat
  utcOffset : Nat
  utcValid : Bool
  deriving DecidableEq, Repr

/-- The far end of an exchange of packets: MAC address, whether IPv6, IP address, UDP port; an address has its first byte on the
wire in its least significant byte (R404). -/
structure Peer where
  mac : Nat
  v6 : Bool
  ip : Nat
  udp : Nat
  deriving DecidableEq, Repr

/-- A received Ethernet frame as a sub-port judges it (R370, R372): destination MAC, the VID of its one tag if it has one, and the
length of its IP packet or other payload. -/
structure RxFrame where
  dst : Nat
  vid : Option Nat
  len : Nat
  deriving DecidableEq, Repr

/-- A frame to be forwarded between the host ports (R375, R416): its destination, its bytes and, for a PTP event message, its domain
and correctionField. -/
structure FwdFrame where
  dst : Nat
  bytes : List (BitVec 8)
  ptp : Option (Nat × Int)
  deriving DecidableEq, Repr

/-- A host datagram that a sub-port has received (R377, R378): the frame, its sender, and NODE, SEQ and FLAGS of the header. -/
structure OhtRx where
  port : Nat
  sub : Nat
  frame : RxFrame
  sender : Peer
  node : Nat
  seq : Nat
  flags : Nat
  deriving DecidableEq, Repr

/-- Why a frame is discarded (R369, R370, R373, R378, R413): by the FEC or FCS, as MAC control, as a bad OHT datagram, as a PTP message
not supported, as a request with an OP that is not used, which is answered, or as anything else. -/
inductive Discard where
  | fcs
  | macControl
  | badDatagram
  | ptp
  | badOp (h : OhtRx) (op opflags : Nat)
  | other
  deriving DecidableEq, Repr

/-- A firmware image as the boot ROM finds it (R533, R534): header fields, whether every byte marked 0 holds 0, the SHA-384 digest of
PUBKEY as twelve words, and whether SIGNATURE verifies. -/
structure FwImage where
  magic : Nat
  version : Nat
  length : Nat
  hmode : Nat
  stepping : Nat
  zeros : Bool
  digest : List Word
  signed : Bool
  deriving DecidableEq, Repr

/-- What a start meets outside the logic (R529, R534, R535, R537): how long it takes in ps, whether rails and PLLs come up in time,
the images in flash slots A and B if they can be read, whether the firmware memory's scrub is clean, the channels that fail the quick
check, whether the training ends, the training values it leaves, whether firmware initializes, and whether VIO is sensed at 2.5 V or above
(R544). -/
structure StartRun where
  dur : Nat
  pll : Bool
  slotA : Option FwImage
  slotB : Option FwImage
  scrub : Bool
  memFails : Nat
  memOk : Bool
  memWords : List Word
  fwOk : Bool
  vio33 : Bool
  deriving DecidableEq, Repr

/-- A condition on the two-wire bus with what follows it (R454): a START or repeated START, its address byte and, for a write, the three
register address bytes if they came; or a STOP. -/
inductive TwiCond where
  | start (repeated : Bool) (byte : Nat) (reg : Option Nat)
  | stop
  deriving DecidableEq, Repr

/-- How an in-band request goes (R465, R466): delivered, lost in arbitration, not acknowledged, or without a clock so far. -/
inductive IbrRun where
  | delivered
  | lost
  | nack
  | noClock
  deriving DecidableEq, Repr


/-- The commands of the module, one constructor per row of the command table. `t` is the time in picoseconds since reset at
which the command comes from outside or the module's own event falls due; `p` an access path. -/
inductive Instr where
  /-- REGISTER_WRITE (R9). A write to a register with no row of its own sets its fields according to their access types. -/
  | registerWrite (t : Nat) (p : Path) (a : Nat) (v : Word)
  /-- CAPTURE_READ (R12). A read of a capturing register (a _LO register or a group head) latches the captured values for that access path. -/
  | captureRead (t : Nat) (p : Path) (a : Nat)
  /-- COUNTER_CLEAR (R91). A write of 1 to a bit of a counter-clear register clears the matching counter. -/
  | counterClear (t : Nat) (p : Path) (a : Nat) (v : Word)
  /-- QUADRATURE_EDGE (R95). An edge on the A or B input of a quadrature input is decoded and counted as a step. -/
  | quadratureEdge (t k : Nat) (a b : Bool) (gap : Nat) (bFirst : Bool)
  /-- TRIG_PULSE_END (R114). The WIDTH of a TRIG pulse expires and the pin returns to its inactive level. -/
  | trigPulseEnd (t k : Nat)
  /-- INDEX_EDGE (R101). An active Z edge is checked against the expected index count and may load the counter. -/
  | indexEdge (t k : Nat) (level : Bool)
  /-- SPOS_POLL (R96). The poll period of a serial port expires and a frame is opened with a latch pulse. -/
  | sposPoll (t k : Nat)
  /-- SPOS_FRAME (R99). A complete serial frame is checked and its position difference applied to the counter. -/
  | sposFrame (t k : Nat) (status : Bool) (pos check : Nat)
  /-- LEADIN_TIMEOUT (R98). No lead-in is sampled within TMO, so the frame fails and TMOCNT adds one. -/
  | leadinTimeout (t k : Nat)
  /-- STALL (R105). No step for STALL microseconds invalidates SPEED and sets POS_EVT.STALL. -/
  | stall (t k : Nat)
  /-- SOFT_LIMIT_WRITE (R100). A write of new soft limits that exclude the count clamps the counter as a load. -/
  | softLimitWrite (t : Nat) (p : Path) (k : Nat) (high : Bool) (lo hi : Word)
  /-- HOME (R101). Writing IN_CFG.HOME arms a load of IDX_REF at the next Z edge. -/
  | home (t : Nat) (p : Path) (k : Nat) (v : Word)
  /-- TRIGGER_ENABLE (R107). Writing TRG_CTRL.EN to 1 enables the generator and arms every enabled camera. -/
  | triggerEnable (t : Nat) (p : Path) (v : Word)
  /-- ARM (R113). Writing TRIG_CMPCTL.ARM arms a compare output. -/
  | arm (t : Nat) (p : Path) (k : Nat) (v : Word)
  /-- LINE_PACKET (R82). A line packet that completes is joined to a trigger by TSEQ, corrected, or discarded and counted. -/
  | linePacket (t n : Nat) (rx : PacketRows)
  /-- ARRIVAL_WINDOW_CLOSE (R83). The arrival window of a camera line closes Pmin after its trigger and the line's outcome is decided. -/
  | arrivalWindowClose (t n tseq : Nat)
  /-- CLOCK_RECOVERED (R78). Clock recovery on all active lanes moves the link from WAIT_SIGNAL to BLOCK_LOCK. -/
  | clockRecovered (t m : Nat)
  /-- SIGNAL_LOSS (R78). Loss of signal or clock recovery on an active lane returns the link to WAIT_SIGNAL with a failed attempt. -/
  | signalLoss (t : Nat) (lost : LaneSet)
  /-- BLOCK_LOCK_GAINED (R59). A lane gains block lock after 64 valid sync headers. -/
  | blockLockGained (t m lane : Nat) (heads : List (BitVec 2))
  /-- BLOCK_LOCK_LOST (R59). A lane loses block lock after 16 invalid headers in 64, counted in LANE_LOCKLOSS. -/
  | blockLockLost (t m lane : Nat) (heads : List (BitVec 2))
  /-- ALIGNMENT_MARKER (R62). An AM row is received, checked for BIP8 and used for deskew and alignment. -/
  | alignmentMarker (t m : Nat) (ams : List AmLane) (skew : Nat)
  /-- UPSTREAM_AM_ROW (R71). Every 16,384 rows the transmitter sends an alignment-marker row, moved one row by a token. -/
  | upstreamAmRow (t m : Nat)
  /-- HELLO (R75). A camera HELLO is checked against the port settings and answered with CONFIG, or fails the port. -/
  | hello (t n : Nat) (parts : List (Nat × BitVec 48))
  /-- CONFIG_ACK (R78). A CONFIG_ACK that copies CONFIG starts the ECHO measurement, otherwise fails the attempt. -/
  | configAck (t n : Nat) (data : BitVec 48)
  /-- ECHO_REPLY (R76). An ECHO_REPLY updates CAM_RTT and triggers the next ECHO or the move to READY. -/
  | echoReply (t m : Nat) (e : Echo)
  /-- HANDSHAKE_TIMEOUT (R78). An attempt older than 20 ms or a missed handshake deadline fails the bring-up attempt. -/
  | handshakeTimeout (t m : Nat)
  /-- TRIES_RESET (R79). A port that has held READY for 1 s resets TRIES to 0. -/
  | triesReset (t m : Nat)
  /-- RETRAIN (R78). Writing RETRAIN takes a FAILED link to WAIT_SIGNAL with the attempt count reset. -/
  | retrain (t : Nat) (p : Path) (m : Nat) (v : Word)
  /-- CREG_GO (R73). Writing CREG_CTRL.GO sends one camera register REQ, or sets COLL or STATUS 4. -/
  | cregGo (t : Nat) (p : Path) (n : Nat) (v : Word)
  /-- RSP (R73). A camera RSP with a matching TAG ends the outstanding register access. -/
  | rsp (t n tag status : Nat) (data : Word)
  /-- CREG_TIMEOUT (R73). No RSP within 100 µs ends the camera register access with STATUS 3. -/
  | cregTimeout (t n : Nat)
  /-- CORR_TABLE_WRITE (R128). A CORR_TDATA write stores into the shadow table, or is rejected, and steps the index. -/
  | corrTableWrite (t : Nat) (p : Path) (n : Nat) (v : Word)
  /-- CORR_TABLE_READ (R128). A CORR_TDATA read returns the live entry and steps the index under AUTOINC. -/
  | corrTableRead (t : Nat) (p : Path) (n : Nat)
  /-- CORR_SEAL (R129). CORR_TCTL.SEAL seals a pipeline's shadow tables for a bank change. -/
  | corrSeal (t : Nat) (p : Path) (n : Nat) (v : Word)
  /-- CAL_SEAL (R129). A CAL_SEAL write seals a group of pipelines together, or is rejected as a whole. -/
  | calSeal (t : Nat) (p : Path) (v : Word)
  /-- CORR_DISCARD (R130). CORR_TCTL.DISCARD copies the live bank into the shadow and clears the written marks. -/
  | corrDiscard (t : Nat) (p : Path) (n : Nat) (v : Word)
  /-- CORR_BANK_CHANGE (R129). A sealed pipeline changes banks at the first trigger of its camera for line j_h or later. -/
  | corrBankChange (t n : Nat)
  /-- BANK_COPY_DONE (R130). The copy of the new live bank into the shadow ends, completing any pending seal. -/
  | bankCopyDone (t n : Nat)
  /-- CAL_DARK (R136). GO with KIND DARK starts a dark-offset run on one pipeline and phase. -/
  | calDark (t : Nat) (p : Path) (v : Word)
  /-- CAL_FLAT (R136). GO with KIND FLAT starts a flat-field gain run. -/
  | calFlat (t : Nat) (p : Path) (v : Word)
  /-- CAL_BADPIX (R136). GO with KIND BADPIX starts a bad-pixel detection run. -/
  | calBadpix (t : Nat) (p : Path) (v : Word)
  /-- CAL_LINKEQ (R137). GO with KIND LINKEQ adapts and checks the receiver equalization of a link. -/
  | calLinkeq (t : Nat) (p : Path) (v : Word)
  /-- CAL_DESKEW (R137). GO with KIND DESKEW measures each lane's delay over 64 AM rows. -/
  | calDeskew (t : Nat) (p : Path) (v : Word)
  /-- CAL_TRIGDLY (R138). GO with KIND TRIGDLY measures and trims the latency of the masked TRIG outputs. -/
  | calTrigdly (t : Nat) (p : Path) (v : Word)
  /-- CAL_ABORT (R135). CAL_CMD.ABORT ends the run in progress with ABORTED. -/
  | calAbort (t : Nat) (p : Path) (v : Word)
  /-- CAL_RUN_END (R139). A calibration run completes, its result is checked against the limits and applied or discarded. -/
  | calRunEnd (t : Nat) (lanes : List LaneMeas) (lats : List (Nat × Nat × Nat))
  /-- CAL_TIMEOUT (R135). N lines not taken within CAL_TMO end the run with TIMEOUT. -/
  | calTimeout (t : Nat)
  /-- SNAP (R141). CAL_IMGCTL.SNAP starts building the calibration image in SRAM page 5. -/
  | snap (t : Nat) (p : Path) (v : Word)
  /-- SNAP_COMPLETE (R141). The image is written, CAL_IMGLEN is set and BUSY clears. -/
  | snapComplete (t : Nat)
  /-- APPLY (R142). CAL_IMGCTL.APPLY starts checking and applying the calibration image. -/
  | apply (t : Nat) (p : Path) (v : Word)
  /-- APPLY_COMPLETE (R142). The image has been applied or refused, with RESULT and SKIPPED set. -/
  | applyComplete (t : Nat)
  /-- PROCESSING_SLOT_OPEN (R151). At S_j the stitched line is built from the line stores and the processing slot opens. -/
  | processingSlotOpen (t : Nat)
  /-- TERRITORY_READY (R159). At the territory ready time the stitch port begins delivering a pipeline's column groups. -/
  | territoryReady (t n : Nat)
  /-- FOLIO_LINE_END (R178). A folio engine ends its epilogue at F_j, takes its snapshot and stops its clock. -/
  | folioLineEnd (t n : Nat)
  /-- SEGMENTATION_LINE_END (R262). The segmentation engine finishes an output line, closing segments and handing them to the card builder. -/
  | segmentationLineEnd (t : Nat)
  /-- PROCESSING_SLOT_END (R23). At E_j the processing slot ends and the slot's work is checked and released. -/
  | processingSlotEnd (t : Nat)
  /-- RMP_TABLE_WRITE (R156). An RMP_TDATA write stores a remap or secondary entry in the shadow, or is rejected. -/
  | rmpTableWrite (t : Nat) (p : Path) (v : Word)
  /-- RMP_TABLE_READ (R156). An RMP_TDATA read returns the live entry and steps the index. -/
  | rmpTableRead (t : Nat) (p : Path)
  /-- RMP_SEAL (R156). RMP_TCTL.SEAL seals the remap shadow, or is rejected if RMP_AT has already come. -/
  | rmpSeal (t : Nat) (p : Path) (v : Word)
  /-- RMP_DISCARD (R156). RMP_TCTL.DISCARD copies the live remap bank into the shadow. -/
  | rmpDiscard (t : Nat) (p : Path) (v : Word)
  /-- REMAP_BANK_CHANGE (R156). The remap tables change banks at the selected reference trigger after a seal. -/
  | remapBankChange (t : Nat)
  /-- SEAM_HELLO (R163). A SEAM_HELLO is received; differing SIDE leads to READY, equal SIDE to FAILED. -/
  | seamHello (t side : Nat) (data : BitVec 48)
  /-- X_FRAME (R165). A valid copy of an export frame is received from a seam neighbour. -/
  | xFrame (t side : Nat) (f : SeamFrame)
  /-- H_FRAME (R165). A valid copy of a halo frame with the neighbour's outcome flags is received. -/
  | hFrame (t side : Nat) (f : SeamFrame)
  /-- S_FRAME (R270). A segment frame chunk is received and its records linked and merged. -/
  | sFrame (t side : Nat) (f : SeamFrame)
  /-- SEAM_FRAME_DEADLINE (R168). A seam frame deadline of R167 passes and is checked for a valid copy. -/
  | seamFrameDeadline (t side kind : Nat) (j : Int)
  /-- FOLIO_MEMORY_WRITE (R196). A write to folio memory goes to the non-live bank, or is rejected for the live bank. -/
  | folioMemoryWrite (t : Nat) (p : Path) (a : Nat) (v : Word)
  /-- CONV (R212). Window convolution with a coefficient set. -/
  | conv (e d src slot str w hh stg arg : Nat)
  /-- BOX (R211). Unsigned rounded window mean. -/
  | box (e d src slot str w hh stg arg : Nat)
  /-- RANK (R211). The k-th smallest unsigned window sample. -/
  | rank (e d src slot str w hh stg arg : Nat)
  /-- WIN_MIN (R211). Least unsigned window sample. -/
  | winMin (e d src slot str w hh stg arg : Nat)
  /-- WIN_MAX (R211). Greatest unsigned window sample. -/
  | winMax (e d src slot str w hh stg arg : Nat)
  /-- ERODE (R213). Least sample inside a structuring element. -/
  | erode (e d src slot str w hh stg arg : Nat)
  /-- DILATE (R213). Greatest sample inside a structuring element. -/
  | dilate (e d src slot str w hh stg arg : Nat)
  /-- LVAR (R211). Local window variance. -/
  | lvar (e d src slot str w hh stg arg : Nat)
  /-- SRANK (R211). The k-th smallest signed window sample. -/
  | srank (e d src slot str w hh stg arg : Nat)
  /-- WIN_SMIN (R211). Least signed window sample. -/
  | winSmin (e d src slot str w hh stg arg : Nat)
  /-- WIN_SMAX (R211). Greatest signed window sample. -/
  | winSmax (e d src slot str w hh stg arg : Nat)
  /-- SBOX (R211). Signed rounded window mean. -/
  | sbox (e d src slot str w hh stg arg : Nat)
  /-- ADD (R216). Vector add under MODE. -/
  | vAdd (e d a b c bk mode : Nat)
  /-- SUB (R216). Vector subtract under MODE. -/
  | vSub (e d a b c bk mode : Nat)
  /-- MUL (R216). Vector multiply with rounded shift by C. -/
  | vMul (e d a b c bk mode : Nat)
  /-- ABS (R216). Vector absolute value. -/
  | vAbs (e d a b c bk mode : Nat)
  /-- MIN (R216). Vector lane minimum. -/
  | vMin (e d a b c bk mode : Nat)
  /-- MAX (R216). Vector lane maximum. -/
  | vMax (e d a b c bk mode : Nat)
  /-- AVG (R216). Vector rounded average. -/
  | avg (e d a b c bk mode : Nat)
  /-- SHR (R216). Vector logical shift right. -/
  | shr (e d a b c bk mode : Nat)
  /-- SAR (R216). Vector arithmetic shift right. -/
  | sar (e d a b c bk mode : Nat)
  /-- SHL (R216). Vector shift left with clamp. -/
  | shl (e d a b c bk mode : Nat)
  /-- AND (R216). Vector bitwise and. -/
  | vAnd (e d a b c bk mode : Nat)
  /-- OR (R216). Vector bitwise or. -/
  | vOr (e d a b c bk mode : Nat)
  /-- XOR (R216). Vector bitwise exclusive-or. -/
  | vXor (e d a b c bk mode : Nat)
  /-- ANDN (R216). Vector and-not. -/
  | andn (e d a b c bk mode : Nat)
  /-- MOV (R216). Vector move of the B pattern. -/
  | mov (e d a b c bk mode : Nat)
  /-- CMPEQ (R216). Vector compare equal. -/
  | cmpeq (e d a b c bk mode : Nat)
  /-- CMPNE (R216). Vector compare not equal. -/
  | cmpne (e d a b c bk mode : Nat)
  /-- CMPLT (R216). Vector compare less than. -/
  | cmplt (e d a b c bk mode : Nat)
  /-- CMPLE (R216). Vector compare less or equal. -/
  | cmple (e d a b c bk mode : Nat)
  /-- CMPGT (R216). Vector compare greater than. -/
  | cmpgt (e d a b c bk mode : Nat)
  /-- CMPGE (R216). Vector compare greater or equal. -/
  | cmpge (e d a b c bk mode : Nat)
  /-- SEL (R216). Vector select by V[C]. -/
  | vSel (e d a b c bk mode : Nat)
  /-- SADD (R217). Scalar add. -/
  | sadd (e d a b c bk mode : Nat)
  /-- SSUB (R217). Scalar subtract. -/
  | ssub (e d a b c bk mode : Nat)
  /-- SMUL (R217). Scalar multiply. -/
  | smul (e d a b c bk mode : Nat)
  /-- SDIVU (R217). Scalar unsigned divide. -/
  | sdivu (e d a b c bk mode : Nat)
  /-- SSHR (R217). Scalar logical shift right. -/
  | sshr (e d a b c bk mode : Nat)
  /-- SSAR (R217). Scalar arithmetic shift right. -/
  | ssar (e d a b c bk mode : Nat)
  /-- SSHL (R217). Scalar shift left with clamp. -/
  | sshl (e d a b c bk mode : Nat)
  /-- SAND (R217). Scalar bitwise and. -/
  | sand (e d a b c bk mode : Nat)
  /-- SOR (R217). Scalar bitwise or. -/
  | sor (e d a b c bk mode : Nat)
  /-- SXOR (R217). Scalar bitwise exclusive-or. -/
  | sxor (e d a b c bk mode : Nat)
  /-- SMIN (R217). Scalar minimum. -/
  | smin (e d a b c bk mode : Nat)
  /-- SMAX (R217). Scalar maximum. -/
  | smax (e d a b c bk mode : Nat)
  /-- SMOV (R217). Scalar move of the B pattern. -/
  | smov (e d a b c bk mode : Nat)
  /-- SMOVI (R217). Scalar load of a sign-extended 22-bit immediate. -/
  | smovi (e d imm : Nat)
  /-- SORHI (R217). Scalar load of the upper bits from an immediate. -/
  | sorhi (e d imm : Nat)
  /-- SSEL (R217). Scalar select by S[C]. -/
  | ssel (e d a b c bk mode : Nat)
  /-- SCMPEQ (R217). Scalar compare equal. -/
  | scmpeq (e d a b c bk mode : Nat)
  /-- SCMPLT (R217). Scalar compare less than. -/
  | scmplt (e d a b c bk mode : Nat)
  /-- SABS (R217). Scalar absolute value. -/
  | sabs (e d a b c bk mode : Nat)
  /-- LUT (R220). Unsigned table lookup. -/
  | lut (e d a base lg sh : Nat)
  /-- LUTS (R220). Signed table lookup. -/
  | luts (e d a base lg sh : Nat)
  /-- LUTI (R220). Interpolated table lookup. -/
  | luti (e d a base lg sh : Nat)
  /-- LUT2 (R220). Two-dimensional table lookup. -/
  | lut2 (e d a b base na nb : Nat)
  /-- SLUT (R220). Scalar table lookup. -/
  | slut (e d a base lg sh : Nat)
  /-- RROW (R222). Read of an input ring row at a column offset. -/
  | rrow (e d a stg x : Nat)
  /-- PLD (R222). Read of a plane slot at a column offset. -/
  | pld (e d a stg x : Nat)
  /-- PST (R222). Store of a vector into a plane slot. -/
  | pst (e d a stg x : Nat)
  /-- OMASK (R222). Write of the MASK output. -/
  | omask (e d a stg x : Nat)
  /-- OVAL (R222). Write of the VALUE output. -/
  | oval (e d a stg x : Nat)
  /-- OTAP (R222). Write of a TAP output. -/
  | otap (e d a stg x : Nat)
  /-- RSUM (R226). Reduction by saturating unsigned sum. -/
  | rsum (e d a stg : Nat)
  /-- RSUMS (R226). Reduction by saturating signed sum. -/
  | rsums (e d a stg : Nat)
  /-- RSUMSQ (R226). Reduction by saturating sum of squares. -/
  | rsumsq (e d a stg : Nat)
  /-- RMIN (R226). Reduction by unsigned minimum. -/
  | rmin (e d a stg : Nat)
  /-- RMAX (R226). Reduction by unsigned maximum. -/
  | rmax (e d a stg : Nat)
  /-- RSMIN (R226). Reduction by signed minimum. -/
  | rsmin (e d a stg : Nat)
  /-- RSMAX (R226). Reduction by signed maximum. -/
  | rsmax (e d a stg : Nat)
  /-- RCNT (R226). Reduction by count of non-zero lanes. -/
  | rcnt (e d a stg : Nat)
  /-- LCOL (R222). Load of LANECOL into a vector. -/
  | lcol (e d a stg x : Nat)
  /-- VMOV (R222). Vector register move. -/
  | vmov (e d a stg x : Nat)
  /-- VBC (R222). Broadcast of a scalar into every lane. -/
  | vbc (e d a stg x : Nat)
  /-- CTX (R227). Read of a context source into a scalar. -/
  | ctx (e d a stg x : Nat)
  /-- SMOVX (R222). Scalar register move in the XFER slot. -/
  | smovx (e d a stg x : Nat)
  /-- COMMIT (R233). ACC_CTRL.COMMIT seals the staged set and starts accession. -/
  | commit (t : Nat) (p : Path) (v : Word)
  /-- ACCESSION_COMPLETE (R234). Accession ends with acceptance and bounds, or refusal with a reason. -/
  | accessionComplete (t : Nat)
  /-- UNSEAL (R233). ACC_CTRL.UNSEAL returns an ACCEPTED staged set to OPEN. -/
  | unseal (t : Nat) (p : Path) (v : Word)
  /-- SWITCH_ARM (R238). SWITCH_ARM arms a collection switch at the switch line, or is rejected. -/
  | switchArm (t : Nat) (p : Path) (v : Word)
  /-- SWITCH_CANCEL (R238). SWITCH_CANCEL clears ARMED. -/
  | switchCancel (t : Nat) (p : Path) (v : Word)
  /-- HAND_OVER (R236). At the switch line's reference trigger the staged set becomes live in every block at once. -/
  | handOver (t : Nat)
  /-- DIGEST (R242). A DIGEST message from a seam neighbour updates PEERMATCH and JOINT. -/
  | digest (t side : Nat) (d0 d1 : BitVec 48)
  /-- DIGEST_PERIOD (R241). Every 1 ms a member sends its DIGEST message on each READY seam link. -/
  | digestPeriod (t : Nat)
  /-- SEAM_DIGEST (R242). A peer's live digest that differs for more than 2 ms after hand-over is a breach. -/
  | seamDigest (t side : Nat)
  /-- BREACH (R253). A breach takes effect at a line boundary: the module enters Halted, drops HB and HOST_RDY and records the error. -/
  | breach (t : Nat)
  /-- CAT_TABLE_WRITE (R281). A CAT_TDATA write stores a rule word in the non-live catalogue bank under the staged-set rules. -/
  | catTableWrite (t : Nat) (p : Path) (v : Word)
  /-- CAT_TABLE_READ (R293). A CAT_TDATA read returns a word of the bank named by RBANK and steps the index. -/
  | catTableRead (t : Nat) (p : Path)
  /-- PROF_SYNC (R305). PROF_SYNC.SYNC requests a profile sync at a line, or is rejected. -/
  | profSync (t : Nat) (p : Path) (v : Word)
  /-- PROFSYNC_EDGE (R308). An active PROFSYNC pin edge requests a sync. -/
  | profsyncEdge (t : Nat) (level : Bool)
  /-- PROFSYNC_MESSAGE (R307). A PROFSYNC message on SEAMW sets the chain's sync line and is forwarded east. -/
  | profsyncMessage (t : Nat) (data : BitVec 48)
  /-- PROFILE_SYNC_APPLY (R304). At the sync line every filter and decimator is cleared and bins return to NORMAL. -/
  | profileSyncApply (t : Nat)
  /-- PROF_TABLE_WRITE (R315). A PROF_TDATA write stores a word in the non-live profile bank. -/
  | profTableWrite (t : Nat) (p : Path) (v : Word)
  /-- PROF_TABLE_READ (R315). A PROF_TDATA read returns a word and steps the index. -/
  | profTableRead (t : Nat) (p : Path)
  /-- STACKS_ROW_COMMIT (R322). A stacks row is committed in GDDR6 and HEADROW and HEADLINE advance. -/
  | stacksRowCommit (t : Nat)
  /-- CROP_RECORD_COMPLETE (R333). A crop channel finishes cutting a crop and commits its record. -/
  | cropRecordComplete (t q : Nat)
  /-- RP_GO (R325). RP_CTRL.GO starts a replay of stacks rows, or sets REFUSED. -/
  | rpGo (t : Nat) (p : Path) (r : Nat) (v : Word)
  /-- RP_ABORT (R329). RP_CTRL.ABORT ends a replay with ABORTED. -/
  | rpAbort (t : Nat) (p : Path) (r : Nat) (v : Word)
  /-- REPLAY_TICK (R326). A replay tick fetches the next row and times the reading pipeline's slot. -/
  | replayTick (t r : Nat)
  /-- REPLAY_FETCH_DONE (R324). A replay row fetch ends and is checked for being overtaken. -/
  | replayFetchDone (t r : Nat)
  /-- LOAD (R340). CH_CTRL.LOAD seals a DMA shadow descriptor and starts or queues it. -/
  | load (t : Nat) (p : Path) (c : Nat) (v : Word)
  /-- DMA_STOP (R342). CH_CTRL.STOP ends the chain at the end of the descriptor in force. -/
  | dmaStop (t : Nat) (p : Path) (c : Nat) (v : Word)
  /-- DMA_ABORT (R342). CH_CTRL.ABORT ends the chain after the reserved bursts are written. -/
  | dmaAbort (t : Nat) (p : Path) (c : Nat) (v : Word)
  /-- COPY (R338). DMA descriptor operation copying LEN bytes. -/
  | copy (t c : Nat)
  /-- GATHER (R338). DMA descriptor operation copying strided rows. -/
  | gather (t c : Nat)
  /-- FILL (R338). DMA descriptor operation writing a fill pattern. -/
  | fill (t c : Nat)
  /-- COMPARE (R338). DMA descriptor operation comparing two regions. -/
  | compare (t c : Nat)
  /-- BUFFER_GRANT (R335). A channel waiting for DMA buffer space is granted a burst reservation. -/
  | bufferGrant (t : Nat)
  /-- DMA_DESCRIPTOR_COMPLETE (R343). A descriptor completes, setting DONE or ERR and fetching the next in a chain. -/
  | dmaDescriptorComplete (t c : Nat)
  /-- DMA_DISABLE (R345). DMA_CTRL.EN = 0 drops every channel and reservation at once. -/
  | dmaDisable (t : Nat) (p : Path) (v : Word)
  /-- QUEUE_ROOM (R354). A DMA descriptor waiting for queue units resumes once they are free. -/
  | queueRoom (t c : Nat)
  /-- Q_RDATA_READ (R355). A Q_RDATA read takes the next 4 bytes of the packet at S, or sets UNDERRUN. -/
  | qRdataRead (t : Nat) (p : Path) (q : Nat)
  /-- Q_WDATA_WRITE (R356). A Q_WDATA write appends 4 bytes to the register port's open packet. -/
  | qWdataWrite (t : Nat) (p : Path) (q : Nat) (v : Word)
  /-- WEOP (R356). Q_CMD.WEOP commits the register port's open packet. -/
  | weop (t : Nat) (p : Path) (q : Nat) (v : Word)
  /-- FLUSH (R357). Q_CMD.FLUSH sets FLUSHPEND on an ordinary queue. -/
  | flush (t : Nat) (p : Path) (q : Nat) (v : Word)
  /-- FLUSH_APPLY (R357). The pending flush takes effect when no packet is in progress, setting S to W. -/
  | flushApply (t q : Nat)
  /-- BOOKMARK (R361). Q_CMD.BOOKMARK records S of a privileged queue as the bookmark. -/
  | bookmark (t : Nat) (p : Path) (q : Nat) (v : Word)
  /-- REWIND (R361). Q_CMD.REWIND requests S to move back to the bookmark or F. -/
  | rewind (t : Nat) (p : Path) (q : Nat) (v : Word)
  /-- REWFREE (R361). Q_CMD.REWFREE requests S to move back to F. -/
  | rewfree (t : Nat) (p : Path) (q : Nat) (v : Word)
  /-- REWIND_APPLY (R361). A requested rewind takes effect at the consumer's next packet boundary. -/
  | rewindApply (t q : Nat)
  /-- PEAKCLR (R366). Q_CMD.PEAKCLR sets Q_PEAK to the occupancy. -/
  | peakclr (t : Nat) (p : Path) (q : Nat) (v : Word)
  /-- PQ_RELEASE (R360). A write to PQ_RELEASE_LO releases a privileged queue through the key. -/
  | pqRelease (t : Nat) (p : Path) (q : Nat) (lo hi : Word)
  /-- SUBPORT_LINK_UP (R369). A host sub-port gains PCS alignment and link. -/
  | subportLinkUp (t ps : Nat)
  /-- SUBPORT_LINK_DOWN (R369). A host sub-port loses link. -/
  | subportLinkDown (t ps : Nat) (hser : Bool)
  /-- ARP_REQUEST (R373). An ARP request for the sub-port's address is answered with an ARP reply. -/
  | arpRequest (t ps : Nat) (f : RxFrame) (mac ip target : Nat)
  /-- ICMP_ECHO_REQUEST (R373). An ICMP echo request is answered with an echo reply. -/
  | icmpEchoRequest (t ps : Nat) (f : RxFrame) (mac src dst ident : Nat) (data : List (BitVec 8))
  /-- ICMPV6_ECHO_REQUEST (R373). An ICMPv6 echo request is answered with an echo reply. -/
  | icmpv6EchoRequest (t ps : Nat) (f : RxFrame) (mac src dst ident : Nat) (data : List (BitVec 8))
  /-- NEIGHBOUR_SOLICITATION (R373). A neighbour solicitation is answered with a neighbour advertisement. -/
  | neighbourSolicitation (t ps : Nat) (f : RxFrame) (mac src target : Nat)
  /-- FRAME_DISCARD (R373). A frame of any other kind, or a bad OHT datagram, is discarded and counted. -/
  | frameDiscard (t ps : Nat) (f : RxFrame) (why : Discard)
  /-- FRAME_FORWARD (R375). A frame is forwarded between HOSTA and HOSTB, with transparent-clock correction. -/
  | frameForward (t port : Nat) (f : FwdFrame)
  /-- READ (R381). OHT READ request returns up to 256 register words. -/
  | read (t : Nat) (h : OhtRx) (fixed : Bool) (addr count : Nat)
  /-- WRITE (R381). OHT WRITE request writes up to 256 register words. -/
  | write (t : Nat) (h : OhtRx) (fixed : Bool) (addr count : Nat) (words : List Word)
  /-- MODIFY (R381). OHT MODIFY request performs a masked read-modify-write of one word. -/
  | modify (t : Nat) (h : OhtRx) (addr : Nat) (mask value : Word)
  /-- BLKREAD (R384). OHT BLKREAD request starts a block read sent back as BLKDATA. -/
  | blkread (t : Nat) (h : OhtRx) (addr len : Nat)
  /-- BLKWRITE (R384). OHT BLKWRITE request writes a chunk of GDDR6 or SRAM. -/
  | blkwrite (t : Nat) (h : OhtRx) (addr len : Nat) (bytes : List (BitVec 8))
  /-- OHT_COMMIT (R385). OHT COMMIT request writes ACC_CTRL.COMMIT and answers when accession ends. -/
  | ohtCommit (t : Nat) (h : OhtRx)
  /-- IDENT (R381). OHT IDENT request returns the identity register and NODE_ID. -/
  | ident (t : Nat) (h : OhtRx)
  /-- REQUEST_HOLD_TIMEOUT (R380). A request held for a SEQ gap for 100 ms is discarded without response. -/
  | requestHoldTimeout (t i : Nat)
  /-- BLOCK_TRANSFER_COMPLETE (R384). A block transfer ends and its RESPONSE is sent. -/
  | blockTransferComplete (t : Nat)
  /-- RETURN (R390). A RETURN releases its circulation queue through KEY and may rewind it. -/
  | cardReturn (t : Nat) (h : OhtRx) (q key : Nat) (resend : Bool)
  /-- AUTOMATIC_REWIND (R391). A packet sent but unreleased for RETX µs triggers a REWFREE. -/
  | automaticRewind (t q : Nat)
  /-- RETURN_LATE (R254). An unreturned card older than ACC_RET after its last bit left is a breach. -/
  | returnLate (t q : Nat)
  /-- PORT_ARBITRATION (R397). At a frame boundary a sub-port chooses and sends its next frame by class. -/
  | portArbitration (t ps : Nat)
  /-- TIMED_LAUNCH (R398). A timed record's launch time arrives and its frame is sent in class 1. -/
  | timedLaunch (t ps : Nat)
  /-- TIME_SET (R410). TIME_CMD.SET loads the time, or is rejected. -/
  | timeSet (t : Nat) (p : Path) (v : Word)
  /-- TIME_STEP (R410). TIME_CMD.STEP adds a signed step to the time, or is rejected. -/
  | timeStep (t : Nat) (p : Path) (v : Word)
  /-- SYNC (R411). A PTP Sync message is time-stamped and used by the servo. -/
  | sync (t ps : Nat) (m : PtpMsg)
  /-- FOLLOW_UP (R412). A PTP Follow_Up message is received. -/
  | followUp (t ps : Nat) (m : PtpMsg)
  /-- DELAY_REQ (R412). A PTP Delay_Req message is received. -/
  | delayReq (t ps : Nat) (m : PtpMsg)
  /-- DELAY_RESP (R411). A PTP Delay_Resp message completes an offset and path delay measurement. -/
  | delayResp (t ps : Nat) (m : PtpMsg)
  /-- PDELAY_REQ (R412). A PTP Pdelay_Req message is received and answered. -/
  | pdelayReq (t ps : Nat) (m : PtpMsg)
  /-- PDELAY_RESP (R412). A PTP Pdelay_Resp message is received. -/
  | pdelayResp (t ps : Nat) (m : PtpMsg)
  /-- PDELAY_RESP_FOLLOW_UP (R412). A PTP Pdelay_Resp_Follow_Up message is received. -/
  | pdelayRespFollowUp (t ps : Nat) (m : PtpMsg)
  /-- ANNOUNCE (R412). A PTP Announce message is received for the BMCA. -/
  | announce (t ps : Nat) (m : PtpMsg) (d : PtpSet)
  /-- TIME_HOLDOVER (R409). The time source stops delivering and the timekeeper enters HOLDOVER. -/
  | timeHoldover (t : Nat)
  /-- AORATE_UPDATE (R408). Every 1 ms the timekeeper writes the measured AOCLK rate to TIME_AORATE. -/
  | aorateUpdate (t : Nat) (rate : Word)
  /-- SECOND_BOUNDARY (R419). The time passes a second boundary and sets TIME_EVT bit 4. -/
  | secondBoundary (t : Nat)
  /-- SEAM_TIME_EXCHANGE (R417). Every 125 µs a sender starts a seam time exchange with TSYNC. -/
  | seamTimeExchange (t m : Nat)
  /-- TSYNC (R417). A TSYNC message is stamped by the follower, which answers with TREQ. -/
  | tsync (t m : Nat) (d0 d1 : BitVec 48)
  /-- TREQ (R417). A TREQ message is stamped and answered with TRESP. -/
  | treq (t m : Nat)
  /-- TRESP (R417). A TRESP message completes a seam time exchange for the follower. -/
  | tresp (t m : Nat) (d0 d1 : BitVec 48)
  /-- TRESP_TIMEOUT (R417). A TRESP not arriving within 20 µs drops the exchange. -/
  | trespTimeout (t : Nat)
  /-- REFRESH_DUE (R427). A channel's 8.5 µs refresh interval expires and a refresh becomes owed. -/
  | refreshDue (t k : Nat) (traffic : List MemOp)
  /-- FORCED_REFRESH_DONE (R428). A forced refresh ends and the channel accepts requests again. -/
  | forcedRefreshDone (t k : Nat)
  /-- REALTIME_WRITE_REQUEST (R429). A real-time write enters the controller or its write buffer. -/
  | realtimeWriteRequest (t : Nat) (traffic : List MemOp) (at_ : MemTarget) (len : Nat) (waits : Bool)
  /-- GDDR6_READ_RETURN (R431). A GDDR6 read burst returns and is checked by EDC and ECC. -/
  | gddr6ReadReturn (t : Nat) (traffic : List MemOp) (at_ : MemTarget) (fails bits : Nat)
  /-- TRAINING_COMPLETE (R434). GDDR6 training or a quick check ends and the controller is READY. -/
  | trainingComplete (t fails : Nat) (ws : List Word)
  /-- MEMC_RETRAIN (R435). MEMC_TRAIN.RETRAIN starts a retraining in Poised. -/
  | memcRetrain (t : Nat) (p : Path) (v : Word)
  /-- FREQUENCY_REQUEST (R436). A write changing MEMC_FREQ.RATE requests a pin-rate change. -/
  | frequencyRequest (t : Nat) (p : Path) (v : Word)
  /-- SELF_REFRESH_ENTRY (R433). In Poised with no request for 100 µs the devices enter self-refresh. -/
  | selfRefreshEntry (t : Nat)
  /-- EVR_FIRE (R439). A write to EVR_FIRE makes the SW producer fire a channel. -/
  | evrFire (t : Nat) (p : Path) (high : Bool) (v : Word)
  /-- EVIN_EDGE (R448). An active edge on an EVIN pin emits an event. -/
  | evinEdge (t k : Nat) (level : Bool)
  /-- SPACING_END (R444). The re-fire spacing ends and the channel fires once for the deferred requests. -/
  | spacingEnd (t c : Nat)
  /-- EVOUT_PULSE_END (R449). An EVOUT pulse width expires and the pin returns inactive. -/
  | evoutPulseEnd (t k : Nat)
  /-- TWI_WRITE_WORD (R455). A two-wire write word is performed on acknowledge of D3 or PEC. -/
  | twiWriteWord (t : Nat) (v : Word) (pec : Nat)
  /-- TWI_READ_WORD (R455). A two-wire read word is performed and delivered. -/
  | twiReadWord (t : Nat) (delivered : Bool)
  /-- TWI_RESET (R462). A low pulse on TW_RST_N releases the bus and ends any transaction. -/
  | twiReset (t : Nat) (level : Bool)
  /-- IN_BAND_REQUEST (R465). A due in-band request starts after 100 µs of idle bus and delivers the status byte. -/
  | inBandRequest (t : Nat) (run : IbrRun)
  /-- IBR_CLOCK_TIMEOUT (R466). No clock within 10 ms of the in-band START ends the request with IBRFAIL. -/
  | ibrClockTimeout (t : Nat)
  /-- ERR_ACK (R473). ERR_ACK frees every ledger entry with serial number n or less. -/
  | errAck (t : Nat) (p : Path) (v : Word)
  /-- RESTART (R480). ERR_CTRL.RESTART checks and prepares a warm restart from Halted. -/
  | restart (t : Nat) (p : Path) (v : Word) (prep : Nat)
  /-- INSPECT_ENTRY (R522). After start or restart preparation the module enters Inspecting at the first reference trigger. -/
  | inspectEntry (t : Nat)
  /-- WATCHDOG (R486). No firmware service for 100 ms raises a WATCHDOG Freeze. -/
  | watchdog (t core : Nat)
  /-- SRAM_ECC_ERROR (R486). An on-die SRAM access finds a corrected or uncorrectable bit error. -/
  | sramEccError (t off : Nat) (corrected : Bool)
  /-- FW_FAULT (R486). Firmware reports a fault that halts inspection. -/
  | fwFault (t : Nat) (code : Word) (halts : Bool)
  /-- RED_ENABLE (R491). Writing RED_CTRL.EN = 1 sets ROLEIN to the ROLE pin level. -/
  | redEnable (t : Nat) (p : Path) (v : Word)
  /-- ROLE_EDGE (R491). A ROLE level change stable for 1 µs is counted as an edge. -/
  | roleEdge (t : Nat) (level : Bool)
  /-- TAKEOVER_WINDOW_END (R495). 30 µs after a role change LATE lines count again toward runs. -/
  | takeoverWindowEnd (t : Nat)
  /-- EPOCH_CLOSE (R497). The active's epoch closes at its line or 1 ms and is committed to TQ. -/
  | epochClose (t : Nat)
  /-- EPOCH (R498). A standby receives an EPOCH packet and sends EPACK. -/
  | epoch (t : Nat) (f : SeamFrame) (report : Option Nat)
  /-- EPACK (R498). An EPACK arriving in time makes the active send EPCOMMIT and release TQ. -/
  | epack (t : Nat) (data : BitVec 48)
  /-- EPCOMMIT (R498). An EPCOMMIT arriving before T(X_n) commits the epoch in the standby. -/
  | epcommit (t : Nat) (data : BitVec 48)
  /-- EPOCH_COMMIT_DEADLINE (R499). An epoch with no EPACK by T(X_n) − 2 µs stays uncommitted and is carried forward. -/
  | epochCommitDeadline (t n : Nat)
  /-- EPOCH_APPLY (R498). A committed epoch's writes are applied before the reference trigger of its effect line. -/
  | epochApply (t : Nat)
  /-- PORTREC (R494). A port record from the active lets a standby camera port reach READY. -/
  | portrec (t : Nat) (f : SeamFrame)
  /-- STATUS (R495). A pair STATUS message updates PARTNER and may confirm a run breach. -/
  | status (t : Nat) (data : BitVec 48)
  /-- STATUS_PERIOD (R502). Every 10 µs a member sends a STATUS message on TWIN. -/
  | statusPeriod (t : Nat)
  /-- SYNCED_TIMEOUT (R499). 250 µs after TWIN leaves READY with no take-over, a standby clears SYNCED. -/
  | syncedTimeout (t : Nat)
  /-- TWIN_HELLO (R502). A TWIN_HELLO brings the TWIN link to READY or FAILED by node ID. -/
  | twinHello (t : Nat) (data : BitVec 48)
  /-- JOIN (R503). RED_CTRL.JOIN starts sending the active's tables to a joining standby. -/
  | join (t : Nat) (p : Path) (v : Word)
  /-- JOINTAB (R503). A JOINTAB packet reproduces the active's correction and remap tables in the joiner. -/
  | jointab (t : Nat) (f : SeamFrame)
  /-- JOINCQ (R503). A JOINCQ packet loads one circulation queue packet into the joiner. -/
  | joincq (t : Nat) (f : SeamFrame) (len : Nat)
  /-- JOINSTATE (R503). A JOINSTATE packet loads sequence, bucket and serial state into the joiner. -/
  | joinstate (t : Nat) (f : SeamFrame) (digest : Nat)
  /-- SWAP (R509). RED_CTRL.SWAP enters a planned role swap into the current epoch, or is refused. -/
  | swap (t : Nat) (p : Path) (v : Word)
  /-- SWAP_LINE (R509). At T(W) both members change ROLEIN without a counted edge. -/
  | swapLine (t : Nat)
  /-- PINMIS_TIMEOUT (R510). ROLE still disagreeing 10 ms after a swap records a Notice. -/
  | pinmisTimeout (t : Nat)
  /-- HB_TOGGLE (R504). Every 10 µs HB inverts while the role condition holds. -/
  | hbToggle (t : Nat)
  /-- COLD_START (R529). EN rising or RESET_N release starts the staged cold start. -/
  | coldStart (t boot twAddr : Nat) (run : StartRun)
  /-- BOOT_GO (R532). SYS_BOOTCTL.GO starts verification of a host-loaded firmware image. -/
  | bootGo (t : Nat) (p : Path) (v : Word) (digest : List Word) (signed_ : Bool) (run : StartRun)
  /-- HOSTTMO (R532). No GO within 60 s of host boot fails the start. -/
  | hosttmo (t : Nat)
  /-- EN_FALL (R516). EN falling takes the module to Off from any state. -/
  | enFall (t : Nat)
  /-- RESET_ASSERT (R516). RESET_N low holds all logic in reset and releases every output. -/
  | resetAssert (t : Nat)
  /-- POWER_FAULT (R515). A rail or VIN out of window for 10 µs turns every rail off. -/
  | powerFault (t : Nat)
  /-- VIO_FAULT (R544). VIO out of range for 10 µs takes the module to Off. -/
  | vioFault (t : Nat)
  /-- REFCLK_LOSS (R519). Loss of REFCLK or a PLL unlock for 1 µs takes the module to Standby. -/
  | refclkLoss (t : Nat) (pll : Bool)
  /-- AOCLK_LOSS (R518). AOCLK without an edge for 400 ns switches the AO domain to the internal oscillator. -/
  | aoclkLoss (t : Nat)
  /-- AOCLK_RECOVERY (R518). AOCLK running without a gap for 1 ms switches the AO domain back. -/
  | aoclkRecovery (t : Nat)
  /-- REQ_STANDBY (R524). PWR_CTRL.REQ = STANDBY moves the module to Standby, or is refused. -/
  | reqStandby (t : Nat) (p : Path) (v : Word)
  /-- REQ_POISED (R521). PWR_CTRL.REQ = POISED starts, resumes, cancels or stops toward Poised. -/
  | reqPoised (t : Nat) (p : Path) (v : Word) (run : StartRun)
  /-- INSPECTION_STOP (R525). REQ = POISED in Inspecting stops inspection at the next line boundary and enters Poised. -/
  | inspectionStop (t : Nat)
  /-- REQ_INSPECT (R522). PWR_CTRL.REQ = INSPECT checks and prepares the start of inspection. -/
  | reqInspect (t : Nat) (p : Path) (v : Word) (prep : Nat)
  /-- REQ_OFF (R521). PWR_CTRL.REQ = OFF takes the module to Off, or is refused for held cards. -/
  | reqOff (t : Nat) (p : Path) (v : Word)
  /-- CLRFAIL (R538). PWR_CTRL.CLRFAIL sets FAILS to 0. -/
  | clrfail (t : Nat) (p : Path) (v : Word)
  /-- TEMP_MEASURE (R539). Every 1 ms the junction temperature is measured and checked. -/
  | tempMeasure (t : Nat) (tj : Int) (vin power : Nat)
  /-- PRBS_CHECKER_LOCK (R90). A lane's PRBS checker locks to the first 31 bits received, sets PRBS_LOCK and from then on counts mismatched bits. -/
  | prbsCheckerLock (t m lane : Nat) (bits : List Bool)
  /-- UNRESERVED_RELAY_READ (R395). An unreserved relay's best-effort read of a committed stacks row completes and its line record is committed to the stream queue, or the row is skipped when overtaken. -/
  | unreservedRelayRead (t : Nat)
  /-- PTP_MESSAGE_INTERVAL (R412). A PTP interval timer (logSyncInterval, logAnnounceInterval or logMinDelayReqInterval) expires and the port sends Sync, Announce, Delay_Req or Pdelay_Req. -/
  | ptpMessageInterval (t which : Nat)
  /-- ANNOUNCE_RECEIPT_TIMEOUT (R414). No Announce arrives within announceReceiptTimeout intervals, and the BMCA and port state machine change the PTP port state. -/
  | announceReceiptTimeout (t : Nat)
  /-- WRITE_EDC_REPORT (R430). A GDDR6 device reports a failed EDC on a write burst, or an uncorrectable command-address parity error, leading to a replay or to an uncorrectable command error and freeze. -/
  | writeEdcReport (t a source fails : Nat) (parity : Bool)
  /-- TWI_BUS_CONDITION (R455). A START, repeated START or STOP on the two-wire bus opens or ends a transaction, discarding a partial word or signalling lost arbitration. -/
  | twiBusCondition (t : Nat) (c : TwiCond) (lost : Bool)
  /-- REFCLK_RETURN (R519). REFCLK returns after a loss, so that blocks outside the AO domain are read again in Frozen. -/
  | refclkReturn (t : Nat)
  /-- RAIL_WINDOW_EXIT (R515). A needed rail leaves its regulation window and PG falls within 5 µs. -/
  | railWindowExit (t rail : Nat)
  /-- RAIL_WINDOW_RETURN (R515). A rail that left its window returns before 10 µs have passed, and PG rises again. -/
  | railWindowReturn (t rail : Nat)
  /-- JTAG_TAP_CLOCK (R556). A TCK edge advances the IEEE 1149.1 TAP, which shifts and executes instructions, acting as BYPASS in Inspecting, Halted and Frozen. -/
  | jtagTapClock (t : Nat) (rising tms tdi : Bool)
  deriving DecidableEq, Repr

end Sys2Proof
end

