-- ==== Sys2Proof/Decode.lean ====
section
/-! DEFINITION. The table of commands gives no row a pattern of bits: a command is an event at the module's boundary, not a word. So no
word spells one. -/

namespace Sys2Proof

/-- The command that a word spells by the table's bits: none, since no row of the table has bits. -/
def decodeTableWord (_nbits _w : Nat) : Option Instr := none

end Sys2Proof
end

