-- ==== Sys2Proof/Config.lean ====
section
/-! DEFINITION. What one unit of the hardware fixes and the spec does not state (fused values, factory constants), and
the free values of the behaviours the spec leaves open. Every one is opaque: nothing can be proved of its value. -/

namespace Sys2Proof

/-- The fused 64-bit unit identity of SYS_UID (R569). Log 5. -/
opaque Config.uid : BitVec 64

/-- The fused least firmware version of SYS_FWMIN (R540). Log 5. -/
opaque Config.fwMin : Word

/-- Word i of the fused key digest SYS_KEYDIG (R540). Log 5. -/
opaque Config.keyDigest : Nat → Word

/-- The part of the factory's block of eight MAC addresses that R371 does not fix: the six bits above the two that make it a
universally administered unicast address, then the 37 bits down to bit 3. Log 5. -/
opaque Config.macBlock : BitVec 43

/-- Bits [11:0] of the JTAG IDCODE, as the BSDL file gives them (R556). Log 5. -/
opaque Config.idcodeLow : BitVec 12

/-- The length of the JTAG instruction register less 2, of the BSDL file (R556). Log 5. -/
opaque Config.irMore : BitVec 5

/-- Is a JTAG instruction IDCODE, by the BSDL file (R556)? Log 5. -/
opaque Config.isIdcode : List Bool → Bool

/-- The length of the data register that a JTAG instruction other than BYPASS and IDCODE selects, less 1 (R556). Log 5. -/
opaque Config.drMore : List Bool → BitVec 12

/-- The factory ingress latency of sub-port i (R411, TP_INLAT). Log 5. -/
opaque Config.inLat : Nat → Word

/-- The factory egress latency of sub-port i (R411, TP_EGLAT). Log 5. -/
opaque Config.egLat : Nat → Word

/-- What the scrambler of a transmit lane holds when the lane begins to send; the lane as 16 × link + lane, and the time. Log 127. -/
opaque Config.scrambler : Nat → Nat → BitVec 58

/-- The delay of the path to TRIG output k beyond 22 ns at the reset value of TRIM, in ps below 4001 (R115). Log 128. -/
opaque Config.trigPath : Nat → BitVec 12

/-- A free value for the n-th use of something the spec leaves open: the model's counter `fresh` is the argument. Log 4. -/
opaque Config.free : Nat → BitVec 64

end Sys2Proof
end

