-- ==== Sys2Proof/Machine/RegTable.lean ====
section
/-! DEFINITION. Every register of the module as the register tables of spec/ give it: block, offset, repetition, fields
with their access types (R9) and reset values, the pairs and groups of R12; and a name for the address of each register
(`Reg.<name>`, with its indexes) and for each field (`Fld.<register>_<field>`). -/

namespace Sys2Proof.Machine

/-- The access types of R9. -/
inductive Acc where
  | rw | ro | wo | w1c | w1s | rwl | rws | rwh
  deriving DecidableEq, Repr

/-- The blocks of the address map (R31), repeated blocks once. -/
inductive Blk where
  | sys | pwr | err | evr | twi | pos | trg | time | cal | red | acc | prof | seg | card | dma | que | cam | seam | twin | corr | folio | stitch | stk | memc | host | oht
  deriving DecidableEq, Repr

/-- One field: its bits, its access type, and its value after reset. -/
structure FieldSpec where
  bits : Bits
  acc : Acc
  rst : Nat
  deriving DecidableEq, Repr

/-- How R12 and the register descriptions tie a register to others: a `_LO` of a pair, the `_HI` of a pair, the head of a
captured group or a member of one, at the given offset from this register. -/
inductive Tie where
  | none
  | lo
  | hi
  | head (members : List Nat)
  deriving DecidableEq, Repr

/-- One register kind: its offset, how often it stands (n times at stride st, n2 times at stride st2), its tie and fields. -/
structure RegKind where
  off : Nat
  n : Nat
  st : Nat
  n2 : Nat
  st2 : Nat
  tie : Tie
  fields : List FieldSpec
  deriving DecidableEq, Repr

/-- Does the window offset `o` name a register of kind `k`? -/
def RegKind.covers (k : RegKind) (o : Nat) : Bool :=
  decide (k.off ≤ o) &&
    (List.range k.n2).any fun j =>
      decide (k.off + j * k.st2 ≤ o) && decide ((o - k.off - j * k.st2) % k.st = 0)
        && decide ((o - k.off - j * k.st2) / k.st < k.n)

/-- The registers of block SYS (R540). -/
def sysKinds : List RegKind := [
  ⟨0x0000, 1, 0x4, 1, 0x0, .none, [⟨⟨0, 16⟩, .ro, 0x1248⟩, ⟨⟨16, 8⟩, .ro, 0xB0⟩, ⟨⟨24, 8⟩, .ro, 1⟩]⟩,
  ⟨0x0004, 1, 0x4, 1, 0x0, .none, [⟨⟨0, 14⟩, .rwl, 0⟩, ⟨⟨16, 1⟩, .w1s, 0⟩]⟩,
  ⟨0x0008, 1, 0x4, 1, 0x0, .none, [⟨⟨0, 3⟩, .rw, 0⟩]⟩,
  ⟨0x000C, 1, 0x4, 1, 0x0, .none, [⟨⟨0, 2⟩, .ro, 0⟩, ⟨⟨2, 2⟩, .ro, 3⟩, ⟨⟨4, 1⟩, .ro, 0⟩]⟩,
  ⟨0x0010, 1, 0x4, 1, 0x0, .none, [⟨⟨0, 32⟩, .ro, 0⟩]⟩,
  ⟨0x0014, 1, 0x4, 1, 0x0, .none, [⟨⟨0, 32⟩, .ro, 0⟩]⟩,
  ⟨0x0018, 1, 0x4, 1, 0x0, .lo, [⟨⟨0, 32⟩, .ro, 0⟩]⟩,
  ⟨0x001C, 1, 0x4, 1, 0x0, .hi, [⟨⟨0, 32⟩, .ro, 0⟩]⟩,
  ⟨0x0020, 1, 0x4, 1, 0x0, .none, [⟨⟨0, 1⟩, .wo, 0⟩]⟩,
  ⟨0x0040, 12, 0x4, 1, 0x0, .none, [⟨⟨0, 32⟩, .ro, 0⟩]⟩]

/-- The registers of block PWR (R541). -/
def pwrKinds : List RegKind := [
  ⟨0x0000, 1, 0x4, 1, 0x0, .none, [⟨⟨0, 3⟩, .wo, 0⟩, ⟨⟨3, 1⟩, .rw, 0⟩, ⟨⟨4, 1⟩, .rw, 1⟩, ⟨⟨5, 1⟩, .wo, 0⟩]⟩,
  ⟨0x0004, 1, 0x4, 1, 0x0, .none, [⟨⟨0, 3⟩, .ro, 5⟩, ⟨⟨3, 1⟩, .ro, 1⟩, ⟨⟨4, 3⟩, .ro, 0⟩, ⟨⟨7, 1⟩, .ro, 0⟩, ⟨⟨8, 4⟩, .ro, 0⟩, ⟨⟨12, 4⟩, .ro, 0⟩, ⟨⟨16, 2⟩, .ro, 0⟩]⟩,
  ⟨0x0008, 1, 0x4, 1, 0x0, .none, [⟨⟨0, 1⟩, .w1c, 0⟩, ⟨⟨1, 1⟩, .w1c, 0⟩, ⟨⟨2, 1⟩, .w1c, 0⟩, ⟨⟨3, 1⟩, .ro, 0⟩, ⟨⟨4, 1⟩, .w1c, 0⟩, ⟨⟨5, 1⟩, .w1c, 0⟩]⟩,
  ⟨0x000C, 1, 0x4, 1, 0x0, .none, [⟨⟨0, 8⟩, .ro, 0⟩, ⟨⟨8, 8⟩, .rw, 95⟩, ⟨⟨16, 8⟩, .ro, 0⟩]⟩,
  ⟨0x0010, 1, 0x4, 1, 0x0, .none, [⟨⟨0, 16⟩, .ro, 0⟩, ⟨⟨16, 16⟩, .ro, 0⟩]⟩,
  ⟨0x0014, 1, 0x4, 1, 0x0, .none, [⟨⟨0, 7⟩, .ro, 0⟩]⟩,
  ⟨0x0018, 1, 0x4, 1, 0x0, .none, [⟨⟨0, 16⟩, .ro, 0⟩, ⟨⟨16, 1⟩, .ro, 0⟩, ⟨⟨17, 1⟩, .ro, 0⟩, ⟨⟨18, 1⟩, .ro, 0⟩]⟩,
  ⟨0x001C, 1, 0x4, 1, 0x0, .none, [⟨⟨0, 32⟩, .ro, 0⟩]⟩,
  ⟨0x0020, 1, 0x4, 1, 0x0, .none, [⟨⟨0, 32⟩, .ro, 0⟩]⟩]

/-- The registers of block ERR (R487). -/
def errKinds : List RegKind := [
  ⟨0x0000, 1, 0x4, 1, 0x0, .none, [⟨⟨0, 1⟩, .wo, 0⟩, ⟨⟨1, 1⟩, .rw, 0⟩, ⟨⟨4, 3⟩, .ro, 0⟩]⟩,
  ⟨0x0004, 1, 0x4, 1, 0x0, .none, [⟨⟨0, 6⟩, .ro, 0⟩, ⟨⟨8, 2⟩, .ro, 0⟩, ⟨⟨10, 1⟩, .ro, 0⟩, ⟨⟨11, 1⟩, .ro, 0⟩, ⟨⟨12, 1⟩, .ro, 0⟩]⟩,
  ⟨0x0008, 1, 0x4, 1, 0x0, .none, [⟨⟨0, 32⟩, .wo, 0⟩]⟩,
  ⟨0x000C, 1, 0x4, 1, 0x0, .none, [⟨⟨0, 32⟩, .ro, 0⟩]⟩,
  ⟨0x0010, 1, 0x4, 1, 0x0, .none, [⟨⟨0, 5⟩, .ro, 0⟩]⟩,
  ⟨0x0014, 1, 0x4, 1, 0x0, .none, [⟨⟨0, 32⟩, .ro, 0⟩]⟩,
  ⟨0x0018, 1, 0x4, 1, 0x0, .none, [⟨⟨0, 32⟩, .ro, 0⟩]⟩,
  ⟨0x001C, 1, 0x4, 1, 0x0, .none, [⟨⟨0, 2⟩, .wo, 0⟩]⟩,
  ⟨0x0020, 1, 0x4, 1, 0x0, .none, [⟨⟨0, 4⟩, .w1c, 0⟩]⟩,
  ⟨0x0024, 1, 0x4, 1, 0x0, .none, [⟨⟨0, 4⟩, .rw, 0⟩]⟩,
  ⟨0x0100, 32, 0x20, 1, 0x0, .none, [⟨⟨0, 16⟩, .ro, 0⟩, ⟨⟨16, 2⟩, .ro, 0⟩, ⟨⟨18, 1⟩, .ro, 0⟩, ⟨⟨19, 1⟩, .ro, 0⟩, ⟨⟨24, 8⟩, .ro, 0⟩]⟩,
  ⟨0x0104, 32, 0x20, 1, 0x0, .none, [⟨⟨0, 32⟩, .ro, 0⟩]⟩,
  ⟨0x0108, 32, 0x20, 1, 0x0, .none, [⟨⟨0, 32⟩, .ro, 0⟩]⟩,
  ⟨0x010C, 32, 0x20, 1, 0x0, .none, [⟨⟨0, 32⟩, .ro, 0⟩]⟩,
  ⟨0x0110, 32, 0x20, 1, 0x0, .none, [⟨⟨0, 16⟩, .ro, 0⟩, ⟨⟨16, 16⟩, .ro, 0⟩]⟩,
  ⟨0x0114, 32, 0x20, 1, 0x0, .none, [⟨⟨0, 32⟩, .ro, 0⟩]⟩,
  ⟨0x0118, 32, 0x20, 1, 0x0, .none, [⟨⟨0, 32⟩, .ro, 0⟩]⟩,
  ⟨0x011C, 32, 0x20, 1, 0x0, .none, [⟨⟨0, 32⟩, .ro, 0⟩]⟩]

/-- The registers of block EVR (R450). -/
def evrKinds : List RegKind := [
  ⟨0x0000, 1, 0x4, 1, 0x0, .none, [⟨⟨0, 32⟩, .wo, 0⟩]⟩,
  ⟨0x0004, 1, 0x4, 1, 0x0, .none, [⟨⟨0, 32⟩, .wo, 0⟩]⟩,
  ⟨0x0008, 1, 0x4, 1, 0x0, .none, [⟨⟨0, 32⟩, .w1c, 0⟩]⟩,
  ⟨0x000C, 1, 0x4, 1, 0x0, .none, [⟨⟨0, 32⟩, .w1c, 0⟩]⟩,
  ⟨0x0010, 1, 0x4, 1, 0x0, .none, [⟨⟨0, 32⟩, .ro, 0⟩]⟩,
  ⟨0x0014, 1, 0x4, 1, 0x0, .none, [⟨⟨0, 32⟩, .ro, 0⟩]⟩,
  ⟨0x0018, 1, 0x4, 1, 0x0, .none, [⟨⟨0, 32⟩, .wo, 0⟩]⟩,
  ⟨0x001C, 1, 0x4, 1, 0x0, .none, [⟨⟨0, 32⟩, .wo, 0⟩]⟩,
  ⟨0x0020, 1, 0x4, 1, 0x0, .none, [⟨⟨0, 32⟩, .ro, 0⟩]⟩,
  ⟨0x0024, 1, 0x4, 1, 0x0, .none, [⟨⟨0, 1⟩, .wo, 0⟩]⟩,
  ⟨0x0100, 64, 0x20, 1, 0x0, .none, [⟨⟨0, 1⟩, .rwl, 0⟩, ⟨⟨1, 1⟩, .rwl, 0⟩, ⟨⟨2, 1⟩, .w1s, 0⟩, ⟨⟨3, 1⟩, .rw, 0⟩, ⟨⟨8, 8⟩, .rwl, 0⟩, ⟨⟨16, 10⟩, .rwl, 0⟩]⟩,
  ⟨0x0104, 64, 0x20, 1, 0x0, .none, [⟨⟨0, 8⟩, .rwl, 0⟩, ⟨⟨8, 8⟩, .rwl, 0⟩, ⟨⟨16, 8⟩, .rwl, 0⟩, ⟨⟨24, 8⟩, .rwl, 0⟩]⟩,
  ⟨0x0108, 64, 0x20, 1, 0x0, .none, [⟨⟨0, 8⟩, .rwl, 0⟩, ⟨⟨8, 8⟩, .rwl, 0⟩, ⟨⟨16, 8⟩, .rwl, 0⟩, ⟨⟨24, 8⟩, .rwl, 0⟩]⟩,
  ⟨0x010C, 64, 0x20, 1, 0x0, .none, [⟨⟨0, 32⟩, .ro, 0⟩]⟩,
  ⟨0x0110, 64, 0x20, 1, 0x0, .none, [⟨⟨0, 32⟩, .ro, 0⟩]⟩,
  ⟨0x0114, 64, 0x20, 1, 0x0, .none, [⟨⟨0, 32⟩, .ro, 0⟩]⟩,
  ⟨0x0118, 64, 0x20, 1, 0x0, .none, [⟨⟨0, 32⟩, .ro, 0⟩]⟩,
  ⟨0x011C, 64, 0x20, 1, 0x0, .none, [⟨⟨0, 4⟩, .wo, 0⟩]⟩,
  ⟨0x0900, 64, 0x4, 1, 0x0, .none, [⟨⟨0, 6⟩, .rw, 0⟩, ⟨⟨6, 1⟩, .rw, 0⟩]⟩,
  ⟨0x0A00, 64, 0x4, 1, 0x0, .none, [⟨⟨0, 32⟩, .ro, 0⟩]⟩,
  ⟨0x0C00, 8, 0x4, 1, 0x0, .none, [⟨⟨0, 2⟩, .rw, 0⟩, ⟨⟨2, 1⟩, .ro, 0⟩]⟩,
  ⟨0x0C20, 8, 0x4, 1, 0x0, .none, [⟨⟨0, 1⟩, .rw, 0⟩, ⟨⟨1, 1⟩, .rw, 0⟩, ⟨⟨2, 1⟩, .ro, 0⟩, ⟨⟨16, 16⟩, .rw, 0x0064⟩]⟩]

/-- The registers of block TWI (R467). -/
def twiKinds : List RegKind := [
  ⟨0x0000, 1, 0x4, 1, 0x0, .none, [⟨⟨0, 1⟩, .rw, 0⟩, ⟨⟨1, 1⟩, .rw, 0⟩, ⟨⟨4, 3⟩, .ro, 0⟩, ⟨⟨7, 1⟩, .ro, 0⟩]⟩,
  ⟨0x0004, 1, 0x4, 1, 0x0, .none, [⟨⟨0, 7⟩, .w1c, 0⟩]⟩,
  ⟨0x0008, 1, 0x4, 1, 0x0, .none, [⟨⟨0, 7⟩, .rw, 0x7E⟩]⟩,
  ⟨0x000C, 1, 0x4, 1, 0x0, .none, [⟨⟨0, 3⟩, .ro, 0⟩, ⟨⟨3, 1⟩, .ro, 0⟩, ⟨⟨4, 1⟩, .ro, 0⟩, ⟨⟨5, 1⟩, .ro, 0⟩, ⟨⟨6, 1⟩, .ro, 0⟩, ⟨⟨7, 1⟩, .ro, 0⟩, ⟨⟨8, 2⟩, .ro, 0⟩, ⟨⟨16, 8⟩, .ro, 0⟩, ⟨⟨24, 8⟩, .ro, 0⟩]⟩,
  ⟨0x0020, 8, 0x4, 1, 0x0, .none, [⟨⟨0, 32⟩, .ro, 0⟩]⟩,
  ⟨0x0040, 1, 0x4, 1, 0x0, .none, [⟨⟨0, 8⟩, .wo, 0⟩]⟩]

/-- The registers of block POS (R118), part 0. -/
def posKinds0 : List RegKind := [
  ⟨0x0000, 1, 0x4, 1, 0x0, .none, [⟨⟨0, 3⟩, .rwh, 0⟩, ⟨⟨8, 6⟩, .rwh, 0⟩]⟩,
  ⟨0x0008, 1, 0x4, 1, 0x0, .none, [⟨⟨0, 32⟩, .rws, 0x000F4240⟩]⟩,
  ⟨0x000C, 1, 0x4, 1, 0x0, .none, [⟨⟨0, 32⟩, .rws, 1⟩]⟩,
  ⟨0x0010, 1, 0x4, 1, 0x0, .lo, [⟨⟨0, 32⟩, .rws, 0⟩]⟩,
  ⟨0x0014, 1, 0x4, 1, 0x0, .hi, [⟨⟨0, 32⟩, .rws, 0⟩]⟩,
  ⟨0x0020, 1, 0x4, 1, 0x0, .none, [⟨⟨0, 7⟩, .w1c, 0⟩]⟩,
  ⟨0x0024, 1, 0x4, 1, 0x0, .none, [⟨⟨0, 7⟩, .rw, 0⟩]⟩,
  ⟨0x0100, 6, 0x80, 1, 0x0, .none, [⟨⟨0, 1⟩, .rwh, 0⟩, ⟨⟨1, 1⟩, .rwh, 0⟩, ⟨⟨2, 2⟩, .rwh, 0⟩, ⟨⟨4, 1⟩, .w1s, 0⟩, ⟨⟨8, 2⟩, .rw, 2⟩, ⟨⟨16, 16⟩, .rw, 0x03E8⟩]⟩,
  ⟨0x0104, 6, 0x80, 1, 0x0, .none, [⟨⟨0, 1⟩, .ro, 0⟩, ⟨⟨1, 1⟩, .ro, 0⟩, ⟨⟨2, 1⟩, .ro, 0⟩, ⟨⟨3, 1⟩, .ro, 0⟩]⟩,
  ⟨0x0108, 6, 0x80, 1, 0x0, .lo, [⟨⟨0, 32⟩, .ro, 0⟩]⟩,
  ⟨0x010C, 6, 0x80, 1, 0x0, .hi, [⟨⟨0, 32⟩, .ro, 0⟩]⟩,
  ⟨0x0110, 6, 0x80, 1, 0x0, .none, [⟨⟨0, 32⟩, .ro, 0⟩]⟩,
  ⟨0x0118, 6, 0x80, 1, 0x0, .lo, [⟨⟨0, 32⟩, .rwh, 0⟩]⟩,
  ⟨0x011C, 6, 0x80, 1, 0x0, .hi, [⟨⟨0, 32⟩, .rwh, 0xFFFF8000⟩]⟩,
  ⟨0x0120, 6, 0x80, 1, 0x0, .lo, [⟨⟨0, 32⟩, .rwh, 0xFFFFFFFF⟩]⟩,
  ⟨0x0124, 6, 0x80, 1, 0x0, .hi, [⟨⟨0, 32⟩, .rwh, 0x00007FFF⟩]⟩,
  ⟨0x0128, 6, 0x80, 1, 0x0, .lo, [⟨⟨0, 32⟩, .rwh, 0⟩]⟩,
  ⟨0x012C, 6, 0x80, 1, 0x0, .hi, [⟨⟨0, 32⟩, .rwh, 0⟩]⟩,
  ⟨0x0130, 6, 0x80, 1, 0x0, .none, [⟨⟨0, 32⟩, .rwh, 0⟩]⟩,
  ⟨0x0134, 6, 0x80, 1, 0x0, .none, [⟨⟨0, 16⟩, .rwh, 0⟩]⟩,
  ⟨0x0138, 6, 0x80, 1, 0x0, .lo, [⟨⟨0, 32⟩, .ro, 0⟩]⟩,
  ⟨0x013C, 6, 0x80, 1, 0x0, .hi, [⟨⟨0, 32⟩, .ro, 0⟩]⟩,
  ⟨0x0140, 6, 0x80, 1, 0x0, .lo, [⟨⟨0, 32⟩, .ro, 0⟩]⟩,
  ⟨0x0144, 6, 0x80, 1, 0x0, .hi, [⟨⟨0, 32⟩, .ro, 0⟩]⟩]

/-- The registers of block POS (R118), part 1. -/
def posKinds1 : List RegKind := [
  ⟨0x0148, 6, 0x80, 1, 0x0, .none, [⟨⟨0, 32⟩, .ro, 0⟩]⟩,
  ⟨0x014C, 6, 0x80, 1, 0x0, .none, [⟨⟨0, 32⟩, .ro, 0⟩]⟩,
  ⟨0x0150, 6, 0x80, 1, 0x0, .none, [⟨⟨0, 32⟩, .ro, 0⟩]⟩,
  ⟨0x0154, 6, 0x80, 1, 0x0, .none, [⟨⟨0, 32⟩, .ro, 0⟩]⟩,
  ⟨0x0158, 6, 0x80, 1, 0x0, .none, [⟨⟨0, 32⟩, .ro, 0⟩]⟩,
  ⟨0x015C, 6, 0x80, 1, 0x0, .none, [⟨⟨0, 32⟩, .ro, 0⟩]⟩,
  ⟨0x0160, 6, 0x80, 1, 0x0, .none, [⟨⟨0, 6⟩, .wo, 0⟩]⟩,
  ⟨0x0364, 2, 0x80, 1, 0x0, .none, [⟨⟨0, 6⟩, .rwh, 32⟩, ⟨⟨8, 6⟩, .rwh, 32⟩, ⟨⟨16, 1⟩, .rwh, 0⟩, ⟨⟨17, 1⟩, .rwh, 0⟩, ⟨⟨18, 2⟩, .rwh, 0⟩, ⟨⟨20, 4⟩, .rwh, 5⟩]⟩,
  ⟨0x0368, 2, 0x80, 1, 0x0, .none, [⟨⟨0, 16⟩, .rwh, 0x64⟩, ⟨⟨16, 8⟩, .rwh, 0x0A⟩, ⟨⟨24, 8⟩, .rwh, 0⟩]⟩]

/-- The registers of block POS (R118). -/
def posKinds : List RegKind := posKinds0 ++ posKinds1

/-- The registers of block TRG (R120). -/
def trgKinds : List RegKind := [
  ⟨0x0000, 1, 0x4, 1, 0x0, .none, [⟨⟨0, 1⟩, .rwh, 0⟩, ⟨⟨1, 1⟩, .rwh, 0⟩, ⟨⟨2, 1⟩, .rwh, 0⟩]⟩,
  ⟨0x0004, 1, 0x4, 1, 0x0, .none, [⟨⟨0, 32⟩, .rwh, 1⟩]⟩,
  ⟨0x0008, 1, 0x4, 1, 0x0, .none, [⟨⟨0, 32⟩, .rwh, 1⟩]⟩,
  ⟨0x000C, 1, 0x4, 1, 0x0, .lo, [⟨⟨0, 32⟩, .rwh, 0⟩]⟩,
  ⟨0x0010, 1, 0x4, 1, 0x0, .hi, [⟨⟨0, 32⟩, .rwh, 0⟩]⟩,
  ⟨0x0014, 1, 0x4, 1, 0x0, .none, [⟨⟨0, 32⟩, .ro, 0⟩]⟩,
  ⟨0x0018, 1, 0x4, 1, 0x0, .none, [⟨⟨0, 32⟩, .ro, 0⟩]⟩,
  ⟨0x001C, 1, 0x4, 1, 0x0, .none, [⟨⟨0, 32⟩, .ro, 0⟩]⟩,
  ⟨0x0020, 1, 0x4, 1, 0x0, .none, [⟨⟨0, 3⟩, .wo, 0⟩]⟩,
  ⟨0x0100, 12, 0x10, 1, 0x0, .none, [⟨⟨0, 32⟩, .rwh, 0⟩]⟩,
  ⟨0x0104, 12, 0x10, 1, 0x0, .none, [⟨⟨0, 1⟩, .rwh, 0⟩, ⟨⟨1, 2⟩, .rwh, 0⟩]⟩,
  ⟨0x0108, 12, 0x10, 1, 0x0, .lo, [⟨⟨0, 32⟩, .ro, 0⟩]⟩,
  ⟨0x010C, 12, 0x10, 1, 0x0, .hi, [⟨⟨0, 32⟩, .ro, 0⟩]⟩,
  ⟨0x0200, 16, 0x20, 1, 0x0, .none, [⟨⟨0, 2⟩, .rwh, 0⟩, ⟨⟨4, 4⟩, .rwh, 0⟩, ⟨⟨8, 4⟩, .rwh, 0xF⟩, ⟨⟨12, 1⟩, .rwh, 0⟩, ⟨⟨13, 1⟩, .rw, 0⟩, ⟨⟨16, 6⟩, .rwh, 32⟩]⟩,
  ⟨0x0204, 16, 0x20, 1, 0x0, .none, [⟨⟨0, 16⟩, .rwh, 0x64⟩]⟩,
  ⟨0x0208, 16, 0x20, 1, 0x0, .lo, [⟨⟨0, 32⟩, .rw, 0⟩]⟩,
  ⟨0x020C, 16, 0x20, 1, 0x0, .hi, [⟨⟨0, 32⟩, .rw, 0⟩]⟩,
  ⟨0x0210, 16, 0x20, 1, 0x0, .none, [⟨⟨0, 1⟩, .wo, 0⟩, ⟨⟨1, 1⟩, .ro, 0⟩, ⟨⟨2, 1⟩, .w1c, 0⟩]⟩,
  ⟨0x0214, 16, 0x20, 1, 0x0, .head [4, 8], [⟨⟨0, 32⟩, .ro, 0⟩]⟩,
  ⟨0x0218, 16, 0x20, 1, 0x0, .none, [⟨⟨0, 32⟩, .ro, 0⟩]⟩,
  ⟨0x021C, 16, 0x20, 1, 0x0, .none, [⟨⟨0, 16⟩, .ro, 0⟩]⟩]

/-- The registers of block TIME (R419), part 0. -/
def timeKinds0 : List RegKind := [
  ⟨0x0000, 1, 0x4, 1, 0x0, .none, [⟨⟨0, 2⟩, .rw, 0⟩]⟩,
  ⟨0x0004, 1, 0x4, 1, 0x0, .none, [⟨⟨0, 2⟩, .ro, 0⟩, ⟨⟨4, 4⟩, .ro, 0⟩, ⟨⟨8, 1⟩, .ro, 0⟩, ⟨⟨16, 16⟩, .ro, 0⟩]⟩,
  ⟨0x0008, 1, 0x4, 1, 0x0, .head [4, 8, 12], [⟨⟨0, 16⟩, .ro, 0⟩]⟩,
  ⟨0x000C, 1, 0x4, 1, 0x0, .none, [⟨⟨0, 32⟩, .ro, 0⟩]⟩,
  ⟨0x0010, 1, 0x4, 1, 0x0, .lo, [⟨⟨0, 32⟩, .ro, 0⟩]⟩,
  ⟨0x0014, 1, 0x4, 1, 0x0, .hi, [⟨⟨0, 16⟩, .ro, 0⟩]⟩,
  ⟨0x0020, 1, 0x4, 1, 0x0, .none, [⟨⟨0, 32⟩, .rw, 0⟩]⟩,
  ⟨0x0024, 1, 0x4, 1, 0x0, .lo, [⟨⟨0, 32⟩, .rw, 0⟩]⟩,
  ⟨0x0028, 1, 0x4, 1, 0x0, .hi, [⟨⟨0, 16⟩, .rw, 0⟩]⟩,
  ⟨0x002C, 1, 0x4, 1, 0x0, .lo, [⟨⟨0, 32⟩, .rw, 0⟩]⟩,
  ⟨0x0030, 1, 0x4, 1, 0x0, .hi, [⟨⟨0, 32⟩, .rw, 0⟩]⟩,
  ⟨0x0034, 1, 0x4, 1, 0x0, .none, [⟨⟨0, 1⟩, .wo, 0⟩, ⟨⟨1, 1⟩, .wo, 0⟩]⟩,
  ⟨0x0038, 1, 0x4, 1, 0x0, .none, [⟨⟨0, 32⟩, .rw, 0⟩]⟩,
  ⟨0x003C, 1, 0x4, 1, 0x0, .none, [⟨⟨0, 32⟩, .ro, 0⟩]⟩,
  ⟨0x0040, 1, 0x4, 1, 0x0, .none, [⟨⟨0, 32⟩, .rw, 0x04000000⟩]⟩,
  ⟨0x0044, 1, 0x4, 1, 0x0, .none, [⟨⟨0, 16⟩, .rw, 0x14⟩]⟩,
  ⟨0x0048, 1, 0x4, 1, 0x0, .none, [⟨⟨0, 32⟩, .ro, 0⟩]⟩,
  ⟨0x004C, 1, 0x4, 1, 0x0, .none, [⟨⟨0, 32⟩, .ro, 0⟩]⟩,
  ⟨0x0050, 1, 0x4, 1, 0x0, .none, [⟨⟨0, 6⟩, .w1c, 0⟩]⟩,
  ⟨0x0054, 1, 0x4, 1, 0x0, .none, [⟨⟨0, 6⟩, .rw, 0⟩]⟩,
  ⟨0x0060, 7, 0x4, 1, 0x0, .none, [⟨⟨0, 32⟩, .ro, 0⟩]⟩,
  ⟨0x007C, 1, 0x4, 1, 0x0, .none, [⟨⟨0, 7⟩, .wo, 0⟩]⟩,
  ⟨0x0100, 1, 0x4, 1, 0x0, .none, [⟨⟨0, 2⟩, .rw, 0⟩, ⟨⟨2, 2⟩, .rw, 1⟩, ⟨⟨4, 1⟩, .rw, 0⟩, ⟨⟨5, 1⟩, .rw, 0⟩, ⟨⟨6, 1⟩, .rw, 0⟩, ⟨⟨7, 2⟩, .rw, 0⟩, ⟨⟨16, 7⟩, .rw, 0⟩]⟩,
  ⟨0x0104, 1, 0x4, 1, 0x0, .none, [⟨⟨0, 8⟩, .rw, 0xFD⟩, ⟨⟨8, 8⟩, .rw, 0xFD⟩, ⟨⟨16, 8⟩, .rw, 0x01⟩, ⟨⟨24, 4⟩, .rw, 3⟩]⟩]

/-- The registers of block TIME (R419), part 1. -/
def timeKinds1 : List RegKind := [
  ⟨0x0108, 1, 0x4, 1, 0x0, .none, [⟨⟨0, 8⟩, .rw, 0x80⟩, ⟨⟨8, 8⟩, .rw, 0x80⟩, ⟨⟨16, 8⟩, .rw, 0xFE⟩, ⟨⟨24, 8⟩, .rw, 0x20⟩]⟩,
  ⟨0x010C, 1, 0x4, 1, 0x0, .none, [⟨⟨0, 16⟩, .rw, 0xFFFF⟩]⟩,
  ⟨0x0110, 1, 0x4, 1, 0x0, .lo, [⟨⟨0, 32⟩, .ro, 0⟩]⟩,
  ⟨0x0114, 1, 0x4, 1, 0x0, .hi, [⟨⟨0, 32⟩, .ro, 0⟩]⟩,
  ⟨0x0118, 1, 0x4, 1, 0x0, .lo, [⟨⟨0, 32⟩, .ro, 0⟩]⟩,
  ⟨0x011C, 1, 0x4, 1, 0x0, .hi, [⟨⟨0, 32⟩, .ro, 0⟩]⟩,
  ⟨0x0200, 4, 0x10, 2, 0x40, .none, [⟨⟨0, 32⟩, .rw, 0⟩]⟩,
  ⟨0x0204, 4, 0x10, 2, 0x40, .none, [⟨⟨0, 32⟩, .rw, 0⟩]⟩,
  ⟨0x0208, 4, 0x10, 2, 0x40, .none, [⟨⟨0, 32⟩, .rw, 0⟩]⟩,
  ⟨0x0300, 1, 0x4, 1, 0x0, .none, [⟨⟨0, 1⟩, .rw, 0⟩, ⟨⟨1, 1⟩, .rw, 0⟩]⟩,
  ⟨0x0304, 1, 0x4, 1, 0x0, .none, [⟨⟨0, 32⟩, .rw, 0⟩]⟩,
  ⟨0x0400, 1, 0x4, 1, 0x0, .none, [⟨⟨0, 1⟩, .rw, 0⟩, ⟨⟨16, 7⟩, .rw, 0⟩]⟩]

/-- The registers of block TIME (R419). -/
def timeKinds : List RegKind := timeKinds0 ++ timeKinds1

/-- The registers of block CAL (R144). -/
def calKinds : List RegKind := [
  ⟨0x0000, 1, 0x4, 1, 0x0, .none, [⟨⟨0, 4⟩, .rw, 0⟩, ⟨⟨4, 4⟩, .rw, 0⟩, ⟨⟨8, 2⟩, .rw, 0⟩, ⟨⟨10, 2⟩, .rw, 2⟩, ⟨⟨12, 4⟩, .rw, 8⟩, ⟨⟨16, 1⟩, .wo, 0⟩, ⟨⟨17, 1⟩, .wo, 0⟩]⟩,
  ⟨0x0004, 1, 0x4, 1, 0x0, .none, [⟨⟨0, 16⟩, .rw, 0x9C40⟩, ⟨⟨16, 8⟩, .rw, 0x20⟩]⟩,
  ⟨0x0008, 1, 0x4, 1, 0x0, .none, [⟨⟨0, 1⟩, .ro, 0⟩, ⟨⟨1, 1⟩, .w1c, 0⟩, ⟨⟨4, 4⟩, .ro, 0⟩, ⟨⟨8, 5⟩, .ro, 0⟩, ⟨⟨16, 16⟩, .ro, 0⟩]⟩,
  ⟨0x000C, 1, 0x4, 1, 0x0, .none, [⟨⟨0, 16⟩, .rw, 0x03E8⟩]⟩,
  ⟨0x0010, 1, 0x4, 1, 0x0, .none, [⟨⟨0, 16⟩, .rw, 0x4000⟩, ⟨⟨16, 16⟩, .rw, 0x1000⟩]⟩,
  ⟨0x0014, 1, 0x4, 1, 0x0, .none, [⟨⟨0, 16⟩, .rw, 0x2000⟩, ⟨⟨16, 16⟩, .rw, 0x8000⟩]⟩,
  ⟨0x0018, 1, 0x4, 1, 0x0, .none, [⟨⟨0, 16⟩, .rw, 0x0200⟩, ⟨⟨16, 8⟩, .rw, 0x10⟩, ⟨⟨24, 6⟩, .rw, 0x1E⟩]⟩,
  ⟨0x001C, 1, 0x4, 1, 0x0, .none, [⟨⟨0, 16⟩, .rw, 0⟩]⟩,
  ⟨0x0020, 1, 0x4, 1, 0x0, .none, [⟨⟨0, 12⟩, .wo, 0⟩]⟩,
  ⟨0x0024, 1, 0x4, 1, 0x0, .none, [⟨⟨0, 32⟩, .ro, 0⟩]⟩,
  ⟨0x0028, 1, 0x4, 1, 0x0, .none, [⟨⟨0, 32⟩, .ro, 0⟩]⟩,
  ⟨0x002C, 1, 0x4, 1, 0x0, .none, [⟨⟨0, 2⟩, .wo, 0⟩]⟩,
  ⟨0x0040, 1, 0x4, 1, 0x0, .none, [⟨⟨0, 1⟩, .wo, 0⟩, ⟨⟨1, 1⟩, .wo, 0⟩, ⟨⟨2, 1⟩, .ro, 0⟩, ⟨⟨4, 4⟩, .ro, 0⟩, ⟨⟨8, 8⟩, .ro, 0⟩]⟩,
  ⟨0x0044, 1, 0x4, 1, 0x0, .none, [⟨⟨0, 32⟩, .ro, 0⟩]⟩,
  ⟨0x0100, 16, 0x4, 1, 0x0, .none, [⟨⟨0, 16⟩, .ro, 0⟩]⟩,
  ⟨0x1000, 4, 0x20, 14, 0x80, .none, [⟨⟨0, 4⟩, .rwh, 8⟩, ⟨⟨8, 7⟩, .rwh, 64⟩, ⟨⟨31, 1⟩, .rwh, 0⟩]⟩,
  ⟨0x1700, 2, 0x20, 1, 0x4, .none, [⟨⟨0, 4⟩, .rwh, 8⟩, ⟨⟨8, 7⟩, .rwh, 64⟩, ⟨⟨31, 1⟩, .rwh, 0⟩]⟩,
  ⟨0x1004, 4, 0x20, 14, 0x80, .none, [⟨⟨0, 7⟩, .rwh, 0⟩, ⟨⟨7, 6⟩, .rwh, 0⟩, ⟨⟨13, 5⟩, .rwh, 0⟩, ⟨⟨18, 5⟩, .rwh, 0⟩, ⟨⟨23, 5⟩, .rwh, 0⟩]⟩,
  ⟨0x1704, 2, 0x20, 1, 0x4, .none, [⟨⟨0, 7⟩, .rwh, 0⟩, ⟨⟨7, 6⟩, .rwh, 0⟩, ⟨⟨13, 5⟩, .rwh, 0⟩, ⟨⟨18, 5⟩, .rwh, 0⟩, ⟨⟨23, 5⟩, .rwh, 0⟩]⟩,
  ⟨0x1008, 4, 0x20, 14, 0x80, .none, [⟨⟨0, 8⟩, .rwh, 0⟩, ⟨⟨16, 6⟩, .rwh, 32⟩]⟩,
  ⟨0x1708, 2, 0x20, 1, 0x4, .none, [⟨⟨0, 8⟩, .rwh, 0⟩, ⟨⟨16, 6⟩, .rwh, 32⟩]⟩,
  ⟨0x100C, 4, 0x20, 14, 0x80, .none, [⟨⟨0, 8⟩, .ro, 0⟩, ⟨⟨8, 8⟩, .ro, 0⟩]⟩,
  ⟨0x170C, 2, 0x20, 1, 0x4, .none, [⟨⟨0, 8⟩, .ro, 0⟩, ⟨⟨8, 8⟩, .ro, 0⟩]⟩,
  ⟨0x1010, 4, 0x20, 14, 0x80, .none, [⟨⟨0, 16⟩, .rwh, 0⟩]⟩,
  ⟨0x1710, 2, 0x20, 1, 0x4, .none, [⟨⟨0, 16⟩, .rwh, 0⟩]⟩]

/-- The registers of block RED (R511). -/
def redKinds : List RegKind := [
  ⟨0x0000, 1, 0x4, 1, 0x0, .none, [⟨⟨0, 1⟩, .rwh, 0⟩, ⟨⟨1, 1⟩, .wo, 0⟩, ⟨⟨2, 1⟩, .wo, 0⟩]⟩,
  ⟨0x0004, 1, 0x4, 1, 0x0, .none, [⟨⟨0, 13⟩, .rwh, 64⟩, ⟨⟨16, 2⟩, .rw, 1⟩, ⟨⟨18, 2⟩, .rw, 3⟩]⟩,
  ⟨0x0008, 1, 0x4, 1, 0x0, .none, [⟨⟨0, 1⟩, .ro, 0⟩, ⟨⟨1, 1⟩, .ro, 0⟩, ⟨⟨2, 1⟩, .ro, 0⟩, ⟨⟨3, 1⟩, .ro, 0⟩, ⟨⟨4, 1⟩, .ro, 0⟩, ⟨⟨5, 1⟩, .ro, 0⟩, ⟨⟨6, 1⟩, .ro, 0⟩, ⟨⟨7, 1⟩, .ro, 0⟩, ⟨⟨8, 1⟩, .ro, 0⟩]⟩,
  ⟨0x000C, 1, 0x4, 1, 0x0, .lo, [⟨⟨0, 32⟩, .ro, 0⟩]⟩,
  ⟨0x0010, 1, 0x4, 1, 0x0, .hi, [⟨⟨0, 32⟩, .ro, 0⟩]⟩,
  ⟨0x0014, 1, 0x4, 1, 0x0, .lo, [⟨⟨0, 32⟩, .ro, 0⟩]⟩,
  ⟨0x0018, 1, 0x4, 1, 0x0, .hi, [⟨⟨0, 32⟩, .ro, 0⟩]⟩,
  ⟨0x0020, 6, 0x4, 1, 0x0, .none, [⟨⟨0, 32⟩, .ro, 0⟩]⟩,
  ⟨0x0038, 1, 0x4, 1, 0x0, .none, [⟨⟨0, 6⟩, .wo, 0⟩]⟩,
  ⟨0x0040, 1, 0x4, 1, 0x0, .none, [⟨⟨0, 6⟩, .w1c, 0⟩]⟩]

/-- The registers of block ACC (R256), part 0. -/
def accKinds0 : List RegKind := [
  ⟨0x0000, 1, 0x4, 1, 0x0, .none, [⟨⟨0, 1⟩, .wo, 0⟩, ⟨⟨1, 1⟩, .wo, 0⟩, ⟨⟨2, 1⟩, .wo, 0⟩, ⟨⟨3, 1⟩, .wo, 0⟩, ⟨⟨4, 1⟩, .rw, 0⟩]⟩,
  ⟨0x0004, 1, 0x4, 1, 0x0, .none, [⟨⟨0, 2⟩, .ro, 0⟩, ⟨⟨2, 1⟩, .ro, 0⟩, ⟨⟨3, 1⟩, .ro, 0⟩, ⟨⟨4, 1⟩, .ro, 0⟩, ⟨⟨5, 1⟩, .ro, 0⟩, ⟨⟨6, 1⟩, .ro, 0⟩]⟩,
  ⟨0x0008, 1, 0x4, 1, 0x0, .none, [⟨⟨0, 16⟩, .ro, 0⟩]⟩,
  ⟨0x000C, 1, 0x4, 1, 0x0, .none, [⟨⟨0, 32⟩, .ro, 0⟩]⟩,
  ⟨0x0010, 1, 0x4, 1, 0x0, .none, [⟨⟨0, 32⟩, .ro, 0⟩]⟩,
  ⟨0x0014, 1, 0x4, 1, 0x0, .lo, [⟨⟨0, 32⟩, .rw, 0⟩]⟩,
  ⟨0x0018, 1, 0x4, 1, 0x0, .hi, [⟨⟨0, 32⟩, .rw, 0⟩]⟩,
  ⟨0x001C, 1, 0x4, 1, 0x0, .none, [⟨⟨0, 32⟩, .ro, 0⟩]⟩,
  ⟨0x0020, 1, 0x4, 1, 0x0, .none, [⟨⟨0, 32⟩, .ro, 0⟩]⟩,
  ⟨0x0024, 1, 0x4, 1, 0x0, .none, [⟨⟨0, 32⟩, .ro, 0⟩]⟩,
  ⟨0x0028, 1, 0x4, 1, 0x0, .none, [⟨⟨0, 1⟩, .wo, 0⟩]⟩,
  ⟨0x002C, 1, 0x4, 1, 0x0, .none, [⟨⟨0, 8⟩, .ro, 0⟩, ⟨⟨8, 4⟩, .ro, 0⟩]⟩,
  ⟨0x0030, 1, 0x4, 1, 0x0, .lo, [⟨⟨0, 32⟩, .ro, 0⟩]⟩,
  ⟨0x0034, 1, 0x4, 1, 0x0, .hi, [⟨⟨0, 32⟩, .ro, 0⟩]⟩,
  ⟨0x0038, 1, 0x4, 1, 0x0, .none, [⟨⟨0, 11⟩, .rw, 0⟩]⟩,
  ⟨0x0040, 1, 0x4, 1, 0x0, .none, [⟨⟨0, 20⟩, .rws, 0x7A120⟩]⟩,
  ⟨0x0044, 1, 0x4, 1, 0x0, .none, [⟨⟨0, 17⟩, .rws, 0x186A0⟩]⟩,
  ⟨0x0048, 1, 0x4, 1, 0x0, .none, [⟨⟨0, 5⟩, .rws, 1⟩, ⟨⟨8, 4⟩, .rws, 0⟩]⟩,
  ⟨0x004C, 1, 0x4, 1, 0x0, .none, [⟨⟨0, 4⟩, .rws, 8⟩, ⟨⟨4, 4⟩, .rws, 4⟩, ⟨⟨8, 4⟩, .rws, 4⟩, ⟨⟨12, 4⟩, .rws, 1⟩]⟩,
  ⟨0x0050, 4, 0x4, 1, 0x0, .none, [⟨⟨0, 23⟩, .rws, 0⟩]⟩,
  ⟨0x0060, 4, 0x4, 1, 0x0, .none, [⟨⟨0, 20⟩, .rws, 0⟩]⟩,
  ⟨0x0070, 8, 0x4, 1, 0x0, .none, [⟨⟨0, 16⟩, .rws, 0⟩, ⟨⟨16, 2⟩, .rws, 3⟩]⟩,
  ⟨0x0090, 12, 0x4, 1, 0x0, .none, [⟨⟨0, 5⟩, .rwh, 0⟩, ⟨⟨5, 1⟩, .rwh, 0⟩]⟩,
  ⟨0x00C0, 4, 0x4, 1, 0x0, .none, [⟨⟨0, 20⟩, .rws, 0⟩]⟩]

/-- The registers of block ACC (R256), part 1. -/
def accKinds1 : List RegKind := [
  ⟨0x0100, 16, 0x4, 1, 0x0, .none, [⟨⟨0, 32⟩, .ro, 0⟩]⟩,
  ⟨0x0180, 16, 0x4, 1, 0x0, .none, [⟨⟨0, 32⟩, .ro, 0⟩]⟩,
  ⟨0x8000, 2048, 0x4, 1, 0x0, .none, [⟨⟨0, 32⟩, .rw, 0⟩]⟩]

/-- The registers of block ACC (R256). -/
def accKinds : List RegKind := accKinds0 ++ accKinds1

/-- The registers of block PROF (R315). -/
def profKinds : List RegKind := [
  ⟨0x0000, 1, 0x4, 1, 0x0, .none, [⟨⟨0, 1⟩, .rwh, 0⟩, ⟨⟨1, 2⟩, .rws, 1⟩, ⟨⟨3, 1⟩, .rwh, 0⟩, ⟨⟨4, 1⟩, .rwh, 0⟩, ⟨⟨5, 3⟩, .rws, 0⟩]⟩,
  ⟨0x0004, 1, 0x4, 1, 0x0, .none, [⟨⟨0, 15⟩, .rws, 0⟩]⟩,
  ⟨0x0008, 1, 0x4, 1, 0x0, .none, [⟨⟨0, 6⟩, .rws, 1⟩]⟩,
  ⟨0x000C, 1, 0x4, 1, 0x0, .none, [⟨⟨0, 12⟩, .rws, 0x800⟩]⟩,
  ⟨0x0010, 1, 0x4, 1, 0x0, .none, [⟨⟨0, 1⟩, .wo, 0⟩, ⟨⟨1, 1⟩, .rw, 0⟩, ⟨⟨2, 1⟩, .ro, 0⟩]⟩,
  ⟨0x0014, 1, 0x4, 1, 0x0, .lo, [⟨⟨0, 32⟩, .rw, 0⟩]⟩,
  ⟨0x0018, 1, 0x4, 1, 0x0, .hi, [⟨⟨0, 32⟩, .rw, 0⟩]⟩,
  ⟨0x001C, 1, 0x4, 1, 0x0, .lo, [⟨⟨0, 32⟩, .ro, 0⟩]⟩,
  ⟨0x0020, 1, 0x4, 1, 0x0, .hi, [⟨⟨0, 32⟩, .ro, 0⟩]⟩,
  ⟨0x0024, 1, 0x4, 1, 0x0, .none, [⟨⟨0, 32⟩, .ro, 0⟩]⟩,
  ⟨0x0028, 1, 0x4, 1, 0x0, .none, [⟨⟨0, 32⟩, .ro, 0⟩]⟩,
  ⟨0x002C, 1, 0x4, 1, 0x0, .lo, [⟨⟨0, 32⟩, .ro, 0⟩]⟩,
  ⟨0x0030, 1, 0x4, 1, 0x0, .hi, [⟨⟨0, 32⟩, .ro, 0⟩]⟩,
  ⟨0x0040, 5, 0x4, 1, 0x0, .none, [⟨⟨0, 32⟩, .ro, 0⟩]⟩,
  ⟨0x0054, 1, 0x4, 1, 0x0, .none, [⟨⟨0, 5⟩, .wo, 0⟩]⟩,
  ⟨0x0058, 1, 0x4, 1, 0x0, .none, [⟨⟨0, 4⟩, .w1c, 0⟩]⟩,
  ⟨0x005C, 1, 0x4, 1, 0x0, .none, [⟨⟨0, 4⟩, .rw, 0⟩]⟩,
  ⟨0x0080, 1, 0x4, 1, 0x0, .none, [⟨⟨0, 2⟩, .rw, 0⟩, ⟨⟨2, 1⟩, .rw, 0⟩, ⟨⟨4, 1⟩, .rw, 1⟩, ⟨⟨16, 1⟩, .ro, 0⟩]⟩,
  ⟨0x0084, 1, 0x4, 1, 0x0, .none, [⟨⟨0, 16⟩, .rw, 0⟩]⟩,
  ⟨0x0088, 1, 0x4, 1, 0x0, .none, [⟨⟨0, 32⟩, .rws, 0⟩]⟩]

/-- The registers of block SEG (R292). -/
def segKinds : List RegKind := [
  ⟨0x0000, 1, 0x4, 1, 0x0, .none, [⟨⟨0, 1⟩, .rwh, 0⟩, ⟨⟨1, 1⟩, .rwh, 0⟩, ⟨⟨4, 4⟩, .rwh, 0xF⟩]⟩,
  ⟨0x0004, 1, 0x4, 1, 0x0, .none, [⟨⟨0, 16⟩, .rwh, 0x1000⟩]⟩,
  ⟨0x0008, 1, 0x4, 1, 0x0, .none, [⟨⟨0, 23⟩, .rwh, 0⟩]⟩,
  ⟨0x000C, 1, 0x4, 1, 0x0, .none, [⟨⟨0, 17⟩, .ro, 0⟩]⟩,
  ⟨0x0010, 1, 0x4, 1, 0x0, .none, [⟨⟨0, 17⟩, .ro, 0⟩]⟩,
  ⟨0x0020, 6, 0x4, 1, 0x0, .none, [⟨⟨0, 32⟩, .ro, 0⟩]⟩,
  ⟨0x0040, 1, 0x4, 1, 0x0, .none, [⟨⟨0, 6⟩, .wo, 0⟩]⟩,
  ⟨0x0048, 1, 0x4, 1, 0x0, .none, [⟨⟨0, 4⟩, .w1c, 0⟩]⟩,
  ⟨0x004C, 1, 0x4, 1, 0x0, .none, [⟨⟨0, 4⟩, .rw, 0⟩]⟩]

/-- The registers of block CARD (R293). -/
def cardKinds : List RegKind := [
  ⟨0x0000, 1, 0x4, 1, 0x0, .none, [⟨⟨0, 1⟩, .rwh, 0⟩, ⟨⟨8, 6⟩, .rws, 0⟩, ⟨⟨16, 2⟩, .rwh, 0⟩]⟩,
  ⟨0x0004, 1, 0x4, 1, 0x0, .none, [⟨⟨0, 6⟩, .rwh, 32⟩, ⟨⟨8, 9⟩, .rws, 0⟩]⟩,
  ⟨0x0010, 1, 0x4, 1, 0x0, .none, [⟨⟨0, 1⟩, .rw, 0⟩, ⟨⟨4, 1⟩, .rw, 1⟩, ⟨⟨16, 1⟩, .ro, 0⟩]⟩,
  ⟨0x0014, 1, 0x4, 1, 0x0, .none, [⟨⟨0, 13⟩, .rw, 0⟩]⟩,
  ⟨0x0018, 1, 0x4, 1, 0x0, .none, [⟨⟨0, 32⟩, .rws, 0⟩]⟩,
  ⟨0x0020, 7, 0x4, 1, 0x0, .none, [⟨⟨0, 32⟩, .ro, 0⟩]⟩,
  ⟨0x0040, 1, 0x4, 1, 0x0, .none, [⟨⟨0, 7⟩, .wo, 0⟩]⟩,
  ⟨0x0048, 1, 0x4, 1, 0x0, .none, [⟨⟨0, 5⟩, .w1c, 0⟩]⟩,
  ⟨0x004C, 1, 0x4, 1, 0x0, .none, [⟨⟨0, 5⟩, .rw, 0⟩]⟩,
  ⟨0x0050, 4, 0x4, 1, 0x0, .none, [⟨⟨0, 12⟩, .ro, 0⟩, ⟨⟨16, 3⟩, .ro, 0⟩]⟩,
  ⟨0x0060, 4, 0x8, 1, 0x0, .lo, [⟨⟨0, 32⟩, .ro, 0⟩]⟩,
  ⟨0x0064, 4, 0x8, 1, 0x0, .hi, [⟨⟨0, 16⟩, .ro, 0⟩]⟩,
  ⟨0x0100, 64, 0x4, 1, 0x0, .none, [⟨⟨0, 2⟩, .rws, 0⟩, ⟨⟨2, 1⟩, .rws, 0⟩, ⟨⟨3, 1⟩, .rws, 0⟩, ⟨⟨4, 7⟩, .rws, 8⟩, ⟨⟨11, 7⟩, .rws, 8⟩, ⟨⟨18, 1⟩, .rws, 0⟩]⟩]

/-- The registers of block DMA (R349). -/
def dmaKinds : List RegKind := [
  ⟨0x0000, 1, 0x4, 1, 0x0, .none, [⟨⟨0, 1⟩, .rwh, 1⟩]⟩,
  ⟨0x0004, 1, 0x4, 1, 0x0, .none, [⟨⟨0, 19⟩, .ro, 0⟩]⟩,
  ⟨0x0008, 1, 0x4, 1, 0x0, .none, [⟨⟨0, 32⟩, .w1c, 0⟩]⟩,
  ⟨0x000C, 1, 0x4, 1, 0x0, .none, [⟨⟨0, 32⟩, .w1c, 0⟩]⟩,
  ⟨0x0010, 1, 0x4, 1, 0x0, .none, [⟨⟨0, 32⟩, .rw, 0⟩]⟩,
  ⟨0x0014, 1, 0x4, 1, 0x0, .none, [⟨⟨0, 32⟩, .rw, 0⟩]⟩,
  ⟨0x0018, 1, 0x4, 1, 0x0, .none, [⟨⟨0, 32⟩, .ro, 0⟩]⟩,
  ⟨0x001C, 1, 0x4, 1, 0x0, .none, [⟨⟨0, 1⟩, .wo, 0⟩]⟩,
  ⟨0x0100, 32, 0x40, 1, 0x0, .none, [⟨⟨0, 1⟩, .wo, 0⟩, ⟨⟨1, 1⟩, .wo, 0⟩, ⟨⟨2, 1⟩, .wo, 0⟩, ⟨⟨3, 1⟩, .rw, 0⟩, ⟨⟨4, 4⟩, .rw, 6⟩, ⟨⟨8, 16⟩, .rw, 0⟩]⟩,
  ⟨0x0104, 32, 0x40, 1, 0x0, .none, [⟨⟨0, 1⟩, .ro, 0⟩, ⟨⟨1, 1⟩, .ro, 0⟩, ⟨⟨2, 1⟩, .w1c, 0⟩, ⟨⟨4, 4⟩, .ro, 0⟩, ⟨⟨16, 16⟩, .ro, 0⟩]⟩,
  ⟨0x0108, 32, 0x40, 1, 0x0, .none, [⟨⟨0, 4⟩, .rws, 0⟩, ⟨⟨4, 1⟩, .rws, 0⟩, ⟨⟨5, 1⟩, .rws, 0⟩]⟩,
  ⟨0x010C, 32, 0x40, 1, 0x0, .none, [⟨⟨0, 32⟩, .rws, 0⟩]⟩,
  ⟨0x0110, 32, 0x40, 1, 0x0, .none, [⟨⟨0, 8⟩, .rws, 0⟩, ⟨⟨8, 8⟩, .rws, 0⟩]⟩,
  ⟨0x0114, 32, 0x40, 1, 0x0, .none, [⟨⟨0, 32⟩, .rws, 0⟩]⟩,
  ⟨0x0118, 32, 0x40, 1, 0x0, .none, [⟨⟨0, 24⟩, .rws, 0⟩]⟩,
  ⟨0x011C, 32, 0x40, 1, 0x0, .none, [⟨⟨0, 16⟩, .rws, 0⟩]⟩,
  ⟨0x0120, 32, 0x40, 1, 0x0, .none, [⟨⟨0, 32⟩, .rws, 0⟩]⟩,
  ⟨0x0124, 32, 0x40, 1, 0x0, .none, [⟨⟨0, 32⟩, .rws, 0⟩]⟩,
  ⟨0x0128, 32, 0x40, 1, 0x0, .none, [⟨⟨0, 26⟩, .rws, 0⟩]⟩,
  ⟨0x012C, 32, 0x40, 1, 0x0, .none, [⟨⟨0, 32⟩, .rws, 0⟩]⟩,
  ⟨0x0130, 32, 0x40, 1, 0x0, .none, [⟨⟨0, 32⟩, .ro, 0⟩]⟩,
  ⟨0x0134, 32, 0x40, 1, 0x0, .none, [⟨⟨0, 32⟩, .ro, 0⟩]⟩,
  ⟨0x0138, 32, 0x40, 1, 0x0, .none, [⟨⟨0, 32⟩, .ro, 0⟩]⟩]

/-- The registers of block QUE (R366), part 0. -/
def queKinds0 : List RegKind := [
  ⟨0x0000, 1, 0x4, 1, 0x0, .none, [⟨⟨0, 32⟩, .w1c, 0⟩]⟩,
  ⟨0x0004, 1, 0x4, 1, 0x0, .none, [⟨⟨0, 32⟩, .w1c, 0⟩]⟩,
  ⟨0x0008, 1, 0x4, 1, 0x0, .none, [⟨⟨0, 32⟩, .w1c, 0⟩]⟩,
  ⟨0x000C, 1, 0x4, 1, 0x0, .none, [⟨⟨0, 32⟩, .w1c, 0⟩]⟩,
  ⟨0x0010, 1, 0x4, 1, 0x0, .none, [⟨⟨0, 32⟩, .rw, 0⟩]⟩,
  ⟨0x0014, 1, 0x4, 1, 0x0, .none, [⟨⟨0, 32⟩, .rw, 0⟩]⟩,
  ⟨0x0018, 1, 0x4, 1, 0x0, .none, [⟨⟨0, 32⟩, .rw, 0⟩]⟩,
  ⟨0x001C, 1, 0x4, 1, 0x0, .none, [⟨⟨0, 32⟩, .rw, 0⟩]⟩,
  ⟨0x0100, 48, 0x40, 1, 0x0, .none, [⟨⟨0, 20⟩, .rwh, 0⟩, ⟨⟨24, 1⟩, .ro, 0⟩]⟩,
  ⟨0x0104, 48, 0x40, 1, 0x0, .none, [⟨⟨0, 26⟩, .rwh, 0⟩]⟩,
  ⟨0x0D00, 11, 0x40, 1, 0x0, .none, [⟨⟨0, 20⟩, .ro, 0⟩, ⟨⟨24, 1⟩, .ro, 0⟩]⟩,
  ⟨0x0D04, 16, 0x40, 1, 0x0, .none, [⟨⟨0, 26⟩, .ro, 0⟩]⟩,
  ⟨0x0FC0, 5, 0x40, 1, 0x0, .none, [⟨⟨0, 20⟩, .ro, 0⟩, ⟨⟨24, 1⟩, .ro, 1⟩]⟩,
  ⟨0x0108, 64, 0x40, 1, 0x0, .none, [⟨⟨0, 20⟩, .ro, 0⟩]⟩,
  ⟨0x010C, 64, 0x40, 1, 0x0, .none, [⟨⟨0, 20⟩, .ro, 0⟩]⟩,
  ⟨0x0110, 64, 0x40, 1, 0x0, .none, [⟨⟨0, 20⟩, .ro, 0⟩]⟩,
  ⟨0x0114, 64, 0x40, 1, 0x0, .none, [⟨⟨0, 20⟩, .ro, 0⟩, ⟨⟨31, 1⟩, .ro, 0⟩]⟩,
  ⟨0x0118, 64, 0x40, 1, 0x0, .none, [⟨⟨0, 1⟩, .ro, 1⟩, ⟨⟨1, 1⟩, .ro, 0⟩, ⟨⟨2, 1⟩, .w1c, 0⟩, ⟨⟨3, 1⟩, .ro, 0⟩, ⟨⟨4, 1⟩, .ro, 0⟩]⟩,
  ⟨0x011C, 64, 0x40, 1, 0x0, .none, [⟨⟨0, 20⟩, .ro, 0⟩]⟩,
  ⟨0x0120, 64, 0x40, 1, 0x0, .none, [⟨⟨0, 20⟩, .ro, 0⟩]⟩,
  ⟨0x0124, 64, 0x40, 1, 0x0, .none, [⟨⟨0, 20⟩, .rw, 0⟩]⟩,
  ⟨0x0128, 64, 0x40, 1, 0x0, .none, [⟨⟨0, 20⟩, .rw, 0⟩]⟩,
  ⟨0x012C, 64, 0x40, 1, 0x0, .none, [⟨⟨0, 1⟩, .wo, 0⟩, ⟨⟨1, 1⟩, .wo, 0⟩, ⟨⟨2, 1⟩, .wo, 0⟩, ⟨⟨3, 1⟩, .wo, 0⟩, ⟨⟨4, 1⟩, .wo, 0⟩, ⟨⟨5, 1⟩, .wo, 0⟩]⟩,
  ⟨0x0130, 64, 0x40, 1, 0x0, .none, [⟨⟨0, 32⟩, .ro, 0⟩]⟩]

/-- The registers of block QUE (R366), part 1. -/
def queKinds1 : List RegKind := [
  ⟨0x0134, 64, 0x40, 1, 0x0, .none, [⟨⟨0, 32⟩, .wo, 0⟩]⟩,
  ⟨0x0138, 64, 0x40, 1, 0x0, .none, [⟨⟨0, 24⟩, .ro, 0⟩]⟩,
  ⟨0x013C, 64, 0x40, 1, 0x0, .none, [⟨⟨0, 32⟩, .ro, 0⟩]⟩,
  ⟨0x2000, 5, 0x20, 1, 0x0, .lo, [⟨⟨0, 32⟩, .ro, 0⟩]⟩,
  ⟨0x2004, 5, 0x20, 1, 0x0, .hi, [⟨⟨0, 16⟩, .ro, 0⟩]⟩,
  ⟨0x2008, 5, 0x20, 1, 0x0, .lo, [⟨⟨0, 32⟩, .wo, 0⟩]⟩,
  ⟨0x200C, 5, 0x20, 1, 0x0, .hi, [⟨⟨0, 16⟩, .wo, 0⟩]⟩,
  ⟨0x2010, 5, 0x20, 1, 0x0, .lo, [⟨⟨0, 32⟩, .ro, 0⟩]⟩,
  ⟨0x2014, 5, 0x20, 1, 0x0, .hi, [⟨⟨0, 16⟩, .ro, 0⟩]⟩,
  ⟨0x2018, 5, 0x20, 1, 0x0, .none, [⟨⟨0, 32⟩, .ro, 0⟩]⟩,
  ⟨0x201C, 5, 0x20, 1, 0x0, .none, [⟨⟨0, 32⟩, .ro, 0⟩]⟩]

/-- The registers of block QUE (R366). -/
def queKinds : List RegKind := queKinds0 ++ queKinds1

/-- The registers of block CAM (R92), part 0. -/
def camKinds0 : List RegKind := [
  ⟨0x0000, 1, 0x4, 1, 0x0, .none, [⟨⟨0, 1⟩, .rwh, 0⟩, ⟨⟨1, 2⟩, .rwh, 0⟩, ⟨⟨4, 2⟩, .rwh, 2⟩, ⟨⟨8, 4⟩, .rwh, 2⟩, ⟨⟨12, 1⟩, .rwh, 0⟩, ⟨⟨16, 1⟩, .wo, 0⟩]⟩,
  ⟨0x0004, 1, 0x4, 1, 0x0, .none, [⟨⟨0, 16⟩, .rwh, 0x1F40⟩]⟩,
  ⟨0x0008, 1, 0x4, 1, 0x0, .none, [⟨⟨0, 16⟩, .rw, 0⟩]⟩,
  ⟨0x000C, 1, 0x4, 1, 0x0, .none, [⟨⟨0, 3⟩, .ro, 0⟩, ⟨⟨4, 4⟩, .ro, 0⟩, ⟨⟨8, 1⟩, .ro, 0⟩, ⟨⟨9, 3⟩, .ro, 0⟩, ⟨⟨16, 8⟩, .ro, 0⟩]⟩,
  ⟨0x0010, 1, 0x4, 1, 0x0, .none, [⟨⟨0, 16⟩, .ro, 0⟩]⟩,
  ⟨0x0014, 1, 0x4, 1, 0x0, .none, [⟨⟨0, 16⟩, .ro, 0⟩, ⟨⟨16, 2⟩, .ro, 0⟩, ⟨⟨20, 5⟩, .ro, 0⟩]⟩,
  ⟨0x0020, 6, 0x4, 1, 0x0, .none, [⟨⟨0, 32⟩, .ro, 0⟩]⟩,
  ⟨0x0038, 1, 0x4, 1, 0x0, .none, [⟨⟨0, 6⟩, .wo, 0⟩]⟩,
  ⟨0x0040, 1, 0x4, 1, 0x0, .none, [⟨⟨0, 9⟩, .w1c, 0⟩]⟩,
  ⟨0x0044, 1, 0x4, 1, 0x0, .none, [⟨⟨0, 9⟩, .rw, 0⟩]⟩,
  ⟨0x0050, 1, 0x4, 1, 0x0, .none, [⟨⟨0, 16⟩, .ro, 0⟩, ⟨⟨16, 16⟩, .ro, 0⟩]⟩,
  ⟨0x0054, 1, 0x4, 1, 0x0, .none, [⟨⟨0, 16⟩, .ro, 0⟩, ⟨⟨16, 16⟩, .ro, 0⟩]⟩,
  ⟨0x0058, 1, 0x4, 1, 0x0, .none, [⟨⟨0, 32⟩, .ro, 0⟩]⟩,
  ⟨0x005C, 1, 0x4, 1, 0x0, .none, [⟨⟨0, 4⟩, .ro, 0⟩, ⟨⟨4, 3⟩, .ro, 0⟩, ⟨⟨8, 5⟩, .ro, 0⟩, ⟨⟨16, 15⟩, .ro, 0⟩]⟩,
  ⟨0x0060, 1, 0x4, 1, 0x0, .none, [⟨⟨0, 19⟩, .ro, 0⟩]⟩,
  ⟨0x0064, 1, 0x4, 1, 0x0, .none, [⟨⟨0, 16⟩, .ro, 0⟩]⟩,
  ⟨0x0070, 1, 0x4, 1, 0x0, .none, [⟨⟨0, 16⟩, .rw, 0⟩]⟩,
  ⟨0x0074, 1, 0x4, 1, 0x0, .none, [⟨⟨0, 32⟩, .rw, 0⟩]⟩,
  ⟨0x0078, 1, 0x4, 1, 0x0, .none, [⟨⟨0, 32⟩, .ro, 0⟩]⟩,
  ⟨0x007C, 1, 0x4, 1, 0x0, .none, [⟨⟨0, 1⟩, .wo, 0⟩, ⟨⟨1, 1⟩, .rw, 0⟩, ⟨⟨2, 1⟩, .ro, 0⟩, ⟨⟨4, 3⟩, .ro, 0⟩, ⟨⟨7, 1⟩, .w1c, 0⟩]⟩,
  ⟨0x0100, 4, 0x20, 1, 0x0, .none, [⟨⟨0, 1⟩, .rwh, 0⟩, ⟨⟨1, 1⟩, .rwh, 0⟩, ⟨⟨2, 2⟩, .rwh, 0⟩, ⟨⟨4, 2⟩, .rwh, 0⟩, ⟨⟨8, 1⟩, .ro, 0⟩]⟩,
  ⟨0x0104, 4, 0x20, 1, 0x0, .none, [⟨⟨0, 32⟩, .ro, 0⟩]⟩,
  ⟨0x0108, 4, 0x20, 1, 0x0, .none, [⟨⟨0, 32⟩, .ro, 0⟩]⟩,
  ⟨0x010C, 4, 0x20, 1, 0x0, .none, [⟨⟨0, 32⟩, .ro, 0⟩]⟩]

/-- The registers of block CAM (R92), part 1. -/
def camKinds1 : List RegKind := [
  ⟨0x0110, 4, 0x20, 1, 0x0, .none, [⟨⟨0, 4⟩, .wo, 0⟩]⟩,
  ⟨0x0114, 4, 0x20, 1, 0x0, .none, [⟨⟨0, 32⟩, .ro, 0⟩]⟩]

/-- The registers of block CAM (R92). -/
def camKinds : List RegKind := camKinds0 ++ camKinds1

/-- The registers of block SEAM (R171). -/
def seamKinds : List RegKind := [
  ⟨0x0000, 1, 0x4, 1, 0x0, .none, [⟨⟨0, 1⟩, .rwh, 0⟩, ⟨⟨16, 1⟩, .wo, 0⟩]⟩,
  ⟨0x0004, 1, 0x4, 1, 0x0, .none, [⟨⟨0, 4⟩, .rwh, 0⟩, ⟨⟨8, 9⟩, .rwh, 0⟩]⟩,
  ⟨0x0008, 1, 0x4, 1, 0x0, .none, [⟨⟨0, 15⟩, .rwh, 0⟩]⟩,
  ⟨0x000C, 1, 0x4, 1, 0x0, .none, [⟨⟨0, 3⟩, .ro, 0⟩, ⟨⟨4, 4⟩, .ro, 0⟩, ⟨⟨8, 1⟩, .ro, 0⟩, ⟨⟨9, 3⟩, .ro, 0⟩, ⟨⟨16, 8⟩, .ro, 0⟩]⟩,
  ⟨0x0010, 1, 0x4, 1, 0x0, .none, [⟨⟨0, 16⟩, .ro, 0⟩]⟩,
  ⟨0x0014, 1, 0x4, 1, 0x0, .none, [⟨⟨0, 14⟩, .ro, 0⟩, ⟨⟨14, 1⟩, .ro, 0⟩, ⟨⟨15, 1⟩, .ro, 0⟩]⟩,
  ⟨0x0018, 1, 0x4, 1, 0x0, .none, [⟨⟨0, 32⟩, .ro, 0⟩]⟩,
  ⟨0x001C, 1, 0x4, 1, 0x0, .none, [⟨⟨0, 9⟩, .rwh, 0x100⟩]⟩,
  ⟨0x0020, 5, 0x4, 1, 0x0, .none, [⟨⟨0, 32⟩, .ro, 0⟩]⟩,
  ⟨0x0034, 1, 0x4, 1, 0x0, .none, [⟨⟨0, 5⟩, .wo, 0⟩]⟩,
  ⟨0x0040, 1, 0x4, 1, 0x0, .none, [⟨⟨0, 5⟩, .w1c, 0⟩]⟩,
  ⟨0x0044, 1, 0x4, 1, 0x0, .none, [⟨⟨0, 5⟩, .rw, 0⟩]⟩,
  ⟨0x0100, 4, 0x20, 1, 0x0, .none, [⟨⟨0, 1⟩, .rwh, 0⟩, ⟨⟨1, 1⟩, .rwh, 0⟩, ⟨⟨2, 2⟩, .rwh, 0⟩, ⟨⟨4, 2⟩, .rwh, 0⟩, ⟨⟨8, 1⟩, .ro, 0⟩]⟩,
  ⟨0x0104, 4, 0x20, 1, 0x0, .none, [⟨⟨0, 32⟩, .ro, 0⟩]⟩,
  ⟨0x0108, 4, 0x20, 1, 0x0, .none, [⟨⟨0, 32⟩, .ro, 0⟩]⟩,
  ⟨0x010C, 4, 0x20, 1, 0x0, .none, [⟨⟨0, 32⟩, .ro, 0⟩]⟩,
  ⟨0x0110, 4, 0x20, 1, 0x0, .none, [⟨⟨0, 4⟩, .wo, 0⟩]⟩,
  ⟨0x0114, 4, 0x20, 1, 0x0, .none, [⟨⟨0, 32⟩, .ro, 0⟩]⟩]

/-- The registers of block TWIN (R512). -/
def twinKinds : List RegKind := [
  ⟨0x0000, 1, 0x4, 1, 0x0, .none, [⟨⟨0, 1⟩, .rwh, 0⟩, ⟨⟨16, 1⟩, .wo, 0⟩]⟩,
  ⟨0x000C, 1, 0x4, 1, 0x0, .none, [⟨⟨0, 3⟩, .ro, 0⟩, ⟨⟨4, 4⟩, .ro, 0⟩, ⟨⟨8, 1⟩, .ro, 0⟩, ⟨⟨9, 3⟩, .ro, 0⟩, ⟨⟨16, 8⟩, .ro, 0⟩]⟩,
  ⟨0x0010, 1, 0x4, 1, 0x0, .none, [⟨⟨0, 16⟩, .ro, 0⟩]⟩,
  ⟨0x0014, 1, 0x4, 1, 0x0, .none, [⟨⟨0, 14⟩, .ro, 0⟩, ⟨⟨14, 1⟩, .ro, 0⟩, ⟨⟨15, 1⟩, .ro, 0⟩]⟩,
  ⟨0x0020, 5, 0x4, 1, 0x0, .none, [⟨⟨0, 32⟩, .ro, 0⟩]⟩,
  ⟨0x0034, 1, 0x4, 1, 0x0, .none, [⟨⟨0, 5⟩, .wo, 0⟩]⟩,
  ⟨0x0040, 1, 0x4, 1, 0x0, .none, [⟨⟨0, 5⟩, .w1c, 0⟩]⟩,
  ⟨0x0044, 1, 0x4, 1, 0x0, .none, [⟨⟨0, 5⟩, .rw, 0⟩]⟩,
  ⟨0x0100, 2, 0x20, 1, 0x0, .none, [⟨⟨0, 1⟩, .rwh, 0⟩, ⟨⟨1, 1⟩, .rwh, 0⟩, ⟨⟨2, 2⟩, .rwh, 0⟩, ⟨⟨4, 2⟩, .rwh, 0⟩, ⟨⟨8, 1⟩, .ro, 0⟩]⟩,
  ⟨0x0104, 2, 0x20, 1, 0x0, .none, [⟨⟨0, 32⟩, .ro, 0⟩]⟩,
  ⟨0x0108, 2, 0x20, 1, 0x0, .none, [⟨⟨0, 32⟩, .ro, 0⟩]⟩,
  ⟨0x010C, 2, 0x20, 1, 0x0, .none, [⟨⟨0, 32⟩, .ro, 0⟩]⟩,
  ⟨0x0110, 2, 0x20, 1, 0x0, .none, [⟨⟨0, 4⟩, .wo, 0⟩]⟩,
  ⟨0x0114, 2, 0x20, 1, 0x0, .none, [⟨⟨0, 32⟩, .ro, 0⟩]⟩]

/-- The registers of block CORR (R146). -/
def corrKinds : List RegKind := [
  ⟨0x0000, 1, 0x4, 1, 0x0, .none, [⟨⟨0, 1⟩, .rwh, 1⟩, ⟨⟨1, 1⟩, .rwh, 1⟩, ⟨⟨2, 1⟩, .rwh, 0⟩, ⟨⟨3, 1⟩, .rwh, 1⟩]⟩,
  ⟨0x0004, 1, 0x4, 1, 0x0, .none, [⟨⟨0, 1⟩, .ro, 0⟩, ⟨⟨1, 1⟩, .ro, 0⟩, ⟨⟨2, 1⟩, .ro, 0⟩, ⟨⟨3, 1⟩, .ro, 0⟩, ⟨⟨4, 1⟩, .ro, 0⟩, ⟨⟨5, 1⟩, .ro, 0⟩]⟩,
  ⟨0x0008, 1, 0x4, 1, 0x0, .lo, [⟨⟨0, 32⟩, .ro, 0⟩]⟩,
  ⟨0x000C, 1, 0x4, 1, 0x0, .hi, [⟨⟨0, 32⟩, .ro, 0x80000000⟩]⟩,
  ⟨0x0010, 1, 0x4, 1, 0x0, .none, [⟨⟨0, 2⟩, .rw, 0⟩, ⟨⟨2, 2⟩, .rw, 0⟩, ⟨⟨4, 1⟩, .rw, 1⟩, ⟨⟨8, 1⟩, .wo, 0⟩, ⟨⟨9, 1⟩, .wo, 0⟩]⟩,
  ⟨0x0014, 1, 0x4, 1, 0x0, .none, [⟨⟨0, 16⟩, .rw, 0⟩]⟩,
  ⟨0x0018, 1, 0x4, 1, 0x0, .none, [⟨⟨0, 16⟩, .rws, 0⟩]⟩,
  ⟨0x001C, 1, 0x4, 1, 0x0, .none, [⟨⟨0, 16⟩, .rw, 0⟩]⟩,
  ⟨0x0020, 1, 0x4, 1, 0x0, .none, [⟨⟨0, 32⟩, .ro, 0⟩]⟩,
  ⟨0x0024, 1, 0x4, 1, 0x0, .none, [⟨⟨0, 32⟩, .ro, 0⟩]⟩,
  ⟨0x0028, 1, 0x4, 1, 0x0, .none, [⟨⟨0, 32⟩, .ro, 0⟩]⟩,
  ⟨0x002C, 1, 0x4, 1, 0x0, .none, [⟨⟨0, 3⟩, .wo, 0⟩]⟩]

/-- The registers of block FOLIO (R201). -/
def folioKinds : List RegKind := [
  ⟨0x0100, 1, 0x4, 1, 0x0, .none, [⟨⟨0, 12⟩, .rws, 0⟩, ⟨⟨16, 12⟩, .rws, 1⟩]⟩,
  ⟨0x0104, 1, 0x4, 1, 0x0, .none, [⟨⟨0, 12⟩, .rws, 0⟩]⟩,
  ⟨0x0108, 1, 0x4, 1, 0x0, .none, [⟨⟨0, 1⟩, .rws, 0⟩, ⟨⟨1, 3⟩, .rws, 0⟩, ⟨⟨4, 3⟩, .rws, 0⟩, ⟨⟨8, 2⟩, .rws, 0⟩, ⟨⟨12, 4⟩, .rws, 0⟩, ⟨⟨16, 3⟩, .rws, 1⟩, ⟨⟨20, 3⟩, .rws, 0⟩]⟩,
  ⟨0x010C, 1, 0x4, 1, 0x0, .none, [⟨⟨0, 1⟩, .ro, 0⟩, ⟨⟨1, 1⟩, .ro, 0⟩, ⟨⟨2, 1⟩, .ro, 0⟩, ⟨⟨4, 3⟩, .ro, 0⟩, ⟨⟨8, 11⟩, .ro, 0⟩]⟩,
  ⟨0x0110, 1, 0x4, 1, 0x0, .none, [⟨⟨0, 24⟩, .ro, 0⟩]⟩,
  ⟨0x0114, 1, 0x4, 1, 0x0, .none, [⟨⟨0, 24⟩, .ro, 0⟩]⟩,
  ⟨0x0118, 1, 0x4, 1, 0x0, .none, [⟨⟨0, 32⟩, .ro, 0⟩]⟩,
  ⟨0x011C, 1, 0x4, 1, 0x0, .none, [⟨⟨0, 32⟩, .ro, 0⟩]⟩,
  ⟨0x0120, 1, 0x4, 1, 0x0, .none, [⟨⟨0, 2⟩, .wo, 0⟩]⟩,
  ⟨0x0140, 8, 0x4, 1, 0x0, .none, [⟨⟨0, 32⟩, .rw, 0⟩]⟩,
  ⟨0x0180, 16, 0x4, 1, 0x0, .none, [⟨⟨0, 32⟩, .rws, 0⟩]⟩,
  ⟨0x01C0, 1, 0x4, 1, 0x0, .head [4, 64, 68, 72, 76, 80, 84, 88, 92, 96, 100, 104, 108, 112, 116, 120, 124], [⟨⟨0, 32⟩, .ro, 0⟩]⟩,
  ⟨0x01C4, 1, 0x4, 1, 0x0, .none, [⟨⟨0, 32⟩, .ro, 0⟩]⟩,
  ⟨0x0200, 16, 0x4, 1, 0x0, .none, [⟨⟨0, 32⟩, .ro, 0⟩]⟩]

/-- The registers of block STITCH (R170). -/
def stitchKinds : List RegKind := [
  ⟨0x0000, 1, 0x4, 1, 0x0, .none, [⟨⟨0, 1⟩, .rwh, 0⟩, ⟨⟨1, 1⟩, .rwh, 0⟩, ⟨⟨2, 1⟩, .rwh, 0⟩, ⟨⟨3, 1⟩, .rwh, 0⟩, ⟨⟨4, 3⟩, .rwh, 0⟩]⟩,
  ⟨0x0004, 1, 0x4, 1, 0x0, .none, [⟨⟨0, 19⟩, .rwh, 0x17700⟩]⟩,
  ⟨0x0008, 1, 0x4, 1, 0x0, .none, [⟨⟨0, 32⟩, .rwh, 0⟩]⟩,
  ⟨0x000C, 1, 0x4, 1, 0x0, .none, [⟨⟨0, 16⟩, .rw, 0⟩]⟩,
  ⟨0x0010, 1, 0x4, 1, 0x0, .none, [⟨⟨0, 32⟩, .rws, 0⟩]⟩,
  ⟨0x0014, 1, 0x4, 1, 0x0, .none, [⟨⟨0, 32⟩, .rws, 0x10000⟩]⟩,
  ⟨0x0018, 1, 0x4, 1, 0x0, .none, [⟨⟨0, 1⟩, .rws, 0⟩]⟩,
  ⟨0x0020, 1, 0x4, 1, 0x0, .none, [⟨⟨0, 32⟩, .ro, 0⟩]⟩,
  ⟨0x0024, 1, 0x4, 1, 0x0, .none, [⟨⟨0, 32⟩, .ro, 0⟩]⟩,
  ⟨0x0028, 1, 0x4, 1, 0x0, .none, [⟨⟨0, 32⟩, .ro, 0⟩]⟩,
  ⟨0x002C, 1, 0x4, 1, 0x0, .none, [⟨⟨0, 32⟩, .ro, 0⟩]⟩,
  ⟨0x0030, 1, 0x4, 1, 0x0, .none, [⟨⟨0, 4⟩, .wo, 0⟩]⟩,
  ⟨0x0100, 12, 0x8, 1, 0x0, .none, [⟨⟨0, 19⟩, .rwh, 0⟩]⟩,
  ⟨0x0104, 12, 0x8, 1, 0x0, .none, [⟨⟨0, 16⟩, .rwh, 0⟩]⟩,
  ⟨0x0200, 12, 0x4, 1, 0x0, .none, [⟨⟨0, 16⟩, .ro, 0⟩, ⟨⟨16, 1⟩, .ro, 0⟩]⟩,
  ⟨0x0240, 12, 0x8, 1, 0x0, .lo, [⟨⟨0, 32⟩, .ro, 0⟩]⟩,
  ⟨0x0244, 12, 0x8, 1, 0x0, .hi, [⟨⟨0, 2⟩, .ro, 0⟩]⟩,
  ⟨0x0300, 14, 0x8, 1, 0x0, .none, [⟨⟨0, 20⟩, .rwh, 0⟩]⟩,
  ⟨0x0304, 14, 0x8, 1, 0x0, .none, [⟨⟨0, 9⟩, .rwh, 0⟩]⟩,
  ⟨0x0400, 1, 0x4, 1, 0x0, .none, [⟨⟨0, 1⟩, .rw, 0⟩, ⟨⟨4, 1⟩, .rw, 1⟩, ⟨⟨8, 1⟩, .wo, 0⟩, ⟨⟨9, 1⟩, .wo, 0⟩, ⟨⟨10, 1⟩, .rw, 0⟩, ⟨⟨16, 1⟩, .ro, 0⟩, ⟨⟨17, 1⟩, .ro, 0⟩, ⟨⟨18, 1⟩, .ro, 0⟩, ⟨⟨19, 1⟩, .ro, 0⟩]⟩,
  ⟨0x0404, 1, 0x4, 1, 0x0, .none, [⟨⟨0, 19⟩, .rw, 0⟩]⟩,
  ⟨0x0408, 1, 0x4, 1, 0x0, .none, [⟨⟨0, 32⟩, .rws, 0x07800000⟩]⟩,
  ⟨0x040C, 1, 0x4, 1, 0x0, .lo, [⟨⟨0, 32⟩, .rw, 0⟩]⟩,
  ⟨0x0410, 1, 0x4, 1, 0x0, .hi, [⟨⟨0, 32⟩, .rw, 0⟩]⟩]

/-- The registers of block STACKS (R347), part 0. -/
def stacksKinds0 : List RegKind := [
  ⟨0x0000, 1, 0x4, 1, 0x0, .none, [⟨⟨0, 1⟩, .rwh, 0⟩, ⟨⟨1, 2⟩, .rwh, 1⟩]⟩,
  ⟨0x0004, 1, 0x4, 1, 0x0, .none, [⟨⟨0, 24⟩, .rwh, 0x4000⟩]⟩,
  ⟨0x0008, 1, 0x4, 1, 0x0, .lo, [⟨⟨0, 32⟩, .ro, 0⟩]⟩,
  ⟨0x000C, 1, 0x4, 1, 0x0, .hi, [⟨⟨0, 2⟩, .ro, 0⟩]⟩,
  ⟨0x0010, 1, 0x4, 1, 0x0, .none, [⟨⟨0, 20⟩, .ro, 0⟩]⟩,
  ⟨0x0014, 1, 0x4, 1, 0x0, .head [4, 8, 12, 16, 20], [⟨⟨0, 32⟩, .ro, 0⟩]⟩,
  ⟨0x0018, 1, 0x4, 1, 0x0, .none, [⟨⟨0, 32⟩, .ro, 0⟩]⟩,
  ⟨0x001C, 1, 0x4, 1, 0x0, .lo, [⟨⟨0, 32⟩, .ro, 0⟩]⟩,
  ⟨0x0020, 1, 0x4, 1, 0x0, .hi, [⟨⟨0, 32⟩, .ro, 0⟩]⟩,
  ⟨0x0024, 1, 0x4, 1, 0x0, .lo, [⟨⟨0, 32⟩, .ro, 0⟩]⟩,
  ⟨0x0028, 1, 0x4, 1, 0x0, .hi, [⟨⟨0, 32⟩, .ro, 0⟩]⟩,
  ⟨0x002C, 1, 0x4, 1, 0x0, .lo, [⟨⟨0, 32⟩, .ro, 0⟩]⟩,
  ⟨0x0030, 1, 0x4, 1, 0x0, .hi, [⟨⟨0, 2⟩, .ro, 0⟩]⟩,
  ⟨0x0040, 6, 0x4, 1, 0x0, .none, [⟨⟨0, 32⟩, .ro, 0⟩]⟩,
  ⟨0x0058, 1, 0x4, 1, 0x0, .none, [⟨⟨0, 6⟩, .wo, 0⟩]⟩,
  ⟨0x0060, 1, 0x4, 1, 0x0, .none, [⟨⟨0, 4⟩, .w1c, 0⟩]⟩,
  ⟨0x0064, 1, 0x4, 1, 0x0, .none, [⟨⟨0, 4⟩, .rw, 0⟩]⟩,
  ⟨0x0100, 4, 0x40, 1, 0x0, .none, [⟨⟨0, 1⟩, .wo, 0⟩, ⟨⟨1, 1⟩, .wo, 0⟩, ⟨⟨2, 1⟩, .ro, 0⟩, ⟨⟨4, 3⟩, .ro, 0⟩]⟩,
  ⟨0x0104, 4, 0x40, 1, 0x0, .lo, [⟨⟨0, 32⟩, .rw, 0⟩]⟩,
  ⟨0x0108, 4, 0x40, 1, 0x0, .hi, [⟨⟨0, 32⟩, .rw, 0⟩]⟩,
  ⟨0x010C, 4, 0x40, 1, 0x0, .none, [⟨⟨0, 32⟩, .rw, 0⟩]⟩,
  ⟨0x0110, 4, 0x40, 1, 0x0, .none, [⟨⟨0, 19⟩, .rwh, 0⟩]⟩,
  ⟨0x0114, 4, 0x40, 1, 0x0, .none, [⟨⟨0, 16⟩, .rwh, 0⟩]⟩,
  ⟨0x0118, 4, 0x40, 1, 0x0, .none, [⟨⟨0, 3⟩, .ro, 0⟩]⟩]

/-- The registers of block STACKS (R347), part 1. -/
def stacksKinds1 : List RegKind := [
  ⟨0x011C, 4, 0x40, 1, 0x0, .lo, [⟨⟨0, 32⟩, .ro, 0⟩]⟩,
  ⟨0x0120, 4, 0x40, 1, 0x0, .hi, [⟨⟨0, 32⟩, .ro, 0⟩]⟩,
  ⟨0x0124, 4, 0x40, 1, 0x0, .none, [⟨⟨0, 32⟩, .ro, 0⟩]⟩]

/-- The registers of block STACKS (R347). -/
def stacksKinds : List RegKind := stacksKinds0 ++ stacksKinds1

/-- The registers of block MEMC (R438). -/
def memcKinds : List RegKind := [
  ⟨0x0000, 1, 0x4, 1, 0x0, .none, [⟨⟨0, 3⟩, .ro, 0⟩, ⟨⟨3, 1⟩, .ro, 0⟩, ⟨⟨4, 1⟩, .ro, 0⟩, ⟨⟨5, 1⟩, .ro, 0⟩]⟩,
  ⟨0x0004, 1, 0x4, 1, 0x0, .none, [⟨⟨0, 2⟩, .rwh, 0⟩]⟩,
  ⟨0x0008, 1, 0x4, 1, 0x0, .none, [⟨⟨0, 1⟩, .rw, 1⟩, ⟨⟨1, 8⟩, .ro, 0⟩, ⟨⟨9, 1⟩, .wo, 0⟩]⟩,
  ⟨0x000C, 1, 0x4, 1, 0x0, .none, [⟨⟨0, 2⟩, .ro, 0⟩, ⟨⟨2, 3⟩, .ro, 0⟩, ⟨⟨5, 4⟩, .ro, 0⟩, ⟨⟨16, 8⟩, .ro, 0⟩, ⟨⟨24, 4⟩, .ro, 0⟩, ⟨⟨28, 1⟩, .ro, 0⟩]⟩,
  ⟨0x0010, 1, 0x4, 1, 0x0, .lo, [⟨⟨0, 32⟩, .ro, 0⟩]⟩,
  ⟨0x0014, 1, 0x4, 1, 0x0, .hi, [⟨⟨0, 2⟩, .ro, 0⟩]⟩,
  ⟨0x0018, 1, 0x4, 1, 0x0, .none, [⟨⟨0, 24⟩, .ro, 0⟩]⟩,
  ⟨0x0020, 5, 0x4, 1, 0x0, .none, [⟨⟨0, 32⟩, .ro, 0⟩]⟩,
  ⟨0x0034, 1, 0x4, 1, 0x0, .none, [⟨⟨0, 5⟩, .wo, 0⟩]⟩,
  ⟨0x0038, 1, 0x4, 1, 0x0, .none, [⟨⟨0, 4⟩, .w1c, 0⟩]⟩,
  ⟨0x003C, 1, 0x4, 1, 0x0, .none, [⟨⟨0, 4⟩, .rw, 0⟩]⟩,
  ⟨0x0100, 8, 0x4, 1, 0x0, .none, [⟨⟨0, 4⟩, .ro, 0⟩, ⟨⟨4, 4⟩, .ro, 0⟩, ⟨⟨8, 8⟩, .ro, 0⟩]⟩]

/-- The registers of block HOST (R404). -/
def hostKinds : List RegKind := [
  ⟨0x0000, 1, 0x4, 1, 0x0, .none, [⟨⟨0, 1⟩, .rwh, 0⟩, ⟨⟨1, 2⟩, .rwh, 0⟩, ⟨⟨3, 1⟩, .rwh, 0⟩, ⟨⟨4, 1⟩, .rwh, 0⟩]⟩,
  ⟨0x0004, 1, 0x4, 1, 0x0, .none, [⟨⟨0, 4⟩, .ro, 0⟩, ⟨⟨4, 4⟩, .ro, 0⟩]⟩,
  ⟨0x0008, 1, 0x4, 1, 0x0, .none, [⟨⟨0, 12⟩, .rwh, 0⟩, ⟨⟨12, 3⟩, .rwh, 0⟩, ⟨⟨15, 1⟩, .rwh, 0⟩]⟩,
  ⟨0x000C, 1, 0x4, 1, 0x0, .none, [⟨⟨0, 8⟩, .w1c, 0⟩]⟩,
  ⟨0x0010, 1, 0x4, 1, 0x0, .none, [⟨⟨0, 8⟩, .rw, 0⟩]⟩,
  ⟨0x0100, 4, 0x40, 1, 0x0, .lo, [⟨⟨0, 32⟩, .rwh, 0⟩]⟩,
  ⟨0x0104, 4, 0x40, 1, 0x0, .hi, [⟨⟨0, 16⟩, .rwh, 0⟩]⟩,
  ⟨0x0108, 4, 0x40, 1, 0x0, .none, [⟨⟨0, 32⟩, .rwh, 0⟩]⟩,
  ⟨0x010C, 4, 0x4, 4, 0x40, .none, [⟨⟨0, 32⟩, .rwh, 0⟩]⟩,
  ⟨0x011C, 4, 0x40, 1, 0x0, .none, [⟨⟨0, 8⟩, .rwh, 64⟩]⟩,
  ⟨0x0120, 6, 0x4, 4, 0x40, .none, [⟨⟨0, 32⟩, .ro, 0⟩]⟩,
  ⟨0x0138, 4, 0x40, 1, 0x0, .none, [⟨⟨0, 6⟩, .wo, 0⟩]⟩]

/-- The registers of block OHT (R405). -/
def ohtKinds : List RegKind := [
  ⟨0x0000, 1, 0x4, 1, 0x0, .none, [⟨⟨0, 1⟩, .rwh, 1⟩, ⟨⟨1, 3⟩, .rws, 0⟩]⟩,
  ⟨0x0004, 1, 0x4, 1, 0x0, .none, [⟨⟨0, 6⟩, .w1c, 0⟩]⟩,
  ⟨0x0008, 1, 0x4, 1, 0x0, .none, [⟨⟨0, 6⟩, .rw, 0x3E⟩]⟩,
  ⟨0x000C, 1, 0x4, 1, 0x0, .none, [⟨⟨0, 4⟩, .rw, 0⟩, ⟨⟨4, 1⟩, .rw, 0⟩, ⟨⟨5, 2⟩, .rw, 0⟩]⟩,
  ⟨0x0010, 4, 0x4, 1, 0x0, .none, [⟨⟨0, 1⟩, .ro, 0⟩, ⟨⟨1, 4⟩, .ro, 0⟩]⟩,
  ⟨0x0020, 8, 0x4, 1, 0x0, .none, [⟨⟨0, 32⟩, .ro, 0⟩]⟩,
  ⟨0x0040, 1, 0x4, 1, 0x0, .none, [⟨⟨0, 8⟩, .wo, 0⟩]⟩,
  ⟨0x0100, 4, 0x10, 1, 0x0, .none, [⟨⟨0, 1⟩, .rws, 0⟩, ⟨⟨1, 2⟩, .rws, 0⟩, ⟨⟨4, 4⟩, .rws, 0⟩, ⟨⟨16, 16⟩, .rws, 0⟩]⟩,
  ⟨0x0104, 4, 0x10, 1, 0x0, .lo, [⟨⟨0, 32⟩, .ro, 0⟩]⟩,
  ⟨0x0108, 4, 0x10, 1, 0x0, .hi, [⟨⟨0, 16⟩, .ro, 0⟩]⟩,
  ⟨0x010C, 4, 0x10, 1, 0x0, .none, [⟨⟨0, 32⟩, .ro, 0⟩]⟩,
  ⟨0x0200, 8, 0x10, 1, 0x0, .none, [⟨⟨0, 2⟩, .rws, 0⟩, ⟨⟨2, 1⟩, .rws, 0⟩, ⟨⟨3, 1⟩, .rws, 0⟩, ⟨⟨4, 2⟩, .rws, 0⟩, ⟨⟨8, 4⟩, .rws, 0⟩]⟩,
  ⟨0x0204, 8, 0x10, 1, 0x0, .none, [⟨⟨0, 32⟩, .ro, 0⟩]⟩,
  ⟨0x0208, 8, 0x10, 1, 0x0, .lo, [⟨⟨0, 32⟩, .ro, 0⟩]⟩,
  ⟨0x020C, 8, 0x10, 1, 0x0, .hi, [⟨⟨0, 32⟩, .ro, 0⟩]⟩,
  ⟨0x0300, 1, 0x4, 1, 0x0, .none, [⟨⟨0, 19⟩, .rws, 0⟩]⟩,
  ⟨0x0304, 1, 0x4, 1, 0x0, .none, [⟨⟨0, 19⟩, .rws, 0⟩]⟩,
  ⟨0x0308, 1, 0x4, 1, 0x0, .none, [⟨⟨0, 2⟩, .rws, 1⟩, ⟨⟨8, 8⟩, .rws, 0⟩]⟩,
  ⟨0x0400, 16, 0x20, 1, 0x0, .none, [⟨⟨0, 32⟩, .rws, 0⟩]⟩,
  ⟨0x0404, 16, 0x20, 1, 0x0, .none, [⟨⟨0, 16⟩, .rws, 0⟩, ⟨⟨16, 1⟩, .rws, 0⟩, ⟨⟨24, 6⟩, .rws, 0⟩]⟩,
  ⟨0x0408, 4, 0x4, 16, 0x20, .none, [⟨⟨0, 32⟩, .rws, 0⟩]⟩,
  ⟨0x0418, 16, 0x20, 1, 0x0, .none, [⟨⟨0, 16⟩, .rws, 0⟩]⟩]

/-- The register kinds of a block. -/
def kindsOf : Blk → List RegKind
  | .sys => sysKinds
  | .pwr => pwrKinds
  | .err => errKinds
  | .evr => evrKinds
  | .twi => twiKinds
  | .pos => posKinds
  | .trg => trgKinds
  | .time => timeKinds
  | .cal => calKinds
  | .red => redKinds
  | .acc => accKinds
  | .prof => profKinds
  | .seg => segKinds
  | .card => cardKinds
  | .dma => dmaKinds
  | .que => queKinds
  | .cam => camKinds
  | .seam => seamKinds
  | .twin => twinKinds
  | .corr => corrKinds
  | .folio => folioKinds
  | .stitch => stitchKinds
  | .stk => stacksKinds
  | .memc => memcKinds
  | .host => hostKinds
  | .oht => ohtKinds

/-- Address of SYS_ID (R540). -/
def Reg.SYS_ID : Nat := 0x000000
/-- Address of SYS_NODE (R540). -/
def Reg.SYS_NODE : Nat := 0x000004
/-- Address of SYS_SRAMPG (R540). -/
def Reg.SYS_SRAMPG : Nat := 0x000008
/-- Address of SYS_BOOT (R540). -/
def Reg.SYS_BOOT : Nat := 0x00000C
/-- Address of SYS_FWVER (R540). -/
def Reg.SYS_FWVER : Nat := 0x000010
/-- Address of SYS_FWMIN (R540). -/
def Reg.SYS_FWMIN : Nat := 0x000014
/-- Address of SYS_UID_LO (R540). -/
def Reg.SYS_UID_LO : Nat := 0x000018
/-- Address of SYS_UID_HI (R540). -/
def Reg.SYS_UID_HI : Nat := 0x00001C
/-- Address of SYS_BOOTCTL (R540). -/
def Reg.SYS_BOOTCTL : Nat := 0x000020
/-- Address of SYS_KEYDIG (R540). -/
def Reg.SYS_KEYDIG (i : Nat) : Nat := 0x000040 + 0x4 * i
/-- Address of PWR_CTRL (R541). -/
def Reg.PWR_CTRL : Nat := 0x010000
/-- Address of PWR_STATUS (R541). -/
def Reg.PWR_STATUS : Nat := 0x010004
/-- Address of PWR_CAUSE (R541). -/
def Reg.PWR_CAUSE : Nat := 0x010008
/-- Address of PWR_TEMP (R541). -/
def Reg.PWR_TEMP : Nat := 0x01000C
/-- Address of PWR_VIN (R541). -/
def Reg.PWR_VIN : Nat := 0x010010
/-- Address of PWR_RAILS (R541). -/
def Reg.PWR_RAILS : Nat := 0x010014
/-- Address of PWR_GATE (R541). -/
def Reg.PWR_GATE : Nat := 0x010018
/-- Address of PWR_TSTART (R541). -/
def Reg.PWR_TSTART : Nat := 0x01001C
/-- Address of PWR_TINSP (R541). -/
def Reg.PWR_TINSP : Nat := 0x010020
/-- Address of ERR_CTRL (R487). -/
def Reg.ERR_CTRL : Nat := 0x020000
/-- Address of ERR_STATUS (R487). -/
def Reg.ERR_STATUS : Nat := 0x020004
/-- Address of ERR_ACK (R487). -/
def Reg.ERR_ACK : Nat := 0x020008
/-- Address of ERR_NEXT (R487). -/
def Reg.ERR_NEXT : Nat := 0x02000C
/-- Address of ERR_OLDEST (R487). -/
def Reg.ERR_OLDEST : Nat := 0x020010
/-- Address of ERR_DROP (R487). -/
def Reg.ERR_DROP : Nat := 0x020014
/-- Address of ERR_OVWR (R487). -/
def Reg.ERR_OVWR : Nat := 0x020018
/-- Address of ERR_CNTCLR (R487). -/
def Reg.ERR_CNTCLR : Nat := 0x02001C
/-- Address of ERR_EVT (R487). -/
def Reg.ERR_EVT : Nat := 0x020020
/-- Address of ERR_EVTEN (R487). -/
def Reg.ERR_EVTEN : Nat := 0x020024
/-- Address of ERR_E0 (R487). -/
def Reg.ERR_E0 (i : Nat) : Nat := 0x020100 + 0x20 * i
/-- Address of ERR_E1 (R487). -/
def Reg.ERR_E1 (i : Nat) : Nat := 0x020104 + 0x20 * i
/-- Address of ERR_E2 (R487). -/
def Reg.ERR_E2 (i : Nat) : Nat := 0x020108 + 0x20 * i
/-- Address of ERR_E3 (R487). -/
def Reg.ERR_E3 (i : Nat) : Nat := 0x02010C + 0x20 * i
/-- Address of ERR_E4 (R487). -/
def Reg.ERR_E4 (i : Nat) : Nat := 0x020110 + 0x20 * i
/-- Address of ERR_E5 (R487). -/
def Reg.ERR_E5 (i : Nat) : Nat := 0x020114 + 0x20 * i
/-- Address of ERR_E6 (R487). -/
def Reg.ERR_E6 (i : Nat) : Nat := 0x020118 + 0x20 * i
/-- Address of ERR_E7 (R487). -/
def Reg.ERR_E7 (i : Nat) : Nat := 0x02011C + 0x20 * i
/-- Address of EVR_FIRE_LO (R450). -/
def Reg.EVR_FIRE_LO : Nat := 0x030000
/-- Address of EVR_FIRE_HI (R450). -/
def Reg.EVR_FIRE_HI : Nat := 0x030004
/-- Address of EVR_ECHO_LO (R450). -/
def Reg.EVR_ECHO_LO : Nat := 0x030008
/-- Address of EVR_ECHO_HI (R450). -/
def Reg.EVR_ECHO_HI : Nat := 0x03000C
/-- Address of EVR_LOCK_LO (R450). -/
def Reg.EVR_LOCK_LO : Nat := 0x030010
/-- Address of EVR_LOCK_HI (R450). -/
def Reg.EVR_LOCK_HI : Nat := 0x030014
/-- Address of EVR_TCLR_LO (R450). -/
def Reg.EVR_TCLR_LO : Nat := 0x030018
/-- Address of EVR_TCLR_HI (R450). -/
def Reg.EVR_TCLR_HI : Nat := 0x03001C
/-- Address of EVR_TDROP (R450). -/
def Reg.EVR_TDROP : Nat := 0x030020
/-- Address of EVR_CNTCLR (R450). -/
def Reg.EVR_CNTCLR : Nat := 0x030024
/-- Address of CH_CFG (R450). -/
def Reg.CH_CFG (i : Nat) : Nat := 0x030100 + 0x20 * i
/-- Address of CH_PROD0 (R450). -/
def Reg.CH_PROD0 (i : Nat) : Nat := 0x030104 + 0x20 * i
/-- Address of CH_PROD1 (R450). -/
def Reg.CH_PROD1 (i : Nat) : Nat := 0x030108 + 0x20 * i
/-- Address of CH_FIRES (R450). -/
def Reg.CH_FIRES (i : Nat) : Nat := 0x03010C + 0x20 * i
/-- Address of CH_MERGE (R450). -/
def Reg.CH_MERGE (i : Nat) : Nat := 0x030110 + 0x20 * i
/-- Address of CH_DEFER (R450). -/
def Reg.CH_DEFER (i : Nat) : Nat := 0x030114 + 0x20 * i
/-- Address of CH_GATED (R450). -/
def Reg.CH_GATED (i : Nat) : Nat := 0x030118 + 0x20 * i
/-- Address of CH_CNTCLR (R450). -/
def Reg.CH_CNTCLR (i : Nat) : Nat := 0x03011C + 0x20 * i
/-- Address of TASK_SEL (R450). -/
def Reg.TASK_SEL (i : Nat) : Nat := 0x030900 + 0x4 * i
/-- Address of TASK_COINC (R450). -/
def Reg.TASK_COINC (i : Nat) : Nat := 0x030A00 + 0x4 * i
/-- Address of EVIN_CFG (R450). -/
def Reg.EVIN_CFG (i : Nat) : Nat := 0x030C00 + 0x4 * i
/-- Address of EVOUT_CFG (R450). -/
def Reg.EVOUT_CFG (i : Nat) : Nat := 0x030C20 + 0x4 * i
/-- Address of TWI_CTRL (R467). -/
def Reg.TWI_CTRL : Nat := 0x040000
/-- Address of TWI_ATTN (R467). -/
def Reg.TWI_ATTN : Nat := 0x040004
/-- Address of TWI_ATTNEN (R467). -/
def Reg.TWI_ATTNEN : Nat := 0x040008
/-- Address of TWI_SUM (R467). -/
def Reg.TWI_SUM : Nat := 0x04000C
/-- Address of TWI_CNT (R467). -/
def Reg.TWI_CNT (i : Nat) : Nat := 0x040020 + 0x4 * i
/-- Address of TWI_CNTCLR (R467). -/
def Reg.TWI_CNTCLR : Nat := 0x040040
/-- Address of POS_CTRL (R118). -/
def Reg.POS_CTRL : Nat := 0x050000
/-- Address of POS_SCALE_NUM (R118). -/
def Reg.POS_SCALE_NUM : Nat := 0x050008
/-- Address of POS_SCALE_DEN (R118). -/
def Reg.POS_SCALE_DEN : Nat := 0x05000C
/-- Address of POS_MDBASE_LO (R118). -/
def Reg.POS_MDBASE_LO : Nat := 0x050010
/-- Address of POS_MDBASE_HI (R118). -/
def Reg.POS_MDBASE_HI : Nat := 0x050014
/-- Address of POS_EVT (R118). -/
def Reg.POS_EVT : Nat := 0x050020
/-- Address of POS_EVTEN (R118). -/
def Reg.POS_EVTEN : Nat := 0x050024
/-- Address of IN_CFG (R119). -/
def Reg.IN_CFG (i : Nat) : Nat := 0x050100 + 0x80 * i
/-- Address of IN_STATUS (R119). -/
def Reg.IN_STATUS (i : Nat) : Nat := 0x050104 + 0x80 * i
/-- Address of IN_CNT_LO (R119). -/
def Reg.IN_CNT_LO (i : Nat) : Nat := 0x050108 + 0x80 * i
/-- Address of IN_CNT_HI (R119). -/
def Reg.IN_CNT_HI (i : Nat) : Nat := 0x05010C + 0x80 * i
/-- Address of IN_SPEED (R119). -/
def Reg.IN_SPEED (i : Nat) : Nat := 0x050110 + 0x80 * i
/-- Address of IN_SOFTLO_LO (R119). -/
def Reg.IN_SOFTLO_LO (i : Nat) : Nat := 0x050118 + 0x80 * i
/-- Address of IN_SOFTLO_HI (R119). -/
def Reg.IN_SOFTLO_HI (i : Nat) : Nat := 0x05011C + 0x80 * i
/-- Address of IN_SOFTHI_LO (R119). -/
def Reg.IN_SOFTHI_LO (i : Nat) : Nat := 0x050120 + 0x80 * i
/-- Address of IN_SOFTHI_HI (R119). -/
def Reg.IN_SOFTHI_HI (i : Nat) : Nat := 0x050124 + 0x80 * i
/-- Address of IN_IDXREF_LO (R119). -/
def Reg.IN_IDXREF_LO (i : Nat) : Nat := 0x050128 + 0x80 * i
/-- Address of IN_IDXREF_HI (R119). -/
def Reg.IN_IDXREF_HI (i : Nat) : Nat := 0x05012C + 0x80 * i
/-- Address of IN_IDXPER (R119). -/
def Reg.IN_IDXPER (i : Nat) : Nat := 0x050130 + 0x80 * i
/-- Address of IN_IDXTOL (R119). -/
def Reg.IN_IDXTOL (i : Nat) : Nat := 0x050134 + 0x80 * i
/-- Address of IN_IDXEXP_LO (R119). -/
def Reg.IN_IDXEXP_LO (i : Nat) : Nat := 0x050138 + 0x80 * i
/-- Address of IN_IDXEXP_HI (R119). -/
def Reg.IN_IDXEXP_HI (i : Nat) : Nat := 0x05013C + 0x80 * i
/-- Address of IN_IDXACT_LO (R119). -/
def Reg.IN_IDXACT_LO (i : Nat) : Nat := 0x050140 + 0x80 * i
/-- Address of IN_IDXACT_HI (R119). -/
def Reg.IN_IDXACT_HI (i : Nat) : Nat := 0x050144 + 0x80 * i
/-- Address of IN_QERR (R119). -/
def Reg.IN_QERR (i : Nat) : Nat := 0x050148 + 0x80 * i
/-- Address of IN_IDXERR (R119). -/
def Reg.IN_IDXERR (i : Nat) : Nat := 0x05014C + 0x80 * i
/-- Address of IN_REVCNT (R119). -/
def Reg.IN_REVCNT (i : Nat) : Nat := 0x050150 + 0x80 * i
/-- Address of IN_SATCNT (R119). -/
def Reg.IN_SATCNT (i : Nat) : Nat := 0x050154 + 0x80 * i
/-- Address of IN_FRAMEERR (R119). -/
def Reg.IN_FRAMEERR (i : Nat) : Nat := 0x050158 + 0x80 * i
/-- Address of IN_TMOCNT (R119). -/
def Reg.IN_TMOCNT (i : Nat) : Nat := 0x05015C + 0x80 * i
/-- Address of IN_CNTCLR (R119). -/
def Reg.IN_CNTCLR (i : Nat) : Nat := 0x050160 + 0x80 * i
/-- Address of SPOS_CFG (R119). -/
def Reg.SPOS_CFG (i : Nat) : Nat := 0x050364 + 0x80 * i
/-- Address of SPOS_TIM (R119). -/
def Reg.SPOS_TIM (i : Nat) : Nat := 0x050368 + 0x80 * i
/-- Address of TRG_CTRL (R120). -/
def Reg.TRG_CTRL : Nat := 0x060000
/-- Address of TRG_PITCH_NUM (R120). -/
def Reg.TRG_PITCH_NUM : Nat := 0x060004
/-- Address of TRG_PITCH_DEN (R120). -/
def Reg.TRG_PITCH_DEN : Nat := 0x060008
/-- Address of TRG_ORIGIN_LO (R120). -/
def Reg.TRG_ORIGIN_LO : Nat := 0x06000C
/-- Address of TRG_ORIGIN_HI (R120). -/
def Reg.TRG_ORIGIN_HI : Nat := 0x060010
/-- Address of TRG_OVERRATE (R120). -/
def Reg.TRG_OVERRATE : Nat := 0x060014
/-- Address of TRG_SKIP (R120). -/
def Reg.TRG_SKIP : Nat := 0x060018
/-- Address of TRG_MERGE (R120). -/
def Reg.TRG_MERGE : Nat := 0x06001C
/-- Address of TRG_CNTCLR (R120). -/
def Reg.TRG_CNTCLR : Nat := 0x060020
/-- Address of TRG_CAMOFS (R120). -/
def Reg.TRG_CAMOFS (i : Nat) : Nat := 0x060100 + 0x10 * i
/-- Address of TRG_CAMCFG (R120). -/
def Reg.TRG_CAMCFG (i : Nat) : Nat := 0x060104 + 0x10 * i
/-- Address of TRG_NEXT_LO (R120). -/
def Reg.TRG_NEXT_LO (i : Nat) : Nat := 0x060108 + 0x10 * i
/-- Address of TRG_NEXT_HI (R120). -/
def Reg.TRG_NEXT_HI (i : Nat) : Nat := 0x06010C + 0x10 * i
/-- Address of TRIG_CFG (R120). -/
def Reg.TRIG_CFG (i : Nat) : Nat := 0x060200 + 0x20 * i
/-- Address of TRIG_WIDTH (R120). -/
def Reg.TRIG_WIDTH (i : Nat) : Nat := 0x060204 + 0x20 * i
/-- Address of TRIG_CMP_LO (R120). -/
def Reg.TRIG_CMP_LO (i : Nat) : Nat := 0x060208 + 0x20 * i
/-- Address of TRIG_CMP_HI (R120). -/
def Reg.TRIG_CMP_HI (i : Nat) : Nat := 0x06020C + 0x20 * i
/-- Address of TRIG_CMPCTL (R120). -/
def Reg.TRIG_CMPCTL (i : Nat) : Nat := 0x060210 + 0x20 * i
/-- Address of TRIG_CMPTS0 (R120). -/
def Reg.TRIG_CMPTS0 (i : Nat) : Nat := 0x060214 + 0x20 * i
/-- Address of TRIG_CMPTS1 (R120). -/
def Reg.TRIG_CMPTS1 (i : Nat) : Nat := 0x060218 + 0x20 * i
/-- Address of TRIG_CMPTS2 (R120). -/
def Reg.TRIG_CMPTS2 (i : Nat) : Nat := 0x06021C + 0x20 * i
/-- Address of TIME_CTRL (R419). -/
def Reg.TIME_CTRL : Nat := 0x070000
/-- Address of TIME_STATUS (R419). -/
def Reg.TIME_STATUS : Nat := 0x070004
/-- Address of TIME_NOW_FRAC (R419). -/
def Reg.TIME_NOW_FRAC : Nat := 0x070008
/-- Address of TIME_NOW_NS (R419). -/
def Reg.TIME_NOW_NS : Nat := 0x07000C
/-- Address of TIME_NOW_SEC_LO (R419). -/
def Reg.TIME_NOW_SEC_LO : Nat := 0x070010
/-- Address of TIME_NOW_SEC_HI (R419). -/
def Reg.TIME_NOW_SEC_HI : Nat := 0x070014
/-- Address of TIME_SET_NS (R419). -/
def Reg.TIME_SET_NS : Nat := 0x070020
/-- Address of TIME_SET_SEC_LO (R419). -/
def Reg.TIME_SET_SEC_LO : Nat := 0x070024
/-- Address of TIME_SET_SEC_HI (R419). -/
def Reg.TIME_SET_SEC_HI : Nat := 0x070028
/-- Address of TIME_STEP_LO (R419). -/
def Reg.TIME_STEP_LO : Nat := 0x07002C
/-- Address of TIME_STEP_HI (R419). -/
def Reg.TIME_STEP_HI : Nat := 0x070030
/-- Address of TIME_CMD (R419). -/
def Reg.TIME_CMD : Nat := 0x070034
/-- Address of TIME_RATE (R419). -/
def Reg.TIME_RATE : Nat := 0x070038
/-- Address of TIME_AORATE (R419). -/
def Reg.TIME_AORATE : Nat := 0x07003C
/-- Address of TIME_SLEWMAX (R419). -/
def Reg.TIME_SLEWMAX : Nat := 0x070040
/-- Address of TIME_LOCK (R419). -/
def Reg.TIME_LOCK : Nat := 0x070044
/-- Address of TIME_OFFSET (R419). -/
def Reg.TIME_OFFSET : Nat := 0x070048
/-- Address of TIME_PATHDLY (R419). -/
def Reg.TIME_PATHDLY : Nat := 0x07004C
/-- Address of TIME_EVT (R419). -/
def Reg.TIME_EVT : Nat := 0x070050
/-- Address of TIME_EVTEN (R419). -/
def Reg.TIME_EVTEN : Nat := 0x070054
/-- Address of TIME_CNT (R419). -/
def Reg.TIME_CNT (i : Nat) : Nat := 0x070060 + 0x4 * i
/-- Address of TIME_CNTCLR (R419). -/
def Reg.TIME_CNTCLR : Nat := 0x07007C
/-- Address of PTP_CTRL (R419). -/
def Reg.PTP_CTRL : Nat := 0x070100
/-- Address of PTP_INTV (R419). -/
def Reg.PTP_INTV : Nat := 0x070104
/-- Address of PTP_PRIO (R419). -/
def Reg.PTP_PRIO : Nat := 0x070108
/-- Address of PTP_VAR (R419). -/
def Reg.PTP_VAR : Nat := 0x07010C
/-- Address of PTP_CLKID_LO (R419). -/
def Reg.PTP_CLKID_LO : Nat := 0x070110
/-- Address of PTP_CLKID_HI (R419). -/
def Reg.PTP_CLKID_HI : Nat := 0x070114
/-- Address of PTP_GMID_LO (R419). -/
def Reg.PTP_GMID_LO : Nat := 0x070118
/-- Address of PTP_GMID_HI (R419). -/
def Reg.PTP_GMID_HI : Nat := 0x07011C
/-- Address of TP_INLAT (R419). -/
def Reg.TP_INLAT (i j : Nat) : Nat := 0x070200 + 0x10 * i + 0x40 * j
/-- Address of TP_EGLAT (R419). -/
def Reg.TP_EGLAT (i j : Nat) : Nat := 0x070204 + 0x10 * i + 0x40 * j
/-- Address of TP_ASYM (R419). -/
def Reg.TP_ASYM (i j : Nat) : Nat := 0x070208 + 0x10 * i + 0x40 * j
/-- Address of SEAMT_CTRL (R419). -/
def Reg.SEAMT_CTRL : Nat := 0x070300
/-- Address of SEAMT_ASYM (R419). -/
def Reg.SEAMT_ASYM : Nat := 0x070304
/-- Address of TC_CTRL (R419). -/
def Reg.TC_CTRL : Nat := 0x070400
/-- Address of CAL_CMD (R144). -/
def Reg.CAL_CMD : Nat := 0x080000
/-- Address of CAL_TGT (R144). -/
def Reg.CAL_TGT : Nat := 0x080004
/-- Address of CAL_STATUS (R144). -/
def Reg.CAL_STATUS : Nat := 0x080008
/-- Address of CAL_TMO (R144). -/
def Reg.CAL_TMO : Nat := 0x08000C
/-- Address of CAL_LIM0 (R144). -/
def Reg.CAL_LIM0 : Nat := 0x080010
/-- Address of CAL_LIM1 (R144). -/
def Reg.CAL_LIM1 : Nat := 0x080014
/-- Address of CAL_LIM2 (R144). -/
def Reg.CAL_LIM2 : Nat := 0x080018
/-- Address of CAL_TRMASK (R144). -/
def Reg.CAL_TRMASK : Nat := 0x08001C
/-- Address of CAL_SEAL (R144). -/
def Reg.CAL_SEAL : Nat := 0x080020
/-- Address of CAL_PASSCNT (R144). -/
def Reg.CAL_PASSCNT : Nat := 0x080024
/-- Address of CAL_FAILCNT (R144). -/
def Reg.CAL_FAILCNT : Nat := 0x080028
/-- Address of CAL_CNTCLR (R144). -/
def Reg.CAL_CNTCLR : Nat := 0x08002C
/-- Address of CAL_IMGCTL (R144). -/
def Reg.CAL_IMGCTL : Nat := 0x080040
/-- Address of CAL_IMGLEN (R144). -/
def Reg.CAL_IMGLEN : Nat := 0x080044
/-- Address of CAL_TRLAT (R144). -/
def Reg.CAL_TRLAT (i : Nat) : Nat := 0x080100 + 0x4 * i
/-- Address of EQ_CTLE (R145). -/
def Reg.EQ_CTLE (i j : Nat) : Nat := 0x081000 + 0x20 * i + 0x80 * j
/-- Address of EQ_DFE (R145). -/
def Reg.EQ_DFE (i j : Nat) : Nat := 0x081004 + 0x20 * i + 0x80 * j
/-- Address of EQ_SLICE (R145). -/
def Reg.EQ_SLICE (i j : Nat) : Nat := 0x081008 + 0x20 * i + 0x80 * j
/-- Address of EQ_EYE (R145). -/
def Reg.EQ_EYE (i j : Nat) : Nat := 0x08100C + 0x20 * i + 0x80 * j
/-- Address of DSK (R145). -/
def Reg.DSK (i j : Nat) : Nat := 0x081010 + 0x20 * i + 0x80 * j
/-- Address of RED_CTRL (R511). -/
def Reg.RED_CTRL : Nat := 0x090000
/-- Address of RED_CFG (R511). -/
def Reg.RED_CFG : Nat := 0x090004
/-- Address of RED_STATUS (R511). -/
def Reg.RED_STATUS : Nat := 0x090008
/-- Address of RED_EPOCH_LO (R511). -/
def Reg.RED_EPOCH_LO : Nat := 0x09000C
/-- Address of RED_EPOCH_HI (R511). -/
def Reg.RED_EPOCH_HI : Nat := 0x090010
/-- Address of RED_SWAP_LO (R511). -/
def Reg.RED_SWAP_LO : Nat := 0x090014
/-- Address of RED_SWAP_HI (R511). -/
def Reg.RED_SWAP_HI : Nat := 0x090018
/-- Address of RED_CNT (R511). -/
def Reg.RED_CNT (i : Nat) : Nat := 0x090020 + 0x4 * i
/-- Address of RED_CNTCLR (R511). -/
def Reg.RED_CNTCLR : Nat := 0x090038
/-- Address of RED_EVT (R511). -/
def Reg.RED_EVT : Nat := 0x090040
/-- Address of ACC_CTRL (R256). -/
def Reg.ACC_CTRL : Nat := 0x0A0000
/-- Address of ACC_STATUS (R256). -/
def Reg.ACC_STATUS : Nat := 0x0A0004
/-- Address of ACC_REASON (R256). -/
def Reg.ACC_REASON : Nat := 0x0A0008
/-- Address of ACC_DETAIL0 (R256). -/
def Reg.ACC_DETAIL0 : Nat := 0x0A000C
/-- Address of ACC_DETAIL1 (R256). -/
def Reg.ACC_DETAIL1 : Nat := 0x0A0010
/-- Address of ACC_SWITCH_LO (R256). -/
def Reg.ACC_SWITCH_LO : Nat := 0x0A0014
/-- Address of ACC_SWITCH_HI (R256). -/
def Reg.ACC_SWITCH_HI : Nat := 0x0A0018
/-- Address of ACC_LIVEDIG (R256). -/
def Reg.ACC_LIVEDIG : Nat := 0x0A001C
/-- Address of ACC_STAGEDDIG (R256). -/
def Reg.ACC_STAGEDDIG : Nat := 0x0A0020
/-- Address of ACC_SHREJ (R256). -/
def Reg.ACC_SHREJ : Nat := 0x0A0024
/-- Address of ACC_CNTCLR (R256). -/
def Reg.ACC_CNTCLR : Nat := 0x0A0028
/-- Address of ACC_BREACH (R256). -/
def Reg.ACC_BREACH : Nat := 0x0A002C
/-- Address of ACC_BRLINE_LO (R256). -/
def Reg.ACC_BRLINE_LO : Nat := 0x0A0030
/-- Address of ACC_BRLINE_HI (R256). -/
def Reg.ACC_BRLINE_HI : Nat := 0x0A0034
/-- Address of ACC_STAGECNT (R256). -/
def Reg.ACC_STAGECNT : Nat := 0x0A0038
/-- Address of ACC_LRMAX (R256). -/
def Reg.ACC_LRMAX : Nat := 0x0A0040
/-- Address of ACC_RET (R256). -/
def Reg.ACC_RET : Nat := 0x0A0044
/-- Address of ACC_CHAIN (R256). -/
def Reg.ACC_CHAIN : Nat := 0x0A0048
/-- Address of ACC_BEW (R256). -/
def Reg.ACC_BEW : Nat := 0x0A004C
/-- Address of ACC_CQRATE (R256). -/
def Reg.ACC_CQRATE (i : Nat) : Nat := 0x0A0050 + 0x4 * i
/-- Address of ACC_CQCROP (R256). -/
def Reg.ACC_CQCROP (i : Nat) : Nat := 0x0A0060 + 0x4 * i
/-- Address of ACC_STREAM (R256). -/
def Reg.ACC_STREAM (i : Nat) : Nat := 0x0A0070 + 0x4 * i
/-- Address of ACC_BIND (R256). -/
def Reg.ACC_BIND (i : Nat) : Nat := 0x0A0090 + 0x4 * i
/-- Address of ACC_REPLAY (R256). -/
def Reg.ACC_REPLAY (i : Nat) : Nat := 0x0A00C0 + 0x4 * i
/-- Address of ACC_BOUND (R256). -/
def Reg.ACC_BOUND (i : Nat) : Nat := 0x0A0100 + 0x4 * i
/-- Address of ACC_SBOUND (R256). -/
def Reg.ACC_SBOUND (i : Nat) : Nat := 0x0A0180 + 0x4 * i
/-- Address of ACC_STAGE (R232). -/
def Reg.ACC_STAGE (i : Nat) : Nat := 0x0A8000 + 0x4 * i
/-- Address of PROF_CTRL (R315). -/
def Reg.PROF_CTRL : Nat := 0x0B0000
/-- Address of PROF_NBINS (R315). -/
def Reg.PROF_NBINS : Nat := 0x0B0004
/-- Address of PROF_FIR (R315). -/
def Reg.PROF_FIR : Nat := 0x0B0008
/-- Address of PROF_RECBINS (R315). -/
def Reg.PROF_RECBINS : Nat := 0x0B000C
/-- Address of PROF_SYNC (R315). -/
def Reg.PROF_SYNC : Nat := 0x0B0010
/-- Address of PROF_SYNCAT_LO (R315). -/
def Reg.PROF_SYNCAT_LO : Nat := 0x0B0014
/-- Address of PROF_SYNCAT_HI (R315). -/
def Reg.PROF_SYNCAT_HI : Nat := 0x0B0018
/-- Address of PROF_SYNCLINE_LO (R315). -/
def Reg.PROF_SYNCLINE_LO : Nat := 0x0B001C
/-- Address of PROF_SYNCLINE_HI (R315). -/
def Reg.PROF_SYNCLINE_HI : Nat := 0x0B0020
/-- Address of PROF_GDH (R315). -/
def Reg.PROF_GDH : Nat := 0x0B0024
/-- Address of PROF_GDREL (R315). -/
def Reg.PROF_GDREL : Nat := 0x0B0028
/-- Address of PROF_SAMPLE_LO (R315). -/
def Reg.PROF_SAMPLE_LO : Nat := 0x0B002C
/-- Address of PROF_SAMPLE_HI (R315). -/
def Reg.PROF_SAMPLE_HI : Nat := 0x0B0030
/-- Address of PROF_CNT (R315). -/
def Reg.PROF_CNT (i : Nat) : Nat := 0x0B0040 + 0x4 * i
/-- Address of PROF_CNTCLR (R315). -/
def Reg.PROF_CNTCLR : Nat := 0x0B0054
/-- Address of PROF_EVT (R315). -/
def Reg.PROF_EVT : Nat := 0x0B0058
/-- Address of PROF_EVTEN (R315). -/
def Reg.PROF_EVTEN : Nat := 0x0B005C
/-- Address of PROF_TCTL (R315). -/
def Reg.PROF_TCTL : Nat := 0x0B0080
/-- Address of PROF_TIDX (R315). -/
def Reg.PROF_TIDX : Nat := 0x0B0084
/-- Address of PROF_TDATA (R315). -/
def Reg.PROF_TDATA : Nat := 0x0B0088
/-- Address of SEG_CTRL (R292). -/
def Reg.SEG_CTRL : Nat := 0x0C0000
/-- Address of SEG_CONTN (R292). -/
def Reg.SEG_CONTN : Nat := 0x0C0004
/-- Address of SEG_COLBASE (R292). -/
def Reg.SEG_COLBASE : Nat := 0x0C0008
/-- Address of SEG_LIVE (R292). -/
def Reg.SEG_LIVE : Nat := 0x0C000C
/-- Address of SEG_PEAK (R292). -/
def Reg.SEG_PEAK : Nat := 0x0C0010
/-- Address of SEG_CNT (R292). -/
def Reg.SEG_CNT (i : Nat) : Nat := 0x0C0020 + 0x4 * i
/-- Address of SEG_CNTCLR (R292). -/
def Reg.SEG_CNTCLR : Nat := 0x0C0040
/-- Address of SEG_EVT (R292). -/
def Reg.SEG_EVT : Nat := 0x0C0048
/-- Address of SEG_EVTEN (R292). -/
def Reg.SEG_EVTEN : Nat := 0x0C004C
/-- Address of CARD_CTRL (R293). -/
def Reg.CARD_CTRL : Nat := 0x0D0000
/-- Address of CARD_LIMITS (R293). -/
def Reg.CARD_LIMITS : Nat := 0x0D0004
/-- Address of CAT_TCTL (R293). -/
def Reg.CAT_TCTL : Nat := 0x0D0010
/-- Address of CAT_TIDX (R293). -/
def Reg.CAT_TIDX : Nat := 0x0D0014
/-- Address of CAT_TDATA (R293). -/
def Reg.CAT_TDATA : Nat := 0x0D0018
/-- Address of CARD_CNT (R293). -/
def Reg.CARD_CNT (i : Nat) : Nat := 0x0D0020 + 0x4 * i
/-- Address of CARD_CNTCLR (R293). -/
def Reg.CARD_CNTCLR : Nat := 0x0D0040
/-- Address of CARD_EVT (R293). -/
def Reg.CARD_EVT : Nat := 0x0D0048
/-- Address of CARD_EVTEN (R293). -/
def Reg.CARD_EVTEN : Nat := 0x0D004C
/-- Address of CARD_BUCKET (R293). -/
def Reg.CARD_BUCKET (i : Nat) : Nat := 0x0D0050 + 0x4 * i
/-- Address of CARD_NEXTSEQ_LO (R293). -/
def Reg.CARD_NEXTSEQ_LO (i : Nat) : Nat := 0x0D0060 + 0x8 * i
/-- Address of CARD_NEXTSEQ_HI (R293). -/
def Reg.CARD_NEXTSEQ_HI (i : Nat) : Nat := 0x0D0064 + 0x8 * i
/-- Address of CARD_ROUTE (R293). -/
def Reg.CARD_ROUTE (i : Nat) : Nat := 0x0D0100 + 0x4 * i
/-- Address of DMA_CTRL (R349). -/
def Reg.DMA_CTRL : Nat := 0x0E0000
/-- Address of DMA_BUF (R349). -/
def Reg.DMA_BUF : Nat := 0x0E0004
/-- Address of DMA_DONE (R349). -/
def Reg.DMA_DONE : Nat := 0x0E0008
/-- Address of DMA_ERR (R349). -/
def Reg.DMA_ERR : Nat := 0x0E000C
/-- Address of DMA_DONEEN (R349). -/
def Reg.DMA_DONEEN : Nat := 0x0E0010
/-- Address of DMA_ERREN (R349). -/
def Reg.DMA_ERREN : Nat := 0x0E0014
/-- Address of DMA_REJ (R349). -/
def Reg.DMA_REJ : Nat := 0x0E0018
/-- Address of DMA_CNTCLR (R349). -/
def Reg.DMA_CNTCLR : Nat := 0x0E001C
/-- Address of CH_CTRL (R349). -/
def Reg.CH_CTRL (i : Nat) : Nat := 0x0E0100 + 0x40 * i
/-- Address of CH_STATUS (R349). -/
def Reg.CH_STATUS (i : Nat) : Nat := 0x0E0104 + 0x40 * i
/-- Address of DSC_OP (R349). -/
def Reg.DSC_OP (i : Nat) : Nat := 0x0E0108 + 0x40 * i
/-- Address of DSC_SRC (R349). -/
def Reg.DSC_SRC (i : Nat) : Nat := 0x0E010C + 0x40 * i
/-- Address of DSC_HI (R349). -/
def Reg.DSC_HI (i : Nat) : Nat := 0x0E0110 + 0x40 * i
/-- Address of DSC_DST (R349). -/
def Reg.DSC_DST (i : Nat) : Nat := 0x0E0114 + 0x40 * i
/-- Address of DSC_LEN (R349). -/
def Reg.DSC_LEN (i : Nat) : Nat := 0x0E0118 + 0x40 * i
/-- Address of DSC_ROWS (R349). -/
def Reg.DSC_ROWS (i : Nat) : Nat := 0x0E011C + 0x40 * i
/-- Address of DSC_SSTRIDE (R349). -/
def Reg.DSC_SSTRIDE (i : Nat) : Nat := 0x0E0120 + 0x40 * i
/-- Address of DSC_DSTRIDE (R349). -/
def Reg.DSC_DSTRIDE (i : Nat) : Nat := 0x0E0124 + 0x40 * i
/-- Address of DSC_NEXT (R349). -/
def Reg.DSC_NEXT (i : Nat) : Nat := 0x0E0128 + 0x40 * i
/-- Address of DSC_FILL (R349). -/
def Reg.DSC_FILL (i : Nat) : Nat := 0x0E012C + 0x40 * i
/-- Address of CH_DONEB (R349). -/
def Reg.CH_DONEB (i : Nat) : Nat := 0x0E0130 + 0x40 * i
/-- Address of CH_MISS (R349). -/
def Reg.CH_MISS (i : Nat) : Nat := 0x0E0134 + 0x40 * i
/-- Address of CH_CURDESC (R349). -/
def Reg.CH_CURDESC (i : Nat) : Nat := 0x0E0138 + 0x40 * i
/-- Address of QUE_HIEVT_LO (R366). -/
def Reg.QUE_HIEVT_LO : Nat := 0x0F0000
/-- Address of QUE_HIEVT_HI (R366). -/
def Reg.QUE_HIEVT_HI : Nat := 0x0F0004
/-- Address of QUE_LOEVT_LO (R366). -/
def Reg.QUE_LOEVT_LO : Nat := 0x0F0008
/-- Address of QUE_LOEVT_HI (R366). -/
def Reg.QUE_LOEVT_HI : Nat := 0x0F000C
/-- Address of QUE_HIEN_LO (R366). -/
def Reg.QUE_HIEN_LO : Nat := 0x0F0010
/-- Address of QUE_HIEN_HI (R366). -/
def Reg.QUE_HIEN_HI : Nat := 0x0F0014
/-- Address of QUE_LOEN_LO (R366). -/
def Reg.QUE_LOEN_LO : Nat := 0x0F0018
/-- Address of QUE_LOEN_HI (R366). -/
def Reg.QUE_LOEN_HI : Nat := 0x0F001C
/-- Address of Q_CFG (R366). -/
def Reg.Q_CFG (i : Nat) : Nat := 0x0F0100 + 0x40 * i
/-- Address of Q_BASE (R366). -/
def Reg.Q_BASE (i : Nat) : Nat := 0x0F0104 + 0x40 * i
/-- Address of QA_CFG (R366). -/
def Reg.QA_CFG (i : Nat) : Nat := 0x0F0D00 + 0x40 * i
/-- Address of QA_BASE (R366). -/
def Reg.QA_BASE (i : Nat) : Nat := 0x0F0D04 + 0x40 * i
/-- Address of QP_CFG (R366). -/
def Reg.QP_CFG (i : Nat) : Nat := 0x0F0FC0 + 0x40 * i
/-- Address of Q_WPTR (R366). -/
def Reg.Q_WPTR (i : Nat) : Nat := 0x0F0108 + 0x40 * i
/-- Address of Q_RPTR (R366). -/
def Reg.Q_RPTR (i : Nat) : Nat := 0x0F010C + 0x40 * i
/-- Address of Q_FPTR (R366). -/
def Reg.Q_FPTR (i : Nat) : Nat := 0x0F0110 + 0x40 * i
/-- Address of Q_BMPTR (R366). -/
def Reg.Q_BMPTR (i : Nat) : Nat := 0x0F0114 + 0x40 * i
/-- Address of Q_STATUS (R366). -/
def Reg.Q_STATUS (i : Nat) : Nat := 0x0F0118 + 0x40 * i
/-- Address of Q_OCC (R366). -/
def Reg.Q_OCC (i : Nat) : Nat := 0x0F011C + 0x40 * i
/-- Address of Q_PEAK (R366). -/
def Reg.Q_PEAK (i : Nat) : Nat := 0x0F0120 + 0x40 * i
/-- Address of Q_HIWM (R366). -/
def Reg.Q_HIWM (i : Nat) : Nat := 0x0F0124 + 0x40 * i
/-- Address of Q_LOWM (R366). -/
def Reg.Q_LOWM (i : Nat) : Nat := 0x0F0128 + 0x40 * i
/-- Address of Q_CMD (R366). -/
def Reg.Q_CMD (i : Nat) : Nat := 0x0F012C + 0x40 * i
/-- Address of Q_RDATA (R366). -/
def Reg.Q_RDATA (i : Nat) : Nat := 0x0F0130 + 0x40 * i
/-- Address of Q_WDATA (R366). -/
def Reg.Q_WDATA (i : Nat) : Nat := 0x0F0134 + 0x40 * i
/-- Address of Q_RLEN (R366). -/
def Reg.Q_RLEN (i : Nat) : Nat := 0x0F0138 + 0x40 * i
/-- Address of Q_DROP (R366). -/
def Reg.Q_DROP (i : Nat) : Nat := 0x0F013C + 0x40 * i
/-- Address of PQ_RELKEY_LO (R367). -/
def Reg.PQ_RELKEY_LO (i : Nat) : Nat := 0x0F2000 + 0x20 * i
/-- Address of PQ_RELKEY_HI (R367). -/
def Reg.PQ_RELKEY_HI (i : Nat) : Nat := 0x0F2004 + 0x20 * i
/-- Address of PQ_RELEASE_LO (R367). -/
def Reg.PQ_RELEASE_LO (i : Nat) : Nat := 0x0F2008 + 0x20 * i
/-- Address of PQ_RELEASE_HI (R367). -/
def Reg.PQ_RELEASE_HI (i : Nat) : Nat := 0x0F200C + 0x20 * i
/-- Address of PQ_HEADKEY_LO (R367). -/
def Reg.PQ_HEADKEY_LO (i : Nat) : Nat := 0x0F2010 + 0x20 * i
/-- Address of PQ_HEADKEY_HI (R367). -/
def Reg.PQ_HEADKEY_HI (i : Nat) : Nat := 0x0F2014 + 0x20 * i
/-- Address of PQ_REWINDS (R367). -/
def Reg.PQ_REWINDS (i : Nat) : Nat := 0x0F2018 + 0x20 * i
/-- Address of PQ_BEYOND (R367). -/
def Reg.PQ_BEYOND (i : Nat) : Nat := 0x0F201C + 0x20 * i
/-- Address of CAM_CTRL (R92). -/
def Reg.CAM_CTRL (m : Nat) : Nat := 0x100000 + 0x10000 * m
/-- Address of CAM_WIDTH (R92). -/
def Reg.CAM_WIDTH (m : Nat) : Nat := 0x100004 + 0x10000 * m
/-- Address of CAM_FILL (R92). -/
def Reg.CAM_FILL (m : Nat) : Nat := 0x100008 + 0x10000 * m
/-- Address of CAM_STATE (R92). -/
def Reg.CAM_STATE (m : Nat) : Nat := 0x10000C + 0x10000 * m
/-- Address of CAM_RTT (R92). -/
def Reg.CAM_RTT (m : Nat) : Nat := 0x100010 + 0x10000 * m
/-- Address of CAM_TSEQ (R92). -/
def Reg.CAM_TSEQ (m : Nat) : Nat := 0x100014 + 0x10000 * m
/-- Address of CAM_CNT (R92). -/
def Reg.CAM_CNT (m i : Nat) : Nat := 0x100020 + 0x10000 * m + 0x4 * i
/-- Address of CAM_CNTCLR (R92). -/
def Reg.CAM_CNTCLR (m : Nat) : Nat := 0x100038 + 0x10000 * m
/-- Address of CAM_EVT (R92). -/
def Reg.CAM_EVT (m : Nat) : Nat := 0x100040 + 0x10000 * m
/-- Address of CAM_EVTEN (R92). -/
def Reg.CAM_EVTEN (m : Nat) : Nat := 0x100044 + 0x10000 * m
/-- Address of CAM_ID0 (R92). -/
def Reg.CAM_ID0 (m : Nat) : Nat := 0x100050 + 0x10000 * m
/-- Address of CAM_ID1 (R92). -/
def Reg.CAM_ID1 (m : Nat) : Nat := 0x100054 + 0x10000 * m
/-- Address of CAM_ID2 (R92). -/
def Reg.CAM_ID2 (m : Nat) : Nat := 0x100058 + 0x10000 * m
/-- Address of CAM_CAPS0 (R92). -/
def Reg.CAM_CAPS0 (m : Nat) : Nat := 0x10005C + 0x10000 * m
/-- Address of CAM_CAPS1 (R92). -/
def Reg.CAM_CAPS1 (m : Nat) : Nat := 0x100060 + 0x10000 * m
/-- Address of CAM_CAPS2 (R92). -/
def Reg.CAM_CAPS2 (m : Nat) : Nat := 0x100064 + 0x10000 * m
/-- Address of CREG_ADDR (R92). -/
def Reg.CREG_ADDR (m : Nat) : Nat := 0x100070 + 0x10000 * m
/-- Address of CREG_WDATA (R92). -/
def Reg.CREG_WDATA (m : Nat) : Nat := 0x100074 + 0x10000 * m
/-- Address of CREG_RDATA (R92). -/
def Reg.CREG_RDATA (m : Nat) : Nat := 0x100078 + 0x10000 * m
/-- Address of CREG_CTRL (R92). -/
def Reg.CREG_CTRL (m : Nat) : Nat := 0x10007C + 0x10000 * m
/-- Address of LANE_CTRL (R93). -/
def Reg.LANE_CTRL (m i : Nat) : Nat := 0x100100 + 0x10000 * m + 0x20 * i
/-- Address of LANE_SHERR (R93). -/
def Reg.LANE_SHERR (m i : Nat) : Nat := 0x100104 + 0x10000 * m + 0x20 * i
/-- Address of LANE_LOCKLOSS (R93). -/
def Reg.LANE_LOCKLOSS (m i : Nat) : Nat := 0x100108 + 0x10000 * m + 0x20 * i
/-- Address of LANE_PRBSERR (R93). -/
def Reg.LANE_PRBSERR (m i : Nat) : Nat := 0x10010C + 0x10000 * m + 0x20 * i
/-- Address of LANE_CLR (R93). -/
def Reg.LANE_CLR (m i : Nat) : Nat := 0x100110 + 0x10000 * m + 0x20 * i
/-- Address of LANE_BIP (R93). -/
def Reg.LANE_BIP (m i : Nat) : Nat := 0x100114 + 0x10000 * m + 0x20 * i
/-- Address of SEAM_CTRL (R171). -/
def Reg.SEAM_CTRL (m : Nat) : Nat := 0x1C0000 + 0x10000 * m
/-- Address of SEAM_XCFG (R171). -/
def Reg.SEAM_XCFG (m : Nat) : Nat := 0x1C0004 + 0x10000 * m
/-- Address of SEAM_XSTART (R171). -/
def Reg.SEAM_XSTART (m : Nat) : Nat := 0x1C0008 + 0x10000 * m
/-- Address of SEAM_STATE (R171). -/
def Reg.SEAM_STATE (m : Nat) : Nat := 0x1C000C + 0x10000 * m
/-- Address of SEAM_RTT (R171). -/
def Reg.SEAM_RTT (m : Nat) : Nat := 0x1C0010 + 0x10000 * m
/-- Address of SEAM_PEER (R171). -/
def Reg.SEAM_PEER (m : Nat) : Nat := 0x1C0014 + 0x10000 * m
/-- Address of SEAM_PEERDIG (R171). -/
def Reg.SEAM_PEERDIG (m : Nat) : Nat := 0x1C0018 + 0x10000 * m
/-- Address of SEAM_SEGMAX (R171). -/
def Reg.SEAM_SEGMAX (m : Nat) : Nat := 0x1C001C + 0x10000 * m
/-- Address of SEAM_CNT (R171). -/
def Reg.SEAM_CNT (m i : Nat) : Nat := 0x1C0020 + 0x10000 * m + 0x4 * i
/-- Address of SEAM_CNTCLR (R171). -/
def Reg.SEAM_CNTCLR (m : Nat) : Nat := 0x1C0034 + 0x10000 * m
/-- Address of SEAM_EVT (R171). -/
def Reg.SEAM_EVT (m : Nat) : Nat := 0x1C0040 + 0x10000 * m
/-- Address of SEAM_EVTEN (R171). -/
def Reg.SEAM_EVTEN (m : Nat) : Nat := 0x1C0044 + 0x10000 * m
/-- Address of SLANE_CTRL (R93). -/
def Reg.SLANE_CTRL (m i : Nat) : Nat := 0x1C0100 + 0x10000 * m + 0x20 * i
/-- Address of SLANE_SHERR (R93). -/
def Reg.SLANE_SHERR (m i : Nat) : Nat := 0x1C0104 + 0x10000 * m + 0x20 * i
/-- Address of SLANE_LOCKLOSS (R93). -/
def Reg.SLANE_LOCKLOSS (m i : Nat) : Nat := 0x1C0108 + 0x10000 * m + 0x20 * i
/-- Address of SLANE_PRBSERR (R93). -/
def Reg.SLANE_PRBSERR (m i : Nat) : Nat := 0x1C010C + 0x10000 * m + 0x20 * i
/-- Address of SLANE_CLR (R93). -/
def Reg.SLANE_CLR (m i : Nat) : Nat := 0x1C0110 + 0x10000 * m + 0x20 * i
/-- Address of SLANE_BIP (R93). -/
def Reg.SLANE_BIP (m i : Nat) : Nat := 0x1C0114 + 0x10000 * m + 0x20 * i
/-- Address of TWIN_CTRL (R512). -/
def Reg.TWIN_CTRL : Nat := 0x1E0000
/-- Address of TWIN_STATE (R512). -/
def Reg.TWIN_STATE : Nat := 0x1E000C
/-- Address of TWIN_RTT (R512). -/
def Reg.TWIN_RTT : Nat := 0x1E0010
/-- Address of TWIN_PEER (R512). -/
def Reg.TWIN_PEER : Nat := 0x1E0014
/-- Address of TWIN_CNT (R512). -/
def Reg.TWIN_CNT (i : Nat) : Nat := 0x1E0020 + 0x4 * i
/-- Address of TWIN_CNTCLR (R512). -/
def Reg.TWIN_CNTCLR : Nat := 0x1E0034
/-- Address of TWIN_EVT (R512). -/
def Reg.TWIN_EVT : Nat := 0x1E0040
/-- Address of TWIN_EVTEN (R512). -/
def Reg.TWIN_EVTEN : Nat := 0x1E0044
/-- Address of TLANE_CTRL (R93). -/
def Reg.TLANE_CTRL (i : Nat) : Nat := 0x1E0100 + 0x20 * i
/-- Address of TLANE_SHERR (R93). -/
def Reg.TLANE_SHERR (i : Nat) : Nat := 0x1E0104 + 0x20 * i
/-- Address of TLANE_LOCKLOSS (R93). -/
def Reg.TLANE_LOCKLOSS (i : Nat) : Nat := 0x1E0108 + 0x20 * i
/-- Address of TLANE_PRBSERR (R93). -/
def Reg.TLANE_PRBSERR (i : Nat) : Nat := 0x1E010C + 0x20 * i
/-- Address of TLANE_CLR (R93). -/
def Reg.TLANE_CLR (i : Nat) : Nat := 0x1E0110 + 0x20 * i
/-- Address of TLANE_BIP (R93). -/
def Reg.TLANE_BIP (i : Nat) : Nat := 0x1E0114 + 0x20 * i
/-- Address of CORR_CTRL (R146). -/
def Reg.CORR_CTRL (m : Nat) : Nat := 0x200000 + 0x10000 * m
/-- Address of CORR_STATUS (R146). -/
def Reg.CORR_STATUS (m : Nat) : Nat := 0x200004 + 0x10000 * m
/-- Address of CORR_HOLINE_LO (R146). -/
def Reg.CORR_HOLINE_LO (m : Nat) : Nat := 0x200008 + 0x10000 * m
/-- Address of CORR_HOLINE_HI (R146). -/
def Reg.CORR_HOLINE_HI (m : Nat) : Nat := 0x20000C + 0x10000 * m
/-- Address of CORR_TCTL (R146). -/
def Reg.CORR_TCTL (m : Nat) : Nat := 0x200010 + 0x10000 * m
/-- Address of CORR_TIDX (R146). -/
def Reg.CORR_TIDX (m : Nat) : Nat := 0x200014 + 0x10000 * m
/-- Address of CORR_TDATA (R146). -/
def Reg.CORR_TDATA (m : Nat) : Nat := 0x200018 + 0x10000 * m
/-- Address of CORR_BPVAL (R146). -/
def Reg.CORR_BPVAL (m : Nat) : Nat := 0x20001C + 0x10000 * m
/-- Address of CORR_TWREJ (R146). -/
def Reg.CORR_TWREJ (m : Nat) : Nat := 0x200020 + 0x10000 * m
/-- Address of CORR_BPFAIL (R146). -/
def Reg.CORR_BPFAIL (m : Nat) : Nat := 0x200024 + 0x10000 * m
/-- Address of CORR_SATCNT (R146). -/
def Reg.CORR_SATCNT (m : Nat) : Nat := 0x200028 + 0x10000 * m
/-- Address of CORR_CNTCLR (R146). -/
def Reg.CORR_CNTCLR (m : Nat) : Nat := 0x20002C + 0x10000 * m
/-- Address of FOLIO_LEN0 (R201). -/
def Reg.FOLIO_LEN0 (m : Nat) : Nat := 0x200100 + 0x10000 * m
/-- Address of FOLIO_LEN1 (R201). -/
def Reg.FOLIO_LEN1 (m : Nat) : Nat := 0x200104 + 0x10000 * m
/-- Address of FOLIO_GEOM (R201). -/
def Reg.FOLIO_GEOM (m : Nat) : Nat := 0x200108 + 0x10000 * m
/-- Address of FOLIO_STATUS (R201). -/
def Reg.FOLIO_STATUS (m : Nat) : Nat := 0x20010C + 0x10000 * m
/-- Address of FOLIO_CYC (R201). -/
def Reg.FOLIO_CYC (m : Nat) : Nat := 0x200110 + 0x10000 * m
/-- Address of FOLIO_FEND (R201). -/
def Reg.FOLIO_FEND (m : Nat) : Nat := 0x200114 + 0x10000 * m
/-- Address of FOLIO_MEMREJ (R201). -/
def Reg.FOLIO_MEMREJ (m : Nat) : Nat := 0x200118 + 0x10000 * m
/-- Address of FOLIO_PLNERR (R201). -/
def Reg.FOLIO_PLNERR (m : Nat) : Nat := 0x20011C + 0x10000 * m
/-- Address of FOLIO_CNTCLR (R201). -/
def Reg.FOLIO_CNTCLR (m : Nat) : Nat := 0x200120 + 0x10000 * m
/-- Address of FOLIO_PARAM (R201). -/
def Reg.FOLIO_PARAM (m i : Nat) : Nat := 0x200140 + 0x10000 * m + 0x4 * i
/-- Address of FOLIO_SINIT (R201). -/
def Reg.FOLIO_SINIT (m i : Nat) : Nat := 0x200180 + 0x10000 * m + 0x4 * i
/-- Address of FOLIO_SNAPLINE_LO (R201). -/
def Reg.FOLIO_SNAPLINE_LO (m : Nat) : Nat := 0x2001C0 + 0x10000 * m
/-- Address of FOLIO_SNAPLINE_HI (R201). -/
def Reg.FOLIO_SNAPLINE_HI (m : Nat) : Nat := 0x2001C4 + 0x10000 * m
/-- Address of FOLIO_SNAP (R201). -/
def Reg.FOLIO_SNAP (m i : Nat) : Nat := 0x200200 + 0x10000 * m + 0x4 * i
/-- Address of STITCH_CTRL (R170). -/
def Reg.STITCH_CTRL : Nat := 0x300000
/-- Address of STITCH_WIDTH (R170). -/
def Reg.STITCH_WIDTH : Nat := 0x300004
/-- Address of STITCH_REFOFS (R170). -/
def Reg.STITCH_REFOFS : Nat := 0x300008
/-- Address of STITCH_FILL (R170). -/
def Reg.STITCH_FILL : Nat := 0x30000C
/-- Address of CD_ORIGIN (R170). -/
def Reg.CD_ORIGIN : Nat := 0x300010
/-- Address of CD_PITCH (R170). -/
def Reg.CD_PITCH : Nat := 0x300014
/-- Address of CD_DIR (R170). -/
def Reg.CD_DIR : Nat := 0x300018
/-- Address of STITCH_MISS (R170). -/
def Reg.STITCH_MISS : Nat := 0x300020
/-- Address of STITCH_BADREF (R170). -/
def Reg.STITCH_BADREF : Nat := 0x300024
/-- Address of STITCH_CLAMP (R170). -/
def Reg.STITCH_CLAMP : Nat := 0x300028
/-- Address of STITCH_TWREJ (R170). -/
def Reg.STITCH_TWREJ : Nat := 0x30002C
/-- Address of STITCH_CNTCLR (R170). -/
def Reg.STITCH_CNTCLR : Nat := 0x300030
/-- Address of TERR_START (R170). -/
def Reg.TERR_START (i : Nat) : Nat := 0x300100 + 0x8 * i
/-- Address of TERR_LEN (R170). -/
def Reg.TERR_LEN (i : Nat) : Nat := 0x300104 + 0x8 * i
/-- Address of STITCH_MDDLY (R170). -/
def Reg.STITCH_MDDLY (i : Nat) : Nat := 0x300200 + 0x4 * i
/-- Address of STITCH_DDBASE_LO (R170). -/
def Reg.STITCH_DDBASE_LO (i : Nat) : Nat := 0x300240 + 0x8 * i
/-- Address of STITCH_DDBASE_HI (R170). -/
def Reg.STITCH_DDBASE_HI (i : Nat) : Nat := 0x300244 + 0x8 * i
/-- Address of BND_START (R170). -/
def Reg.BND_START (i : Nat) : Nat := 0x300300 + 0x8 * i
/-- Address of BND_CFG (R170). -/
def Reg.BND_CFG (i : Nat) : Nat := 0x300304 + 0x8 * i
/-- Address of RMP_TCTL (R170). -/
def Reg.RMP_TCTL : Nat := 0x300400
/-- Address of RMP_TIDX (R170). -/
def Reg.RMP_TIDX : Nat := 0x300404
/-- Address of RMP_TDATA (R170). -/
def Reg.RMP_TDATA : Nat := 0x300408
/-- Address of RMP_AT_LO (R170). -/
def Reg.RMP_AT_LO : Nat := 0x30040C
/-- Address of RMP_AT_HI (R170). -/
def Reg.RMP_AT_HI : Nat := 0x300410
/-- Address of STACKS_CTRL (R347). -/
def Reg.STACKS_CTRL : Nat := 0x310000
/-- Address of STACKS_NROWS (R347). -/
def Reg.STACKS_NROWS : Nat := 0x310004
/-- Address of STACKS_BASE_LO (R347). -/
def Reg.STACKS_BASE_LO : Nat := 0x310008
/-- Address of STACKS_BASE_HI (R347). -/
def Reg.STACKS_BASE_HI : Nat := 0x31000C
/-- Address of STACKS_STRIDE (R347). -/
def Reg.STACKS_STRIDE : Nat := 0x310010
/-- Address of STACKS_HEADROW_LO (R347). -/
def Reg.STACKS_HEADROW_LO : Nat := 0x310014
/-- Address of STACKS_HEADROW_HI (R347). -/
def Reg.STACKS_HEADROW_HI : Nat := 0x310018
/-- Address of STACKS_HEADLINE_LO (R347). -/
def Reg.STACKS_HEADLINE_LO : Nat := 0x31001C
/-- Address of STACKS_HEADLINE_HI (R347). -/
def Reg.STACKS_HEADLINE_HI : Nat := 0x310020
/-- Address of STACKS_OLDROW_LO (R347). -/
def Reg.STACKS_OLDROW_LO : Nat := 0x310024
/-- Address of STACKS_OLDROW_HI (R347). -/
def Reg.STACKS_OLDROW_HI : Nat := 0x310028
/-- Address of STACKS_CSBASE_LO (R347). -/
def Reg.STACKS_CSBASE_LO : Nat := 0x31002C
/-- Address of STACKS_CSBASE_HI (R347). -/
def Reg.STACKS_CSBASE_HI : Nat := 0x310030
/-- Address of STACKS_CNT (R347). -/
def Reg.STACKS_CNT (i : Nat) : Nat := 0x310040 + 0x4 * i
/-- Address of STACKS_CNTCLR (R347). -/
def Reg.STACKS_CNTCLR : Nat := 0x310058
/-- Address of STACKS_EVT (R347). -/
def Reg.STACKS_EVT : Nat := 0x310060
/-- Address of STACKS_EVTEN (R347). -/
def Reg.STACKS_EVTEN : Nat := 0x310064
/-- Address of RP_CTRL (R348). -/
def Reg.RP_CTRL (i : Nat) : Nat := 0x310100 + 0x40 * i
/-- Address of RP_FIRST_LO (R348). -/
def Reg.RP_FIRST_LO (i : Nat) : Nat := 0x310104 + 0x40 * i
/-- Address of RP_FIRST_HI (R348). -/
def Reg.RP_FIRST_HI (i : Nat) : Nat := 0x310108 + 0x40 * i
/-- Address of RP_COUNT (R348). -/
def Reg.RP_COUNT (i : Nat) : Nat := 0x31010C + 0x40 * i
/-- Address of RP_TSTART (R348). -/
def Reg.RP_TSTART (i : Nat) : Nat := 0x310110 + 0x40 * i
/-- Address of RP_TLEN (R348). -/
def Reg.RP_TLEN (i : Nat) : Nat := 0x310114 + 0x40 * i
/-- Address of RP_HALO (R348). -/
def Reg.RP_HALO (i : Nat) : Nat := 0x310118 + 0x40 * i
/-- Address of RP_ROW_LO (R348). -/
def Reg.RP_ROW_LO (i : Nat) : Nat := 0x31011C + 0x40 * i
/-- Address of RP_ROW_HI (R348). -/
def Reg.RP_ROW_HI (i : Nat) : Nat := 0x310120 + 0x40 * i
/-- Address of RP_TICK (R348). -/
def Reg.RP_TICK (i : Nat) : Nat := 0x310124 + 0x40 * i
/-- Address of MEMC_STATUS (R438). -/
def Reg.MEMC_STATUS : Nat := 0x320000
/-- Address of MEMC_FREQ (R438). -/
def Reg.MEMC_FREQ : Nat := 0x320004
/-- Address of MEMC_TRAIN (R438). -/
def Reg.MEMC_TRAIN : Nat := 0x320008
/-- Address of MEMC_ERRINFO (R438). -/
def Reg.MEMC_ERRINFO : Nat := 0x32000C
/-- Address of MEMC_ERRADDR_LO (R438). -/
def Reg.MEMC_ERRADDR_LO : Nat := 0x320010
/-- Address of MEMC_ERRADDR_HI (R438). -/
def Reg.MEMC_ERRADDR_HI : Nat := 0x320014
/-- Address of MEMC_WBPEAK (R438). -/
def Reg.MEMC_WBPEAK : Nat := 0x320018
/-- Address of MEMC_CNT (R438). -/
def Reg.MEMC_CNT (i : Nat) : Nat := 0x320020 + 0x4 * i
/-- Address of MEMC_CNTCLR (R438). -/
def Reg.MEMC_CNTCLR : Nat := 0x320034
/-- Address of MEMC_EVT (R438). -/
def Reg.MEMC_EVT : Nat := 0x320038
/-- Address of MEMC_EVTEN (R438). -/
def Reg.MEMC_EVTEN : Nat := 0x32003C
/-- Address of MEMC_CHST (R438). -/
def Reg.MEMC_CHST (i : Nat) : Nat := 0x320100 + 0x4 * i
/-- Address of HOST_CTRL (R404). -/
def Reg.HOST_CTRL (m : Nat) : Nat := 0x330000 + 0x10000 * m
/-- Address of HOST_STATUS (R404). -/
def Reg.HOST_STATUS (m : Nat) : Nat := 0x330004 + 0x10000 * m
/-- Address of HOST_VLAN (R404). -/
def Reg.HOST_VLAN (m : Nat) : Nat := 0x330008 + 0x10000 * m
/-- Address of HOST_EVT (R404). -/
def Reg.HOST_EVT (m : Nat) : Nat := 0x33000C + 0x10000 * m
/-- Address of HOST_EVTEN (R404). -/
def Reg.HOST_EVTEN (m : Nat) : Nat := 0x330010 + 0x10000 * m
/-- Address of SP_MAC_LO (R404). -/
def Reg.SP_MAC_LO (m i : Nat) : Nat := 0x330100 + 0x10000 * m + 0x40 * i
/-- Address of SP_MAC_HI (R404). -/
def Reg.SP_MAC_HI (m i : Nat) : Nat := 0x330104 + 0x10000 * m + 0x40 * i
/-- Address of SP_IPV4 (R404). -/
def Reg.SP_IPV4 (m i : Nat) : Nat := 0x330108 + 0x10000 * m + 0x40 * i
/-- Address of SP_IPV6 (R404). -/
def Reg.SP_IPV6 (m i j : Nat) : Nat := 0x33010C + 0x10000 * m + 0x4 * i + 0x40 * j
/-- Address of SP_HOP (R404). -/
def Reg.SP_HOP (m i : Nat) : Nat := 0x33011C + 0x10000 * m + 0x40 * i
/-- Address of SP_CNT (R404). -/
def Reg.SP_CNT (m i j : Nat) : Nat := 0x330120 + 0x10000 * m + 0x4 * i + 0x40 * j
/-- Address of SP_CNTCLR (R404). -/
def Reg.SP_CNTCLR (m i : Nat) : Nat := 0x330138 + 0x10000 * m + 0x40 * i
/-- Address of OHT_CTRL (R405). -/
def Reg.OHT_CTRL : Nat := 0x350000
/-- Address of OHT_ATTN (R405). -/
def Reg.OHT_ATTN : Nat := 0x350004
/-- Address of OHT_ATTNEN (R405). -/
def Reg.OHT_ATTNEN : Nat := 0x350008
/-- Address of OHT_NOTEDST (R405). -/
def Reg.OHT_NOTEDST : Nat := 0x35000C
/-- Address of OHT_SESS (R405). -/
def Reg.OHT_SESS (i : Nat) : Nat := 0x350010 + 0x4 * i
/-- Address of OHT_CNT (R405). -/
def Reg.OHT_CNT (i : Nat) : Nat := 0x350020 + 0x4 * i
/-- Address of OHT_CNTCLR (R405). -/
def Reg.OHT_CNTCLR : Nat := 0x350040
/-- Address of CQ_CFG (R405). -/
def Reg.CQ_CFG (i : Nat) : Nat := 0x350100 + 0x10 * i
/-- Address of CQ_LAST_LO (R405). -/
def Reg.CQ_LAST_LO (i : Nat) : Nat := 0x350104 + 0x10 * i
/-- Address of CQ_LAST_HI (R405). -/
def Reg.CQ_LAST_HI (i : Nat) : Nat := 0x350108 + 0x10 * i
/-- Address of CQ_DGRAMS (R405). -/
def Reg.CQ_DGRAMS (i : Nat) : Nat := 0x35010C + 0x10 * i
/-- Address of STR_CFG (R405). -/
def Reg.STR_CFG (i : Nat) : Nat := 0x350200 + 0x10 * i
/-- Address of STR_SEQ (R405). -/
def Reg.STR_SEQ (i : Nat) : Nat := 0x350204 + 0x10 * i
/-- Address of STR_REC_LO (R405). -/
def Reg.STR_REC_LO (i : Nat) : Nat := 0x350208 + 0x10 * i
/-- Address of STR_REC_HI (R405). -/
def Reg.STR_REC_HI (i : Nat) : Nat := 0x35020C + 0x10 * i
/-- Address of RLY_COL0 (R405). -/
def Reg.RLY_COL0 : Nat := 0x350300
/-- Address of RLY_NCOL (R405). -/
def Reg.RLY_NCOL : Nat := 0x350304
/-- Address of RLY_CFG (R405). -/
def Reg.RLY_CFG : Nat := 0x350308
/-- Address of DST_MAC0 (R405). -/
def Reg.DST_MAC0 (i : Nat) : Nat := 0x350400 + 0x20 * i
/-- Address of DST_MAC1 (R405). -/
def Reg.DST_MAC1 (i : Nat) : Nat := 0x350404 + 0x20 * i
/-- Address of DST_IP (R405). -/
def Reg.DST_IP (i j : Nat) : Nat := 0x350408 + 0x4 * i + 0x20 * j
/-- Address of DST_UDP (R405). -/
def Reg.DST_UDP (i : Nat) : Nat := 0x350418 + 0x20 * i

/-- Field PART of SYS_ID (R540). -/
def Fld.SYS_ID_PART : Bits := ⟨0, 16⟩
/-- Field STEPPING of SYS_ID (R540). -/
def Fld.SYS_ID_STEPPING : Bits := ⟨16, 8⟩
/-- Field FAMILY of SYS_ID (R540). -/
def Fld.SYS_ID_FAMILY : Bits := ⟨24, 8⟩
/-- Field NODE_ID of SYS_NODE (R540). -/
def Fld.SYS_NODE_NODE_ID : Bits := ⟨0, 14⟩
/-- Field NLOCK of SYS_NODE (R540). -/
def Fld.SYS_NODE_NLOCK : Bits := ⟨16, 1⟩
/-- Field PAGE of SYS_SRAMPG (R540). -/
def Fld.SYS_SRAMPG_PAGE : Bits := ⟨0, 3⟩
/-- Field STRAP of SYS_BOOT (R540). -/
def Fld.SYS_BOOT_STRAP : Bits := ⟨0, 2⟩
/-- Field SLOT of SYS_BOOT (R540). -/
def Fld.SYS_BOOT_SLOT : Bits := ⟨2, 2⟩
/-- Field WARM of SYS_BOOT (R540). -/
def Fld.SYS_BOOT_WARM : Bits := ⟨4, 1⟩
/-- Field V of SYS_FWVER (R540). -/
def Fld.SYS_FWVER_V : Bits := ⟨0, 32⟩
/-- Field V of SYS_FWMIN (R540). -/
def Fld.SYS_FWMIN_V : Bits := ⟨0, 32⟩
/-- Field V of SYS_UID_LO (R540). -/
def Fld.SYS_UID_LO_V : Bits := ⟨0, 32⟩
/-- Field V of SYS_UID_HI (R540). -/
def Fld.SYS_UID_HI_V : Bits := ⟨0, 32⟩
/-- Field GO of SYS_BOOTCTL (R540). -/
def Fld.SYS_BOOTCTL_GO : Bits := ⟨0, 1⟩
/-- Field V of SYS_KEYDIG (R540). -/
def Fld.SYS_KEYDIG_V : Bits := ⟨0, 32⟩
/-- Field REQ of PWR_CTRL (R541). -/
def Fld.PWR_CTRL_REQ : Bits := ⟨0, 3⟩
/-- Field FORCE of PWR_CTRL (R541). -/
def Fld.PWR_CTRL_FORCE : Bits := ⟨3, 1⟩
/-- Field RETAIN of PWR_CTRL (R541). -/
def Fld.PWR_CTRL_RETAIN : Bits := ⟨4, 1⟩
/-- Field CLRFAIL of PWR_CTRL (R541). -/
def Fld.PWR_CTRL_CLRFAIL : Bits := ⟨5, 1⟩
/-- Field STATE of PWR_STATUS (R541). -/
def Fld.PWR_STATUS_STATE : Bits := ⟨0, 3⟩
/-- Field BUSY of PWR_STATUS (R541). -/
def Fld.PWR_STATUS_BUSY : Bits := ⟨3, 1⟩
/-- Field TARGET of PWR_STATUS (R541). -/
def Fld.PWR_STATUS_TARGET : Bits := ⟨4, 3⟩
/-- Field WAITTRIG of PWR_STATUS (R541). -/
def Fld.PWR_STATUS_WAITTRIG : Bits := ⟨7, 1⟩
/-- Field REQRES of PWR_STATUS (R541). -/
def Fld.PWR_STATUS_REQRES : Bits := ⟨8, 4⟩
/-- Field STARTRES of PWR_STATUS (R541). -/
def Fld.PWR_STATUS_STARTRES : Bits := ⟨12, 4⟩
/-- Field FAILS of PWR_STATUS (R541). -/
def Fld.PWR_STATUS_FAILS : Bits := ⟨16, 2⟩
/-- Field REFCLKLOST of PWR_CAUSE (R541). -/
def Fld.PWR_CAUSE_REFCLKLOST : Bits := ⟨0, 1⟩
/-- Field PLLUNLOCK of PWR_CAUSE (R541). -/
def Fld.PWR_CAUSE_PLLUNLOCK : Bits := ⟨1, 1⟩
/-- Field AOCLKLOST of PWR_CAUSE (R541). -/
def Fld.PWR_CAUSE_AOCLKLOST : Bits := ⟨2, 1⟩
/-- Field AOFALLBACK of PWR_CAUSE (R541). -/
def Fld.PWR_CAUSE_AOFALLBACK : Bits := ⟨3, 1⟩
/-- Field STARTFAIL of PWR_CAUSE (R541). -/
def Fld.PWR_CAUSE_STARTFAIL : Bits := ⟨4, 1⟩
/-- Field FORCED of PWR_CAUSE (R541). -/
def Fld.PWR_CAUSE_FORCED : Bits := ⟨5, 1⟩
/-- Field TJ of PWR_TEMP (R541). -/
def Fld.PWR_TEMP_TJ : Bits := ⟨0, 8⟩
/-- Field TALERT of PWR_TEMP (R541). -/
def Fld.PWR_TEMP_TALERT : Bits := ⟨8, 8⟩
/-- Field TJPEAK of PWR_TEMP (R541). -/
def Fld.PWR_TEMP_TJPEAK : Bits := ⟨16, 8⟩
/-- Field VIN of PWR_VIN (R541). -/
def Fld.PWR_VIN_VIN : Bits := ⟨0, 16⟩
/-- Field POWER of PWR_VIN (R541). -/
def Fld.PWR_VIN_POWER : Bits := ⟨16, 16⟩
/-- Field RAILS of PWR_RAILS (R541). -/
def Fld.PWR_RAILS_RAILS : Bits := ⟨0, 7⟩
/-- Field PIPE of PWR_GATE (R541). -/
def Fld.PWR_GATE_PIPE : Bits := ⟨0, 16⟩
/-- Field STITCH of PWR_GATE (R541). -/
def Fld.PWR_GATE_STITCH : Bits := ⟨16, 1⟩
/-- Field SEG of PWR_GATE (R541). -/
def Fld.PWR_GATE_SEG : Bits := ⟨17, 1⟩
/-- Field PROF of PWR_GATE (R541). -/
def Fld.PWR_GATE_PROF : Bits := ⟨18, 1⟩
/-- Field V of PWR_TSTART (R541). -/
def Fld.PWR_TSTART_V : Bits := ⟨0, 32⟩
/-- Field V of PWR_TINSP (R541). -/
def Fld.PWR_TINSP_V : Bits := ⟨0, 32⟩
/-- Field RESTART of ERR_CTRL (R487). -/
def Fld.ERR_CTRL_RESTART : Bits := ⟨0, 1⟩
/-- Field DISCARD of ERR_CTRL (R487). -/
def Fld.ERR_CTRL_DISCARD : Bits := ⟨1, 1⟩
/-- Field RSTRES of ERR_CTRL (R487). -/
def Fld.ERR_CTRL_RSTRES : Bits := ⟨4, 3⟩
/-- Field COUNT of ERR_STATUS (R487). -/
def Fld.ERR_STATUS_COUNT : Bits := ⟨0, 6⟩
/-- Field WORST of ERR_STATUS (R487). -/
def Fld.ERR_STATUS_WORST : Bits := ⟨8, 2⟩
/-- Field HALTING of ERR_STATUS (R487). -/
def Fld.ERR_STATUS_HALTING : Bits := ⟨10, 1⟩
/-- Field FROZEN of ERR_STATUS (R487). -/
def Fld.ERR_STATUS_FROZEN : Bits := ⟨11, 1⟩
/-- Field FROMINSP of ERR_STATUS (R487). -/
def Fld.ERR_STATUS_FROMINSP : Bits := ⟨12, 1⟩
/-- Field V of ERR_ACK (R487). -/
def Fld.ERR_ACK_V : Bits := ⟨0, 32⟩
/-- Field V of ERR_NEXT (R487). -/
def Fld.ERR_NEXT_V : Bits := ⟨0, 32⟩
/-- Field SLOT of ERR_OLDEST (R487). -/
def Fld.ERR_OLDEST_SLOT : Bits := ⟨0, 5⟩
/-- Field V of ERR_DROP (R487). -/
def Fld.ERR_DROP_V : Bits := ⟨0, 32⟩
/-- Field V of ERR_OVWR (R487). -/
def Fld.ERR_OVWR_V : Bits := ⟨0, 32⟩
/-- Field CLR of ERR_CNTCLR (R487). -/
def Fld.ERR_CNTCLR_CLR : Bits := ⟨0, 2⟩
/-- Field EVT of ERR_EVT (R487). -/
def Fld.ERR_EVT_EVT : Bits := ⟨0, 4⟩
/-- Field EN of ERR_EVTEN (R487). -/
def Fld.ERR_EVTEN_EN : Bits := ⟨0, 4⟩
/-- Field CODE of ERR_E0 (R487). -/
def Fld.ERR_E0_CODE : Bits := ⟨0, 16⟩
/-- Field CLASS of ERR_E0 (R487). -/
def Fld.ERR_E0_CLASS : Bits := ⟨16, 2⟩
/-- Field NEST of ERR_E0 (R487). -/
def Fld.ERR_E0_NEST : Bits := ⟨18, 1⟩
/-- Field VALID of ERR_E0 (R487). -/
def Fld.ERR_E0_VALID : Bits := ⟨19, 1⟩
/-- Field SOURCE of ERR_E0 (R487). -/
def Fld.ERR_E0_SOURCE : Bits := ⟨24, 8⟩
/-- Field DETAIL of ERR_E1 (R487). -/
def Fld.ERR_E1_DETAIL : Bits := ⟨0, 32⟩
/-- Field NS of ERR_E2 (R487). -/
def Fld.ERR_E2_NS : Bits := ⟨0, 32⟩
/-- Field SEC of ERR_E3 (R487). -/
def Fld.ERR_E3_SEC : Bits := ⟨0, 32⟩
/-- Field SECH of ERR_E4 (R487). -/
def Fld.ERR_E4_SECH : Bits := ⟨0, 16⟩
/-- Field REPEAT of ERR_E4 (R487). -/
def Fld.ERR_E4_REPEAT : Bits := ⟨16, 16⟩
/-- Field MD of ERR_E5 (R487). -/
def Fld.ERR_E5_MD : Bits := ⟨0, 32⟩
/-- Field MDH of ERR_E6 (R487). -/
def Fld.ERR_E6_MDH : Bits := ⟨0, 32⟩
/-- Field SERIAL of ERR_E7 (R487). -/
def Fld.ERR_E7_SERIAL : Bits := ⟨0, 32⟩
/-- Field V of EVR_FIRE_LO (R450). -/
def Fld.EVR_FIRE_LO_V : Bits := ⟨0, 32⟩
/-- Field V of EVR_FIRE_HI (R450). -/
def Fld.EVR_FIRE_HI_V : Bits := ⟨0, 32⟩
/-- Field V of EVR_ECHO_LO (R450). -/
def Fld.EVR_ECHO_LO_V : Bits := ⟨0, 32⟩
/-- Field V of EVR_ECHO_HI (R450). -/
def Fld.EVR_ECHO_HI_V : Bits := ⟨0, 32⟩
/-- Field V of EVR_LOCK_LO (R450). -/
def Fld.EVR_LOCK_LO_V : Bits := ⟨0, 32⟩
/-- Field V of EVR_LOCK_HI (R450). -/
def Fld.EVR_LOCK_HI_V : Bits := ⟨0, 32⟩
/-- Field V of EVR_TCLR_LO (R450). -/
def Fld.EVR_TCLR_LO_V : Bits := ⟨0, 32⟩
/-- Field V of EVR_TCLR_HI (R450). -/
def Fld.EVR_TCLR_HI_V : Bits := ⟨0, 32⟩
/-- Field V of EVR_TDROP (R450). -/
def Fld.EVR_TDROP_V : Bits := ⟨0, 32⟩
/-- Field CLR of EVR_CNTCLR (R450). -/
def Fld.EVR_CNTCLR_CLR : Bits := ⟨0, 1⟩
/-- Field EN of CH_CFG (R450). -/
def Fld.CH_CFG_EN : Bits := ⟨0, 1⟩
/-- Field MODE of CH_CFG (R450). -/
def Fld.CH_CFG_MODE : Bits := ⟨1, 1⟩
/-- Field LOCK of CH_CFG (R450). -/
def Fld.CH_CFG_LOCK : Bits := ⟨2, 1⟩
/-- Field SWGATE of CH_CFG (R450). -/
def Fld.CH_CFG_SWGATE : Bits := ⟨3, 1⟩
/-- Field GSEL of CH_CFG (R450). -/
def Fld.CH_CFG_GSEL : Bits := ⟨8, 8⟩
/-- Field SPACE of CH_CFG (R450). -/
def Fld.CH_CFG_SPACE : Bits := ⟨16, 10⟩
/-- Field P0 of CH_PROD0 (R450). -/
def Fld.CH_PROD0_P0 : Bits := ⟨0, 8⟩
/-- Field P1 of CH_PROD0 (R450). -/
def Fld.CH_PROD0_P1 : Bits := ⟨8, 8⟩
/-- Field P2 of CH_PROD0 (R450). -/
def Fld.CH_PROD0_P2 : Bits := ⟨16, 8⟩
/-- Field P3 of CH_PROD0 (R450). -/
def Fld.CH_PROD0_P3 : Bits := ⟨24, 8⟩
/-- Field P4 of CH_PROD1 (R450). -/
def Fld.CH_PROD1_P4 : Bits := ⟨0, 8⟩
/-- Field P5 of CH_PROD1 (R450). -/
def Fld.CH_PROD1_P5 : Bits := ⟨8, 8⟩
/-- Field P6 of CH_PROD1 (R450). -/
def Fld.CH_PROD1_P6 : Bits := ⟨16, 8⟩
/-- Field P7 of CH_PROD1 (R450). -/
def Fld.CH_PROD1_P7 : Bits := ⟨24, 8⟩
/-- Field V of CH_FIRES (R450). -/
def Fld.CH_FIRES_V : Bits := ⟨0, 32⟩
/-- Field V of CH_MERGE (R450). -/
def Fld.CH_MERGE_V : Bits := ⟨0, 32⟩
/-- Field V of CH_DEFER (R450). -/
def Fld.CH_DEFER_V : Bits := ⟨0, 32⟩
/-- Field V of CH_GATED (R450). -/
def Fld.CH_GATED_V : Bits := ⟨0, 32⟩
/-- Field CLR of CH_CNTCLR (R450). -/
def Fld.CH_CNTCLR_CLR : Bits := ⟨0, 4⟩
/-- Field CHAN of TASK_SEL (R450). -/
def Fld.TASK_SEL_CHAN : Bits := ⟨0, 6⟩
/-- Field EN of TASK_SEL (R450). -/
def Fld.TASK_SEL_EN : Bits := ⟨6, 1⟩
/-- Field V of TASK_COINC (R450). -/
def Fld.TASK_COINC_V : Bits := ⟨0, 32⟩
/-- Field EDGE of EVIN_CFG (R450). -/
def Fld.EVIN_CFG_EDGE : Bits := ⟨0, 2⟩
/-- Field LEVEL of EVIN_CFG (R450). -/
def Fld.EVIN_CFG_LEVEL : Bits := ⟨2, 1⟩
/-- Field MODE of EVOUT_CFG (R450). -/
def Fld.EVOUT_CFG_MODE : Bits := ⟨0, 1⟩
/-- Field POL of EVOUT_CFG (R450). -/
def Fld.EVOUT_CFG_POL : Bits := ⟨1, 1⟩
/-- Field STATE of EVOUT_CFG (R450). -/
def Fld.EVOUT_CFG_STATE : Bits := ⟨2, 1⟩
/-- Field WIDTH of EVOUT_CFG (R450). -/
def Fld.EVOUT_CFG_WIDTH : Bits := ⟨16, 16⟩
/-- Field IBREN of TWI_CTRL (R467). -/
def Fld.TWI_CTRL_IBREN : Bits := ⟨0, 1⟩
/-- Field PEC of TWI_CTRL (R467). -/
def Fld.TWI_CTRL_PEC : Bits := ⟨1, 1⟩
/-- Field ADDR of TWI_CTRL (R467). -/
def Fld.TWI_CTRL_ADDR : Bits := ⟨4, 3⟩
/-- Field DUE of TWI_CTRL (R467). -/
def Fld.TWI_CTRL_DUE : Bits := ⟨7, 1⟩
/-- Field ATTN of TWI_ATTN (R467). -/
def Fld.TWI_ATTN_ATTN : Bits := ⟨0, 7⟩
/-- Field EN of TWI_ATTNEN (R467). -/
def Fld.TWI_ATTNEN_EN : Bits := ⟨0, 7⟩
/-- Field STATE of TWI_SUM (R467). -/
def Fld.TWI_SUM_STATE : Bits := ⟨0, 3⟩
/-- Field ROLE of TWI_SUM (R467). -/
def Fld.TWI_SUM_ROLE : Bits := ⟨3, 1⟩
/-- Field HBRUN of TWI_SUM (R467). -/
def Fld.TWI_SUM_HBRUN : Bits := ⟨4, 1⟩
/-- Field HOSTRDY of TWI_SUM (R467). -/
def Fld.TWI_SUM_HOSTRDY : Bits := ⟨5, 1⟩
/-- Field TEMPALERT of TWI_SUM (R467). -/
def Fld.TWI_SUM_TEMPALERT : Bits := ⟨6, 1⟩
/-- Field LINKUP of TWI_SUM (R467). -/
def Fld.TWI_SUM_LINKUP : Bits := ⟨7, 1⟩
/-- Field BOOT of TWI_SUM (R467). -/
def Fld.TWI_SUM_BOOT : Bits := ⟨8, 2⟩
/-- Field NERR of TWI_SUM (R467). -/
def Fld.TWI_SUM_NERR : Bits := ⟨16, 8⟩
/-- Field TJ of TWI_SUM (R467). -/
def Fld.TWI_SUM_TJ : Bits := ⟨24, 8⟩
/-- Field V of TWI_CNT (R467). -/
def Fld.TWI_CNT_V : Bits := ⟨0, 32⟩
/-- Field CLR of TWI_CNTCLR (R467). -/
def Fld.TWI_CNTCLR_CLR : Bits := ⟨0, 8⟩
/-- Field SRC of POS_CTRL (R118). -/
def Fld.POS_CTRL_SRC : Bits := ⟨0, 3⟩
/-- Field INEN of POS_CTRL (R118). -/
def Fld.POS_CTRL_INEN : Bits := ⟨8, 6⟩
/-- Field V of POS_SCALE_NUM (R118). -/
def Fld.POS_SCALE_NUM_V : Bits := ⟨0, 32⟩
/-- Field V of POS_SCALE_DEN (R118). -/
def Fld.POS_SCALE_DEN_V : Bits := ⟨0, 32⟩
/-- Field V of POS_MDBASE_LO (R118). -/
def Fld.POS_MDBASE_LO_V : Bits := ⟨0, 32⟩
/-- Field V of POS_MDBASE_HI (R118). -/
def Fld.POS_MDBASE_HI_V : Bits := ⟨0, 32⟩
/-- Field EVT of POS_EVT (R118). -/
def Fld.POS_EVT_EVT : Bits := ⟨0, 7⟩
/-- Field EN of POS_EVTEN (R118). -/
def Fld.POS_EVTEN_EN : Bits := ⟨0, 7⟩
/-- Field INVDIR of IN_CFG (R119). -/
def Fld.IN_CFG_INVDIR : Bits := ⟨0, 1⟩
/-- Field ZPOL of IN_CFG (R119). -/
def Fld.IN_CFG_ZPOL : Bits := ⟨1, 1⟩
/-- Field IDXPOL of IN_CFG (R119). -/
def Fld.IN_CFG_IDXPOL : Bits := ⟨2, 2⟩
/-- Field HOME of IN_CFG (R119). -/
def Fld.IN_CFG_HOME : Bits := ⟨4, 1⟩
/-- Field SPDAVG of IN_CFG (R119). -/
def Fld.IN_CFG_SPDAVG : Bits := ⟨8, 2⟩
/-- Field STALL of IN_CFG (R119). -/
def Fld.IN_CFG_STALL : Bits := ⟨16, 16⟩
/-- Field DIR of IN_STATUS (R119). -/
def Fld.IN_STATUS_DIR : Bits := ⟨0, 1⟩
/-- Field SPDVALID of IN_STATUS (R119). -/
def Fld.IN_STATUS_SPDVALID : Bits := ⟨1, 1⟩
/-- Field SATHI of IN_STATUS (R119). -/
def Fld.IN_STATUS_SATHI : Bits := ⟨2, 1⟩
/-- Field SATLO of IN_STATUS (R119). -/
def Fld.IN_STATUS_SATLO : Bits := ⟨3, 1⟩
/-- Field V of IN_CNT_LO (R119). -/
def Fld.IN_CNT_LO_V : Bits := ⟨0, 32⟩
/-- Field V of IN_CNT_HI (R119). -/
def Fld.IN_CNT_HI_V : Bits := ⟨0, 32⟩
/-- Field V of IN_SPEED (R119). -/
def Fld.IN_SPEED_V : Bits := ⟨0, 32⟩
/-- Field V of IN_SOFTLO_LO (R119). -/
def Fld.IN_SOFTLO_LO_V : Bits := ⟨0, 32⟩
/-- Field V of IN_SOFTLO_HI (R119). -/
def Fld.IN_SOFTLO_HI_V : Bits := ⟨0, 32⟩
/-- Field V of IN_SOFTHI_LO (R119). -/
def Fld.IN_SOFTHI_LO_V : Bits := ⟨0, 32⟩
/-- Field V of IN_SOFTHI_HI (R119). -/
def Fld.IN_SOFTHI_HI_V : Bits := ⟨0, 32⟩
/-- Field V of IN_IDXREF_LO (R119). -/
def Fld.IN_IDXREF_LO_V : Bits := ⟨0, 32⟩
/-- Field V of IN_IDXREF_HI (R119). -/
def Fld.IN_IDXREF_HI_V : Bits := ⟨0, 32⟩
/-- Field V of IN_IDXPER (R119). -/
def Fld.IN_IDXPER_V : Bits := ⟨0, 32⟩
/-- Field TOL of IN_IDXTOL (R119). -/
def Fld.IN_IDXTOL_TOL : Bits := ⟨0, 16⟩
/-- Field V of IN_IDXEXP_LO (R119). -/
def Fld.IN_IDXEXP_LO_V : Bits := ⟨0, 32⟩
/-- Field V of IN_IDXEXP_HI (R119). -/
def Fld.IN_IDXEXP_HI_V : Bits := ⟨0, 32⟩
/-- Field V of IN_IDXACT_LO (R119). -/
def Fld.IN_IDXACT_LO_V : Bits := ⟨0, 32⟩
/-- Field V of IN_IDXACT_HI (R119). -/
def Fld.IN_IDXACT_HI_V : Bits := ⟨0, 32⟩
/-- Field V of IN_QERR (R119). -/
def Fld.IN_QERR_V : Bits := ⟨0, 32⟩
/-- Field V of IN_IDXERR (R119). -/
def Fld.IN_IDXERR_V : Bits := ⟨0, 32⟩
/-- Field V of IN_REVCNT (R119). -/
def Fld.IN_REVCNT_V : Bits := ⟨0, 32⟩
/-- Field V of IN_SATCNT (R119). -/
def Fld.IN_SATCNT_V : Bits := ⟨0, 32⟩
/-- Field V of IN_FRAMEERR (R119). -/
def Fld.IN_FRAMEERR_V : Bits := ⟨0, 32⟩
/-- Field V of IN_TMOCNT (R119). -/
def Fld.IN_TMOCNT_V : Bits := ⟨0, 32⟩
/-- Field CLR of IN_CNTCLR (R119). -/
def Fld.IN_CNTCLR_CLR : Bits := ⟨0, 6⟩
/-- Field LEN of SPOS_CFG (R119). -/
def Fld.SPOS_CFG_LEN : Bits := ⟨0, 6⟩
/-- Field POSBITS of SPOS_CFG (R119). -/
def Fld.SPOS_CFG_POSBITS : Bits := ⟨8, 6⟩
/-- Field ERR_EN of SPOS_CFG (R119). -/
def Fld.SPOS_CFG_ERR_EN : Bits := ⟨16, 1⟩
/-- Field ERR_POL of SPOS_CFG (R119). -/
def Fld.SPOS_CFG_ERR_POL : Bits := ⟨17, 1⟩
/-- Field CRC of SPOS_CFG (R119). -/
def Fld.SPOS_CFG_CRC : Bits := ⟨18, 2⟩
/-- Field LATCH of SPOS_CFG (R119). -/
def Fld.SPOS_CFG_LATCH : Bits := ⟨20, 4⟩
/-- Field POLL of SPOS_TIM (R119). -/
def Fld.SPOS_TIM_POLL : Bits := ⟨0, 16⟩
/-- Field TMO of SPOS_TIM (R119). -/
def Fld.SPOS_TIM_TMO : Bits := ⟨16, 8⟩
/-- Field CDLY of SPOS_TIM (R119). -/
def Fld.SPOS_TIM_CDLY : Bits := ⟨24, 8⟩
/-- Field EN of TRG_CTRL (R120). -/
def Fld.TRG_CTRL_EN : Bits := ⟨0, 1⟩
/-- Field REVMODE of TRG_CTRL (R120). -/
def Fld.TRG_CTRL_REVMODE : Bits := ⟨1, 1⟩
/-- Field ROLEGATE of TRG_CTRL (R120). -/
def Fld.TRG_CTRL_ROLEGATE : Bits := ⟨2, 1⟩
/-- Field V of TRG_PITCH_NUM (R120). -/
def Fld.TRG_PITCH_NUM_V : Bits := ⟨0, 32⟩
/-- Field V of TRG_PITCH_DEN (R120). -/
def Fld.TRG_PITCH_DEN_V : Bits := ⟨0, 32⟩
/-- Field V of TRG_ORIGIN_LO (R120). -/
def Fld.TRG_ORIGIN_LO_V : Bits := ⟨0, 32⟩
/-- Field V of TRG_ORIGIN_HI (R120). -/
def Fld.TRG_ORIGIN_HI_V : Bits := ⟨0, 32⟩
/-- Field V of TRG_OVERRATE (R120). -/
def Fld.TRG_OVERRATE_V : Bits := ⟨0, 32⟩
/-- Field V of TRG_SKIP (R120). -/
def Fld.TRG_SKIP_V : Bits := ⟨0, 32⟩
/-- Field V of TRG_MERGE (R120). -/
def Fld.TRG_MERGE_V : Bits := ⟨0, 32⟩
/-- Field CLR of TRG_CNTCLR (R120). -/
def Fld.TRG_CNTCLR_CLR : Bits := ⟨0, 3⟩
/-- Field V of TRG_CAMOFS (R120). -/
def Fld.TRG_CAMOFS_V : Bits := ⟨0, 32⟩
/-- Field EN of TRG_CAMCFG (R120). -/
def Fld.TRG_CAMCFG_EN : Bits := ⟨0, 1⟩
/-- Field PH of TRG_CAMCFG (R120). -/
def Fld.TRG_CAMCFG_PH : Bits := ⟨1, 2⟩
/-- Field V of TRG_NEXT_LO (R120). -/
def Fld.TRG_NEXT_LO_V : Bits := ⟨0, 32⟩
/-- Field V of TRG_NEXT_HI (R120). -/
def Fld.TRG_NEXT_HI_V : Bits := ⟨0, 32⟩
/-- Field MODE of TRIG_CFG (R120). -/
def Fld.TRIG_CFG_MODE : Bits := ⟨0, 2⟩
/-- Field CAM of TRIG_CFG (R120). -/
def Fld.TRIG_CFG_CAM : Bits := ⟨4, 4⟩
/-- Field PHMASK of TRIG_CFG (R120). -/
def Fld.TRIG_CFG_PHMASK : Bits := ⟨8, 4⟩
/-- Field POL of TRIG_CFG (R120). -/
def Fld.TRIG_CFG_POL : Bits := ⟨12, 1⟩
/-- Field DIRSEL of TRIG_CFG (R120). -/
def Fld.TRIG_CFG_DIRSEL : Bits := ⟨13, 1⟩
/-- Field TRIM of TRIG_CFG (R120). -/
def Fld.TRIG_CFG_TRIM : Bits := ⟨16, 6⟩
/-- Field WIDTH of TRIG_WIDTH (R120). -/
def Fld.TRIG_WIDTH_WIDTH : Bits := ⟨0, 16⟩
/-- Field V of TRIG_CMP_LO (R120). -/
def Fld.TRIG_CMP_LO_V : Bits := ⟨0, 32⟩
/-- Field V of TRIG_CMP_HI (R120). -/
def Fld.TRIG_CMP_HI_V : Bits := ⟨0, 32⟩
/-- Field ARM of TRIG_CMPCTL (R120). -/
def Fld.TRIG_CMPCTL_ARM : Bits := ⟨0, 1⟩
/-- Field ARMED of TRIG_CMPCTL (R120). -/
def Fld.TRIG_CMPCTL_ARMED : Bits := ⟨1, 1⟩
/-- Field FIRED of TRIG_CMPCTL (R120). -/
def Fld.TRIG_CMPCTL_FIRED : Bits := ⟨2, 1⟩
/-- Field V of TRIG_CMPTS0 (R120). -/
def Fld.TRIG_CMPTS0_V : Bits := ⟨0, 32⟩
/-- Field V of TRIG_CMPTS1 (R120). -/
def Fld.TRIG_CMPTS1_V : Bits := ⟨0, 32⟩
/-- Field V of TRIG_CMPTS2 (R120). -/
def Fld.TRIG_CMPTS2_V : Bits := ⟨0, 16⟩
/-- Field SRC of TIME_CTRL (R419). -/
def Fld.TIME_CTRL_SRC : Bits := ⟨0, 2⟩
/-- Field STATE of TIME_STATUS (R419). -/
def Fld.TIME_STATUS_STATE : Bits := ⟨0, 2⟩
/-- Field PORTST of TIME_STATUS (R419). -/
def Fld.TIME_STATUS_PORTST : Bits := ⟨4, 4⟩
/-- Field UTCVALID of TIME_STATUS (R419). -/
def Fld.TIME_STATUS_UTCVALID : Bits := ⟨8, 1⟩
/-- Field UTCOFS of TIME_STATUS (R419). -/
def Fld.TIME_STATUS_UTCOFS : Bits := ⟨16, 16⟩
/-- Field V of TIME_NOW_FRAC (R419). -/
def Fld.TIME_NOW_FRAC_V : Bits := ⟨0, 16⟩
/-- Field V of TIME_NOW_NS (R419). -/
def Fld.TIME_NOW_NS_V : Bits := ⟨0, 32⟩
/-- Field V of TIME_NOW_SEC_LO (R419). -/
def Fld.TIME_NOW_SEC_LO_V : Bits := ⟨0, 32⟩
/-- Field V of TIME_NOW_SEC_HI (R419). -/
def Fld.TIME_NOW_SEC_HI_V : Bits := ⟨0, 16⟩
/-- Field V of TIME_SET_NS (R419). -/
def Fld.TIME_SET_NS_V : Bits := ⟨0, 32⟩
/-- Field V of TIME_SET_SEC_LO (R419). -/
def Fld.TIME_SET_SEC_LO_V : Bits := ⟨0, 32⟩
/-- Field V of TIME_SET_SEC_HI (R419). -/
def Fld.TIME_SET_SEC_HI_V : Bits := ⟨0, 16⟩
/-- Field V of TIME_STEP_LO (R419). -/
def Fld.TIME_STEP_LO_V : Bits := ⟨0, 32⟩
/-- Field V of TIME_STEP_HI (R419). -/
def Fld.TIME_STEP_HI_V : Bits := ⟨0, 32⟩
/-- Field SET of TIME_CMD (R419). -/
def Fld.TIME_CMD_SET : Bits := ⟨0, 1⟩
/-- Field STEP of TIME_CMD (R419). -/
def Fld.TIME_CMD_STEP : Bits := ⟨1, 1⟩
/-- Field V of TIME_RATE (R419). -/
def Fld.TIME_RATE_V : Bits := ⟨0, 32⟩
/-- Field V of TIME_AORATE (R419). -/
def Fld.TIME_AORATE_V : Bits := ⟨0, 32⟩
/-- Field V of TIME_SLEWMAX (R419). -/
def Fld.TIME_SLEWMAX_V : Bits := ⟨0, 32⟩
/-- Field LOCKTHR of TIME_LOCK (R419). -/
def Fld.TIME_LOCK_LOCKTHR : Bits := ⟨0, 16⟩
/-- Field V of TIME_OFFSET (R419). -/
def Fld.TIME_OFFSET_V : Bits := ⟨0, 32⟩
/-- Field V of TIME_PATHDLY (R419). -/
def Fld.TIME_PATHDLY_V : Bits := ⟨0, 32⟩
/-- Field EVT of TIME_EVT (R419). -/
def Fld.TIME_EVT_EVT : Bits := ⟨0, 6⟩
/-- Field EN of TIME_EVTEN (R419). -/
def Fld.TIME_EVTEN_EN : Bits := ⟨0, 6⟩
/-- Field V of TIME_CNT (R419). -/
def Fld.TIME_CNT_V : Bits := ⟨0, 32⟩
/-- Field CLR of TIME_CNTCLR (R419). -/
def Fld.TIME_CNTCLR_CLR : Bits := ⟨0, 7⟩
/-- Field ROLE of PTP_CTRL (R419). -/
def Fld.PTP_CTRL_ROLE : Bits := ⟨0, 2⟩
/-- Field TRANSPORT of PTP_CTRL (R419). -/
def Fld.PTP_CTRL_TRANSPORT : Bits := ⟨2, 2⟩
/-- Field P2P of PTP_CTRL (R419). -/
def Fld.PTP_CTRL_P2P : Bits := ⟨4, 1⟩
/-- Field TWOSTEP of PTP_CTRL (R419). -/
def Fld.PTP_CTRL_TWOSTEP : Bits := ⟨5, 1⟩
/-- Field PORT of PTP_CTRL (R419). -/
def Fld.PTP_CTRL_PORT : Bits := ⟨6, 1⟩
/-- Field SUB of PTP_CTRL (R419). -/
def Fld.PTP_CTRL_SUB : Bits := ⟨7, 2⟩
/-- Field DOMAIN of PTP_CTRL (R419). -/
def Fld.PTP_CTRL_DOMAIN : Bits := ⟨16, 7⟩
/-- Field LSYNC of PTP_INTV (R419). -/
def Fld.PTP_INTV_LSYNC : Bits := ⟨0, 8⟩
/-- Field LANN of PTP_INTV (R419). -/
def Fld.PTP_INTV_LANN : Bits := ⟨8, 8⟩
/-- Field LDREQ of PTP_INTV (R419). -/
def Fld.PTP_INTV_LDREQ : Bits := ⟨16, 8⟩
/-- Field ARTO of PTP_INTV (R419). -/
def Fld.PTP_INTV_ARTO : Bits := ⟨24, 4⟩
/-- Field PRI1 of PTP_PRIO (R419). -/
def Fld.PTP_PRIO_PRI1 : Bits := ⟨0, 8⟩
/-- Field PRI2 of PTP_PRIO (R419). -/
def Fld.PTP_PRIO_PRI2 : Bits := ⟨8, 8⟩
/-- Field CLASS of PTP_PRIO (R419). -/
def Fld.PTP_PRIO_CLASS : Bits := ⟨16, 8⟩
/-- Field ACCY of PTP_PRIO (R419). -/
def Fld.PTP_PRIO_ACCY : Bits := ⟨24, 8⟩
/-- Field VAR of PTP_VAR (R419). -/
def Fld.PTP_VAR_VAR : Bits := ⟨0, 16⟩
/-- Field V of PTP_CLKID_LO (R419). -/
def Fld.PTP_CLKID_LO_V : Bits := ⟨0, 32⟩
/-- Field V of PTP_CLKID_HI (R419). -/
def Fld.PTP_CLKID_HI_V : Bits := ⟨0, 32⟩
/-- Field V of PTP_GMID_LO (R419). -/
def Fld.PTP_GMID_LO_V : Bits := ⟨0, 32⟩
/-- Field V of PTP_GMID_HI (R419). -/
def Fld.PTP_GMID_HI_V : Bits := ⟨0, 32⟩
/-- Field V of TP_INLAT (R419). -/
def Fld.TP_INLAT_V : Bits := ⟨0, 32⟩
/-- Field V of TP_EGLAT (R419). -/
def Fld.TP_EGLAT_V : Bits := ⟨0, 32⟩
/-- Field V of TP_ASYM (R419). -/
def Fld.TP_ASYM_V : Bits := ⟨0, 32⟩
/-- Field SENDE of SEAMT_CTRL (R419). -/
def Fld.SEAMT_CTRL_SENDE : Bits := ⟨0, 1⟩
/-- Field SENDT of SEAMT_CTRL (R419). -/
def Fld.SEAMT_CTRL_SENDT : Bits := ⟨1, 1⟩
/-- Field V of SEAMT_ASYM (R419). -/
def Fld.SEAMT_ASYM_V : Bits := ⟨0, 32⟩
/-- Field EN of TC_CTRL (R419). -/
def Fld.TC_CTRL_EN : Bits := ⟨0, 1⟩
/-- Field DOMAIN of TC_CTRL (R419). -/
def Fld.TC_CTRL_DOMAIN : Bits := ⟨16, 7⟩
/-- Field KIND of CAL_CMD (R144). -/
def Fld.CAL_CMD_KIND : Bits := ⟨0, 4⟩
/-- Field TARGET of CAL_CMD (R144). -/
def Fld.CAL_CMD_TARGET : Bits := ⟨4, 4⟩
/-- Field PHASE of CAL_CMD (R144). -/
def Fld.CAL_CMD_PHASE : Bits := ⟨8, 2⟩
/-- Field BPCODE of CAL_CMD (R144). -/
def Fld.CAL_CMD_BPCODE : Bits := ⟨10, 2⟩
/-- Field AVG of CAL_CMD (R144). -/
def Fld.CAL_CMD_AVG : Bits := ⟨12, 4⟩
/-- Field GO of CAL_CMD (R144). -/
def Fld.CAL_CMD_GO : Bits := ⟨16, 1⟩
/-- Field ABORT of CAL_CMD (R144). -/
def Fld.CAL_CMD_ABORT : Bits := ⟨17, 1⟩
/-- Field TGT of CAL_TGT (R144). -/
def Fld.CAL_TGT_TGT : Bits := ⟨0, 16⟩
/-- Field BPTOL of CAL_TGT (R144). -/
def Fld.CAL_TGT_BPTOL : Bits := ⟨16, 8⟩
/-- Field BUSY of CAL_STATUS (R144). -/
def Fld.CAL_STATUS_BUSY : Bits := ⟨0, 1⟩
/-- Field COLL of CAL_STATUS (R144). -/
def Fld.CAL_STATUS_COLL : Bits := ⟨1, 1⟩
/-- Field RESULT of CAL_STATUS (R144). -/
def Fld.CAL_STATUS_RESULT : Bits := ⟨4, 4⟩
/-- Field LIMIT of CAL_STATUS (R144). -/
def Fld.CAL_STATUS_LIMIT : Bits := ⟨8, 5⟩
/-- Field LINES of CAL_STATUS (R144). -/
def Fld.CAL_STATUS_LINES : Bits := ⟨16, 16⟩
/-- Field TMO of CAL_TMO (R144). -/
def Fld.CAL_TMO_TMO : Bits := ⟨0, 16⟩
/-- Field DK_PIXMAX of CAL_LIM0 (R144). -/
def Fld.CAL_LIM0_DK_PIXMAX : Bits := ⟨0, 16⟩
/-- Field DK_MEANMAX of CAL_LIM0 (R144). -/
def Fld.CAL_LIM0_DK_MEANMAX : Bits := ⟨16, 16⟩
/-- Field GMIN of CAL_LIM1 (R144). -/
def Fld.CAL_LIM1_GMIN : Bits := ⟨0, 16⟩
/-- Field GMAX of CAL_LIM1 (R144). -/
def Fld.CAL_LIM1_GMAX : Bits := ⟨16, 16⟩
/-- Field BPMAX of CAL_LIM2 (R144). -/
def Fld.CAL_LIM2_BPMAX : Bits := ⟨0, 16⟩
/-- Field EYE_MIN of CAL_LIM2 (R144). -/
def Fld.CAL_LIM2_EYE_MIN : Bits := ⟨16, 8⟩
/-- Field HEYE_MIN of CAL_LIM2 (R144). -/
def Fld.CAL_LIM2_HEYE_MIN : Bits := ⟨24, 6⟩
/-- Field MASK of CAL_TRMASK (R144). -/
def Fld.CAL_TRMASK_MASK : Bits := ⟨0, 16⟩
/-- Field MASK of CAL_SEAL (R144). -/
def Fld.CAL_SEAL_MASK : Bits := ⟨0, 12⟩
/-- Field V of CAL_PASSCNT (R144). -/
def Fld.CAL_PASSCNT_V : Bits := ⟨0, 32⟩
/-- Field V of CAL_FAILCNT (R144). -/
def Fld.CAL_FAILCNT_V : Bits := ⟨0, 32⟩
/-- Field CLR of CAL_CNTCLR (R144). -/
def Fld.CAL_CNTCLR_CLR : Bits := ⟨0, 2⟩
/-- Field SNAP of CAL_IMGCTL (R144). -/
def Fld.CAL_IMGCTL_SNAP : Bits := ⟨0, 1⟩
/-- Field APPLY of CAL_IMGCTL (R144). -/
def Fld.CAL_IMGCTL_APPLY : Bits := ⟨1, 1⟩
/-- Field BUSY of CAL_IMGCTL (R144). -/
def Fld.CAL_IMGCTL_BUSY : Bits := ⟨2, 1⟩
/-- Field RESULT of CAL_IMGCTL (R144). -/
def Fld.CAL_IMGCTL_RESULT : Bits := ⟨4, 4⟩
/-- Field SKIPPED of CAL_IMGCTL (R144). -/
def Fld.CAL_IMGCTL_SKIPPED : Bits := ⟨8, 8⟩
/-- Field V of CAL_IMGLEN (R144). -/
def Fld.CAL_IMGLEN_V : Bits := ⟨0, 32⟩
/-- Field LAT of CAL_TRLAT (R144). -/
def Fld.CAL_TRLAT_LAT : Bits := ⟨0, 16⟩
/-- Field CTLE of EQ_CTLE (R145). -/
def Fld.EQ_CTLE_CTLE : Bits := ⟨0, 4⟩
/-- Field VGA of EQ_CTLE (R145). -/
def Fld.EQ_CTLE_VGA : Bits := ⟨8, 7⟩
/-- Field EQ_VALID of EQ_CTLE (R145). -/
def Fld.EQ_CTLE_EQ_VALID : Bits := ⟨31, 1⟩
/-- Field H1 of EQ_DFE (R145). -/
def Fld.EQ_DFE_H1 : Bits := ⟨0, 7⟩
/-- Field H2 of EQ_DFE (R145). -/
def Fld.EQ_DFE_H2 : Bits := ⟨7, 6⟩
/-- Field H3 of EQ_DFE (R145). -/
def Fld.EQ_DFE_H3 : Bits := ⟨13, 5⟩
/-- Field H4 of EQ_DFE (R145). -/
def Fld.EQ_DFE_H4 : Bits := ⟨18, 5⟩
/-- Field H5 of EQ_DFE (R145). -/
def Fld.EQ_DFE_H5 : Bits := ⟨23, 5⟩
/-- Field THR of EQ_SLICE (R145). -/
def Fld.EQ_SLICE_THR : Bits := ⟨0, 8⟩
/-- Field PHASE of EQ_SLICE (R145). -/
def Fld.EQ_SLICE_PHASE : Bits := ⟨16, 6⟩
/-- Field VEYE of EQ_EYE (R145). -/
def Fld.EQ_EYE_VEYE : Bits := ⟨0, 8⟩
/-- Field HEYE of EQ_EYE (R145). -/
def Fld.EQ_EYE_HEYE : Bits := ⟨8, 8⟩
/-- Field DELAY of DSK (R145). -/
def Fld.DSK_DELAY : Bits := ⟨0, 16⟩
/-- Field EN of RED_CTRL (R511). -/
def Fld.RED_CTRL_EN : Bits := ⟨0, 1⟩
/-- Field JOIN of RED_CTRL (R511). -/
def Fld.RED_CTRL_JOIN : Bits := ⟨1, 1⟩
/-- Field SWAP of RED_CTRL (R511). -/
def Fld.RED_CTRL_SWAP : Bits := ⟨2, 1⟩
/-- Field EPL of RED_CFG (R511). -/
def Fld.RED_CFG_EPL : Bits := ⟨0, 13⟩
/-- Field TSRCACT of RED_CFG (R511). -/
def Fld.RED_CFG_TSRCACT : Bits := ⟨16, 2⟩
/-- Field TSRCSTBY of RED_CFG (R511). -/
def Fld.RED_CFG_TSRCSTBY : Bits := ⟨18, 2⟩
/-- Field ROLEIN of RED_STATUS (R511). -/
def Fld.RED_STATUS_ROLEIN : Bits := ⟨0, 1⟩
/-- Field SYNCED of RED_STATUS (R511). -/
def Fld.RED_STATUS_SYNCED : Bits := ⟨1, 1⟩
/-- Field SOLO of RED_STATUS (R511). -/
def Fld.RED_STATUS_SOLO : Bits := ⟨2, 1⟩
/-- Field PARTNER of RED_STATUS (R511). -/
def Fld.RED_STATUS_PARTNER : Bits := ⟨3, 1⟩
/-- Field JOINING of RED_STATUS (R511). -/
def Fld.RED_STATUS_JOINING : Bits := ⟨4, 1⟩
/-- Field SWAPPEND of RED_STATUS (R511). -/
def Fld.RED_STATUS_SWAPPEND : Bits := ⟨5, 1⟩
/-- Field PINMIS of RED_STATUS (R511). -/
def Fld.RED_STATUS_PINMIS : Bits := ⟨6, 1⟩
/-- Field TKWIN of RED_STATUS (R511). -/
def Fld.RED_STATUS_TKWIN : Bits := ⟨7, 1⟩
/-- Field HBRUN of RED_STATUS (R511). -/
def Fld.RED_STATUS_HBRUN : Bits := ⟨8, 1⟩
/-- Field V of RED_EPOCH_LO (R511). -/
def Fld.RED_EPOCH_LO_V : Bits := ⟨0, 32⟩
/-- Field V of RED_EPOCH_HI (R511). -/
def Fld.RED_EPOCH_HI_V : Bits := ⟨0, 32⟩
/-- Field V of RED_SWAP_LO (R511). -/
def Fld.RED_SWAP_LO_V : Bits := ⟨0, 32⟩
/-- Field V of RED_SWAP_HI (R511). -/
def Fld.RED_SWAP_HI_V : Bits := ⟨0, 32⟩
/-- Field V of RED_CNT (R511). -/
def Fld.RED_CNT_V : Bits := ⟨0, 32⟩
/-- Field CLR of RED_CNTCLR (R511). -/
def Fld.RED_CNTCLR_CLR : Bits := ⟨0, 6⟩
/-- Field EVT of RED_EVT (R511). -/
def Fld.RED_EVT_EVT : Bits := ⟨0, 6⟩
/-- Field COMMIT of ACC_CTRL (R256). -/
def Fld.ACC_CTRL_COMMIT : Bits := ⟨0, 1⟩
/-- Field UNSEAL of ACC_CTRL (R256). -/
def Fld.ACC_CTRL_UNSEAL : Bits := ⟨1, 1⟩
/-- Field SWITCH_ARM of ACC_CTRL (R256). -/
def Fld.ACC_CTRL_SWITCH_ARM : Bits := ⟨2, 1⟩
/-- Field SWITCH_CANCEL of ACC_CTRL (R256). -/
def Fld.ACC_CTRL_SWITCH_CANCEL : Bits := ⟨3, 1⟩
/-- Field ATEN of ACC_CTRL (R256). -/
def Fld.ACC_CTRL_ATEN : Bits := ⟨4, 1⟩
/-- Field SSTATE of ACC_STATUS (R256). -/
def Fld.ACC_STATUS_SSTATE : Bits := ⟨0, 2⟩
/-- Field LIVE of ACC_STATUS (R256). -/
def Fld.ACC_STATUS_LIVE : Bits := ⟨2, 1⟩
/-- Field ARMED of ACC_STATUS (R256). -/
def Fld.ACC_STATUS_ARMED : Bits := ⟨3, 1⟩
/-- Field PMW of ACC_STATUS (R256). -/
def Fld.ACC_STATUS_PMW : Bits := ⟨4, 1⟩
/-- Field PME of ACC_STATUS (R256). -/
def Fld.ACC_STATUS_PME : Bits := ⟨5, 1⟩
/-- Field JOINT of ACC_STATUS (R256). -/
def Fld.ACC_STATUS_JOINT : Bits := ⟨6, 1⟩
/-- Field CODE of ACC_REASON (R256). -/
def Fld.ACC_REASON_CODE : Bits := ⟨0, 16⟩
/-- Field V of ACC_DETAIL0 (R256). -/
def Fld.ACC_DETAIL0_V : Bits := ⟨0, 32⟩
/-- Field V of ACC_DETAIL1 (R256). -/
def Fld.ACC_DETAIL1_V : Bits := ⟨0, 32⟩
/-- Field V of ACC_SWITCH_LO (R256). -/
def Fld.ACC_SWITCH_LO_V : Bits := ⟨0, 32⟩
/-- Field V of ACC_SWITCH_HI (R256). -/
def Fld.ACC_SWITCH_HI_V : Bits := ⟨0, 32⟩
/-- Field V of ACC_LIVEDIG (R256). -/
def Fld.ACC_LIVEDIG_V : Bits := ⟨0, 32⟩
/-- Field V of ACC_STAGEDDIG (R256). -/
def Fld.ACC_STAGEDDIG_V : Bits := ⟨0, 32⟩
/-- Field V of ACC_SHREJ (R256). -/
def Fld.ACC_SHREJ_V : Bits := ⟨0, 32⟩
/-- Field CLR of ACC_CNTCLR (R256). -/
def Fld.ACC_CNTCLR_CLR : Bits := ⟨0, 1⟩
/-- Field CODE of ACC_BREACH (R256). -/
def Fld.ACC_BREACH_CODE : Bits := ⟨0, 8⟩
/-- Field UNIT of ACC_BREACH (R256). -/
def Fld.ACC_BREACH_UNIT : Bits := ⟨8, 4⟩
/-- Field V of ACC_BRLINE_LO (R256). -/
def Fld.ACC_BRLINE_LO_V : Bits := ⟨0, 32⟩
/-- Field V of ACC_BRLINE_HI (R256). -/
def Fld.ACC_BRLINE_HI_V : Bits := ⟨0, 32⟩
/-- Field COUNT of ACC_STAGECNT (R256). -/
def Fld.ACC_STAGECNT_COUNT : Bits := ⟨0, 11⟩
/-- Field LRMAX of ACC_LRMAX (R256). -/
def Fld.ACC_LRMAX_LRMAX : Bits := ⟨0, 20⟩
/-- Field RET of ACC_RET (R256). -/
def Fld.ACC_RET_RET : Bits := ⟨0, 17⟩
/-- Field MEMBERS of ACC_CHAIN (R256). -/
def Fld.ACC_CHAIN_MEMBERS : Bits := ⟨0, 5⟩
/-- Field INDEX of ACC_CHAIN (R256). -/
def Fld.ACC_CHAIN_INDEX : Bits := ⟨8, 4⟩
/-- Field CROP of ACC_BEW (R256). -/
def Fld.ACC_BEW_CROP : Bits := ⟨0, 4⟩
/-- Field DMA of ACC_BEW (R256). -/
def Fld.ACC_BEW_DMA : Bits := ⟨4, 4⟩
/-- Field OHT of ACC_BEW (R256). -/
def Fld.ACC_BEW_OHT : Bits := ⟨8, 4⟩
/-- Field RELAY of ACC_BEW (R256). -/
def Fld.ACC_BEW_RELAY : Bits := ⟨12, 4⟩
/-- Field RATE of ACC_CQRATE (R256). -/
def Fld.ACC_CQRATE_RATE : Bits := ⟨0, 23⟩
/-- Field RATE of ACC_CQCROP (R256). -/
def Fld.ACC_CQCROP_RATE : Bits := ⟨0, 20⟩
/-- Field RATE of ACC_STREAM (R256). -/
def Fld.ACC_STREAM_RATE : Bits := ⟨0, 16⟩
/-- Field PORT of ACC_STREAM (R256). -/
def Fld.ACC_STREAM_PORT : Bits := ⟨16, 2⟩
/-- Field PIPE of ACC_BIND (R256). -/
def Fld.ACC_BIND_PIPE : Bits := ⟨0, 5⟩
/-- Field EN of ACC_BIND (R256). -/
def Fld.ACC_BIND_EN : Bits := ⟨5, 1⟩
/-- Field RATE of ACC_REPLAY (R256). -/
def Fld.ACC_REPLAY_RATE : Bits := ⟨0, 20⟩
/-- Field V of ACC_BOUND (R256). -/
def Fld.ACC_BOUND_V : Bits := ⟨0, 32⟩
/-- Field V of ACC_SBOUND (R256). -/
def Fld.ACC_SBOUND_V : Bits := ⟨0, 32⟩
/-- Field V of ACC_STAGE (R232). -/
def Fld.ACC_STAGE_V : Bits := ⟨0, 32⟩
/-- Field EN of PROF_CTRL (R315). -/
def Fld.PROF_CTRL_EN : Bits := ⟨0, 1⟩
/-- Field PRESET of PROF_CTRL (R315). -/
def Fld.PROF_CTRL_PRESET : Bits := ⟨1, 2⟩
/-- Field PINEN of PROF_CTRL (R315). -/
def Fld.PROF_CTRL_PINEN : Bits := ⟨3, 1⟩
/-- Field PINPOL of PROF_CTRL (R315). -/
def Fld.PROF_CTRL_PINPOL : Bits := ⟨4, 1⟩
/-- Field CHAN of PROF_CTRL (R315). -/
def Fld.PROF_CTRL_CHAN : Bits := ⟨5, 3⟩
/-- Field NB of PROF_NBINS (R315). -/
def Fld.PROF_NBINS_NB : Bits := ⟨0, 15⟩
/-- Field NT of PROF_FIR (R315). -/
def Fld.PROF_FIR_NT : Bits := ⟨0, 6⟩
/-- Field RECBINS of PROF_RECBINS (R315). -/
def Fld.PROF_RECBINS_RECBINS : Bits := ⟨0, 12⟩
/-- Field SYNC of PROF_SYNC (R315). -/
def Fld.PROF_SYNC_SYNC : Bits := ⟨0, 1⟩
/-- Field ATEN of PROF_SYNC (R315). -/
def Fld.PROF_SYNC_ATEN : Bits := ⟨1, 1⟩
/-- Field PENDING of PROF_SYNC (R315). -/
def Fld.PROF_SYNC_PENDING : Bits := ⟨2, 1⟩
/-- Field V of PROF_SYNCAT_LO (R315). -/
def Fld.PROF_SYNCAT_LO_V : Bits := ⟨0, 32⟩
/-- Field V of PROF_SYNCAT_HI (R315). -/
def Fld.PROF_SYNCAT_HI_V : Bits := ⟨0, 32⟩
/-- Field V of PROF_SYNCLINE_LO (R315). -/
def Fld.PROF_SYNCLINE_LO_V : Bits := ⟨0, 32⟩
/-- Field V of PROF_SYNCLINE_HI (R315). -/
def Fld.PROF_SYNCLINE_HI_V : Bits := ⟨0, 32⟩
/-- Field V of PROF_GDH (R315). -/
def Fld.PROF_GDH_V : Bits := ⟨0, 32⟩
/-- Field V of PROF_GDREL (R315). -/
def Fld.PROF_GDREL_V : Bits := ⟨0, 32⟩
/-- Field V of PROF_SAMPLE_LO (R315). -/
def Fld.PROF_SAMPLE_LO_V : Bits := ⟨0, 32⟩
/-- Field V of PROF_SAMPLE_HI (R315). -/
def Fld.PROF_SAMPLE_HI_V : Bits := ⟨0, 32⟩
/-- Field V of PROF_CNT (R315). -/
def Fld.PROF_CNT_V : Bits := ⟨0, 32⟩
/-- Field CLR of PROF_CNTCLR (R315). -/
def Fld.PROF_CNTCLR_CLR : Bits := ⟨0, 5⟩
/-- Field EVT of PROF_EVT (R315). -/
def Fld.PROF_EVT_EVT : Bits := ⟨0, 4⟩
/-- Field EN of PROF_EVTEN (R315). -/
def Fld.PROF_EVTEN_EN : Bits := ⟨0, 4⟩
/-- Field TSEL of PROF_TCTL (R315). -/
def Fld.PROF_TCTL_TSEL : Bits := ⟨0, 2⟩
/-- Field RBANK of PROF_TCTL (R315). -/
def Fld.PROF_TCTL_RBANK : Bits := ⟨2, 1⟩
/-- Field AUTOINC of PROF_TCTL (R315). -/
def Fld.PROF_TCTL_AUTOINC : Bits := ⟨4, 1⟩
/-- Field BANK of PROF_TCTL (R315). -/
def Fld.PROF_TCTL_BANK : Bits := ⟨16, 1⟩
/-- Field IDX of PROF_TIDX (R315). -/
def Fld.PROF_TIDX_IDX : Bits := ⟨0, 16⟩
/-- Field V of PROF_TDATA (R315). -/
def Fld.PROF_TDATA_V : Bits := ⟨0, 32⟩
/-- Field EN of SEG_CTRL (R292). -/
def Fld.SEG_CTRL_EN : Bits := ⟨0, 1⟩
/-- Field CONN of SEG_CTRL (R292). -/
def Fld.SEG_CTRL_CONN : Bits := ⟨1, 1⟩
/-- Field MSEL of SEG_CTRL (R292). -/
def Fld.SEG_CTRL_MSEL : Bits := ⟨4, 4⟩
/-- Field N of SEG_CONTN (R292). -/
def Fld.SEG_CONTN_N : Bits := ⟨0, 16⟩
/-- Field V of SEG_COLBASE (R292). -/
def Fld.SEG_COLBASE_V : Bits := ⟨0, 23⟩
/-- Field COUNT of SEG_LIVE (R292). -/
def Fld.SEG_LIVE_COUNT : Bits := ⟨0, 17⟩
/-- Field COUNT of SEG_PEAK (R292). -/
def Fld.SEG_PEAK_COUNT : Bits := ⟨0, 17⟩
/-- Field V of SEG_CNT (R292). -/
def Fld.SEG_CNT_V : Bits := ⟨0, 32⟩
/-- Field CLR of SEG_CNTCLR (R292). -/
def Fld.SEG_CNTCLR_CLR : Bits := ⟨0, 6⟩
/-- Field EVT of SEG_EVT (R292). -/
def Fld.SEG_EVT_EVT : Bits := ⟨0, 4⟩
/-- Field EN of SEG_EVTEN (R292). -/
def Fld.SEG_EVTEN_EN : Bits := ⟨0, 4⟩
/-- Field EN of CARD_CTRL (R293). -/
def Fld.CARD_CTRL_EN : Bits := ⟨0, 1⟩
/-- Field DEFCLASS of CARD_CTRL (R293). -/
def Fld.CARD_CTRL_DEFCLASS : Bits := ⟨8, 6⟩
/-- Field FLOODQ of CARD_CTRL (R293). -/
def Fld.CARD_CTRL_FLOODQ : Bits := ⟨16, 2⟩
/-- Field BURST of CARD_LIMITS (R293). -/
def Fld.CARD_LIMITS_BURST : Bits := ⟨0, 6⟩
/-- Field NRULES of CARD_LIMITS (R293). -/
def Fld.CARD_LIMITS_NRULES : Bits := ⟨8, 9⟩
/-- Field RBANK of CAT_TCTL (R293). -/
def Fld.CAT_TCTL_RBANK : Bits := ⟨0, 1⟩
/-- Field AUTOINC of CAT_TCTL (R293). -/
def Fld.CAT_TCTL_AUTOINC : Bits := ⟨4, 1⟩
/-- Field BANK of CAT_TCTL (R293). -/
def Fld.CAT_TCTL_BANK : Bits := ⟨16, 1⟩
/-- Field IDX of CAT_TIDX (R293). -/
def Fld.CAT_TIDX_IDX : Bits := ⟨0, 13⟩
/-- Field V of CAT_TDATA (R293). -/
def Fld.CAT_TDATA_V : Bits := ⟨0, 32⟩
/-- Field V of CARD_CNT (R293). -/
def Fld.CARD_CNT_V : Bits := ⟨0, 32⟩
/-- Field CLR of CARD_CNTCLR (R293). -/
def Fld.CARD_CNTCLR_CLR : Bits := ⟨0, 7⟩
/-- Field EVT of CARD_EVT (R293). -/
def Fld.CARD_EVT_EVT : Bits := ⟨0, 5⟩
/-- Field EN of CARD_EVTEN (R293). -/
def Fld.CARD_EVTEN_EN : Bits := ⟨0, 5⟩
/-- Field CARDS of CARD_BUCKET (R293). -/
def Fld.CARD_BUCKET_CARDS : Bits := ⟨0, 12⟩
/-- Field CROPS of CARD_BUCKET (R293). -/
def Fld.CARD_BUCKET_CROPS : Bits := ⟨16, 3⟩
/-- Field V of CARD_NEXTSEQ_LO (R293). -/
def Fld.CARD_NEXTSEQ_LO_V : Bits := ⟨0, 32⟩
/-- Field V of CARD_NEXTSEQ_HI (R293). -/
def Fld.CARD_NEXTSEQ_HI_V : Bits := ⟨0, 16⟩
/-- Field QUEUE of CARD_ROUTE (R293). -/
def Fld.CARD_ROUTE_QUEUE : Bits := ⟨0, 2⟩
/-- Field DROP of CARD_ROUTE (R293). -/
def Fld.CARD_ROUTE_DROP : Bits := ⟨2, 1⟩
/-- Field CROP of CARD_ROUTE (R293). -/
def Fld.CARD_ROUTE_CROP : Bits := ⟨3, 1⟩
/-- Field CW8 of CARD_ROUTE (R293). -/
def Fld.CARD_ROUTE_CW8 : Bits := ⟨4, 7⟩
/-- Field CH8 of CARD_ROUTE (R293). -/
def Fld.CARD_ROUTE_CH8 : Bits := ⟨11, 7⟩
/-- Field CROPSTREAM of CARD_ROUTE (R293). -/
def Fld.CARD_ROUTE_CROPSTREAM : Bits := ⟨18, 1⟩
/-- Field EN of DMA_CTRL (R349). -/
def Fld.DMA_CTRL_EN : Bits := ⟨0, 1⟩
/-- Field V of DMA_BUF (R349). -/
def Fld.DMA_BUF_V : Bits := ⟨0, 19⟩
/-- Field V of DMA_DONE (R349). -/
def Fld.DMA_DONE_V : Bits := ⟨0, 32⟩
/-- Field V of DMA_ERR (R349). -/
def Fld.DMA_ERR_V : Bits := ⟨0, 32⟩
/-- Field V of DMA_DONEEN (R349). -/
def Fld.DMA_DONEEN_V : Bits := ⟨0, 32⟩
/-- Field V of DMA_ERREN (R349). -/
def Fld.DMA_ERREN_V : Bits := ⟨0, 32⟩
/-- Field V of DMA_REJ (R349). -/
def Fld.DMA_REJ_V : Bits := ⟨0, 32⟩
/-- Field CLR of DMA_CNTCLR (R349). -/
def Fld.DMA_CNTCLR_CLR : Bits := ⟨0, 1⟩
/-- Field LOAD of CH_CTRL (R349). -/
def Fld.CH_CTRL_LOAD : Bits := ⟨0, 1⟩
/-- Field STOP of CH_CTRL (R349). -/
def Fld.CH_CTRL_STOP : Bits := ⟨1, 1⟩
/-- Field ABORT of CH_CTRL (R349). -/
def Fld.CH_CTRL_ABORT : Bits := ⟨2, 1⟩
/-- Field VERIFY of CH_CTRL (R349). -/
def Fld.CH_CTRL_VERIFY : Bits := ⟨3, 1⟩
/-- Field BURST of CH_CTRL (R349). -/
def Fld.CH_CTRL_BURST : Bits := ⟨4, 4⟩
/-- Field MAXDESC of CH_CTRL (R349). -/
def Fld.CH_CTRL_MAXDESC : Bits := ⟨8, 16⟩
/-- Field BUSY of CH_STATUS (R349). -/
def Fld.CH_STATUS_BUSY : Bits := ⟨0, 1⟩
/-- Field SEALED of CH_STATUS (R349). -/
def Fld.CH_STATUS_SEALED : Bits := ⟨1, 1⟩
/-- Field CHAINCUT of CH_STATUS (R349). -/
def Fld.CH_STATUS_CHAINCUT : Bits := ⟨2, 1⟩
/-- Field RESULT of CH_STATUS (R349). -/
def Fld.CH_STATUS_RESULT : Bits := ⟨4, 4⟩
/-- Field DESCS of CH_STATUS (R349). -/
def Fld.CH_STATUS_DESCS : Bits := ⟨16, 16⟩
/-- Field OP of DSC_OP (R349). -/
def Fld.DSC_OP_OP : Bits := ⟨0, 4⟩
/-- Field LAST of DSC_OP (R349). -/
def Fld.DSC_OP_LAST : Bits := ⟨4, 1⟩
/-- Field EVT of DSC_OP (R349). -/
def Fld.DSC_OP_EVT : Bits := ⟨5, 1⟩
/-- Field V of DSC_SRC (R349). -/
def Fld.DSC_SRC_V : Bits := ⟨0, 32⟩
/-- Field SRCH of DSC_HI (R349). -/
def Fld.DSC_HI_SRCH : Bits := ⟨0, 8⟩
/-- Field DSTH of DSC_HI (R349). -/
def Fld.DSC_HI_DSTH : Bits := ⟨8, 8⟩
/-- Field V of DSC_DST (R349). -/
def Fld.DSC_DST_V : Bits := ⟨0, 32⟩
/-- Field LEN of DSC_LEN (R349). -/
def Fld.DSC_LEN_LEN : Bits := ⟨0, 24⟩
/-- Field ROWS of DSC_ROWS (R349). -/
def Fld.DSC_ROWS_ROWS : Bits := ⟨0, 16⟩
/-- Field V of DSC_SSTRIDE (R349). -/
def Fld.DSC_SSTRIDE_V : Bits := ⟨0, 32⟩
/-- Field V of DSC_DSTRIDE (R349). -/
def Fld.DSC_DSTRIDE_V : Bits := ⟨0, 32⟩
/-- Field V of DSC_NEXT (R349). -/
def Fld.DSC_NEXT_V : Bits := ⟨0, 26⟩
/-- Field V of DSC_FILL (R349). -/
def Fld.DSC_FILL_V : Bits := ⟨0, 32⟩
/-- Field V of CH_DONEB (R349). -/
def Fld.CH_DONEB_V : Bits := ⟨0, 32⟩
/-- Field V of CH_MISS (R349). -/
def Fld.CH_MISS_V : Bits := ⟨0, 32⟩
/-- Field V of CH_CURDESC (R349). -/
def Fld.CH_CURDESC_V : Bits := ⟨0, 32⟩
/-- Field V of QUE_HIEVT_LO (R366). -/
def Fld.QUE_HIEVT_LO_V : Bits := ⟨0, 32⟩
/-- Field V of QUE_HIEVT_HI (R366). -/
def Fld.QUE_HIEVT_HI_V : Bits := ⟨0, 32⟩
/-- Field V of QUE_LOEVT_LO (R366). -/
def Fld.QUE_LOEVT_LO_V : Bits := ⟨0, 32⟩
/-- Field V of QUE_LOEVT_HI (R366). -/
def Fld.QUE_LOEVT_HI_V : Bits := ⟨0, 32⟩
/-- Field V of QUE_HIEN_LO (R366). -/
def Fld.QUE_HIEN_LO_V : Bits := ⟨0, 32⟩
/-- Field V of QUE_HIEN_HI (R366). -/
def Fld.QUE_HIEN_HI_V : Bits := ⟨0, 32⟩
/-- Field V of QUE_LOEN_LO (R366). -/
def Fld.QUE_LOEN_LO_V : Bits := ⟨0, 32⟩
/-- Field V of QUE_LOEN_HI (R366). -/
def Fld.QUE_LOEN_HI_V : Bits := ⟨0, 32⟩
/-- Field SIZE of Q_CFG (R366). -/
def Fld.Q_CFG_SIZE : Bits := ⟨0, 20⟩
/-- Field PRIV of Q_CFG (R366). -/
def Fld.Q_CFG_PRIV : Bits := ⟨24, 1⟩
/-- Field BASE of Q_BASE (R366). -/
def Fld.Q_BASE_BASE : Bits := ⟨0, 26⟩
/-- Field SIZE of QA_CFG (R366). -/
def Fld.QA_CFG_SIZE : Bits := ⟨0, 20⟩
/-- Field PRIV of QA_CFG (R366). -/
def Fld.QA_CFG_PRIV : Bits := ⟨24, 1⟩
/-- Field BASE of QA_BASE (R366). -/
def Fld.QA_BASE_BASE : Bits := ⟨0, 26⟩
/-- Field SIZE of QP_CFG (R366). -/
def Fld.QP_CFG_SIZE : Bits := ⟨0, 20⟩
/-- Field PRIV of QP_CFG (R366). -/
def Fld.QP_CFG_PRIV : Bits := ⟨24, 1⟩
/-- Field V of Q_WPTR (R366). -/
def Fld.Q_WPTR_V : Bits := ⟨0, 20⟩
/-- Field V of Q_RPTR (R366). -/
def Fld.Q_RPTR_V : Bits := ⟨0, 20⟩
/-- Field V of Q_FPTR (R366). -/
def Fld.Q_FPTR_V : Bits := ⟨0, 20⟩
/-- Field PTR of Q_BMPTR (R366). -/
def Fld.Q_BMPTR_PTR : Bits := ⟨0, 20⟩
/-- Field BMVALID of Q_BMPTR (R366). -/
def Fld.Q_BMPTR_BMVALID : Bits := ⟨31, 1⟩
/-- Field EMPTY of Q_STATUS (R366). -/
def Fld.Q_STATUS_EMPTY : Bits := ⟨0, 1⟩
/-- Field FULL of Q_STATUS (R366). -/
def Fld.Q_STATUS_FULL : Bits := ⟨1, 1⟩
/-- Field UNDERRUN of Q_STATUS (R366). -/
def Fld.Q_STATUS_UNDERRUN : Bits := ⟨2, 1⟩
/-- Field FLUSHPEND of Q_STATUS (R366). -/
def Fld.Q_STATUS_FLUSHPEND : Bits := ⟨3, 1⟩
/-- Field HIGHST of Q_STATUS (R366). -/
def Fld.Q_STATUS_HIGHST : Bits := ⟨4, 1⟩
/-- Field V of Q_OCC (R366). -/
def Fld.Q_OCC_V : Bits := ⟨0, 20⟩
/-- Field V of Q_PEAK (R366). -/
def Fld.Q_PEAK_V : Bits := ⟨0, 20⟩
/-- Field V of Q_HIWM (R366). -/
def Fld.Q_HIWM_V : Bits := ⟨0, 20⟩
/-- Field V of Q_LOWM (R366). -/
def Fld.Q_LOWM_V : Bits := ⟨0, 20⟩
/-- Field FLUSH of Q_CMD (R366). -/
def Fld.Q_CMD_FLUSH : Bits := ⟨0, 1⟩
/-- Field BOOKMARK of Q_CMD (R366). -/
def Fld.Q_CMD_BOOKMARK : Bits := ⟨1, 1⟩
/-- Field REWIND of Q_CMD (R366). -/
def Fld.Q_CMD_REWIND : Bits := ⟨2, 1⟩
/-- Field REWFREE of Q_CMD (R366). -/
def Fld.Q_CMD_REWFREE : Bits := ⟨3, 1⟩
/-- Field PEAKCLR of Q_CMD (R366). -/
def Fld.Q_CMD_PEAKCLR : Bits := ⟨4, 1⟩
/-- Field WEOP of Q_CMD (R366). -/
def Fld.Q_CMD_WEOP : Bits := ⟨5, 1⟩
/-- Field V of Q_RDATA (R366). -/
def Fld.Q_RDATA_V : Bits := ⟨0, 32⟩
/-- Field V of Q_WDATA (R366). -/
def Fld.Q_WDATA_V : Bits := ⟨0, 32⟩
/-- Field V of Q_RLEN (R366). -/
def Fld.Q_RLEN_V : Bits := ⟨0, 24⟩
/-- Field V of Q_DROP (R366). -/
def Fld.Q_DROP_V : Bits := ⟨0, 32⟩
/-- Field V of PQ_RELKEY_LO (R367). -/
def Fld.PQ_RELKEY_LO_V : Bits := ⟨0, 32⟩
/-- Field V of PQ_RELKEY_HI (R367). -/
def Fld.PQ_RELKEY_HI_V : Bits := ⟨0, 16⟩
/-- Field V of PQ_RELEASE_LO (R367). -/
def Fld.PQ_RELEASE_LO_V : Bits := ⟨0, 32⟩
/-- Field V of PQ_RELEASE_HI (R367). -/
def Fld.PQ_RELEASE_HI_V : Bits := ⟨0, 16⟩
/-- Field V of PQ_HEADKEY_LO (R367). -/
def Fld.PQ_HEADKEY_LO_V : Bits := ⟨0, 32⟩
/-- Field V of PQ_HEADKEY_HI (R367). -/
def Fld.PQ_HEADKEY_HI_V : Bits := ⟨0, 16⟩
/-- Field V of PQ_REWINDS (R367). -/
def Fld.PQ_REWINDS_V : Bits := ⟨0, 32⟩
/-- Field V of PQ_BEYOND (R367). -/
def Fld.PQ_BEYOND_V : Bits := ⟨0, 32⟩
/-- Field EN of CAM_CTRL (R92). -/
def Fld.CAM_CTRL_EN : Bits := ⟨0, 1⟩
/-- Field LANES of CAM_CTRL (R92). -/
def Fld.CAM_CTRL_LANES : Bits := ⟨1, 2⟩
/-- Field RATE of CAM_CTRL (R92). -/
def Fld.CAM_CTRL_RATE : Bits := ⟨4, 2⟩
/-- Field FMT of CAM_CTRL (R92). -/
def Fld.CAM_CTRL_FMT : Bits := ⟨8, 4⟩
/-- Field UPIDLE of CAM_CTRL (R92). -/
def Fld.CAM_CTRL_UPIDLE : Bits := ⟨12, 1⟩
/-- Field RETRAIN of CAM_CTRL (R92). -/
def Fld.CAM_CTRL_RETRAIN : Bits := ⟨16, 1⟩
/-- Field W of CAM_WIDTH (R92). -/
def Fld.CAM_WIDTH_W : Bits := ⟨0, 16⟩
/-- Field FILL of CAM_FILL (R92). -/
def Fld.CAM_FILL_FILL : Bits := ⟨0, 16⟩
/-- Field LSTATE of CAM_STATE (R92). -/
def Fld.CAM_STATE_LSTATE : Bits := ⟨0, 3⟩
/-- Field LOCK of CAM_STATE (R92). -/
def Fld.CAM_STATE_LOCK : Bits := ⟨4, 4⟩
/-- Field ALIGNED of CAM_STATE (R92). -/
def Fld.CAM_STATE_ALIGNED : Bits := ⟨8, 1⟩
/-- Field TRIES of CAM_STATE (R92). -/
def Fld.CAM_STATE_TRIES : Bits := ⟨9, 3⟩
/-- Field SKEW of CAM_STATE (R92). -/
def Fld.CAM_STATE_SKEW : Bits := ⟨16, 8⟩
/-- Field RTT of CAM_RTT (R92). -/
def Fld.CAM_RTT_RTT : Bits := ⟨0, 16⟩
/-- Field NEXT of CAM_TSEQ (R92). -/
def Fld.CAM_TSEQ_NEXT : Bits := ⟨0, 16⟩
/-- Field LATERUN of CAM_TSEQ (R92). -/
def Fld.CAM_TSEQ_LATERUN : Bits := ⟨16, 2⟩
/-- Field BADRUN of CAM_TSEQ (R92). -/
def Fld.CAM_TSEQ_BADRUN : Bits := ⟨20, 5⟩
/-- Field V of CAM_CNT (R92). -/
def Fld.CAM_CNT_V : Bits := ⟨0, 32⟩
/-- Field CLR of CAM_CNTCLR (R92). -/
def Fld.CAM_CNTCLR_CLR : Bits := ⟨0, 6⟩
/-- Field EVT of CAM_EVT (R92). -/
def Fld.CAM_EVT_EVT : Bits := ⟨0, 9⟩
/-- Field EN of CAM_EVTEN (R92). -/
def Fld.CAM_EVTEN_EN : Bits := ⟨0, 9⟩
/-- Field VENDOR of CAM_ID0 (R92). -/
def Fld.CAM_ID0_VENDOR : Bits := ⟨0, 16⟩
/-- Field MODEL of CAM_ID0 (R92). -/
def Fld.CAM_ID0_MODEL : Bits := ⟨16, 16⟩
/-- Field REV of CAM_ID1 (R92). -/
def Fld.CAM_ID1_REV : Bits := ⟨0, 16⟩
/-- Field SERH of CAM_ID1 (R92). -/
def Fld.CAM_ID1_SERH : Bits := ⟨16, 16⟩
/-- Field SER of CAM_ID2 (R92). -/
def Fld.CAM_ID2_SER : Bits := ⟨0, 32⟩
/-- Field RATES of CAM_CAPS0 (R92). -/
def Fld.CAM_CAPS0_RATES : Bits := ⟨0, 4⟩
/-- Field MAXLANES of CAM_CAPS0 (R92). -/
def Fld.CAM_CAPS0_MAXLANES : Bits := ⟨4, 3⟩
/-- Field FMTS of CAM_CAPS0 (R92). -/
def Fld.CAM_CAPS0_FMTS : Bits := ⟨8, 5⟩
/-- Field MAXNPIX of CAM_CAPS0 (R92). -/
def Fld.CAM_CAPS0_MAXNPIX : Bits := ⟨16, 15⟩
/-- Field MAXLR of CAM_CAPS1 (R92). -/
def Fld.CAM_CAPS1_MAXLR : Bits := ⟨0, 19⟩
/-- Field TLAT of CAM_CAPS2 (R92). -/
def Fld.CAM_CAPS2_TLAT : Bits := ⟨0, 16⟩
/-- Field ADDR of CREG_ADDR (R92). -/
def Fld.CREG_ADDR_ADDR : Bits := ⟨0, 16⟩
/-- Field V of CREG_WDATA (R92). -/
def Fld.CREG_WDATA_V : Bits := ⟨0, 32⟩
/-- Field V of CREG_RDATA (R92). -/
def Fld.CREG_RDATA_V : Bits := ⟨0, 32⟩
/-- Field GO of CREG_CTRL (R92). -/
def Fld.CREG_CTRL_GO : Bits := ⟨0, 1⟩
/-- Field WRITE of CREG_CTRL (R92). -/
def Fld.CREG_CTRL_WRITE : Bits := ⟨1, 1⟩
/-- Field BUSY of CREG_CTRL (R92). -/
def Fld.CREG_CTRL_BUSY : Bits := ⟨2, 1⟩
/-- Field STATUS of CREG_CTRL (R92). -/
def Fld.CREG_CTRL_STATUS : Bits := ⟨4, 3⟩
/-- Field COLL of CREG_CTRL (R92). -/
def Fld.CREG_CTRL_COLL : Bits := ⟨7, 1⟩
/-- Field RXPOL of LANE_CTRL (R93). -/
def Fld.LANE_CTRL_RXPOL : Bits := ⟨0, 1⟩
/-- Field TXPOL of LANE_CTRL (R93). -/
def Fld.LANE_CTRL_TXPOL : Bits := ⟨1, 1⟩
/-- Field PRBS_TX of LANE_CTRL (R93). -/
def Fld.LANE_CTRL_PRBS_TX : Bits := ⟨2, 2⟩
/-- Field PRBS_RX of LANE_CTRL (R93). -/
def Fld.LANE_CTRL_PRBS_RX : Bits := ⟨4, 2⟩
/-- Field PRBS_LOCK of LANE_CTRL (R93). -/
def Fld.LANE_CTRL_PRBS_LOCK : Bits := ⟨8, 1⟩
/-- Field V of LANE_SHERR (R93). -/
def Fld.LANE_SHERR_V : Bits := ⟨0, 32⟩
/-- Field V of LANE_LOCKLOSS (R93). -/
def Fld.LANE_LOCKLOSS_V : Bits := ⟨0, 32⟩
/-- Field V of LANE_PRBSERR (R93). -/
def Fld.LANE_PRBSERR_V : Bits := ⟨0, 32⟩
/-- Field CLR of LANE_CLR (R93). -/
def Fld.LANE_CLR_CLR : Bits := ⟨0, 4⟩
/-- Field V of LANE_BIP (R93). -/
def Fld.LANE_BIP_V : Bits := ⟨0, 32⟩
/-- Field EN of SEAM_CTRL (R171). -/
def Fld.SEAM_CTRL_EN : Bits := ⟨0, 1⟩
/-- Field RETRAIN of SEAM_CTRL (R171). -/
def Fld.SEAM_CTRL_RETRAIN : Bits := ⟨16, 1⟩
/-- Field XCAM of SEAM_XCFG (R171). -/
def Fld.SEAM_XCFG_XCAM : Bits := ⟨0, 4⟩
/-- Field XLEN of SEAM_XCFG (R171). -/
def Fld.SEAM_XCFG_XLEN : Bits := ⟨8, 9⟩
/-- Field XSTART of SEAM_XSTART (R171). -/
def Fld.SEAM_XSTART_XSTART : Bits := ⟨0, 15⟩
/-- Field LSTATE of SEAM_STATE (R171). -/
def Fld.SEAM_STATE_LSTATE : Bits := ⟨0, 3⟩
/-- Field LOCK of SEAM_STATE (R171). -/
def Fld.SEAM_STATE_LOCK : Bits := ⟨4, 4⟩
/-- Field ALIGNED of SEAM_STATE (R171). -/
def Fld.SEAM_STATE_ALIGNED : Bits := ⟨8, 1⟩
/-- Field TRIES of SEAM_STATE (R171). -/
def Fld.SEAM_STATE_TRIES : Bits := ⟨9, 3⟩
/-- Field SKEW of SEAM_STATE (R171). -/
def Fld.SEAM_STATE_SKEW : Bits := ⟨16, 8⟩
/-- Field RTT of SEAM_RTT (R171). -/
def Fld.SEAM_RTT_RTT : Bits := ⟨0, 16⟩
/-- Field NODE of SEAM_PEER (R171). -/
def Fld.SEAM_PEER_NODE : Bits := ⟨0, 14⟩
/-- Field SIDE of SEAM_PEER (R171). -/
def Fld.SEAM_PEER_SIDE : Bits := ⟨14, 1⟩
/-- Field VALID of SEAM_PEER (R171). -/
def Fld.SEAM_PEER_VALID : Bits := ⟨15, 1⟩
/-- Field V of SEAM_PEERDIG (R171). -/
def Fld.SEAM_PEERDIG_V : Bits := ⟨0, 32⟩
/-- Field SEGMAX of SEAM_SEGMAX (R171). -/
def Fld.SEAM_SEGMAX_SEGMAX : Bits := ⟨0, 9⟩
/-- Field V of SEAM_CNT (R171). -/
def Fld.SEAM_CNT_V : Bits := ⟨0, 32⟩
/-- Field CLR of SEAM_CNTCLR (R171). -/
def Fld.SEAM_CNTCLR_CLR : Bits := ⟨0, 5⟩
/-- Field EVT of SEAM_EVT (R171). -/
def Fld.SEAM_EVT_EVT : Bits := ⟨0, 5⟩
/-- Field EN of SEAM_EVTEN (R171). -/
def Fld.SEAM_EVTEN_EN : Bits := ⟨0, 5⟩
/-- Field RXPOL of SLANE_CTRL (R93). -/
def Fld.SLANE_CTRL_RXPOL : Bits := ⟨0, 1⟩
/-- Field TXPOL of SLANE_CTRL (R93). -/
def Fld.SLANE_CTRL_TXPOL : Bits := ⟨1, 1⟩
/-- Field PRBS_TX of SLANE_CTRL (R93). -/
def Fld.SLANE_CTRL_PRBS_TX : Bits := ⟨2, 2⟩
/-- Field PRBS_RX of SLANE_CTRL (R93). -/
def Fld.SLANE_CTRL_PRBS_RX : Bits := ⟨4, 2⟩
/-- Field PRBS_LOCK of SLANE_CTRL (R93). -/
def Fld.SLANE_CTRL_PRBS_LOCK : Bits := ⟨8, 1⟩
/-- Field V of SLANE_SHERR (R93). -/
def Fld.SLANE_SHERR_V : Bits := ⟨0, 32⟩
/-- Field V of SLANE_LOCKLOSS (R93). -/
def Fld.SLANE_LOCKLOSS_V : Bits := ⟨0, 32⟩
/-- Field V of SLANE_PRBSERR (R93). -/
def Fld.SLANE_PRBSERR_V : Bits := ⟨0, 32⟩
/-- Field CLR of SLANE_CLR (R93). -/
def Fld.SLANE_CLR_CLR : Bits := ⟨0, 4⟩
/-- Field V of SLANE_BIP (R93). -/
def Fld.SLANE_BIP_V : Bits := ⟨0, 32⟩
/-- Field EN of TWIN_CTRL (R512). -/
def Fld.TWIN_CTRL_EN : Bits := ⟨0, 1⟩
/-- Field RETRAIN of TWIN_CTRL (R512). -/
def Fld.TWIN_CTRL_RETRAIN : Bits := ⟨16, 1⟩
/-- Field LSTATE of TWIN_STATE (R512). -/
def Fld.TWIN_STATE_LSTATE : Bits := ⟨0, 3⟩
/-- Field LOCK of TWIN_STATE (R512). -/
def Fld.TWIN_STATE_LOCK : Bits := ⟨4, 4⟩
/-- Field ALIGNED of TWIN_STATE (R512). -/
def Fld.TWIN_STATE_ALIGNED : Bits := ⟨8, 1⟩
/-- Field TRIES of TWIN_STATE (R512). -/
def Fld.TWIN_STATE_TRIES : Bits := ⟨9, 3⟩
/-- Field SKEW of TWIN_STATE (R512). -/
def Fld.TWIN_STATE_SKEW : Bits := ⟨16, 8⟩
/-- Field RTT of TWIN_RTT (R512). -/
def Fld.TWIN_RTT_RTT : Bits := ⟨0, 16⟩
/-- Field NODE of TWIN_PEER (R512). -/
def Fld.TWIN_PEER_NODE : Bits := ⟨0, 14⟩
/-- Field SIDE of TWIN_PEER (R512). -/
def Fld.TWIN_PEER_SIDE : Bits := ⟨14, 1⟩
/-- Field VALID of TWIN_PEER (R512). -/
def Fld.TWIN_PEER_VALID : Bits := ⟨15, 1⟩
/-- Field V of TWIN_CNT (R512). -/
def Fld.TWIN_CNT_V : Bits := ⟨0, 32⟩
/-- Field CLR of TWIN_CNTCLR (R512). -/
def Fld.TWIN_CNTCLR_CLR : Bits := ⟨0, 5⟩
/-- Field EVT of TWIN_EVT (R512). -/
def Fld.TWIN_EVT_EVT : Bits := ⟨0, 5⟩
/-- Field EN of TWIN_EVTEN (R512). -/
def Fld.TWIN_EVTEN_EN : Bits := ⟨0, 5⟩
/-- Field RXPOL of TLANE_CTRL (R93). -/
def Fld.TLANE_CTRL_RXPOL : Bits := ⟨0, 1⟩
/-- Field TXPOL of TLANE_CTRL (R93). -/
def Fld.TLANE_CTRL_TXPOL : Bits := ⟨1, 1⟩
/-- Field PRBS_TX of TLANE_CTRL (R93). -/
def Fld.TLANE_CTRL_PRBS_TX : Bits := ⟨2, 2⟩
/-- Field PRBS_RX of TLANE_CTRL (R93). -/
def Fld.TLANE_CTRL_PRBS_RX : Bits := ⟨4, 2⟩
/-- Field PRBS_LOCK of TLANE_CTRL (R93). -/
def Fld.TLANE_CTRL_PRBS_LOCK : Bits := ⟨8, 1⟩
/-- Field V of TLANE_SHERR (R93). -/
def Fld.TLANE_SHERR_V : Bits := ⟨0, 32⟩
/-- Field V of TLANE_LOCKLOSS (R93). -/
def Fld.TLANE_LOCKLOSS_V : Bits := ⟨0, 32⟩
/-- Field V of TLANE_PRBSERR (R93). -/
def Fld.TLANE_PRBSERR_V : Bits := ⟨0, 32⟩
/-- Field CLR of TLANE_CLR (R93). -/
def Fld.TLANE_CLR_CLR : Bits := ⟨0, 4⟩
/-- Field V of TLANE_BIP (R93). -/
def Fld.TLANE_BIP_V : Bits := ⟨0, 32⟩
/-- Field DKEN of CORR_CTRL (R146). -/
def Fld.CORR_CTRL_DKEN : Bits := ⟨0, 1⟩
/-- Field GNEN of CORR_CTRL (R146). -/
def Fld.CORR_CTRL_GNEN : Bits := ⟨1, 1⟩
/-- Field LINEN of CORR_CTRL (R146). -/
def Fld.CORR_CTRL_LINEN : Bits := ⟨2, 1⟩
/-- Field BPEN of CORR_CTRL (R146). -/
def Fld.CORR_CTRL_BPEN : Bits := ⟨3, 1⟩
/-- Field BANK of CORR_STATUS (R146). -/
def Fld.CORR_STATUS_BANK : Bits := ⟨0, 1⟩
/-- Field SEALED of CORR_STATUS (R146). -/
def Fld.CORR_STATUS_SEALED : Bits := ⟨1, 1⟩
/-- Field COPYING of CORR_STATUS (R146). -/
def Fld.CORR_STATUS_COPYING : Bits := ⟨2, 1⟩
/-- Field DIRTY of CORR_STATUS (R146). -/
def Fld.CORR_STATUS_DIRTY : Bits := ⟨3, 1⟩
/-- Field PENDING of CORR_STATUS (R146). -/
def Fld.CORR_STATUS_PENDING : Bits := ⟨4, 1⟩
/-- Field CALBUSY of CORR_STATUS (R146). -/
def Fld.CORR_STATUS_CALBUSY : Bits := ⟨5, 1⟩
/-- Field V of CORR_HOLINE_LO (R146). -/
def Fld.CORR_HOLINE_LO_V : Bits := ⟨0, 32⟩
/-- Field V of CORR_HOLINE_HI (R146). -/
def Fld.CORR_HOLINE_HI_V : Bits := ⟨0, 32⟩
/-- Field TSEL of CORR_TCTL (R146). -/
def Fld.CORR_TCTL_TSEL : Bits := ⟨0, 2⟩
/-- Field PHASE of CORR_TCTL (R146). -/
def Fld.CORR_TCTL_PHASE : Bits := ⟨2, 2⟩
/-- Field AUTOINC of CORR_TCTL (R146). -/
def Fld.CORR_TCTL_AUTOINC : Bits := ⟨4, 1⟩
/-- Field SEAL of CORR_TCTL (R146). -/
def Fld.CORR_TCTL_SEAL : Bits := ⟨8, 1⟩
/-- Field DISCARD of CORR_TCTL (R146). -/
def Fld.CORR_TCTL_DISCARD : Bits := ⟨9, 1⟩
/-- Field IDX of CORR_TIDX (R146). -/
def Fld.CORR_TIDX_IDX : Bits := ⟨0, 16⟩
/-- Field DATA of CORR_TDATA (R146). -/
def Fld.CORR_TDATA_DATA : Bits := ⟨0, 16⟩
/-- Field BPVAL of CORR_BPVAL (R146). -/
def Fld.CORR_BPVAL_BPVAL : Bits := ⟨0, 16⟩
/-- Field V of CORR_TWREJ (R146). -/
def Fld.CORR_TWREJ_V : Bits := ⟨0, 32⟩
/-- Field V of CORR_BPFAIL (R146). -/
def Fld.CORR_BPFAIL_V : Bits := ⟨0, 32⟩
/-- Field V of CORR_SATCNT (R146). -/
def Fld.CORR_SATCNT_V : Bits := ⟨0, 32⟩
/-- Field CLR of CORR_CNTCLR (R146). -/
def Fld.CORR_CNTCLR_CLR : Bits := ⟨0, 3⟩
/-- Field PRO of FOLIO_LEN0 (R201). -/
def Fld.FOLIO_LEN0_PRO : Bits := ⟨0, 12⟩
/-- Field BODY of FOLIO_LEN0 (R201). -/
def Fld.FOLIO_LEN0_BODY : Bits := ⟨16, 12⟩
/-- Field EPI of FOLIO_LEN1 (R201). -/
def Fld.FOLIO_LEN1_EPI : Bits := ⟨0, 12⟩
/-- Field EN of FOLIO_GEOM (R201). -/
def Fld.FOLIO_GEOM_EN : Bits := ⟨0, 1⟩
/-- Field LAGF of FOLIO_GEOM (R201). -/
def Fld.FOLIO_GEOM_LAGF : Bits := ⟨1, 3⟩
/-- Field REACH of FOLIO_GEOM (R201). -/
def Fld.FOLIO_GEOM_REACH : Bits := ⟨4, 3⟩
/-- Field SKEW of FOLIO_GEOM (R201). -/
def Fld.FOLIO_GEOM_SKEW : Bits := ⟨8, 2⟩
/-- Field NPL of FOLIO_GEOM (R201). -/
def Fld.FOLIO_GEOM_NPL : Bits := ⟨12, 4⟩
/-- Field MASKBITS of FOLIO_GEOM (R201). -/
def Fld.FOLIO_GEOM_MASKBITS : Bits := ⟨16, 3⟩
/-- Field TAPS of FOLIO_GEOM (R201). -/
def Fld.FOLIO_GEOM_TAPS : Bits := ⟨20, 3⟩
/-- Field BANK of FOLIO_STATUS (R201). -/
def Fld.FOLIO_STATUS_BANK : Bits := ⟨0, 1⟩
/-- Field RUNNING of FOLIO_STATUS (R201). -/
def Fld.FOLIO_STATUS_RUNNING : Bits := ⟨1, 1⟩
/-- Field WARMUP of FOLIO_STATUS (R201). -/
def Fld.FOLIO_STATUS_WARMUP : Bits := ⟨2, 1⟩
/-- Field LAG of FOLIO_STATUS (R201). -/
def Fld.FOLIO_STATUS_LAG : Bits := ⟨4, 3⟩
/-- Field GROUPS of FOLIO_STATUS (R201). -/
def Fld.FOLIO_STATUS_GROUPS : Bits := ⟨8, 11⟩
/-- Field C of FOLIO_CYC (R201). -/
def Fld.FOLIO_CYC_C : Bits := ⟨0, 24⟩
/-- Field F of FOLIO_FEND (R201). -/
def Fld.FOLIO_FEND_F : Bits := ⟨0, 24⟩
/-- Field V of FOLIO_MEMREJ (R201). -/
def Fld.FOLIO_MEMREJ_V : Bits := ⟨0, 32⟩
/-- Field V of FOLIO_PLNERR (R201). -/
def Fld.FOLIO_PLNERR_V : Bits := ⟨0, 32⟩
/-- Field CLR of FOLIO_CNTCLR (R201). -/
def Fld.FOLIO_CNTCLR_CLR : Bits := ⟨0, 2⟩
/-- Field V of FOLIO_PARAM (R201). -/
def Fld.FOLIO_PARAM_V : Bits := ⟨0, 32⟩
/-- Field V of FOLIO_SINIT (R201). -/
def Fld.FOLIO_SINIT_V : Bits := ⟨0, 32⟩
/-- Field V of FOLIO_SNAPLINE_LO (R201). -/
def Fld.FOLIO_SNAPLINE_LO_V : Bits := ⟨0, 32⟩
/-- Field V of FOLIO_SNAPLINE_HI (R201). -/
def Fld.FOLIO_SNAPLINE_HI_V : Bits := ⟨0, 32⟩
/-- Field V of FOLIO_SNAP (R201). -/
def Fld.FOLIO_SNAP_V : Bits := ⟨0, 32⟩
/-- Field EN of STITCH_CTRL (R170). -/
def Fld.STITCH_CTRL_EN : Bits := ⟨0, 1⟩
/-- Field INTERP of STITCH_CTRL (R170). -/
def Fld.STITCH_CTRL_INTERP : Bits := ⟨1, 1⟩
/-- Field EDGEW of STITCH_CTRL (R170). -/
def Fld.STITCH_CTRL_EDGEW : Bits := ⟨2, 1⟩
/-- Field EDGEE of STITCH_CTRL (R170). -/
def Fld.STITCH_CTRL_EDGEE : Bits := ⟨3, 1⟩
/-- Field HALO of STITCH_CTRL (R170). -/
def Fld.STITCH_CTRL_HALO : Bits := ⟨4, 3⟩
/-- Field WS of STITCH_WIDTH (R170). -/
def Fld.STITCH_WIDTH_WS : Bits := ⟨0, 19⟩
/-- Field V of STITCH_REFOFS (R170). -/
def Fld.STITCH_REFOFS_V : Bits := ⟨0, 32⟩
/-- Field FILL of STITCH_FILL (R170). -/
def Fld.STITCH_FILL_FILL : Bits := ⟨0, 16⟩
/-- Field V of CD_ORIGIN (R170). -/
def Fld.CD_ORIGIN_V : Bits := ⟨0, 32⟩
/-- Field V of CD_PITCH (R170). -/
def Fld.CD_PITCH_V : Bits := ⟨0, 32⟩
/-- Field CD_DIR of CD_DIR (R170). -/
def Fld.CD_DIR_CD_DIR : Bits := ⟨0, 1⟩
/-- Field V of STITCH_MISS (R170). -/
def Fld.STITCH_MISS_V : Bits := ⟨0, 32⟩
/-- Field V of STITCH_BADREF (R170). -/
def Fld.STITCH_BADREF_V : Bits := ⟨0, 32⟩
/-- Field V of STITCH_CLAMP (R170). -/
def Fld.STITCH_CLAMP_V : Bits := ⟨0, 32⟩
/-- Field V of STITCH_TWREJ (R170). -/
def Fld.STITCH_TWREJ_V : Bits := ⟨0, 32⟩
/-- Field CLR of STITCH_CNTCLR (R170). -/
def Fld.STITCH_CNTCLR_CLR : Bits := ⟨0, 4⟩
/-- Field V of TERR_START (R170). -/
def Fld.TERR_START_V : Bits := ⟨0, 19⟩
/-- Field V of TERR_LEN (R170). -/
def Fld.TERR_LEN_V : Bits := ⟨0, 16⟩
/-- Field D of STITCH_MDDLY (R170). -/
def Fld.STITCH_MDDLY_D : Bits := ⟨0, 16⟩
/-- Field DEEP of STITCH_MDDLY (R170). -/
def Fld.STITCH_MDDLY_DEEP : Bits := ⟨16, 1⟩
/-- Field V of STITCH_DDBASE_LO (R170). -/
def Fld.STITCH_DDBASE_LO_V : Bits := ⟨0, 32⟩
/-- Field V of STITCH_DDBASE_HI (R170). -/
def Fld.STITCH_DDBASE_HI_V : Bits := ⟨0, 2⟩
/-- Field V of BND_START (R170). -/
def Fld.BND_START_V : Bits := ⟨0, 20⟩
/-- Field LEN of BND_CFG (R170). -/
def Fld.BND_CFG_LEN : Bits := ⟨0, 9⟩
/-- Field TSEL of RMP_TCTL (R170). -/
def Fld.RMP_TCTL_TSEL : Bits := ⟨0, 1⟩
/-- Field AUTOINC of RMP_TCTL (R170). -/
def Fld.RMP_TCTL_AUTOINC : Bits := ⟨4, 1⟩
/-- Field SEAL of RMP_TCTL (R170). -/
def Fld.RMP_TCTL_SEAL : Bits := ⟨8, 1⟩
/-- Field DISCARD of RMP_TCTL (R170). -/
def Fld.RMP_TCTL_DISCARD : Bits := ⟨9, 1⟩
/-- Field ATEN of RMP_TCTL (R170). -/
def Fld.RMP_TCTL_ATEN : Bits := ⟨10, 1⟩
/-- Field BANK of RMP_TCTL (R170). -/
def Fld.RMP_TCTL_BANK : Bits := ⟨16, 1⟩
/-- Field SEALED of RMP_TCTL (R170). -/
def Fld.RMP_TCTL_SEALED : Bits := ⟨17, 1⟩
/-- Field COPYING of RMP_TCTL (R170). -/
def Fld.RMP_TCTL_COPYING : Bits := ⟨18, 1⟩
/-- Field DIRTY of RMP_TCTL (R170). -/
def Fld.RMP_TCTL_DIRTY : Bits := ⟨19, 1⟩
/-- Field IDX of RMP_TIDX (R170). -/
def Fld.RMP_TIDX_IDX : Bits := ⟨0, 19⟩
/-- Field V of RMP_TDATA (R170). -/
def Fld.RMP_TDATA_V : Bits := ⟨0, 32⟩
/-- Field V of RMP_AT_LO (R170). -/
def Fld.RMP_AT_LO_V : Bits := ⟨0, 32⟩
/-- Field V of RMP_AT_HI (R170). -/
def Fld.RMP_AT_HI_V : Bits := ⟨0, 32⟩
/-- Field EN of STACKS_CTRL (R347). -/
def Fld.STACKS_CTRL_EN : Bits := ⟨0, 1⟩
/-- Field WIDTH of STACKS_CTRL (R347). -/
def Fld.STACKS_CTRL_WIDTH : Bits := ⟨1, 2⟩
/-- Field NROWS of STACKS_NROWS (R347). -/
def Fld.STACKS_NROWS_NROWS : Bits := ⟨0, 24⟩
/-- Field V of STACKS_BASE_LO (R347). -/
def Fld.STACKS_BASE_LO_V : Bits := ⟨0, 32⟩
/-- Field V of STACKS_BASE_HI (R347). -/
def Fld.STACKS_BASE_HI_V : Bits := ⟨0, 2⟩
/-- Field V of STACKS_STRIDE (R347). -/
def Fld.STACKS_STRIDE_V : Bits := ⟨0, 20⟩
/-- Field V of STACKS_HEADROW_LO (R347). -/
def Fld.STACKS_HEADROW_LO_V : Bits := ⟨0, 32⟩
/-- Field V of STACKS_HEADROW_HI (R347). -/
def Fld.STACKS_HEADROW_HI_V : Bits := ⟨0, 32⟩
/-- Field V of STACKS_HEADLINE_LO (R347). -/
def Fld.STACKS_HEADLINE_LO_V : Bits := ⟨0, 32⟩
/-- Field V of STACKS_HEADLINE_HI (R347). -/
def Fld.STACKS_HEADLINE_HI_V : Bits := ⟨0, 32⟩
/-- Field V of STACKS_OLDROW_LO (R347). -/
def Fld.STACKS_OLDROW_LO_V : Bits := ⟨0, 32⟩
/-- Field V of STACKS_OLDROW_HI (R347). -/
def Fld.STACKS_OLDROW_HI_V : Bits := ⟨0, 32⟩
/-- Field V of STACKS_CSBASE_LO (R347). -/
def Fld.STACKS_CSBASE_LO_V : Bits := ⟨0, 32⟩
/-- Field V of STACKS_CSBASE_HI (R347). -/
def Fld.STACKS_CSBASE_HI_V : Bits := ⟨0, 2⟩
/-- Field V of STACKS_CNT (R347). -/
def Fld.STACKS_CNT_V : Bits := ⟨0, 32⟩
/-- Field CLR of STACKS_CNTCLR (R347). -/
def Fld.STACKS_CNTCLR_CLR : Bits := ⟨0, 6⟩
/-- Field EVT of STACKS_EVT (R347). -/
def Fld.STACKS_EVT_EVT : Bits := ⟨0, 4⟩
/-- Field EN of STACKS_EVTEN (R347). -/
def Fld.STACKS_EVTEN_EN : Bits := ⟨0, 4⟩
/-- Field GO of RP_CTRL (R348). -/
def Fld.RP_CTRL_GO : Bits := ⟨0, 1⟩
/-- Field ABORT of RP_CTRL (R348). -/
def Fld.RP_CTRL_ABORT : Bits := ⟨1, 1⟩
/-- Field RUNNING of RP_CTRL (R348). -/
def Fld.RP_CTRL_RUNNING : Bits := ⟨2, 1⟩
/-- Field STATUS of RP_CTRL (R348). -/
def Fld.RP_CTRL_STATUS : Bits := ⟨4, 3⟩
/-- Field V of RP_FIRST_LO (R348). -/
def Fld.RP_FIRST_LO_V : Bits := ⟨0, 32⟩
/-- Field V of RP_FIRST_HI (R348). -/
def Fld.RP_FIRST_HI_V : Bits := ⟨0, 32⟩
/-- Field V of RP_COUNT (R348). -/
def Fld.RP_COUNT_V : Bits := ⟨0, 32⟩
/-- Field V of RP_TSTART (R348). -/
def Fld.RP_TSTART_V : Bits := ⟨0, 19⟩
/-- Field V of RP_TLEN (R348). -/
def Fld.RP_TLEN_V : Bits := ⟨0, 16⟩
/-- Field V of RP_HALO (R348). -/
def Fld.RP_HALO_V : Bits := ⟨0, 3⟩
/-- Field V of RP_ROW_LO (R348). -/
def Fld.RP_ROW_LO_V : Bits := ⟨0, 32⟩
/-- Field V of RP_ROW_HI (R348). -/
def Fld.RP_ROW_HI_V : Bits := ⟨0, 32⟩
/-- Field V of RP_TICK (R348). -/
def Fld.RP_TICK_V : Bits := ⟨0, 32⟩
/-- Field STATE of MEMC_STATUS (R438). -/
def Fld.MEMC_STATUS_STATE : Bits := ⟨0, 3⟩
/-- Field SELFREF of MEMC_STATUS (R438). -/
def Fld.MEMC_STATUS_SELFREF : Bits := ⟨3, 1⟩
/-- Field FPEND of MEMC_STATUS (R438). -/
def Fld.MEMC_STATUS_FPEND : Bits := ⟨4, 1⟩
/-- Field IMGPEND of MEMC_STATUS (R438). -/
def Fld.MEMC_STATUS_IMGPEND : Bits := ⟨5, 1⟩
/-- Field RATE of MEMC_FREQ (R438). -/
def Fld.MEMC_FREQ_RATE : Bits := ⟨0, 2⟩
/-- Field USEIMG of MEMC_TRAIN (R438). -/
def Fld.MEMC_TRAIN_USEIMG : Bits := ⟨0, 1⟩
/-- Field QFAIL of MEMC_TRAIN (R438). -/
def Fld.MEMC_TRAIN_QFAIL : Bits := ⟨1, 8⟩
/-- Field RETRAIN of MEMC_TRAIN (R438). -/
def Fld.MEMC_TRAIN_RETRAIN : Bits := ⟨9, 1⟩
/-- Field KIND of MEMC_ERRINFO (R438). -/
def Fld.MEMC_ERRINFO_KIND : Bits := ⟨0, 2⟩
/-- Field CHAN of MEMC_ERRINFO (R438). -/
def Fld.MEMC_ERRINFO_CHAN : Bits := ⟨2, 3⟩
/-- Field BANK of MEMC_ERRINFO (R438). -/
def Fld.MEMC_ERRINFO_BANK : Bits := ⟨5, 4⟩
/-- Field SOURCE of MEMC_ERRINFO (R438). -/
def Fld.MEMC_ERRINFO_SOURCE : Bits := ⟨16, 8⟩
/-- Field REPLAYS of MEMC_ERRINFO (R438). -/
def Fld.MEMC_ERRINFO_REPLAYS : Bits := ⟨24, 4⟩
/-- Field WRITE of MEMC_ERRINFO (R438). -/
def Fld.MEMC_ERRINFO_WRITE : Bits := ⟨28, 1⟩
/-- Field V of MEMC_ERRADDR_LO (R438). -/
def Fld.MEMC_ERRADDR_LO_V : Bits := ⟨0, 32⟩
/-- Field V of MEMC_ERRADDR_HI (R438). -/
def Fld.MEMC_ERRADDR_HI_V : Bits := ⟨0, 2⟩
/-- Field PEAK of MEMC_WBPEAK (R438). -/
def Fld.MEMC_WBPEAK_PEAK : Bits := ⟨0, 24⟩
/-- Field V of MEMC_CNT (R438). -/
def Fld.MEMC_CNT_V : Bits := ⟨0, 32⟩
/-- Field CLR of MEMC_CNTCLR (R438). -/
def Fld.MEMC_CNTCLR_CLR : Bits := ⟨0, 5⟩
/-- Field EVT of MEMC_EVT (R438). -/
def Fld.MEMC_EVT_EVT : Bits := ⟨0, 4⟩
/-- Field EN of MEMC_EVTEN (R438). -/
def Fld.MEMC_EVTEN_EN : Bits := ⟨0, 4⟩
/-- Field OWED of MEMC_CHST (R438). -/
def Fld.MEMC_CHST_OWED : Bits := ⟨0, 4⟩
/-- Field MAXOWED of MEMC_CHST (R438). -/
def Fld.MEMC_CHST_MAXOWED : Bits := ⟨4, 4⟩
/-- Field QDEPTH of MEMC_CHST (R438). -/
def Fld.MEMC_CHST_QDEPTH : Bits := ⟨8, 8⟩
/-- Field EN of HOST_CTRL (R404). -/
def Fld.HOST_CTRL_EN : Bits := ⟨0, 1⟩
/-- Field MODE of HOST_CTRL (R404). -/
def Fld.HOST_CTRL_MODE : Bits := ⟨1, 2⟩
/-- Field JUMBO of HOST_CTRL (R404). -/
def Fld.HOST_CTRL_JUMBO : Bits := ⟨3, 1⟩
/-- Field FWD of HOST_CTRL (R404). -/
def Fld.HOST_CTRL_FWD : Bits := ⟨4, 1⟩
/-- Field LINK of HOST_STATUS (R404). -/
def Fld.HOST_STATUS_LINK : Bits := ⟨0, 4⟩
/-- Field HSER of HOST_STATUS (R404). -/
def Fld.HOST_STATUS_HSER : Bits := ⟨4, 4⟩
/-- Field VID of HOST_VLAN (R404). -/
def Fld.HOST_VLAN_VID : Bits := ⟨0, 12⟩
/-- Field PCP of HOST_VLAN (R404). -/
def Fld.HOST_VLAN_PCP : Bits := ⟨12, 3⟩
/-- Field VLANEN of HOST_VLAN (R404). -/
def Fld.HOST_VLAN_VLANEN : Bits := ⟨15, 1⟩
/-- Field EVT of HOST_EVT (R404). -/
def Fld.HOST_EVT_EVT : Bits := ⟨0, 8⟩
/-- Field EN of HOST_EVTEN (R404). -/
def Fld.HOST_EVTEN_EN : Bits := ⟨0, 8⟩
/-- Field V of SP_MAC_LO (R404). -/
def Fld.SP_MAC_LO_V : Bits := ⟨0, 32⟩
/-- Field V of SP_MAC_HI (R404). -/
def Fld.SP_MAC_HI_V : Bits := ⟨0, 16⟩
/-- Field V of SP_IPV4 (R404). -/
def Fld.SP_IPV4_V : Bits := ⟨0, 32⟩
/-- Field V of SP_IPV6 (R404). -/
def Fld.SP_IPV6_V : Bits := ⟨0, 32⟩
/-- Field HOP of SP_HOP (R404). -/
def Fld.SP_HOP_HOP : Bits := ⟨0, 8⟩
/-- Field V of SP_CNT (R404). -/
def Fld.SP_CNT_V : Bits := ⟨0, 32⟩
/-- Field CLR of SP_CNTCLR (R404). -/
def Fld.SP_CNTCLR_CLR : Bits := ⟨0, 6⟩
/-- Field EN of OHT_CTRL (R405). -/
def Fld.OHT_CTRL_EN : Bits := ⟨0, 1⟩
/-- Field CROPCH of OHT_CTRL (R405). -/
def Fld.OHT_CTRL_CROPCH : Bits := ⟨1, 3⟩
/-- Field ATTN of OHT_ATTN (R405). -/
def Fld.OHT_ATTN_ATTN : Bits := ⟨0, 6⟩
/-- Field EN of OHT_ATTNEN (R405). -/
def Fld.OHT_ATTNEN_EN : Bits := ⟨0, 6⟩
/-- Field DEST of OHT_NOTEDST (R405). -/
def Fld.OHT_NOTEDST_DEST : Bits := ⟨0, 4⟩
/-- Field PORT of OHT_NOTEDST (R405). -/
def Fld.OHT_NOTEDST_PORT : Bits := ⟨4, 1⟩
/-- Field SUB of OHT_NOTEDST (R405). -/
def Fld.OHT_NOTEDST_SUB : Bits := ⟨5, 2⟩
/-- Field ACTIVE of OHT_SESS (R405). -/
def Fld.OHT_SESS_ACTIVE : Bits := ⟨0, 1⟩
/-- Field HELD of OHT_SESS (R405). -/
def Fld.OHT_SESS_HELD : Bits := ⟨1, 4⟩
/-- Field V of OHT_CNT (R405). -/
def Fld.OHT_CNT_V : Bits := ⟨0, 32⟩
/-- Field CLR of OHT_CNTCLR (R405). -/
def Fld.OHT_CNTCLR_CLR : Bits := ⟨0, 8⟩
/-- Field PORT of CQ_CFG (R405). -/
def Fld.CQ_CFG_PORT : Bits := ⟨0, 1⟩
/-- Field SUB of CQ_CFG (R405). -/
def Fld.CQ_CFG_SUB : Bits := ⟨1, 2⟩
/-- Field DEST of CQ_CFG (R405). -/
def Fld.CQ_CFG_DEST : Bits := ⟨4, 4⟩
/-- Field RETX of CQ_CFG (R405). -/
def Fld.CQ_CFG_RETX : Bits := ⟨16, 16⟩
/-- Field V of CQ_LAST_LO (R405). -/
def Fld.CQ_LAST_LO_V : Bits := ⟨0, 32⟩
/-- Field V of CQ_LAST_HI (R405). -/
def Fld.CQ_LAST_HI_V : Bits := ⟨0, 16⟩
/-- Field V of CQ_DGRAMS (R405). -/
def Fld.CQ_DGRAMS_V : Bits := ⟨0, 32⟩
/-- Field SRC of STR_CFG (R405). -/
def Fld.STR_CFG_SRC : Bits := ⟨0, 2⟩
/-- Field TIMED of STR_CFG (R405). -/
def Fld.STR_CFG_TIMED : Bits := ⟨2, 1⟩
/-- Field BEPORT of STR_CFG (R405). -/
def Fld.STR_CFG_BEPORT : Bits := ⟨3, 1⟩
/-- Field SUB of STR_CFG (R405). -/
def Fld.STR_CFG_SUB : Bits := ⟨4, 2⟩
/-- Field DEST of STR_CFG (R405). -/
def Fld.STR_CFG_DEST : Bits := ⟨8, 4⟩
/-- Field V of STR_SEQ (R405). -/
def Fld.STR_SEQ_V : Bits := ⟨0, 32⟩
/-- Field V of STR_REC_LO (R405). -/
def Fld.STR_REC_LO_V : Bits := ⟨0, 32⟩
/-- Field V of STR_REC_HI (R405). -/
def Fld.STR_REC_HI_V : Bits := ⟨0, 32⟩
/-- Field V of RLY_COL0 (R405). -/
def Fld.RLY_COL0_V : Bits := ⟨0, 19⟩
/-- Field V of RLY_NCOL (R405). -/
def Fld.RLY_NCOL_V : Bits := ⟨0, 19⟩
/-- Field WIDTH of RLY_CFG (R405). -/
def Fld.RLY_CFG_WIDTH : Bits := ⟨0, 2⟩
/-- Field EVERY of RLY_CFG (R405). -/
def Fld.RLY_CFG_EVERY : Bits := ⟨8, 8⟩
/-- Field V of DST_MAC0 (R405). -/
def Fld.DST_MAC0_V : Bits := ⟨0, 32⟩
/-- Field MAC45 of DST_MAC1 (R405). -/
def Fld.DST_MAC1_MAC45 : Bits := ⟨0, 16⟩
/-- Field V6 of DST_MAC1 (R405). -/
def Fld.DST_MAC1_V6 : Bits := ⟨16, 1⟩
/-- Field DSCP of DST_MAC1 (R405). -/
def Fld.DST_MAC1_DSCP : Bits := ⟨24, 6⟩
/-- Field V of DST_IP (R405). -/
def Fld.DST_IP_V : Bits := ⟨0, 32⟩
/-- Field PORT of DST_UDP (R405). -/
def Fld.DST_UDP_PORT : Bits := ⟨0, 16⟩

end Sys2Proof.Machine
end

