-- ==== Sys2Proof/Machine/State.lean ====
section
/-! DEFINITION. The state of the module: every register, memory, queue and mode the spec gives it, as plain data; the
faults and refusals; and the state right after RESET_N is released. -/

namespace Sys2Proof.Machine


/-- What the module sends, the model's own record of it (log 3). -/
inductive Output where
  /-- TRIG k goes active (R114). -/
  | trigPulse (k : Nat) (at_ : Nat)
  /-- A test edge of TRIGDLY reaches TRIG k: when it is injected, and how long the pulse lasts (R138). -/
  | testPulse (k start width : Nat)
  /-- TRIG k returns to inactive. -/
  | trigEnd (k : Nat)
  /-- A trigger token leaves port n; HOLD in unit intervals (R69, R112). -/
  | token (n tseq phase hold : Nat) (count : Int)
  /-- An upstream alignment-marker row, moved one row by a token or not, with the body on each lane that runs (R58, R62, R71). -/
  | amRow (m : Nat) (moved : Bool) (bodies : List (BitVec 64))
  /-- A MGMT block leaves link m (R75, R163, R502). -/
  | mgmt (m sub part : Nat) (data : BitVec 48)
  /-- A camera register REQ leaves port n (R73). -/
  | creq (n tag : Nat) (write : Bool) (addr : Nat) (data : Word)
  /-- A serial port opens a frame with its latch pulse (R96). -/
  | sposClk (k : Nat) (latchNs : Nat)
  /-- EVOUT k changes (R449). -/
  | evout (k : Nat) (active : Bool)
  /-- A copy of a seam or pair frame leaves link m (R164 to R166). -/
  | seamFrame (m kind copy chunk : Nat) (last : Bool) (line : Int) (blocks : List (BitVec 64))
  /-- Control cluster interrupt k is raised (R447). -/
  | interrupt (k : Nat)
  /-- A frame leaves a host sub-port, from its destination address to the byte before its FCS (R374, R377). -/
  | frame (port sub at_ : Nat) (bytes : List Byte)
  /-- A PTP message leaves a host sub-port (R412). -/
  | ptp (port sub kind seq : Nat) (stamp corr : Int)
  /-- A JTAG instruction other than BYPASS and IDCODE takes its data register (R556). -/
  | boundary (ir bits : List Bool)
  /-- The two-wire target drives a byte (R455, R465). -/
  | twiByte (b : Nat)
  /-- HB changes (R504). -/
  | hbEdge (level : Bool)
  /-- Every output pin is released (R516). -/
  | released
  /-- A forwarded frame leaves the other host port, a PTP event message with its new correctionField (R375, R416). -/
  | forwarded (port at_ : Nat) (bytes : List Byte) (corr : Option Int)
  /-- A register read made by itself returns a word (R9, R12). -/
  | readWord (a : Nat) (w : Word)
  deriving DecidableEq, Repr

/-- The operating states of R521, with Off and the reset of R516. -/
inductive Mode where
  | off | inReset | starting | standby | poised | inspecting | halted | frozen
  deriving DecidableEq, Repr

/-- One thing that waits for its moment: a producer's event on its way to the router's channels, or a channel's fire on its way to a
task input (R439 to R447); an edge of A or B, or an active edge of Z, that the decoder decides 2 ns after it (R95, R117), with the
level of the other signal and the time of the edge; a serial frame that has been sampled, with that time; a SET or a STEP of the time at
the end of its cycle (R407). -/
inductive EvrItem where
  | request (producer : Nat)
  | task (t : Nat)
  | edge (k : Nat) (onB level other : Bool) (at_ : Nat)
  | index (k : Nat)
  | frame (k : Nat) (status : Bool) (pos check at_ : Nat)
  | setTime (sec ns : Nat)
  | stepTime (ns : Int)
  deriving DecidableEq, Repr

/-- A waiting item and the time (ps) at which it acts. -/
structure EvrWait where
  due : Nat
  item : EvrItem
  deriving DecidableEq, Repr

/-- What a router channel holds beside its registers: the time of its last fire, the fires of the last 1 µs (R445), and
whether a request is deferred to the end of its spacing (R444). -/
structure EvrChan where
  lastFire : Option Nat
  recent : List Nat
  deferred : Bool
  deriving DecidableEq, Repr

/-- The levels of the input pins (R546), and what the board holds on the module. DESIGN CHOICE, log 12. -/
structure Pins where
  en : Bool
  resetN : Bool
  role : Bool
  twAddr : Nat
  boot : Nat
  twRstN : Bool
  evin : Nat
  profSync : Bool
  deriving DecidableEq, Repr

/-- The output pins that no register shows: a TRIG pulse's start and end per output, an EVOUT pulse's end per output, HB, HOST_RDY,
TEMP_ALERT_N asserted, PG (R114, R449, R504, R402, R539, R515). -/
structure OutPins where
  trigEnd : Store (Option (Nat × Nat))
  evoutEnd : Store (Option Nat)
  hb : Bool
  hostRdy : Bool
  tempAlert : Bool
  pg : Bool
  deriving DecidableEq, Repr

/-- A breach or H error that waits for its line boundary (R253, R469): its code and unit (0 for an H error that acts as a
breach), the line its rule names, whether it records the entry BREACH, and when it arose. -/
structure Breach where
  code : Nat
  unit : Nat
  line : Option Int
  own : Bool
  at_ : Nat
  deriving DecidableEq, Repr

/-- The ledger beside its registers: the next slot (R470), the breaches that wait, a requested stop of inspection (R525),
the boundary line once its reference trigger has come, whether a restart is prepared, the line and time of the last halt, and the
cycle of the last entries: its time, their slots in serial order, and the highest class under way when it began (0 none, 1 H, 2 F;
R476). -/
structure ErrHid where
  nextSlot : Nat
  breaches : List Breach
  stopReq : Bool
  boundary : Option Int
  restarting : Bool
  haltLine : Option Int
  haltAt : Nat
  cycleAt : Nat
  cycle : List Nat
  cycleTop : Nat
  deriving DecidableEq, Repr


/-- One position input (R94 to R105): pin levels as the decoder holds them, the direction of the last counted step, the
speed history (steps and interval in ns, newest first), the last step since the history was lost and the resolution it was timed with,
the last step since the last stall, and for a serial port the frame in progress, the previous position and the run of failed frames. -/
structure PosIn where
  a : Bool
  b : Bool
  z : Bool
  lastUp : Option Bool
  hist : List (Nat × Nat)
  lastStep : Option (Nat × Bool)
  moved : Option Nat
  frameAt : Option Nat
  prevPos : Option Nat
  fails : Nat
  deriving DecidableEq, Repr

/-- A camera of the trigger generator (R107 to R111), index 12 standing for the reference trigger of R148: whether it has
been armed, its next line where no register holds it, and its last trigger time. -/
structure TrgCam where
  armed : Bool
  nextRef : Int
  lastFire : Option Nat
  deriving DecidableEq, Repr

/-- The reference triggers (R23, R26, R566): the last one's line and time and those of the one before, the greatest line come since the
trigger generator last armed; and the time of the edge, or of the last sampled bit, that is being counted (R115). -/
structure TrgHid where
  lastRef : Option (Int × Nat)
  prevRef : Option (Int × Nat)
  maxRef : Option Int
  edge : Nat
  deriving DecidableEq, Repr

/-- An arrival window of a camera port (R82): the trigger's TSEQ, line, phase and time, the web count and PTP time of the
trigger, the packet that counts, its corrected pixels, CAM_FILL, CORR_BPVAL, FMT and W at the trigger (R25, R83), the bank that corrects it
(R129), ACC_LRMAX at the trigger, which gives its Pmin (R17, R23), and its shelfmark (R54). -/
structure Window where
  tseq : Nat
  line : Int
  phase : Nat
  at_ : Nat
  count : Int
  stamp : Nat
  token : Bool
  pk : Option LinePacket
  pixels : List Nat
  fill : Nat
  bpval : Nat
  fmt : Nat
  width : Nat
  bank : Nat
  lrmax : Nat
  mark : List Byte
  deriving DecidableEq, Repr

/-- A camera port's windows: open ones, and the last four closed whose token counts (R82); in a standby, whether the port is to adopt
the token count, and the packets in a row that named no kept trigger (R494). -/
structure PortHid where
  windows : List Window
  closed : List Window
  adopting : Bool
  strays : Nat
  deriving DecidableEq, Repr

/-- What waits to leave, or has left, on the upstream lanes since the last alignment marker (R61, R71): the row it starts in, its place in
the order of R71, and its rows of blocks before scrambling, as sync header and body. -/
structure UpUnit where
  row : Nat
  cls : Nat
  rows : List (List (Nat × BitVec 64))
  deriving DecidableEq, Repr

/-- The transmitter of a link (R60 to R62, R71): when its lanes began to send rows, the row of the last alignment marker, the scrambler of each
lane after that row, and what has been given to it since. -/
structure UpTx where
  startAt : Option Nat
  amRow : Nat
  scr : List (BitVec 58)
  units : List UpUnit
  deriving DecidableEq, Repr

/-- A link beside its registers (R59 to R79, R163, R502): lanes with recovered clock, good AM rows in DESKEW and bad ones when
aligned, the times of the attempt, of HANDSHAKE and of READY, the CONFIG sent and whether it was acknowledged, the ECHOs done
and the one outstanding, the outstanding camera register access (TAG, time,
whether it writes), the PRBS checker's register per lane (R90), whether DISABLED was reached from FAILED and EN has been 0 since (R78), and
the transmitter. -/
structure LinkHid where
  recovered : Bool
  goodAm : Nat
  badAm : Nat
  attemptAt : Nat
  handshakeAt : Nat
  readyAt : Nat
  helloOk : Bool
  config : Option (BitVec 48 × Nat)
  configAcked : Bool
  echoes : Nat
  echo : Option (BitVec 48 × Nat)
  cregTag : Nat
  cregAt : Option Nat
  cregWrite : Bool
  prbs : Store Nat
  failed : Option Bool
  up : UpTx
  deriving DecidableEq, Repr

/-- A stitched line between its reference trigger and the end of its slot (R23): line, T_j in ps, web count, PTP time of the
trigger, how far its work has come (0 waiting for S_j, 1 open), the registers as they stood at the trigger (R25), the bank of the remap
tables that stitches it (R156), and the P of its collection (R48). -/
structure Slot where
  line : Int
  at_ : Nat
  count : Int
  stamp : Nat
  phase : Nat
  stage : Nat
  regs : Store Word
  bank : Nat
  phases : Nat
  deriving DecidableEq, Repr

/-- The correction unit of a pipeline beside its registers (R126 to R130, R143): the live and the shadow tables (key: table ×
2^17 + phase × 2^15 + index), the live tables before the last bank change, the written marks, j_h while sealed, the seal waiting for a copy and its group, the trigger at
which the bank change falls due, the greatest line triggered, and the restored camera identity. -/
structure CorrHid where
  live : Store Nat
  shadow : Store Nat
  old : Store Nat
  marks : Store Bool
  jh : Option Int
  group : List Nat
  sealWait : Bool
  due : Option Int
  lastLine : Option Int
  identity : Option (List Word)
  deriving DecidableEq, Repr

/-- The calibration in progress (R133 to R139): the command and limits as they stood at GO, the time of GO, per column the sum
of the samples and whether one was at the format's maximum, and the lines taken. -/
structure CalRun where
  kind : Nat
  target : Nat
  phase : Nat
  cmd : Word
  tgt : Word
  lim0 : Word
  lim1 : Word
  lim2 : Word
  startAt : Nat
  sums : Store Nat
  maxed : Store Bool
  lines : Nat
  deriving DecidableEq, Repr


/-- A camera line held in a line store or deep-delay ring slot (R151): its line, outcome flags, pixels and shelfmark (R54). -/
structure HeldLine where
  line : Int
  flags : Nat
  pixels : List Nat
  mark : List Byte
  deriving DecidableEq, Repr

/-- A received export or halo frame of a side (12 SEAMW, 13 SEAME): its line, its pixels, and the flags of an H-frame. -/
structure SeamRow where
  side : Nat
  halo : Bool
  line : Int
  flags : Nat
  pixels : List Nat
  deriving DecidableEq, Repr

/-- The stitched line whose slot is open (R151, R153): its line, the source row and flags of each camera, the sides whose H-frame
is still to be sent. -/
structure OpenLine where
  line : Int
  rows : List HeldLine
  owed : List Nat
  deriving DecidableEq, Repr

/-- The stitch engine beside its registers: the remap and secondary tables (key: table × 2^19 + index) in two banks, the tables that were
live before the last bank change, marks, a seal that waits for a copy, the line a sealed change waits for, and whether the change is due; the line stores per camera;
the open stitched line; the frames received for lines to come. -/
structure StitchHid where
  live : Store Word
  shadow : Store Word
  old : Store Word
  marks : Store Bool
  sealWait : Bool
  atLine : Option Int
  due : Option Int
  lines : Store (Store (Option HeldLine))
  cur : Option OpenLine
  frames : List SeamRow
  deriving DecidableEq, Repr


/-- A row of a folio engine's input ring (R187): line, phase, and a value for every sweep column; with what the segmentation
engine needs of the line: web count, time (PTP, and in ps; 0 for a stored row), flags of the cameras here and of the neighbours, CD of column
0, and its line shelfmark, which on a reading pipeline carries that pipeline's number (R54, R56). -/
structure RingRow where
  line : Int
  phase : Nat
  md : Int
  count : Int
  stamp : Nat
  at_ : Nat
  flags : Nat
  flagsW : Nat
  flagsE : Nat
  cd : Int
  mark : List Byte
  cols : List Nat
  deriving DecidableEq, Repr

/-- A folio engine beside its registers (R182 to R196): vector registers (key: register × 32 + lane), scalar registers, plane
slots (key: slot × 2^16 + sweep column), outputs of the line (key: output × 2^16 + sweep column; 0 MASK, 1 VALUE, 2 + n TAPn),
the input ring newest first, the iteration, slots still without output (R191, R198), the parameters in force for the line, the
word-addressed folio memory, and whether its territory has been delivered for the open slot. -/
structure FolioHid where
  v : Store Nat
  sc : Store Nat
  planes : Store Nat
  outs : Store Nat
  ring : List RingRow
  iter : Int
  warm : Nat
  params : List Nat
  mem : Store Word
  ready : Bool
  done : Bool
  deriving DecidableEq, Repr


/-- Accession beside its registers (R233 to R242): an armed switch with its line (none: the next), the line at whose trigger it fell
due, the first line of a collection whose hand-over the engines have still to take with whether the ring is emptied and how many
slots give no output, the last messages of the neighbours by side (12, 13): staged (digest, INDEX, CONT) and live digest, since when
the live digests differ, the pin rate the accepted and the live collection were priced at, their numbers of phases (R48), the links that were READY at
the COMMIT (R230), the stacks retention in rows that accession returned (R323), and, while a prepared start waits, the base and
SIZE that the queues 48 to 63 had before its pool allocation (R237, R522). -/
structure AccHid where
  arm : Option (Option Int)
  due : Option Int
  engineAt : Option (Int × Bool × Nat)
  peers : Store (Nat × Nat × Int)
  livePeers : Store (Option Nat)
  differ : Store (Option Nat)
  stagedRate : Nat
  liveRate : Nat
  stagedPhases : Nat
  livePhases : Nat
  ready : List Nat
  retention : Nat
  pool : Option (List (Nat × Nat))
  deriving DecidableEq, Repr



/-- The web position and time that a line's shelfmark names (R54): MD in µm, web count, PTP time of the trigger; and CD of its column 0 in
µm, from which that of another column is counted (R42, R56). -/
structure LineMark where
  md : Int
  count : Int
  stamp : Nat
  cd : Int
  deriving DecidableEq, Repr

/-- The features of a segment or piece (R264): first and last line, pixels, chain columns of the west and east edge, sums, extremes,
runs, HIST0 to HIST3, whether one has saturated (R265), and the mark of the first line. -/
structure Features where
  first : Int
  last : Int
  area : Nat
  col0 : Int
  east : Int
  vsum : Nat
  vsq : Nat
  vmin : Nat
  vmax : Nat
  xsum : Nat
  ysum : Nat
  runs : Nat
  hist : List Nat
  sat : Bool
  mark : LineMark
  deriving DecidableEq, Repr

/-- An entry of the segment table (R260 to R273): its index, 65536 for the overflow segment; SEGID; the features of the present
piece; PIECE; card flags; runs on the latest line; whether it has ended and waits (R263); whether it touches the column that SEAME
owns, or the column that waits for SEAMW; whether an overflow of segment records has cut it off from SEAME (R273). -/
structure Segment where
  tag : Nat
  segid : Nat
  f : Features
  piece : Nat
  flags : Nat
  runs : List (Nat × Nat)
  ended : Bool
  edge : Bool
  west : Bool
  cut : Bool
  deriving DecidableEq, Repr

/-- A closed segment or piece on its way to a card: type (1 defect, 2 overflow), table index, SEGID, features, PIECE, flags,
closing line, the time (ps) by which its card's last bit is to leave (R249, R330), the reading pipeline of a replay strip, and whether it goes
to SEAME, and whether it waits for the parts of SEAMW (R268). -/
structure ClosedSeg where
  typ : Nat
  tag : Nat
  segid : Nat
  f : Features
  piece : Nat
  flags : Nat
  closing : Int
  due : Nat
  replay : Option Nat
  east : Bool
  west : Bool
  deriving DecidableEq, Repr

/-- A part of a segment in the west neighbour (R270): the sender's TAG, the indexes of own segments linked to it, the lines on
which both sides are masked at the seam (R271), its CLOSED group, once arrived, with the group's line, and the SEGID that its earlier pieces
were issued with (R288). -/
structure WestPart where
  tag : Nat
  links : List Nat
  shared : Nat
  group : Option ClosedSeg
  segid : Option Nat
  deriving DecidableEq, Repr

/-- A chunk of S-frames that has come in on a side: its line, its place among the line's chunks, whether it is the last, and whether it
carries the CONTACT (R165, R272). -/
structure ChunkIn where
  side : Nat
  line : Int
  index : Nat
  last : Bool
  contact : Bool
  deriving DecidableEq, Repr

/-- A recent slot as the work of its output line sees it: the line of its S-frames, the time by which its cards are to leave (R249), the
trigger time of the slot, that of its output line, and the registers in force for it (R17, R25, R284). -/
structure SlotTime where
  line : Int
  due : Nat
  at_ : Nat
  outAt : Nat
  regs : Store Word
  deriving DecidableEq, Repr

/-- The segmentation engine beside its registers: segments by strip (0 live, 12 to 15 replay), the serial number for SEGID, the
last output line per strip, recent slots, lines with outcome flags (cameras, west,
east; R87), own indexes masked at column 0 by line, contacts of the west neighbour by line, its parts, segments that wait for
them, the lines whose S-frames to SEAME are not yet closed with the next chunk number, the last line of SEAMW whose frames
are all in, the chunks received, and the western TAGs that an OVF has cut off (R273). -/
structure SegHid where
  strips : Store (List Segment)
  serial : Nat
  lastOut : Store (Option Int)
  times : List SlotTime
  taints : List (Int × Nat × Nat × Nat)
  col0 : List (Int × Nat)
  contacts : List (Int × Nat)
  parts : List WestPart
  held : List ClosedSeg
  owed : List (Int × Nat)
  westLast : Option Int
  got : List ChunkIn
  cutTags : List Nat
  deriving DecidableEq, Repr


/-- A flood card in the making (R279): the combined segments, their number, and CD in µm of the one with the earliest FIRST. -/
structure FloodAcc where
  c : ClosedSeg
  folded : Nat
  cd : Int
  deriving DecidableEq, Repr

/-- A lacuna card that waits for the first slot that delivers an output line (R275, R481): REASON, FIRSTLINE, the mark of that
line if it has one, and per queue GAPSEQ and GAPCOUNT. -/
structure Lacuna where
  reason : Nat
  first : Int
  mark : Option LineMark
  gaps : Store (Nat × Nat)
  deriving DecidableEq, Repr

/-- A crop request (R286, R331): queue, SEQ of its card, CROPTAG, columns and lines to take with the last line, whether the class
sends it on a stream channel, whether it was clipped already, whether it is ready, and whether it found the list full. -/
structure CropReq where
  queue : Nat
  seq : Nat
  tag : Nat
  col : Nat
  cw : Nat
  ch : Nat
  last : Int
  stream : Bool
  clipped : Bool
  ready : Bool
  dropped : Bool
  deriving DecidableEq, Repr

/-- The card builder beside its registers: both catalogue banks (key: bank × 8192 + word), card and crop buckets in units of 10^-12
tokens with the time of their last refill (R278, R287), the segments of recent closing lines that have come to the builder (strip, line, number;
R276), flood cards in the making, the serial number for CROPTAG, a waiting
lacuna card, the least FIRST of the cards refused in a halt (R478, R481) with its mark, and the marks of recent lines. -/
structure CardHid where
  cat : Store Word
  cards : Store Nat
  crops : Store Nat
  refillAt : Nat
  bursts : List (Nat × Int × Nat)
  floods : Store (Option FloodAcc)
  cropSerial : Nat
  lacuna : Option Lacuna
  refusedFirst : Option (Int × LineMark)
  marks : List (Int × LineMark)
  deriving DecidableEq, Repr

/-- One bin's filter chain and threshold state (R297 to R299, R309): integrators, previous comb inputs, CIC outputs and FIR outputs,
newest first, the state (0 NORMAL, 1 HIGH, 2 LOW) and the counts toward HIGH or back, and toward LOW. -/
structure BinState where
  i1 : Nat
  i2 : Nat
  i3 : Nat
  p1 : Nat
  p2 : Nat
  p3 : Nat
  ys : List Int
  zs : List Int
  st : Nat
  up : Nat
  down : Nat
  deriving DecidableEq, Repr

/-- A sample that waits for its release slot (R303): index, latest output line with its mark, values, flags, the slots still
to end before its own, and the registers and profile tables in force for it (R311). -/
structure ProfSample where
  n : Nat
  line : Int
  mark : LineMark
  values : List Int
  settling : Bool
  tainted : Bool
  synced : Bool
  wait : Nat
  regs : Store Word
  tables : Store Word
  deriving DecidableEq, Repr

/-- The profile engine beside its registers: table banks (key: bank × 2^18 + table × 2^16 + index), bins, decimator inputs since the
last sync, CIC and FIR outputs since then, a requested sync line with the time (ps) of the request, a request that waits for its reference trigger, a sync at the
next delivered line (R305), samples to release, flagged lines (R312), event records dropped since the last one (R310), and the time
of the last active pin edge. -/
structure ProfHid where
  tables : Store Word
  bins : Store BinState
  inputs : Nat
  pend : Option (Int × Nat)
  waitRef : Bool
  atNext : Bool
  samples : List ProfSample
  taints : List Int
  lost : Nat
  edgeAt : Option Nat
  deriving DecidableEq, Repr

/-- A row on its way to the stacks (R321, R322): its number, its line, and its bytes once its slot has ended. -/
structure StackRow where
  row : Nat
  line : Int
  bytes : Option (List Byte)
  deriving DecidableEq, Repr

/-- A replay in progress (R325 to R329): the range, Q_0 in ps, the rate in Hz, L_c, the next tick, the row whose fetch runs, the
row fetched last with its number, the line of the first row, the flagged lines, the status with which it is to end early, and
the registers as they stood at the last three ticks, newest first (R25). -/
structure ReplayHid where
  first : Nat
  count : Nat
  q0 : Nat
  rate : Nat
  lag : Nat
  tick : Nat
  fetching : Option Nat
  last : Option (Nat × RingRow)
  firstLine : Option Int
  taints : List (Int × Nat × Nat × Nat)
  stop : Option Nat
  cfgs : List (Store Word)
  deriving DecidableEq, Repr

/-- The stacks beside their registers: the next row number, whether no row is held, rows not yet committed, and the replays of the
reading pipelines by r − 12, the
row that an unreserved relay reads next (R395), and the stacks layout that the live collection took over (R317, R323). -/
structure StacksHid where
  next : Nat
  empty : Bool
  pending : List StackRow
  replays : Store (Option ReplayHid)
  relay : Option Nat
  layout : List Nat
  deriving DecidableEq, Repr


/-- A DMA channel beside its registers (R335 to R344): the next byte of the descriptor in force to be read (bytes of its rows counted
through), the bursts read and not yet written with the byte each starts at and the buffer space it holds, the bytes gathered for a queue packet, the units
reserved there, whether it waits for units, the result once the operation has ended, and pending STOP and ABORT. -/
structure DmaChan where
  pos : Nat
  bursts : List (Nat × Nat × List Byte)
  packet : List Byte
  units : Nat
  waiting : Bool
  fin : Option Nat
  stop : Bool
  abort : Bool
  deriving DecidableEq, Repr

/-- The DMA engine beside its registers: its channels, and the channel that was last granted buffer space (R335). -/
structure DmaHid where
  chans : Store DmaChan
  turn : Nat
  deriving DecidableEq, Repr



/-- A packet of a queue from F to W (R354, R359): its bytes in use, its release key, what it is (0 plain, 1 card, 2 crop record),
the time (ps) by which a card's last bit is to leave (R249), the time its last bit first left, and whether a rewind has
brought it back. Its bytes stand in the ring in SRAM. -/
structure QPacket where
  len : Nat
  key : Nat
  kind : Nat
  due : Option Nat
  sentAt : Option Nat
  again : Bool
  deriving DecidableEq, Repr

/-- A queue beside its registers (R351 to R361): its packets, how many are sent (before S), the bytes of the packet at S already
taken, the register port's open packet, the value of the last Q_RDATA read, a rewind that waits for the packet boundary (true:
REWFREE), the bookmarked packet, the key of the last packet taken, the refusal latch of R362, the time of the last
rewind, the units reserved by DMA descriptors (R354), and the time at which the packet at S became the first to send (R398). -/
structure QueueHid where
  packets : List QPacket
  sent : Nat
  part : Nat
  port : List Byte
  lastRead : Word
  rewind : Option Bool
  bm : Option Nat
  lastTaken : Nat
  refused : Bool
  rewoundAt : Nat
  resv : Nat
  headAt : Nat
  deriving DecidableEq, Repr

/-- A PTP message that waits to be sent (R412, R415): its messageType, sequenceId, the time and the correction it carries in
2^-16 ns, and the requesting port of a response. -/
structure PtpTx where
  kind : Nat
  seq : Nat
  stamp : Int
  corr : Int
  reqClock : Nat
  reqPort : Nat
  deriving DecidableEq, Repr

/-- A master the PTP port has heard (R414): its port, what it announced, when last, and how often in a row. -/
structure PtpMaster where
  clock : Nat
  port : Nat
  set_ : PtpSet
  at_ : Nat
  heard : Nat
  deriving DecidableEq, Repr

/-- Time beside its registers (R406 to R417); times in 2^-16 ns. Updates in a row within LOCKTHR, the second last marked, the last
Sync (sequenceId, t1, t2, correction), a two-step Sync or Pdelay_Resp that waits for its Follow_Up, the Delay_Req or Pdelay_Req
sent last, the mean path delay, sequence numbers per message kind, the time in ps of the last Sync or seam exchange, masters
heard, the parent, the seam exchange in progress (t1, t2, t3, start in ps), and exchanges missed in a row. -/
structure TimeHid where
  lock : Nat
  second : Nat
  sync : Option (Nat × Int × Int × Int)
  syncHalf : Option (Nat × Int × Int)
  pdelayHalf : Option (Nat × Int × Int × Int)
  dreq : Option (Nat × Int)
  mean : Option Int
  seqs : Store Nat
  updateAt : Option Nat
  masters : List PtpMaster
  parent : Option (Nat × Nat)
  exch : Option (Int × Int × Int × Nat)
  missed : Nat
  deriving DecidableEq, Repr

/-- A request in a bank queue of the GDDR6 controller (R424, R426): address, source, the bytes it holds in the real-time write buffer (R429),
and whether it writes. -/
structure MemReq where
  a : Nat
  source : Nat
  held : Nat
  write : Bool
  deriving DecidableEq, Repr

/-- The GDDR6 controller beside its registers (R426 to R436): RATE in force, a frequency request that waits for training, the
training that runs (0 none, 1 full, 2 quick check) and whether it is that of a frequency change, the channel inside a forced refresh
and those that wait for theirs, the fill of the real-time write buffer, the time of the last request, the bank queues and the data row open
in each bank (key: channel × 16 + bank), and the bank that each channel served last. -/
structure MemcHid where
  rate : Nat
  pend : Option Nat
  train : Nat
  freq : Bool
  forced : Option Nat
  forcedWait : List Nat
  fill : Nat
  lastReq : Nat
  queues : Store (List MemReq)
  rows : Store (Option Nat)
  served : Store Nat
  deriving DecidableEq, Repr

/-- An operation of the control channel (R381). -/
inductive OhtOp where
  | read (fixed : Bool) (addr count : Nat)
  | write (fixed : Bool) (addr count : Nat) (words : List Word)
  | modify (addr : Nat) (mask value : Word)
  | blkread (addr len : Nat)
  | blkwrite (addr len : Nat) (bytes : List Byte)
  | commit
  | ident
  | unknown (op : Nat) (opflags : Nat)
  deriving DecidableEq, Repr

/-- A request that waits for the requests before it (R380): its SEQ, when and on which sub-port it arrived, the MAC address of its
sender, and its operation. -/
structure HeldReq where
  seq : Nat
  at_ : Nat
  ps : Nat
  mac : Nat
  op : OhtOp
  deriving DecidableEq, Repr

/-- A control session (R379, R380): its key, the expected SEQ, the last answers by SEQ, held requests, when it was last used, and the
request under way whose answer is still to come. -/
structure Session where
  peer : Peer
  expected : Nat
  cache : List (Nat × List Byte)
  held : List HeldReq
  lastUsed : Nat
  busy : Option HeldReq
  deriving DecidableEq, Repr

/-- A block transfer under way (R384): session, SEQ, direction, and the status it ends with. -/
structure BlockXfer where
  session : Nat
  seq : Nat
  write : Bool
  addr : Nat
  len : Nat
  status : Nat
  deriving DecidableEq, Repr

/-- An answer that waits until an epoch is committed or applied (R500): session, SEQ, epoch, and the answer. -/
structure EpochAnswer where
  session : Nat
  seq : Nat
  epoch : Nat
  bytes : List Byte
  deriving DecidableEq, Repr

/-- The host ports and the transport beside their registers, by sub-port 4 × port + sub where a table is keyed: PTP messages, control
answers, neighbour replies and forwarded frames that wait for a frame boundary, with the ingress stamp of a forwarded frame and the time
at which its last bit is in; the
source last served per sub-port and class (key 8 × sub-port + class); the end of the frame in progress and of the last timed frame;
SEQ per circulation queue, per stream channel and port (2 i + port), and of notices; the sessions, the block transfer, the answer of
a COMMIT under way, and answers that wait for an epoch. -/
structure HostHid where
  ptp : Store (List PtpTx)
  control : Store (List (List Byte))
  replies : Store (List (List Byte))
  forward : Store (List (FwdFrame × Int × Nat))
  turns : Store Nat
  busyUntil : Store Nat
  timedEnd : Store Nat
  cqSeq : Store Nat
  strSeq : Store Nat
  noticeSeq : Nat
  sessions : Store (Option Session)
  block : Option BlockXfer
  commit : Option (Nat × Nat)
  answers : List EpochAnswer
  deriving DecidableEq, Repr

/-- An epoch (R497, R498): its number, its writes in order, its effect line, the RELKEYs it carries, and whether it is committed. -/
structure Epoch where
  num : Nat
  writes : List (Nat × Word)
  effect : Int
  keys : List Nat
  done : Bool
  deriving DecidableEq, Repr

/-- A port record of the active (R501): port, LSTATE, CAM_ID0 to CAM_CAPS2, CAM_RTT. -/
structure PortRec where
  port : Nat
  lstate : Nat
  ids : List Word
  rtt : Nat
  deriving DecidableEq, Repr

/-- The last STATUS of the partner (R502): its time, HEALTHY, BADLINE and the newest line's low bits. -/
structure PairStatus where
  at_ : Nat
  healthy : Bool
  badline : Nat
  newest : Nat
  deriving DecidableEq, Repr

/-- The pair beside its registers (R491 to R510): the open epoch's number, writes, first write's time and the line at which it closes;
epochs closed and not yet applied; uncommitted epochs in a row; the level of ROLE last counted; the end of the take-over window; when
TWIN left READY; the partner's STATUS and port records; when a swap's disagreement of ROLE began; the line of the last swap; the join
line of a join and the slot whose end sends the queues, packets of the join received, the lines a joiner has processed, the cards it
holds until it has the numbers; queues whose resend still hides the check of R251; whether writes of an epoch are being applied; the
frame on TWIN received last. -/
structure RedHid where
  num : Nat
  writes : List (Nat × Word)
  firstAt : Option Nat
  boundary : Int
  closed : List Epoch
  missed : Nat
  level : Bool
  tkEnd : Option Nat
  twinDown : Option Nat
  partner : Option PairStatus
  records : Store (Option PortRec)
  misAt : Option Nat
  swapAt : Option Int
  joinLine : Option Int
  joinEnd : Option Int
  joinGot : List Nat
  joinLines : Nat
  joinCards : List (List ClosedSeg)
  resending : List Nat
  applying : Bool
  lastFrame : List (BitVec 64)
  deriving DecidableEq, Repr

/-- Power and starting beside their registers: when the present start began (R541), since when the boot stage waits and on which port (R532), whether the
firmware memory is retained and the training values saved (R526), when the module last came to Poised from Standby or Off (R104), whether REQ = OFF holds the module off (R521), rails out of window
since when (R515), REFCLK present, whether 105 °C has been recorded, when a preparation for Inspecting
ends (R522), and when SYS_BOOTCTL.GO was written, while its verification
is still to end (R532), and whether the VIO bank stands at 3.3 V levels (R544). -/
structure PwrHid where
  startAt : Nat
  bootWait : Option Nat
  bootPort : Nat
  retained : Bool
  saved : List Word
  onAt : Nat
  offHeld : Bool
  enLowAt : Option Nat
  railOut : Option Nat
  refclk : Bool
  hot : Bool
  prep : Option Nat
  go : Option Nat
  vio33 : Bool
  deriving DecidableEq, Repr

/-- The two-wire target (R454 to R466): whether a transaction is open, whether it reads, the next register, words done in it, whether
PEC was on at its START, whether it has given up until P or Sr; the last status byte delivered, an in-band request that waits and since
when, and the time before which no in-band request starts. -/
structure TwiHid where
  open_ : Bool
  read : Bool
  addr : Nat
  words : Nat
  pec : Bool
  deaf : Bool
  last : Nat
  request : Option Nat
  notBefore : Nat
  deriving DecidableEq, Repr

/-- The sixteen states of the IEEE 1149.1 TAP controller (R556). -/
inductive Tap where
  | testLogicReset | runTestIdle | selectDr | captureDr | shiftDr | exit1Dr | pauseDr | exit2Dr | updateDr
  | selectIr | captureIr | shiftIr | exit1Ir | pauseIr | exit2Ir | updateIr
  deriving DecidableEq, Repr

/-- The JTAG port (R556): TAP state, the instruction register and its shift stage, the selected data register's shift stage, TDO while
it is driven. -/
structure JtagHid where
  tap : Tap
  ir : List Bool
  irShift : List Bool
  drShift : List Bool
  tdo : Option Bool
  deriving DecidableEq, Repr


/-- The state of the module. -/
@[ext]
structure State where
  /-- The commands that wait, first in first out (the row's cut). -/
  pending : List Instr
  /-- Time since reset in picoseconds. -/
  now : Nat
  /-- The operating state (R521); PWR_STATUS.STATE shows it. -/
  mode : Mode
  /-- Every register, by address; an unlisted one holds its reset value. -/
  regs : Store Word
  /-- The staged words of registers with RWS fields, by address (R9, R231). -/
  shadow : Store Word
  /-- Captured words per access path and address (R12). -/
  captured : Store (Option Word)
  /-- Held _HI words per access path and address (R12). -/
  held : Store (Option Word)
  /-- The W1C bits, as register and bit, that hardware has set at the moment named (R10). -/
  raised : Nat × List (Nat × Nat)
  /-- The input pins. -/
  pins : Pins
  /-- The output pins no register shows. -/
  outPins : OutPins
  /-- The model's own: what the module has sent, newest first. -/
  out : List Output
  /-- The model's own: how many free values have been used. -/
  fresh : Nat
  /-- What waits in the event router, in order of arrival. -/
  evrQ : List EvrWait
  /-- The router's channels. -/
  evr : Store EvrChan
  /-- The error ledger beside its registers. -/
  err : ErrHid
  /-- The timekeeper: PTP time in units of 2^-40 ns (R406). -/
  t40 : Nat
  /-- NOTICE packets that firmware has still to commit to queue 58 (R386). -/
  notices : List (List Byte)
  /-- The position inputs. -/
  pos : Store PosIn
  /-- The trigger generator's cameras; 12 is the reference. -/
  trgCam : Store TrgCam
  /-- The reference triggers. -/
  trg : TrgHid
  /-- The stitched lines whose slots have not ended, oldest first (R24). -/
  slots : List Slot
  /-- The camera ports' windows. -/
  ports : Store PortHid
  /-- A standby's completed runs (breach code, port, line, its trigger time) that wait for the partner's confirmation (R495). -/
  runsWaiting : List (Nat × Nat × Int × Nat)
  /-- The links 0 to 14. -/
  links : Store LinkHid
  /-- The 48 MiB of on-die SRAM, cleared at start (R529). -/
  sram : Store Byte
  /-- The GDDR6 bytes (16 R421). -/
  ram : Store Byte
  /-- The correction units, by pipeline. -/
  corr : Store CorrHid
  /-- The calibration run in progress. -/
  calRun : Option CalRun
  /-- The image operation in progress: false SNAP, true APPLY (R141, R142). -/
  imgOp : Option Bool
  /-- A JOIN sends the tables (R503): table-port writes are rejected and calibration runs end with STATE. -/
  joinActive : Bool
  /-- The camera ports that have completed a handshake since reset (R141). -/
  handshakes : List Nat
  /-- The GDDR6 training values in force (R434). -/
  training : List Word
  /-- Restored training values that wait for the next training (R435). -/
  trainPending : List Word
  /-- The stitch engine. -/
  stitch : StitchHid
  /-- The folio engines. -/
  folio : Store FolioHid
  /-- The queues 0 to 63. -/
  queues : Store QueueHid
  /-- The segmentation engine. -/
  seg : SegHid
  /-- The card builder. -/
  card : CardHid
  /-- Crop requests per crop channel, in the order of their cards (R331). -/
  cropReqs : Store (List CropReq)
  /-- The profile engine. -/
  prof : ProfHid
  /-- The stacks and the replays. -/
  stk : StacksHid
  /-- The DMA engine. -/
  dma : DmaHid
  /-- Accession and switching. -/
  acc : AccHid
  /-- Time and PTP. -/
  time : TimeHid
  /-- The GDDR6 controller. -/
  memc : MemcHid
  /-- The host ports and the host transport. -/
  host : HostHid
  /-- The active/standby pair. -/
  red : RedHid
  /-- Power and starting. -/
  pwr : PwrHid
  /-- The two-wire target. -/
  twi : TwiHid
  /-- The JTAG port. -/
  jtag : JtagHid
  deriving DecidableEq, Repr

/-- The faults of a step. No command of this module faults; the type stands for the interface (safe). DESIGN CHOICE, log 11. -/
inductive Fault where
  /-- Raised by nothing: every refusal the spec describes is an effect on the state (safe). -/
  | none
  deriving DecidableEq, Repr

/-- The refusals of a step. DESIGN CHOICE, log 11. -/
inductive Refusal where
  /-- An arm of the dispatch whose command has no meaning yet raises it (safe: it proves nothing). -/
  | notModelled (mnemonic : String)
  deriving DecidableEq, Repr

/-- The module right after RESET_N is released with EN high (R516): starting, registers at their reset values, nothing
in any memory, queue or latch. Values the spec does not give are named in the assumption log. DESIGN CHOICE, log 1. DESIGN CHOICE, log 12. DESIGN CHOICE, log 13. -/
def State.reset : State where
  pending := []
  now := 0
  mode := .starting
  regs := []
  shadow := []
  captured := []
  held := []
  raised := (0, [])
  pins := ⟨true, true, false, 0, 0, true, 0, false⟩
  outPins := ⟨[], [], false, false, false, false⟩
  out := []
  fresh := 0
  evrQ := []
  evr := []
  err := ⟨0, [], false, none, false, none, 0, 0, [], 0⟩
  t40 := 0
  notices := []
  pos := []
  trgCam := []
  trg := ⟨none, none, none, 0⟩
  slots := []
  ports := []
  runsWaiting := []
  links := []
  sram := []
  ram := []
  corr := []
  calRun := none
  imgOp := none
  joinActive := false
  handshakes := []
  training := []
  trainPending := []
  stitch := ⟨[], [], [], [], false, none, none, [], none, []⟩
  folio := []
  queues := []
  seg := ⟨[], 0, [], [], [], [], [], [], [], [], none, [], []⟩
  card := ⟨[], [], [], 0, [], [], 0, none, none, []⟩
  cropReqs := []
  prof := ⟨[], [], 0, none, false, false, [], [], 0, none⟩
  stk := ⟨0, true, [], [], none, []⟩
  dma := ⟨[], 0⟩
  acc := ⟨none, none, none, [], [], [], 0, 0, 0, 0, [], 0, none⟩
  time := ⟨0, 0, none, none, none, none, none, [], none, [], none, none, 0⟩
  memc := ⟨0, none, 0, false, none, [], 0, 0, [], [], []⟩
  host := ⟨[], [], [], [], [], [], [], [], [], 0, [], none, none, []⟩
  red := ⟨0, [], none, 0, [], 0, false, none, none, none, [], none, none, none, none, [], 0, [], [], false, []⟩
  pwr := ⟨0, none, 0, false, [], 0, false, none, none, true, false, none, none, false⟩
  twi := ⟨false, false, 0, 0, false, false, 0, none, 0⟩
  jtag := ⟨.testLogicReset, [], [], [], none⟩

end Sys2Proof.Machine
end

