-- ==== Sys2Proof/Machine/Ops.lean ====
section
/-! DEFINITION. The named operations over the state that every family shares: sparse tables, register fields, wide
values, bytes of memory, time, position on the web, and what waits in the event router. -/

namespace Sys2Proof.Machine

/-! ### Sparse tables -/

/-- The value at key `k`, or the default of `k`. -/
def Store.get {α : Type} (d : Nat → α) (k : Nat) : Store α → α
  | [] => d k
  | (k', v) :: r => if k' = k then v else Store.get d k r

/-- Put a pair in its place among rising keys. -/
def Store.put {α : Type} (k : Nat) (v : α) : Store α → Store α
  | [] => [(k, v)]
  | (k', v') :: r => if k < k' then (k, v) :: (k', v') :: r else (k', v') :: Store.put k v r

/-- Take the pair of key `k` out. -/
def Store.drop {α : Type} (k : Nat) (m : Store α) : Store α := m.filter fun p => decide (p.1 ≠ k)

/-- Set key `k` to `v`; a value that equals the default of its key is not listed. -/
def Store.set {α : Type} [DecidableEq α] (d : Nat → α) (k : Nat) (v : α) (m : Store α) : Store α :=
  if v = d k then Store.drop k m else Store.put k v (Store.drop k m)

/-- The canonical form: keys strictly rising, no listed default. -/
abbrev Store.Wf {α : Type} (d : Nat → α) (m : Store α) : Prop :=
  (m.map Prod.fst).Pairwise (· < ·) ∧ ∀ p ∈ m, p.2 ≠ d p.1

/-! ### Bits, signs and bytes -/

/-- The field of a word. -/
def getBits (w : Word) (b : Bits) : Nat := w.toNat / 2 ^ b.lo % 2 ^ b.len

/-- A word with a field replaced. -/
def setBits (w : Word) (b : Bits) (v : Nat) : Word :=
  BitVec.ofNat 32 (w.toNat - getBits w b * 2 ^ b.lo + v % 2 ^ b.len * 2 ^ b.lo)

/-- Bit `i` of a number. -/
def bit (v i : Nat) : Bool := decide (v / 2 ^ i % 2 = 1)

/-- The number of a Bool. -/
def b2n (b : Bool) : Nat := if b then 1 else 0

/-- `v` modulo 2^n read as two's complement. -/
def signed (n : Nat) (v : Nat) : Int :=
  if v % 2 ^ n < 2 ^ (n - 1) then (v % 2 ^ n : Nat) else (v % 2 ^ n : Nat) - (2 ^ n : Nat)

/-- The two's complement of an integer in n bits. -/
def unsignedOf (n : Nat) (x : Int) : Nat := (x % ((2 ^ n : Nat) : Int)).toNat

/-- `n` little-endian bytes of a number (R52). -/
def leBytes : Nat → Nat → List Byte
  | 0, _ => []
  | n + 1, v => BitVec.ofNat 8 v :: leBytes n (v / 256)

/-- The number that little-endian bytes spell. -/
def ofLeBytes : List Byte → Nat
  | [] => 0
  | b :: r => b.toNat + 256 * ofLeBytes r

/-- `n` bytes of a number, most significant first (network order). -/
def beBytes (n v : Nat) : List Byte := (leBytes n v).reverse

/-- Fold a CRC register over bits that come in order: shift right, and combine with `poly` (R68, R97). -/
def crcBits (poly : Nat) : Nat → List Bool → Nat
  | c, [] => c
  | c, d :: r => if (decide (c % 2 = 1)) != d then crcBits poly (Nat.xor (c / 2) poly) r else crcBits poly (c / 2) r

/-- The low `n` bits of a number, least significant first. -/
def bitsOf (n v : Nat) : List Bool := (List.range n).map fun i => bit v i

/-- CRC-16 of R68 over bits: polynomial reversed 0x8408, initial 0xFFFF, no final inversion. -/
def crc16 (bs : List Bool) : Nat := crcBits 0x8408 0xFFFF bs

/-- The IEEE 802.3 CRC-32 over bits in wire order. -/
def crc32 (bs : List Bool) : Nat := Nat.xor (crcBits 0xEDB88320 0xFFFFFFFF bs) 0xFFFFFFFF

/-- The bits of bytes in order, each byte least significant bit first. -/
def byteBits (l : List Byte) : List Bool := l.flatMap fun b => bitsOf 8 b.toNat

/-- Read `n` bytes from a byte table. DESIGN CHOICE, log 2. -/
def readBytes (m : Store Byte) (a : Nat) : Nat → List Byte
  | 0 => []
  | n + 1 => Store.get (fun _ => 0) a m :: readBytes m (a + 1) n

/-- Write bytes into a byte table. DESIGN CHOICE, log 2. -/
def writeBytes (m : Store Byte) (a : Nat) : List Byte → Store Byte
  | [] => m
  | b :: r => writeBytes (Store.set (fun _ => 0) a b m) (a + 1) r

/-! ### Registers -/

/-- The block and the base of its window, for an address inside an assigned window of R31 that is neither folio memory nor the
SRAM window. PIPE windows hold the correction block below 0x100 (pipelines 0 to 11) and the folio block from there. -/
def blockAt (a : Nat) : Option (Blk × Nat) :=
  let w := a / 0x10000
  let base := w * 0x10000
  if w = 0 then some (.sys, base) else if w = 1 then some (.pwr, base) else if w = 2 then some (.err, base)
  else if w = 3 then some (.evr, base) else if w = 4 then some (.twi, base) else if w = 5 then some (.pos, base)
  else if w = 6 then some (.trg, base) else if w = 7 then some (.time, base) else if w = 8 then some (.cal, base)
  else if w = 9 then some (.red, base) else if w = 0xA then some (.acc, base) else if w = 0xB then some (.prof, base)
  else if w = 0xC then some (.seg, base) else if w = 0xD then some (.card, base) else if w = 0xE then some (.dma, base)
  else if w = 0xF then some (.que, base) else if w < 0x1C then some (.cam, base) else if w < 0x1E then some (.seam, base)
  else if w = 0x1E then some (.twin, base) else if w = 0x1F then none
  else if w < 0x30 then
    if a % 0x10000 < 0x100 ∧ w < 0x2C then some (.corr, base) else some (.folio, base)
  else if w = 0x30 then some (.stitch, base) else if w = 0x31 then some (.stk, base) else if w = 0x32 then some (.memc, base)
  else if w = 0x33 ∨ w = 0x34 then some (.host, base) else if w = 0x35 then some (.oht, base) else none

/-- The register kind at an address, if one is defined there. -/
def kindAt (a : Nat) : Option RegKind :=
  match blockAt a with
  | none => none
  | some (b, base) => (kindsOf b).find? fun k => k.covers (a - base)

/-- The word a register kind resets to: the sum of its fields' reset values in their places. -/
def RegKind.resetWord (k : RegKind) : Word :=
  BitVec.ofNat 32 (k.fields.foldl (fun n f => n + f.rst * 2 ^ f.bits.lo) 0)

/-- The index of an instance of a host port register laid out 4 sub-ports to a port, 0x40 or 0x10 apart. -/
def subportIndex (port off first stride : Nat) : Nat := 4 * port + (off - first) / stride

/-- The factory MAC address of sub-port `i`, 0 to 3 of HOSTA and 4 to 7 of HOSTB, with its first byte least significant (R371, R404):
the lowest of the block plus `i`, counted with the first byte most significant. -/
def factoryMac (i : Nat) : Nat :=
  let b := Config.macBlock.toNat
  ofLeBytes (beBytes 6 (b / 2 ^ 37 * 2 ^ 42 + b % 2 ^ 37 * 8 + i))

/-- The reset value of the register at an address (the register tables; fused and factory values from Config, log 5). DESIGN CHOICE, log 1. -/
def resetWord (a : Nat) : Word :=
  let o := a % 0x10000
  if a = Reg.SYS_FWMIN then Config.fwMin
  else if a = Reg.SYS_UID_LO then Config.uid.setWidth 32
  else if a = Reg.SYS_UID_HI then (Config.uid >>> 32).setWidth 32
  else if 0x40 ≤ a ∧ a < 0x70 then Config.keyDigest ((a - 0x40) / 4)
  else if 0x70200 ≤ a ∧ a < 0x70280 ∧ a % 16 = 0 then Config.inLat ((a - 0x70200) / 16)
  else if 0x70200 ≤ a ∧ a < 0x70280 ∧ a % 16 = 4 then Config.egLat ((a - 0x70204) / 16)
  else if 0x330000 ≤ a ∧ a < 0x350000 ∧ 0x100 ≤ o ∧ o < 0x200 ∧ o % 0x40 = 0 then
    BitVec.ofNat 32 (factoryMac (subportIndex ((a - 0x330000) / 0x10000) o 0x100 0x40))
  else if 0x330000 ≤ a ∧ a < 0x350000 ∧ 0x100 ≤ o ∧ o < 0x200 ∧ o % 0x40 = 4 then
    BitVec.ofNat 32 (factoryMac (subportIndex ((a - 0x330000) / 0x10000) o 0x100 0x40) / 2 ^ 32)
  else match kindAt a with
    | some k => k.resetWord
    | none => 0

/-- The word a register holds. -/
def State.reg (s : State) (a : Nat) : Word := Store.get resetWord a s.regs

/-- Store a whole word in a register. -/
def State.setReg (s : State) (a : Nat) (w : Word) : State := { s with regs := Store.set resetWord a w s.regs }

/-- A field of a register. -/
def State.fld (s : State) (a : Nat) (b : Bits) : Nat := getBits (s.reg a) b

/-- Is a one-bit field set? -/
def State.flag (s : State) (a : Nat) (b : Bits) : Bool := decide (s.fld a b ≠ 0)

/-- Store a field of a register. -/
def State.setFld (s : State) (a : Nat) (b : Bits) (v : Nat) : State := s.setReg a (setBits (s.reg a) b v)

/-- The word a register holds, as a number. -/
def State.num (s : State) (a : Nat) : Nat := (s.reg a).toNat

/-- Store a number in a whole register. -/
def State.setNum (s : State) (a v : Nat) : State := s.setReg a (BitVec.ofNat 32 v)

/-- Add `n` to a 32-bit counter that saturates at 0xFFFF_FFFF (R91). -/
def State.bumpBy (s : State) (a n : Nat) : State := s.setNum a (min 0xFFFFFFFF (s.num a + n))

/-- Add one to a saturating counter (R91). -/
def State.bump (s : State) (a : Nat) : State := s.bumpBy a 1

/-- A 64-bit value in a _LO register and the _HI register after it. -/
def State.get64 (s : State) (lo : Nat) : Nat := s.num lo + 2 ^ 32 * s.num (lo + 4)

/-- Store a 64-bit value in a _LO register and the _HI register after it. -/
def State.set64 (s : State) (lo v : Nat) : State := (s.setNum lo v).setNum (lo + 4) (v / 2 ^ 32)

/-- A signed 48-bit value in a pair of registers (R118). -/
def State.get48 (s : State) (lo : Nat) : Int := signed 48 (s.get64 lo)

/-- Store a signed 48-bit value; the upper half of the _HI register holds copies of bit 47 (R118). -/
def State.set48 (s : State) (lo : Nat) (v : Int) : State := s.set64 lo (unsignedOf 64 (signed 48 (unsignedOf 48 v)))

/-- A signed 64-bit value in a pair of registers. -/
def State.getS64 (s : State) (lo : Nat) : Int := signed 64 (s.get64 lo)

/-- Store a signed 64-bit value in a pair of registers. -/
def State.setS64 (s : State) (lo : Nat) (v : Int) : State := s.set64 lo (unsignedOf 64 v)

/-! ### Modes and time -/

/-- Powered states (R514): every one but Off and the reset. -/
def Mode.powered (m : Mode) : Bool := m != .off && m != .inReset

/-- The states with every domain on (R18). -/
def Mode.allOn (m : Mode) : Bool := m == .poised || m == .inspecting || m == .halted || m == .frozen

/-- Poised, Inspecting or Halted: triggers run (R116), OHT answers (R21). -/
def Mode.active (m : Mode) : Bool := m == .poised || m == .inspecting || m == .halted

/-- Are stitched lines processed: in Inspecting, while a started inspection waits for its first slot, and while the last slots of
one that has been stopped complete (R253, R522)? -/
def State.inspects (s : State) : Bool := s.mode == .inspecting || !s.slots.isEmpty

/-- One second in units of 2^-40 ns. -/
def secondUnits : Nat := 1000000000 * 2 ^ 40

/-- What the timekeeper adds between two times in ps: whole ns of the time base at RATE, or in Standby and while starting whole
40 ns cycles of AOCLK at AORATE (R406, R408). -/
def State.timeGain (s : State) (from_ to_ : Nat) : Nat :=
  if s.mode.allOn then
    ((to_ / 1000 - from_ / 1000 : Nat) * ((2 ^ 40 : Int) + signed 32 (s.num Reg.TIME_RATE))).toNat
  else if s.mode.powered then
    (40 * (to_ / 40000 - from_ / 40000 : Nat) * ((2 ^ 40 : Int) + signed 32 (s.num Reg.TIME_AORATE))).toNat
  else 0

/-- The timekeeper's time at a moment not before now, in units of 2^-40 ns; 48 bits of seconds. -/
def State.timeAt (s : State) (t : Nat) : Nat := (s.t40 + s.timeGain s.now t) % (2 ^ 48 * secondUnits)

/-- Nanoseconds of a time (fraction dropped, R53). -/
def nsOf (t40 : Nat) : Nat := t40 / 2 ^ 40 % 1000000000

/-- Seconds of a time. -/
def secOf (t40 : Nat) : Nat := t40 / secondUnits

/-- Is the interval between two times (ps) shorter than Pmin = 1 / ACC_LRMAX (R23)? -/
def State.belowPmin (s : State) (from_ to_ : Nat) : Bool :=
  decide ((to_ - from_) * s.fld Reg.ACC_LRMAX Fld.ACC_LRMAX_LRMAX < 1000000000000)

/-! ### Position on the web -/

/-- The number of the position source, or none while SRC is 6 or 7 (R94, R568). -/
def State.source (s : State) : Option Nat :=
  let k := s.fld Reg.POS_CTRL Fld.POS_CTRL_SRC
  if k < 6 then some k else none

/-- The count of the position source. -/
def State.count (s : State) : Int :=
  match s.source with
  | some k => s.get48 (Reg.IN_CNT_LO k)
  | none => 0

/-- MD in micrometres of a count (R39), wrapped to 64 bits. -/
def State.mdOf (s : State) (c : Int) : Int :=
  let n : Int := s.num Reg.POS_SCALE_NUM
  let d : Int := s.num Reg.POS_SCALE_DEN
  signed 64 (unsignedOf 64 (Int.fdiv (2 * c * d * 1000000 + n) (2 * n) + s.getS64 Reg.POS_MDBASE_LO))

/-- CD in micrometres of a stitched column (R42), wrapped to 32 bits. -/
def State.cdOf (s : State) (k : Int) : Int :=
  let off := Int.fdiv (k * (s.num Reg.CD_PITCH : Int) + 32768) 65536
  let sgn := if s.flag Reg.CD_DIR Fld.CD_DIR_CD_DIR then -off else off
  signed 32 (unsignedOf 32 (signed 32 (s.num Reg.CD_ORIGIN) + sgn))

/-- Is a collection live (R237)? -/
def State.live (s : State) : Bool := s.flag Reg.ACC_STATUS Fld.ACC_STATUS_LIVE

/-- Is camera `n` bound: its binding is enabled (R230)? -/
def State.camBound (s : State) (n : Nat) : Bool := s.flag (Reg.ACC_BIND n) Fld.ACC_BIND_EN

/-! ### Output and the event router's queue -/

/-- Record something the module sends. DESIGN CHOICE, log 3. -/
def State.emit (s : State) (o : Output) : State := { s with out := o :: s.out }

/-- Put an item on its way through the event router, arriving `dt` ps from now. -/
def State.route (s : State) (dt : Nat) (i : EvrItem) : State := { s with evrQ := s.evrQ ++ [⟨s.now + dt, i⟩] }

/-- Hardware sets a W1C bit; the moment is noted, since a write of the same moment does not clear it (R10). -/
def State.hwSet (s : State) (a n : Nat) : State :=
  { s.setFld a ⟨n, 1⟩ 1 with raised := (s.now, (a, n) :: (if s.raised.1 = s.now then s.raised.2 else [])) }

/-- The bits of a register that hardware has set at this moment (R10). -/
def State.justSet (s : State) (a : Nat) : Nat :=
  if s.raised.1 = s.now then s.raised.2.foldl (fun m p => if p.1 = a then Nat.lor m (2 ^ p.2) else m) 0 else 0

/-- Hardware sets bit `n` of an event register; if its enable bit is 1 the producer emits an event (R439), also when the bit was
already 1. -/
def State.event (s : State) (evt en n producer : Nat) : State :=
  let s1 := s.hwSet evt n
  if bit (s.num en) n then s1.route 0 (.request producer) else s1

/-- A fresh free value (log 4). -/
def State.freeValue (s : State) : BitVec 64 × State := (Config.free s.fresh, { s with fresh := s.fresh + 1 })

end Sys2Proof.Machine
end

