-- ==== Sys2Proof/Machine/Flags.lean ====
section
/-! DEFINITION. What the module flags: the error ledger and what an error's class does (R468 to R476), the attention bits,
state changes, and breaches that wait for their line boundary (R253). -/

namespace Sys2Proof.Machine

/-! ### The ledger's slots -/

/-- The slots that hold an entry, in slot order. -/
def State.heldSlots (s : State) : List Nat :=
  (List.range 32).filter fun i => s.flag (Reg.ERR_E0 i) Fld.ERR_E0_VALID

/-- The slot of least serial number among some slots. -/
def State.oldestOf (s : State) : List Nat → Option Nat
  | [] => none
  | i :: r =>
    match s.oldestOf r with
    | none => some i
    | some j => if s.num (Reg.ERR_E7 i) ≤ s.num (Reg.ERR_E7 j) then some i else some j

/-- The slot of greatest serial number among some slots. -/
def State.newestOf (s : State) : List Nat → Option Nat
  | [] => none
  | i :: r =>
    match s.newestOf r with
    | none => some i
    | some j => if s.num (Reg.ERR_E7 j) ≤ s.num (Reg.ERR_E7 i) then some i else some j

/-- The first free slot at or after the next slot, counting upward and from 31 back to 0 (R470). -/
def State.freeSlot (s : State) : Option Nat :=
  ((List.range 32).map fun i => (s.err.nextSlot + i) % 32).find? fun i => !s.flag (Reg.ERR_E0 i) Fld.ERR_E0_VALID

/-- Write an entry into a slot with the next serial number (R470, R471, R487). -/
def State.writeEntry (s : State) (slot code cls nest source : Nat) (detail : Word) : State :=
  let serial := s.num Reg.ERR_NEXT
  let md := unsignedOf 64 (s.mdOf s.count)
  let w0 := code + cls * 2 ^ 16 + nest * 2 ^ 18 + 2 ^ 19 + source * 2 ^ 24
  let s := s.setNum (Reg.ERR_E0 slot) w0
  let s := s.setReg (Reg.ERR_E1 slot) detail
  let s := s.setNum (Reg.ERR_E2 slot) (nsOf s.t40)
  let s := s.setNum (Reg.ERR_E3 slot) (secOf s.t40)
  let s := s.setNum (Reg.ERR_E4 slot) (secOf s.t40 / 2 ^ 32)
  let s := s.setNum (Reg.ERR_E5 slot) md
  let s := s.setNum (Reg.ERR_E6 slot) (md / 2 ^ 32)
  let s := s.setNum (Reg.ERR_E7 slot) serial
  s.setNum Reg.ERR_NEXT (serial + 1)

/-- The 32 bytes of a ledger entry (R386, R474). -/
def State.entryBytes (s : State) (slot : Nat) : List Byte :=
  [Reg.ERR_E0 slot, Reg.ERR_E1 slot, Reg.ERR_E2 slot, Reg.ERR_E3 slot, Reg.ERR_E4 slot, Reg.ERR_E5 slot,
    Reg.ERR_E6 slot, Reg.ERR_E7 slot].flatMap fun a => leBytes 4 (s.num a)

/-- Set bit `n` of OHT_ATTN (R403). -/
def State.ohtAttn (s : State) (n : Nat) : State := s.hwSet Reg.OHT_ATTN n

/-- Set bit `n` of TWI_ATTN (R464). -/
def State.twiAttn (s : State) (n : Nat) : State := s.hwSet Reg.TWI_ATTN n

/-- Put a NOTICE of a kind on its way to queue 58 (R386, R474); nothing is sent while OHT does not answer. DESIGN CHOICE, log 29. DESIGN CHOICE, log 108. -/
def State.sendNotice (s : State) (kind : Nat) (payload : List Byte) : State :=
  if s.mode.active then { s with notices := s.notices ++ [leBytes 2 kind ++ payload] } else s

/-- Has an error of the class or a higher one begun to be handled (R475)? -/
def State.handled (s : State) (cls : Nat) : Bool :=
  if cls = 2 then s.mode == .frozen
  else s.mode == .frozen || s.flag Reg.ERR_STATUS Fld.ERR_STATUS_HALTING

/-- The bits that a recorded entry sets (R474). -/
def State.recordedFlags (s : State) (cls : Nat) : State :=
  ((s.event Reg.ERR_EVT Reg.ERR_EVTEN cls 27).ohtAttn cls).twiAttn cls

/-- The bits that a dropped entry sets (R473). -/
def State.droppedFlags (s : State) (cls : Nat) : State :=
  let s := (s.bump Reg.ERR_DROP).event Reg.ERR_EVT Reg.ERR_EVTEN 3 27
  if cls = 0 then s else (s.ohtAttn cls).twiAttn cls

/-- Does a Notice repeat the newest held entry (R472)? -/
def State.repeats (s : State) (code source : Nat) (detail : Word) : Option Nat :=
  match s.newestOf s.heldSlots with
  | none => none
  | some j =>
    if s.fld (Reg.ERR_E0 j) Fld.ERR_E0_CODE = code ∧ s.fld (Reg.ERR_E0 j) Fld.ERR_E0_SOURCE = source
        ∧ s.reg (Reg.ERR_E1 j) = detail then some j else none

/-- Entries recorded at one moment stand in one cycle (R476, log 51): note what was under way when it began. -/
def State.openCycle (s : State) : State :=
  if s.err.cycleAt = s.now ∧ s.err.cycle ≠ [] then s
  else
    let top := if s.handled 2 then 2 else b2n (s.handled 1)
    { s with err := { s.err with cycleAt := s.now, cycle := [], cycleTop := top } }

/-- NEST of an entry of a class after some of the cycle's entries (R475, R476). -/
def State.nestAfter (s : State) (cls : Nat) (before : List Nat) : Nat :=
  b2n (decide (s.err.cycleTop = 2 ∨ (s.err.cycleTop = 1 ∧ cls ≤ 1) ∨ ∃ c ∈ before, cls ≤ c))

/-- What of an entry moves when the entries of a cycle change places: CODE, CLASS and SOURCE, DETAIL, REPEAT. -/
structure LedgerItem where
  code : Nat
  cls : Nat
  source : Nat
  detail : Word
  repeat_ : Nat
  deriving DecidableEq, Repr

/-- The item of a slot. -/
def State.ledgerItem (s : State) (i : Nat) : LedgerItem :=
  ⟨s.fld (Reg.ERR_E0 i) Fld.ERR_E0_CODE, s.fld (Reg.ERR_E0 i) Fld.ERR_E0_CLASS, s.fld (Reg.ERR_E0 i) Fld.ERR_E0_SOURCE,
    s.reg (Reg.ERR_E1 i), s.fld (Reg.ERR_E4 i) Fld.ERR_E4_REPEAT⟩

/-- Put an item behind those of no higher code. -/
def placeItem (x : LedgerItem) : List LedgerItem → List LedgerItem
  | [] => [x]
  | y :: r => if y.code ≤ x.code then y :: placeItem x r else x :: y :: r

/-- Write items into slots in turn, with the NEST that their order gives them. -/
def State.putItems (s : State) (before : List Nat) : List (Nat × LedgerItem) → State
  | [] => s
  | (i, x) :: r =>
    let s := s.setNum (Reg.ERR_E0 i) (x.code + x.cls * 2 ^ 16 + s.nestAfter x.cls before * 2 ^ 18 + 2 ^ 19 + x.source * 2 ^ 24)
    let s := (s.setReg (Reg.ERR_E1 i) x.detail).setFld (Reg.ERR_E4 i) Fld.ERR_E4_REPEAT x.repeat_
    s.putItems (before ++ [x.cls]) r

/-- The NOTICE payload of a slot's entry (R386, R474). -/
def State.entryNotice (s : State) (i : Nat) : List Byte := leBytes 2 1 ++ s.entryBytes i

/-- Bring the entries of one cycle into ascending CODE order (R476); notices that wait follow. DEDUCED, log 51. -/
def State.sortCycle (s : State) : State :=
  let slots := s.err.cycle
  let items := slots.map s.ledgerItem
  let sorted := items.foldl (fun l x => placeItem x l) []
  if sorted = items then s
  else
    let t := s.putItems [] (slots.zip sorted)
    { t with notices := t.notices.map fun n =>
        match slots.find? fun i => decide (s.entryNotice i = n) with
        | some i => t.entryNotice i
        | none => n }

/-- Record an entry in a slot, with its NOTICE and its place in the cycle. -/
def State.recordIn (s : State) (slot code cls source : Nat) (detail : Word) : State :=
  let s := s.openCycle
  let others := s.err.cycle.filter fun i => decide (i < 32 ∧ i ≠ slot) && s.flag (Reg.ERR_E0 i) Fld.ERR_E0_VALID
  let nest := s.nestAfter cls (others.map fun i => s.fld (Reg.ERR_E0 i) Fld.ERR_E0_CLASS)
  let s := s.writeEntry slot code cls nest source detail
  let s := s.sendNotice 1 (s.entryBytes slot)
  ({ s with err := { s.err with cycle := others ++ [slot] } } : State).sortCycle

/-- Enter an error in the ledger (R470 to R474): a repeat of a Notice only counts; else a free slot, or for H and F the
slot of the oldest held Notice, or nothing. -/
def State.logEntry (s : State) (code cls source : Nat) (detail : Word) : State :=
  match (if cls = 0 then s.repeats code source detail else none) with
  | some j => s.setFld (Reg.ERR_E4 j) Fld.ERR_E4_REPEAT (min 0xFFFF (s.fld (Reg.ERR_E4 j) Fld.ERR_E4_REPEAT + 1))
  | none =>
    match s.freeSlot with
    | some i =>
      let s := { s with err := { s.err with nextSlot := (i + 1) % 32 } }
      (s.recordIn i code cls source detail).recordedFlags cls
    | none =>
      match (if cls = 0 then none
             else s.oldestOf (s.heldSlots.filter fun i => s.fld (Reg.ERR_E0 i) Fld.ERR_E0_CLASS = 0)) with
      | some i => ((s.bump Reg.ERR_OVWR).recordIn i code cls source detail).recordedFlags cls
      | none => s.droppedFlags cls

/-! ### Modes -/

/-- Enter another operating state; TWI_ATTN bit 3 shows the change (R464). DEDUCED, log 40. -/
def State.setMode (s : State) (m : Mode) : State := ({ s with mode := m } : State).twiAttn 3

/-- HB and HOST_RDY drop (R253, R468, R519); a stop of HB sets TWI_ATTN bit 4. -/
def State.dropReady (s : State) : State :=
  let s' := { s with outPins := { s.outPins with hb := false, hostRdy := false } }
  let s' := s'.setFld Reg.RED_STATUS Fld.RED_STATUS_HBRUN 0
  if s.flag Reg.RED_STATUS Fld.RED_STATUS_HBRUN then s'.twiAttn 4 else s'

/-- An error ends a request for Inspecting that is being prepared or waits for its trigger (R522, R523). -/
def State.abortInspect (s : State) : State :=
  if s.flag Reg.PWR_STATUS Fld.PWR_STATUS_BUSY && (s.mode == .poised || s.mode == .halted) then
    let s := s.setFld Reg.PWR_STATUS Fld.PWR_STATUS_REQRES 9
    let s := s.setFld Reg.PWR_STATUS Fld.PWR_STATUS_BUSY 0
    let s := s.setFld Reg.PWR_STATUS Fld.PWR_STATUS_WAITTRIG 0
    { (s.setFld Reg.PWR_STATUS Fld.PWR_STATUS_TARGET 0) with
      err := { s.err with restarting := false }, pwr := { s.pwr with prep := none }, acc := { s.acc with pool := none } }
  else s

/-- End every TRIG pulse at once (R116). -/
def State.cutPulses (s : State) : State :=
  let ends := s.outPins.trigEnd.filter fun p => p.2.isSome
  let s := ends.foldl (fun (s : State) p => s.emit (.trigEnd p.1)) s
  { s with outPins := { s.outPins with trigEnd := [] } }

/-- The PTP port enters another state (R414, R419). DEDUCED, log 98. -/
def State.setPortState (s : State) (n : Nat) : State :=
  if s.fld Reg.TIME_STATUS Fld.TIME_STATUS_PORTST = n then s
  else (s.setFld Reg.TIME_STATUS Fld.TIME_STATUS_PORTST n).event Reg.TIME_EVT Reg.TIME_EVTEN 5 17

/-- The GDDR6 controller as it stands in Frozen: devices in self-refresh (R433). -/
def State.memcFreeze (s : State) : State :=
  if s.mode.allOn then
    (s.setFld Reg.MEMC_STATUS Fld.MEMC_STATUS_STATE 3).setFld Reg.MEMC_STATUS Fld.MEMC_STATUS_SELFREF 1
  else s

/-- The GDDR6 controller is active in Halted (R18): a self-refresh of Poised ends. -/
def State.memcWake (s : State) : State :=
  if s.fld Reg.MEMC_STATUS Fld.MEMC_STATUS_STATE = 2 then s.setFld Reg.MEMC_STATUS Fld.MEMC_STATUS_SELFREF 0 else s

/-- Enter Frozen (R468): pulses cut, HB and HOST_RDY drop, GDDR6 in self-refresh, everything else keeps its state. -/
def State.freeze (s : State) : State :=
  let s := s.abortInspect
  let s := (s.cutPulses.dropReady.memcFreeze).setPortState 3
  let s := s.setFld Reg.ERR_STATUS Fld.ERR_STATUS_HALTING 0
  { (s.setMode .frozen) with err := { s.err with breaches := [], stopReq := false, boundary := none } }

/-- What a class H error does when no other is being handled (R468, R469): from Poised to Halted at once; in Inspecting it
waits for its line boundary. -/
def State.actHalting (s : State) (b : Breach) : State :=
  let s := s.abortInspect
  match s.mode with
  | .poised => ((s.setMode .halted).memcWake).setFld Reg.ERR_STATUS Fld.ERR_STATUS_FROMINSP 0
  | .inspecting =>
    { (s.setFld Reg.ERR_STATUS Fld.ERR_STATUS_HALTING 1) with err := { s.err with breaches := s.err.breaches ++ [b] } }
  | _ => s

/-- Record an error and let its class act (R468 to R475). Class 0 is N, 1 is H, 2 is F. -/
def State.record (s : State) (code cls source : Nat) (detail : Word) : State :=
  let nested := s.handled cls
  let s' := s.logEntry code cls source detail
  if cls = 0 ∨ nested then s'
  else if cls = 1 then s'.actHalting ⟨0, 0, none, false, s.now⟩
  else if s'.mode.powered then s'.freeze else s'

/-- Record a Notice. -/
def State.notice (s : State) (code source : Nat) (detail : Nat) : State :=
  s.record code 0 source (BitVec.ofNat 32 detail)

/-- SOURCE of a block (R471): bits [23:16] of its base. -/
def sourceOf (base : Nat) : Nat := base / 0x10000 % 256

/-! ### Breaches -/

/-- Has a reference trigger of line `j` or a later one come (R566)? -/
def State.refCame (s : State) (j : Int) : Bool :=
  match s.trg.maxRef with
  | some m => decide (j ≤ m)
  | none => false

/-- The slots of the lines before line `k`: its own slot and what was triggered after it is not processed (R253). -/
def slotsBefore (k : Int) (l : List Slot) : List Slot :=
  if l.any fun x => decide (x.line = k) then l.takeWhile fun x => decide (x.line ≠ k) else []

/-- A breach arises at a time not before now (R253): in Inspecting it waits for the boundary of the line its rule names, or without one for the
next reference trigger after it. The boundary of a line whose reference trigger has come already stands at once. It arises in no other state.
DEDUCED, log 42. -/
def State.breachAt (s : State) (code unit : Nat) (line : Option Int) (at_ : Nat) : State :=
  if s.mode == .inspecting then
    let s := { s with err := { s.err with breaches := s.err.breaches ++ [⟨code, unit, line, true, at_⟩] } }
    match line with
    | some k =>
      if s.err.boundary.isNone && s.refCame k then
        { s with err := { s.err with boundary := some k }, slots := slotsBefore k s.slots }
      else s
    | none => s
  else s

/-- A breach arises now (R253). -/
def State.breach (s : State) (code unit : Nat) (line : Option Int) : State := s.breachAt code unit line s.now

end Sys2Proof.Machine
end

