-- ==== Sys2Proof/Machine/Operands.lean ====
section
/-! DEFINITION. How a register is reached and what an access does to its fields: which blocks answer (R18 to R22, R34,
R484), the access types (R9), refused fields (R567), locks (R11), pairs and groups (R12). The actions that a write starts
stand with their families; Bus.lean joins both. -/

namespace Sys2Proof.Machine

/-- The number of an access path, for the tables of captured and held words (R12). -/
def pathKey : Path → Nat
  | .oht i => i
  | .twi => 4
  | .fw => 5

/-- The key of a captured or held word. -/
def latchKey (p : Path) (a : Nat) : Nat := pathKey p * 2 ^ 24 + a

/-- Does the path reach the register space in the present state (R21, R484)? -/
def State.reaches (s : State) : Path → Bool
  | .twi => s.mode.powered
  | _ => s.mode.active

/-- Blocks of the AO domain (R18). -/
def isAo : Blk → Bool
  | .sys | .pwr | .err | .evr | .twi | .pos | .time => true
  | _ => false

/-- Is the address in folio memory (R35)? -/
def inFolio (a : Nat) : Bool := decide (0x400000 ≤ a ∧ a < 0x800000)

/-- Is the address in the SRAM window (R33)? -/
def inWindow (a : Nat) : Bool := decide (0x800000 ≤ a ∧ a < 0x1000000)

/-- The SRAM offset that a window address shows (R33). -/
def State.windowOffset (s : State) (a : Nat) : Nat := s.fld Reg.SYS_SRAMPG Fld.SYS_SRAMPG_PAGE * 0x800000 + (a - 0x800000)

/-- Is a read of the address answered in the present state (R21, R22, R32, R33, R484)? -/
def State.answersRead (s : State) (a : Nat) : Bool :=
  if s.mode.allOn then
    if inWindow a then decide (s.fld Reg.SYS_SRAMPG Fld.SYS_SRAMPG_PAGE ≤ 5)
    else inFolio a || (blockAt a).isSome
  else match blockAt a with
    | some (b, _) => isAo b
    | none => false

/-- Is a write of the value to the address answered (also R34, R484, R541)? -/
def State.answersWrite (s : State) (a : Nat) (v : Word) : Bool :=
  if s.mode == .frozen then
    match blockAt a with
    | some (.err, _) => true
    | some (.twi, _) => true
    | _ => decide (a = Reg.PWR_CTRL) && decide (getBits v Fld.PWR_CTRL_REQ = 4)
  else if inWindow a then s.answersRead a && (s.mode == .poised || s.mode == .halted)
  else s.answersRead a

/-- Record the rejection of an access as in R6. -/
def State.rejectAccess (s : State) (a : Nat) : State :=
  if a % 4 ≠ 0 then s.notice 0x0101 0xFF a else s.notice 0x0102 0xFF a

/-! ### Views -/

/-- 1 for each held entry's greatest class plus one: WORST of ERR_STATUS. -/
def State.worstHeld (s : State) : Nat :=
  s.heldSlots.foldl (fun m i => max m (s.fld (Reg.ERR_E0 i) Fld.ERR_E0_CLASS + 1)) 0

/-- PWR_STATUS.STATE of a mode (R541). -/
def modeCode : Mode → Nat
  | .standby => 0
  | .poised => 1
  | .inspecting => 2
  | .halted => 3
  | .frozen => 4
  | _ => 5

/-- LOCK bits of channels 32·h to 32·h + 31 as EVR_LOCK shows them (R450). -/
def State.lockBits (s : State) (h : Nat) : Nat :=
  (List.range 32).foldl (fun n c => n + b2n (s.flag (Reg.CH_CFG (32 * h + c)) Fld.CH_CFG_LOCK) * 2 ^ c) 0

/-- Is the partner's STATUS no older than 20 µs and HEALTHY (R511)? DEDUCED, log 117. -/
def State.partnerUp (s : State) : Bool :=
  match s.red.partner with
  | some p => p.healthy && decide (s.now ≤ p.at_ + 20000000)
  | none => false

/-- Is the address a bound register of the staged collection (R256)? -/
def isStagedBound (a : Nat) : Bool := decide (0xA0180 ≤ a ∧ a < 0xA01C0)

/-- The status byte of an in-band request (R464). -/
def State.statusByte (s : State) : Nat := ((s.reg Reg.TWI_ATTN &&& s.reg Reg.TWI_ATTNEN).toNat) % 128

/-- Is an in-band request due (R464)? -/
def State.ibrDue (s : State) : Bool :=
  s.flag Reg.TWI_CTRL Fld.TWI_CTRL_IBREN && decide (Nat.land s.statusByte (127 - s.twi.last % 128) ≠ 0)

/-- Test pulses of a TRIGDLY run so far: twice 64, 1 µs apart (R138). -/
def State.calPulses (s : State) (r : CalRun) : Nat := min 128 ((s.now - r.startAt) / 1000000 + 1)

/-- The word a read shows, before captured words: registers whose value has another home are made here. -/
def State.liveWord (s : State) (a : Nat) : Word :=
  if a = Reg.PWR_STATUS then setBits (s.reg a) Fld.PWR_STATUS_STATE (modeCode s.mode)
  else if a = Reg.ERR_STATUS then
    setBits (setBits (setBits (s.reg a) Fld.ERR_STATUS_COUNT s.heldSlots.length) Fld.ERR_STATUS_WORST s.worstHeld)
      Fld.ERR_STATUS_FROZEN (b2n (s.mode == .frozen))
  else if a = Reg.RED_STATUS then setBits (s.reg a) Fld.RED_STATUS_PARTNER (b2n s.partnerUp)
  else if a = Reg.ERR_OLDEST then
    BitVec.ofNat 32 (match s.oldestOf s.heldSlots with
      | some i => i
      | none => (s.freeSlot).getD 0)
  else if a = Reg.EVR_LOCK_LO then BitVec.ofNat 32 (s.lockBits 0)
  else if a = Reg.EVR_LOCK_HI then BitVec.ofNat 32 (s.lockBits 1)
  else if a = Reg.TIME_NOW_FRAC then BitVec.ofNat 32 (s.t40 / 2 ^ 24 % 2 ^ 16)
  else if a = Reg.TIME_NOW_NS then BitVec.ofNat 32 (nsOf s.t40)
  else if a = Reg.TIME_NOW_SEC_LO then BitVec.ofNat 32 (secOf s.t40)
  else if a = Reg.TIME_NOW_SEC_HI then BitVec.ofNat 32 (secOf s.t40 / 2 ^ 32)
  else if a = Reg.CAL_STATUS then
    match s.calRun with
    | some r => if r.kind = 6 then setBits (s.reg a) Fld.CAL_STATUS_LINES (s.calPulses r) else s.reg a
    | none => s.reg a
  else if a = Reg.SYS_BOOT then setBits (s.reg a) Fld.SYS_BOOT_STRAP s.pins.boot
  else if a = Reg.TWI_CTRL then
    setBits (setBits (s.reg a) Fld.TWI_CTRL_ADDR s.pins.twAddr) Fld.TWI_CTRL_DUE (b2n s.ibrDue)
  else if a = Reg.TWI_SUM then
    let w := setBits (s.reg a) Fld.TWI_SUM_STATE (modeCode s.mode)
    let w := setBits w Fld.TWI_SUM_ROLE (b2n s.pins.role)
    let w := setBits w Fld.TWI_SUM_HBRUN (s.fld Reg.RED_STATUS Fld.RED_STATUS_HBRUN)
    let w := setBits w Fld.TWI_SUM_HOSTRDY (b2n s.outPins.hostRdy)
    let w := setBits w Fld.TWI_SUM_TEMPALERT (b2n s.outPins.tempAlert)
    let w := setBits w Fld.TWI_SUM_BOOT s.pins.boot
    let w := setBits w Fld.TWI_SUM_NERR s.heldSlots.length
    setBits w Fld.TWI_SUM_TJ (s.fld Reg.PWR_TEMP Fld.PWR_TEMP_TJ)
  else if 0x30C00 ≤ a ∧ a < 0x30C20 then
    setBits (s.reg a) Fld.EVIN_CFG_LEVEL (b2n (bit s.pins.evin ((a - 0x30C00) / 4)))
  else if isStagedBound a && decide (s.fld Reg.ACC_STATUS Fld.ACC_STATUS_SSTATE ≠ 2) then 0
  else s.reg a

/-- The word a read through a path returns: what the path has captured, else the word of the moment (R12). -/
def State.view (s : State) (p : Path) (a : Nat) : Word :=
  match Store.get (fun _ => none) (latchKey p a) s.captured with
  | some w => w
  | none => s.liveWord a

/-- Capture the word of the moment of a register for a path (R12). -/
def State.capture (s : State) (p : Path) (a : Nat) : State :=
  { s with captured := Store.set (fun _ => none) (latchKey p a) (some (s.liveWord a)) s.captured }

/-- The captures that a read of the register at `a` makes (R12). A _LO register whose own word the path has captured with a group shows
that word and captures nothing: its _HI stands in the group too. -/
def State.captureFrom (s : State) (p : Path) (a : Nat) : State :=
  match kindAt a with
  | some k =>
    match k.tie with
    | .lo => if (Store.get (fun _ => none) (latchKey p a) s.captured).isSome then s else s.capture p (a + 4)
    | .head ms => ms.foldl (fun (s : State) m => s.capture p (a + m)) s
    | _ => s
  | none => s

/-- A path forgets what it has captured and holds (R12). DEDUCED, log 100. -/
def State.forgetPath (s : State) (p : Path) : State :=
  { s with captured := s.captured.filter fun e => decide (e.1 / 2 ^ 24 ≠ pathKey p)
           held := s.held.filter fun e => decide (e.1 / 2 ^ 24 ≠ pathKey p) }

/-! ### Writing fields -/

/-- Does the block that owns the register run, for RWH (the chapters' register sections; R145 for equalizer registers)? -/
def State.running (s : State) (a : Nat) : Bool :=
  if 0x81000 ≤ a ∧ a < 0x81780 then
    let st := s.fld (Reg.CAM_STATE ((a - 0x81000) / 0x80)) Fld.CAM_STATE_LSTATE
    st != 0 && st != 6
  else s.mode == .inspecting

/-- Is the address a shadow descriptor register of a DMA channel (R340, R349)? -/
def isDescriptor (a : Nat) : Bool := decide (0xE0100 ≤ a ∧ a < 0xE0900 ∧ 8 ≤ (a - 0xE0100) % 0x40 ∧ (a - 0xE0100) % 0x40 < 0x30)

/-- Is the shadow set that the register belongs to sealed (R233, R340)? -/
def State.sealed (s : State) (a : Nat) : Bool :=
  if isDescriptor a then s.flag (Reg.CH_STATUS ((a - 0xE0100) / 0x40)) Fld.CH_STATUS_SEALED
  else s.fld Reg.ACC_STATUS Fld.ACC_STATUS_SSTATE != 0

/-- Is the lock set that fixes the RWL fields of the register (R11, R446)? -/
def State.locked (s : State) (a : Nat) : Bool :=
  if a = Reg.SYS_NODE then s.flag Reg.SYS_NODE Fld.SYS_NODE_NLOCK
  else if 0x30100 ≤ a ∧ a < 0x30900 then s.flag (Reg.CH_CFG ((a - 0x30100) / 0x20)) Fld.CH_CFG_LOCK
  else false

/-- What a write makes of one register: the word in force, the staged word, and whether an RWH or an RWS field was refused. -/
structure Written where
  word : Word
  staged : Word
  hold : Bool
  stage : Bool
  deriving DecidableEq, Repr

/-- One field under R9, R10 and R567; `just` has the bits of the register that hardware sets at this moment, which a W1C write leaves set. -/
def writeField (running shut locked : Bool) (just v : Word) (r : Written) (f : FieldSpec) : Written :=
  let x := getBits v f.bits
  match f.acc with
  | .rw => { r with word := setBits r.word f.bits x }
  | .ro => r
  | .wo => r
  | .w1c =>
    let keep := Nat.lor (2 ^ f.bits.len - 1 - x) (getBits just f.bits)
    { r with word := setBits r.word f.bits (Nat.land (getBits r.word f.bits) keep) }
  | .w1s => { r with word := setBits r.word f.bits (Nat.lor (getBits r.word f.bits) x) }
  | .rwl => if locked then r else { r with word := setBits r.word f.bits x }
  | .rws =>
    if shut then { r with stage := r.stage || decide (getBits r.staged f.bits ≠ x) }
    else { r with staged := setBits r.staged f.bits x }
  | .rwh =>
    if running then { r with hold := r.hold || decide (getBits r.word f.bits ≠ x) }
    else { r with word := setBits r.word f.bits x }

/-- The staged word of a register (R9). -/
def State.stagedWord (s : State) (a : Nat) : Word := Store.get resetWord a s.shadow

/-- Store the staged word of a register. -/
def State.setStaged (s : State) (a : Nat) (w : Word) : State := { s with shadow := Store.set resetWord a w s.shadow }

/-- What a write of `v` makes of the register at `a` (R9, R10, R567); where no register is defined, nothing (R7). -/
def State.written (s : State) (a : Nat) (v : Word) : Written :=
  let r : Written := ⟨s.reg a, s.stagedWord a, false, false⟩
  match kindAt a with
  | none => r
  | some k => k.fields.foldl (writeField (s.running a) (s.sealed a) (s.locked a) (BitVec.ofNat 32 (s.justSet a)) v) r

/-- Is the address in the staging list or its count (R232)? -/
def isStaging (a : Nat) : Bool := decide (0xA8000 ≤ a ∧ a < 0xAA000) || decide (a = Reg.ACC_STAGECNT)

/-- A write to a sealed part of the staged set: recorded, and counted in ACC_SHREJ (R233), for a descriptor in DMA_REJ (R340). -/
def State.rejectStaged (s : State) (a : Nat) : State :=
  let s := s.notice 0x0104 (sourceOf a) a
  if isDescriptor a then s.bump Reg.DMA_REJ else s.bump Reg.ACC_SHREJ

/-- Write one register's fields (R9, R567), with at most one entry for the register; where the write would change both a refused RWH and
a refused RWS field, that entry is HOLD_REJECT, and ACC_SHREJ does not count (DESIGN CHOICE, log 129). -/
def State.writeFields (s : State) (a : Nat) (v : Word) : State :=
  if isStaging a && s.sealed a then s.rejectStaged a
  else
    let r := s.written a v
    let s := (s.setReg a r.word).setStaged a r.staged
    if r.hold then s.notice 0x0103 (sourceOf a) a
    else if r.stage then s.rejectStaged a else s

/-- In a _HI register of a 48-bit signed value, bits [31:16] are copies of bit 47 (R118). -/
def is48Hi (a : Nat) : Bool :=
  (decide (0x50100 ≤ a ∧ a < 0x50400) && decide ((a - 0x50100) % 0x80 ∈ [0x0C, 0x1C, 0x24, 0x2C, 0x3C, 0x44]))
    || decide (a = Reg.TRG_ORIGIN_HI) || (decide (0x60200 ≤ a ∧ a < 0x60400) && decide ((a - 0x60200) % 0x20 = 0xC))

/-- The value a write to a _HI register means (R118). -/
def hiValue (a : Nat) (v : Word) : Word :=
  if is48Hi a then BitVec.ofNat 32 (unsignedOf 32 (signed 16 v.toNat)) else v

/-- Write through a path (R12): a _HI word is held; a _LO word takes the path's held word with it, and both stay unchanged
where either would change a refused field; any other word goes to its fields. -/
def State.writeReg (s : State) (p : Path) (a : Nat) (v : Word) : State :=
  match kindAt a with
  | none => s
  | some k =>
    match k.tie with
    | .hi => { s with held := Store.set (fun _ => none) (latchKey p a) (some (hiValue a v)) s.held }
    | .lo =>
      match Store.get (fun _ => none) (latchKey p (a + 4)) s.held with
      | none => s.writeFields a v
      | some h =>
        let s' := { s with held := Store.set (fun _ => none) (latchKey p (a + 4)) none s.held }
        let rl := s.written a v
        let rh := s.written (a + 4) h
        if rl.hold || rh.hold then s'.notice 0x0103 (sourceOf a) a
        else if rl.stage || rh.stage then s'.rejectStaged a
        else (s'.writeFields (a + 4) h).writeFields a v
    | _ => s.writeFields a v

/-- A _LO write that is rejected ends the hold of its path (R12). DEDUCED, log 39. -/
def State.endHold (s : State) (p : Path) (a : Nat) : State :=
  { s with held := Store.set (fun _ => none) (latchKey p (a + 4)) none s.held }

/-- The sub-word of COUNTER_CLEAR: the counters at `base + 4 m` for each bit `m` of the word written are cleared (R91). DEDUCED, log 34. -/
def State.clearCounters (s : State) (base n : Nat) (v : Word) : State :=
  (List.range n).foldl (fun (s : State) m => if bit v.toNat m then s.setNum (base + 4 * m) 0 else s) s

end Sys2Proof.Machine
end

