-- ==== Sys2Proof/Machine/Collection.lean ====
section
/-! DEFINITION. Which registers hold collection fields (R229), and the registers as the work of a stitched line sees them:
collection fields as they stood at its reference trigger (R25), everything else as it stands. -/

namespace Sys2Proof.Machine

/-- Blocks whose fields can be collection fields (R229). -/
def collectionBlock : Blk → Bool
  | .pos | .trg | .cam | .stitch | .seam | .folio | .seg | .card | .prof | .stk | .que | .oht | .acc => true
  | _ => false

/-- Registers that R229 excludes although a field of theirs can be written: lane registers, camera register access, event
enables, table ports, and control and command registers. -/
def excluded (b : Blk) (o : Nat) : Bool :=
  match b with
  | .pos => decide (o = 0x24)
  | .cam => decide (o = 0x44) || decide (0x70 ≤ o ∧ o < 0x80) || decide (0x100 ≤ o)
  | .seam => decide (o = 0x44) || decide (0x100 ≤ o)
  | .stitch => decide (0x400 ≤ o ∧ o ≤ 0x410)
  | .seg => decide (o = 0x4C)
  | .card => decide (o = 0x4C) || decide (0x10 ≤ o ∧ o ≤ 0x18)
  | .prof => decide (o = 0x5C) || decide (0x80 ≤ o ∧ o ≤ 0x88) || decide (0x10 ≤ o ∧ o ≤ 0x18)
  | .stk => decide (o = 0x64) || (decide (0x100 ≤ o) && decide (o % 0x40 < 0x10))
  | .que => decide (0x10 ≤ o ∧ o ≤ 0x1C)
  | .oht => decide (o = 0x08)
  | .acc => decide (o = 0 ∨ o = 0x14 ∨ o = 0x18 ∨ o = 0x38 ∨ 0x8000 ≤ o)
  | _ => false

/-- Access types of collection fields (R229). -/
def Acc.settable : Acc → Bool
  | .rw | .rws | .rwh => true
  | _ => false

/-- Does the register at an address hold collection fields (R229)? -/
def isCollection (a : Nat) : Bool :=
  match blockAt a with
  | none => false
  | some (b, base) => collectionBlock b && !excluded b (a - base) && (match kindAt a with
    | some k => k.fields.any fun f => f.acc.settable
    | none => false)

/-- May the staging list name the register (R232): does it hold an RW or RWH collection field? -/
def isListed (a : Nat) : Bool :=
  isCollection a && decide (a % 4 = 0) && (match kindAt a with
    | some k => k.fields.any fun f => f.acc == .rw || f.acc == .rwh
    | none => false)

/-- Registers whose value at a line's trigger governs the line's work: collection fields, the live banks, lags and bounds. -/
def fixedAtTrigger (a : Nat) : Bool :=
  isCollection a || (decide (0x200000 ≤ a ∧ a < 0x300000) && decide (a % 0x10000 = 0x10C)) || decide (a = Reg.CAT_TCTL)
    || decide (a = Reg.PROF_TCTL) || decide (0xA0100 ≤ a ∧ a < 0xA0140) || (decide (0x310110 ≤ a ∧ a < 0x310200) && decide (a % 0x40 = 0x18))

/-- The registers `cfg` where the trigger fixes them, and `rest` elsewhere. DEDUCED, log 23. -/
def mixRegs (cfg rest : Store Word) : Store Word :=
  (cfg.filter fun e => fixedAtTrigger e.1).foldl (fun m e => Store.put e.1 e.2 m) (rest.filter fun e => !fixedAtTrigger e.1)

/-- The state as work under the registers `cfg` sees it (R17, R25). -/
def State.under (s : State) (cfg : Store Word) : State := { s with regs := mixRegs cfg s.regs }

/-- Do work under the registers `cfg`, which leaves the fields in force as they are (R25, R197). DEDUCED, log 23. -/
def State.withCfg (s : State) (cfg : Store Word) (f : State → State) : State :=
  let r := f (s.under cfg)
  { r with regs := mixRegs s.regs r.regs }

/-- The bank of the remap tables that stitches a line triggered now: the other one where a bank change has fallen due (R156). -/
def State.remapBank (s : State) : Nat :=
  let b := s.fld Reg.RMP_TCTL Fld.RMP_TCTL_BANK
  if s.stitch.due.isSome then 1 - b else b

/-- The remap tables of a bank: those in force, those of a change that has fallen due, or those before the last change (R156). -/
def State.remapTables (s : State) (bank : Nat) : Store Word :=
  if bank = s.fld Reg.RMP_TCTL Fld.RMP_TCTL_BANK then s.stitch.live
  else if s.stitch.due.isSome then s.stitch.shadow else s.stitch.old

/-- The state as the work of a stitched line sees it: the collection fields, the P and the remap bank of its reference trigger (R25, R48,
R156). -/
def State.seenBy (s : State) (sl : Slot) : State :=
  ({ s with stitch := { s.stitch with live := s.remapTables sl.bank }, acc := { s.acc with livePhases := sl.phases } } : State).under sl.regs

/-- Do work for a stitched line, as its reference trigger fixed it; the work leaves the fields and tables in force as they are (R25, R156,
R197). DEDUCED, log 23. -/
def State.inSlot (s : State) (sl : Slot) (f : State → State) : State :=
  let r := f (s.seenBy sl)
  { r with
    regs := mixRegs s.regs r.regs, stitch := { r.stitch with live := s.stitch.live }
    acc := { r.acc with livePhases := s.acc.livePhases } }

/-! ### Shelfmarks -/

/-- A full shelfmark (R52 to R54): 40 bytes; its first 28 are the compact form. -/
def State.shelfmark (s : State) (md cd count : Int) (stamp source phase kind : Nat) (line : Int) : List Byte :=
  leBytes 8 (unsignedOf 64 md) ++ leBytes 4 (unsignedOf 32 cd) ++ leBytes 6 (unsignedOf 48 count) ++ leBytes 4 (nsOf stamp)
    ++ leBytes 6 (secOf stamp) ++ leBytes 2 (s.fld Reg.SYS_NODE Fld.SYS_NODE_NODE_ID) ++ leBytes 1 (source % 32 + phase % 4 * 32)
    ++ leBytes 1 kind ++ leBytes 8 (unsignedOf 64 line)

/-- The compact form of a shelfmark (R52). -/
def compact (l : List Byte) : List Byte := l.take 28

/-- Put an item in its place by a key, before equal keys of later items. -/
def insertBy {α : Type} (le : α → α → Bool) (x : α) : List α → List α
  | [] => [x]
  | y :: r => if le x y then x :: y :: r else y :: insertBy le x r

/-- Sort a list by a total preorder; equal items keep their order. -/
def sortBy {α : Type} (le : α → α → Bool) (l : List α) : List α := l.foldr (insertBy le) []

end Sys2Proof.Machine
end

