-- ==== Sys2Proof/Machine/Wire.lean ====
section
/-! DEFINITION. The coding of the SerDes links (03_line_link.md R59 to R68, R71, R90; R162, R164 for seam and twin links): blocks and
their bodies, rows and lanes, the scrambler, alignment markers and BIP8, line packets as they stand on the lanes, PRBS patterns, and
what a transmitter has given to its upstream lanes. A block is its sync header, 1 for data and 2 for control, and its body. -/

namespace Sys2Proof.Machine

/-! ### The scrambler -/

/-- The bit that x^58 + x^39 + 1 adds to the next one; `c` holds the last 58 bits on the lane, the latest as bit 0 (R60). -/
def scrTap (c : Nat) : Bool := bit c 38 != bit c 57

/-- Take a bit that stands on the lane into the scrambler. -/
def scrShift (c : Nat) (d : Bool) : Nat := (2 * c + b2n d) % 2 ^ 58

/-- Scramble bits: what stands on the lane, and the scrambler after it (R60). -/
def scramble : Nat → List Bool → List Bool × Nat
  | c, [] => ([], c)
  | c, d :: r =>
    let o := d != scrTap c
    let (l, e) := scramble (scrShift c o) r
    (o :: l, e)

/-- Descramble bits that stand on the lane (R60): it needs no state but the last 58 of them. -/
def descramble : Nat → List Bool → List Bool × Nat
  | c, [] => ([], c)
  | c, o :: r =>
    let (l, e) := descramble (scrShift c o) r
    ((o != scrTap c) :: l, e)

/-- The body that bits spell, bit 0 first. -/
def bodyOf (l : List Bool) : BitVec 64 := BitVec.ofNat 64 (l.foldr (fun b n => b2n b + 2 * n) 0)

/-- A scrambled body and the scrambler after it. -/
def scrBody (c : BitVec 58) (b : BitVec 64) : BitVec 64 × BitVec 58 :=
  let r := scramble c.toNat (bitsOf 64 b.toNat)
  (bodyOf r.1, BitVec.ofNat 58 r.2)

/-- A descrambled body and the lane's last 58 bits after it. -/
def descrBody (c : BitVec 58) (b : BitVec 64) : BitVec 64 × BitVec 58 :=
  let r := descramble c.toNat (bitsOf 64 b.toNat)
  (bodyOf r.1, BitVec.ofNat 58 r.2)

/-! ### Bodies (R64) -/

/-- A field of a body. -/
def bodyBits (b : BitVec 64) (lo len : Nat) : Nat := b.toNat / 2 ^ lo % 2 ^ len

/-- An IDLE body. -/
def idleBody : BitVec 64 := 0x0F

/-- The body of a TOKEN: CNT_LO holds the low 24 bits of the trigger count. -/
def tokenBody (tseq phase hold : Nat) (count : Int) : BitVec 64 :=
  BitVec.ofNat 64 (0x66 + tseq % 2 ^ 16 * 2 ^ 8 + phase % 4 * 2 ^ 24 + hold % 2 ^ 7 * 2 ^ 32 + unsignedOf 24 count * 2 ^ 40)

/-- The body of a REQ; DATA is 0 for reads. -/
def reqBody (tag : Nat) (write : Bool) (addr : Nat) (data : Word) : BitVec 64 :=
  BitVec.ofNat 64 (0xA5 + tag % 2 ^ 6 * 2 ^ 8 + b2n write * 2 ^ 14 + addr % 2 ^ 16 * 2 ^ 16 + (if write then data.toNat else 0) * 2 ^ 32)

/-- The body of a MGMT block. -/
def mgmtBody (sub part : Nat) (data : BitVec 48) : BitVec 64 :=
  BitVec.ofNat 64 (0x3C + sub % 16 * 2 ^ 8 + part % 16 * 2 ^ 12 + data.toNat * 2 ^ 16)

/-- The body of an AM of a logical lane with its BIP8 and the complement (R62). -/
def amBody (lane bip : Nat) : BitVec 64 :=
  BitVec.ofNat 64 (0x99 + lane % 4 * 2 ^ 8 + 0x5E1AC0D7 * 2 ^ 16 + bip % 256 * 2 ^ 48 + (255 - bip % 256) * 2 ^ 56)

/-- The even-parity byte over the exclusive or of some bodies: bit m covers bits m, m + 8 to m + 56 (R62). -/
def bip8 (sum : BitVec 64) : Nat :=
  (List.range 8).foldl (fun n i => Nat.xor n (bodyBits sum (8 * i) 8)) 0

/-- Has a body the pattern of an AM (R64)? -/
def amPattern (b : BitVec 64) : Bool :=
  decide (bodyBits b 0 8 = 0x99 ∧ bodyBits b 10 6 = 0 ∧ bodyBits b 16 32 = 0x5E1AC0D7 ∧ bodyBits b 48 8 + bodyBits b 56 8 = 255)

end Sys2Proof.Machine

namespace Sys2Proof

open Sys2Proof.Machine

/-- Does a lane show an AM: a control block of the right pattern? -/
def AmLane.shown (a : AmLane) : Bool := decide (a.head = 2) && amPattern a.body

/-- The logical lane number of an AM. -/
def AmLane.lane (a : AmLane) : Nat := bodyBits a.body 8 2

/-- Does the BIP8 of an AM agree with the lane's blocks since the last one? -/
def AmLane.bipOk (a : AmLane) : Bool := decide (bodyBits a.body 48 8 = bip8 a.sum)

end Sys2Proof

namespace Sys2Proof.Machine

/-! ### Rows and lanes (R61) -/

/-- A block stream in rows of `n`, block `i` of a row on lane `i`, the last row filled with IDLE (R61, R66). -/
def stripe (n : Nat) : Nat → List (Nat × BitVec 64) → List (List (Nat × BitVec 64))
  | 0, _ => []
  | _, [] => []
  | k + 1, l => ((l.take n) ++ List.replicate (n - (l.take n).length) (2, idleBody)) :: stripe n k (l.drop n)

/-- The rows of a whole stream. -/
def rowsOf (n : Nat) (l : List (Nat × BitVec 64)) : List (List (Nat × BitVec 64)) := stripe n l.length l

/-- Is a row an alignment-marker row? -/
def isAmRow (r : List (Nat × BitVec 64)) : Bool := r.any fun b => decide (b.1 = 2) && amPattern b.2

/-- Scramble the blocks of a row, each on its own lane (R60). -/
def scrRow (cs : List (BitVec 58)) (r : List (Nat × BitVec 64)) : List (Nat × BitVec 64) × List (BitVec 58) :=
  let l := r.zipIdx.map fun p => (p.1.1, scrBody (cs.getD p.2 0) p.1.2)
  (l.map fun x => (x.1, x.2.1), l.map fun x => x.2.2)

/-- Descramble the blocks of a row, each on its own lane (R60). -/
def descrRow (cs : List (BitVec 58)) (r : List (Nat × BitVec 64)) : List (Nat × BitVec 64) × List (BitVec 58) :=
  let l := r.zipIdx.map fun p => (p.1.1, descrBody (cs.getD p.2 0) p.1.2)
  (l.map fun x => (x.1, x.2.1), l.map fun x => x.2.2)

/-- Rows as they stand on the lanes: scrambled, but for alignment markers, over which the scrambler does not advance (R60). -/
def scrRows : List (BitVec 58) → List (List (Nat × BitVec 64)) → List (List (Nat × BitVec 64)) × List (BitVec 58)
  | cs, [] => ([], cs)
  | cs, r :: rest =>
    let (x, cs) := if isAmRow r then (r, cs) else scrRow cs r
    let (l, e) := scrRows cs rest
    (x :: l, e)

/-- The block stream that rows carry, alignment-marker rows removed (R60, R61, R66). -/
def blockStream : List (BitVec 58) → List (List (Nat × BitVec 64)) → List (Nat × BitVec 64)
  | _, [] => []
  | cs, r :: rest =>
    if isAmRow r then blockStream cs rest
    else
      let (x, cs) := descrRow cs r
      x ++ blockStream cs rest

/-! ### Line packets (R64 to R68) -/

/-- The type of a control body. -/
def bodyType (b : BitVec 64) : Nat := bodyBits b 0 8

end Sys2Proof.Machine

namespace Sys2Proof

open Sys2Proof.Machine

def LinePacket.tseq (pk : LinePacket) : Nat := bodyBits pk.sol 8 16
def LinePacket.fmt (pk : LinePacket) : Nat := bodyBits pk.sol 24 4
def LinePacket.phase (pk : LinePacket) : Nat := bodyBits pk.sol 28 2
def LinePacket.npixM1 (pk : LinePacket) : Nat := bodyBits pk.sol 32 15
def LinePacket.hcrc (pk : LinePacket) : Nat := bodyBits pk.sol 48 16

/-- Was the packet cut short (R81)? -/
def LinePacket.cut (pk : LinePacket) : Bool := pk.eol.isNone

/-- NBLK of the EOL. -/
def LinePacket.nblk (pk : LinePacket) : Nat := (pk.eol.map fun b => bodyBits b 8 16).getD 0

/-- CRC of the EOL. -/
def LinePacket.crc (pk : LinePacket) : Nat := (pk.eol.map fun b => bodyBits b 32 32).getD 0

end Sys2Proof

namespace Sys2Proof.Machine

/-- The blocks after a SOL: data blocks, then the EOL. Another SOL or the end of what came cuts the packet short (R81); any other
block makes it malformed, as does a reserved bit set (R65). -/
def packetRest : LinePacket → List (Nat × BitVec 64) → LinePacket
  | pk, [] => pk
  | pk, (h, b) :: r =>
    if h = 1 then packetRest { pk with blocks := pk.blocks ++ [b] } r
    else if h = 2 ∧ bodyType b = 0x55 then { pk with eol := some b, bad := pk.bad || decide (bodyBits b 24 8 ≠ 0) }
    else if h = 2 ∧ bodyType b = 0x33 then pk
    else packetRest { pk with bad := true } r

/-- The packet that a block stream brings: none unless it begins with a SOL. -/
def packetOf : List (Nat × BitVec 64) → Option LinePacket
  | (2, b) :: r =>
    if bodyType b = 0x33 then some (packetRest ⟨b, [], none, decide (bodyBits b 30 2 ≠ 0 ∨ bodyBits b 47 1 ≠ 0)⟩ r) else none
  | _ => none

end Sys2Proof.Machine

namespace Sys2Proof

open Sys2Proof.Machine

/-- The packet that a port reassembles from its lanes. -/
def PacketRows.packet (rx : PacketRows) : Option LinePacket := packetOf (blockStream rx.before rx.rows)

/-- Invalid sync headers among what lane `k` brought (R65). -/
def PacketRows.badHeads (rx : PacketRows) (k : Nat) : Nat :=
  (rx.rows.filter fun r => match r[k]? with
    | some b => decide (b.1 ≠ 1 ∧ b.1 ≠ 2)
    | none => false).length

/-- The blocks of a line packet in order (R66). -/
def LinePacket.stream (pk : LinePacket) : List (Nat × BitVec 64) :=
  (2, pk.sol) :: (pk.blocks.map fun b => (1, b)) ++ (match pk.eol with
    | some b => [(2, b)]
    | none => [])

/-- How a camera sends a packet over `n` lanes whose scramblers hold `before` (R60, R61, R66). -/
def LinePacket.sent (pk : LinePacket) (n : Nat) (before : List (BitVec 58)) : PacketRows :=
  ⟨before, (scrRows before (rowsOf n pk.stream)).1⟩

end Sys2Proof

namespace Sys2Proof.Machine

/-! ### Sync headers (R59) -/

/-- Is a sync header valid? -/
def headOk (h : BitVec 2) : Bool := h == 1 || h == 2

/-- How many headers are invalid. -/
def badCount (l : List (BitVec 2)) : Nat := (l.filter fun h => !headOk h).length

/-- Do the last 64 headers, all valid, give block lock? -/
def gainsLock (l : List (BitVec 2)) : Bool := decide (64 ≤ l.length) && (l.drop (l.length - 64)).all headOk

/-- Do 16 invalid headers stand within 64? -/
def losesLock (l : List (BitVec 2)) : Bool := decide (16 ≤ badCount (l.drop (l.length - 64)))

/-! ### PRBS patterns (R90) -/

/-- The next bit of a pattern from the bits before it, the latest as bit 0: PRBS9 is x^9 + x^5 + 1, PRBS31 x^31 + x^28 + 1. -/
def prbsNext (code c : Nat) : Bool := if code = 1 then bit c 8 != bit c 4 else bit c 30 != bit c 27

/-- Take a bit into the register of a generator or a checker. -/
def prbsShift (c : Nat) (d : Bool) : Nat := (2 * c + b2n d) % 2 ^ 31

/-- The next `n` bits that a generator sends. -/
def prbsBits (code : Nat) : Nat → Nat → List Bool
  | 0, _ => []
  | n + 1, c => prbsNext code c :: prbsBits code n (prbsShift c (prbsNext code c))

/-- The register of a checker that has locked to some bits. -/
def prbsSeed (l : List Bool) : Nat := l.foldl prbsShift 0

/-- Mismatches of bits with a locked checker, which runs on by itself, and its register after them. -/
def prbsCheck (code : Nat) : Nat → List Bool → Nat × Nat
  | c, [] => (0, c)
  | c, d :: r =>
    let x := prbsNext code c
    let (n, e) := prbsCheck code (prbsShift c x) r
    (n + b2n (d != x), e)

/-! ### What a link holds -/

/-- A link before any attempt. -/
def link0 (_ : Nat) : LinkHid := ⟨false, 0, 0, 0, 0, 0, false, none, false, 0, none, 0, none, false, [], none, ⟨none, 0, [], []⟩⟩

/-- Link `m` beside its registers. -/
def State.link (s : State) (m : Nat) : LinkHid := Store.get link0 m s.links

/-- Store link `m`. -/
def State.setLink (s : State) (m : Nat) (h : LinkHid) : State := { s with links := Store.set link0 m h s.links }

/-- Active lanes: as CAM_CTRL.LANES says for a camera port (R57), 4 on a seam link (R162), 2 on TWIN (R502). -/
def State.lanes (s : State) (m : Nat) : Nat :=
  if m < 12 then 2 ^ s.fld (Reg.CAM_CTRL m) Fld.CAM_CTRL_LANES else if m < 14 then 4 else 2

/-- The lane rate of a link in kb/s (R57, R162, R502). -/
def State.laneRate (s : State) (m : Nat) : Nat :=
  let r := if m < 12 then s.fld (Reg.CAM_CTRL m) Fld.CAM_CTRL_RATE else 3
  if r = 0 then 10312500 else if r = 1 then 12500000 else if r = 2 then 25781250 else 28125000

/-- The lanes on which the module sends: with UPIDLE = 1 a camera port's L1 to L3 are powered down (R58). -/
def State.upLanes (s : State) (m : Nat) : Nat :=
  if m < 12 && s.flag (Reg.CAM_CTRL m) Fld.CAM_CTRL_UPIDLE then 1 else s.lanes m

/-! ### The transmitter (R61, R62, R71) -/

/-- Unit intervals since the transmitter began, at a time. -/
def State.upUi (s : State) (m t : Nat) : Nat :=
  match (s.link m).up.startAt with
  | some e => (t - e) * s.laneRate m / 1000000000
  | none => 0

/-- The first row that begins at a time or after it. -/
def State.upRow (s : State) (m t : Nat) : Nat := (s.upUi m t + 65) / 66

/-- The transmitter's lanes begin to send rows, unless they do already. What its scramblers hold then is not stated (log 127). -/
def UpTx.start (u : UpTx) (m now lanes : Nat) : UpTx :=
  match u.startAt with
  | some _ => u
  | none => ⟨some now, 0, (List.range lanes).map fun k => Config.scrambler (16 * m + k) now, []⟩

/-- Move units on so that they begin at a row or after it, one after another. -/
def pushUnits : Nat → List UpUnit → List UpUnit
  | _, [] => []
  | n, v :: r => if n ≤ v.row then v :: r else { v with row := n } :: pushUnits (n + v.rows.length) r

/-- Put a unit in its place: it begins at its row or later, after a unit that is in progress and after those that go before it (R71,
R166), and moves the others on. -/
def placeUnit (u : UpUnit) : List UpUnit → List UpUnit
  | [] => [u]
  | v :: r =>
    if v.row + v.rows.length ≤ u.row then v :: placeUnit u r
    else if v.row < u.row ∨ v.cls ≤ u.cls then v :: placeUnit { u with row := v.row + v.rows.length } r
    else u :: pushUnits (u.row + u.rows.length) (v :: r)

/-- Give rows of blocks to the transmitter at a time, at a place in the order of R71. -/
def State.giveRows (s : State) (m cls t : Nat) (rows : List (List (Nat × BitVec 64))) : State :=
  let h := s.link m
  if h.up.startAt.isSome then
    s.setLink m { h with up := { h.up with units := placeUnit ⟨s.upRow m t, cls, rows⟩ h.up.units } }
  else s

/-- A MGMT block leaves link `m` (R75). -/
def State.sendMgmt (s : State) (m sub part : Nat) (data : BitVec 48) : State :=
  (s.giveRows m 2 s.now [[(2, mgmtBody sub part data)]]).emit (.mgmt m sub part data)

/-- HOLD of a token whose effective time is `t`: the unit intervals it waits for the block in progress (R69). -/
def State.tokenHold (s : State) (m t : Nat) : Nat := (66 - s.upUi m t % 66) % 66

/-- A token leaves port `n`; its effective time is `t` (R69, R71). -/
def State.sendToken (s : State) (n tseq phase : Nat) (count : Int) (t : Nat) : State :=
  let hold := s.tokenHold n t
  (s.giveRows n 0 t [[(2, tokenBody tseq phase hold count)]]).emit (.token n tseq phase hold count)

/-- A camera register REQ leaves port `n` (R64, R73): DATA is 0 for a read. -/
def State.sendReq (s : State) (n tag : Nat) (write : Bool) (addr : Nat) (data : Word) : State :=
  let data := if write then data else 0
  (s.giveRows n 3 s.now [[(2, reqBody tag write addr data)]]).emit (.creq n tag write addr data)

/-- The body of a SOF (R164). -/
def sofBody (kind copy chunk : Nat) (last : Bool) (nblk : Nat) (line : Int) : BitVec 64 :=
  BitVec.ofNat 64 (0x78 + kind % 4 * 2 ^ 8 + copy % 2 * 2 ^ 10 + b2n last * 2 ^ 11 + chunk % 16 * 2 ^ 12 + nblk % 2 ^ 16 * 2 ^ 16
    + unsignedOf 32 line * 2 ^ 32)

/-- The body of an EOF: the CRC-32 over the data blocks (R164, R68). -/
def eofBody (blocks : List (BitVec 64)) : BitVec 64 :=
  BitVec.ofNat 64 (0x87 + crc32 (blocks.flatMap fun b => bitsOf 64 b.toNat) * 2 ^ 32)

/-- The block stream of a copy of a frame: SOF, data blocks, EOF (R164). -/
def frameStream (kind copy chunk : Nat) (last : Bool) (line : Int) (blocks : List (BitVec 64)) : List (Nat × BitVec 64) :=
  (2, sofBody kind copy chunk last blocks.length line) :: (blocks.map fun b => (1, b)) ++ [(2, eofBody blocks)]

/-- A copy of a frame leaves link `m`: never interrupted, and X before H before S (R166). -/
def State.sendCopy (s : State) (m kind copy chunk : Nat) (last : Bool) (line : Int) (blocks : List (BitVec 64)) : State :=
  (s.giveRows m (3 + kind) s.now (rowsOf (s.lanes m) (frameStream kind copy chunk last line blocks))).emit
    (.seamFrame m kind copy chunk last line blocks)

/-- A frame leaves link `m` twice, with COPY = 0 and then COPY = 1 (R166). -/
def State.sendSeam (s : State) (m kind chunk : Nat) (last : Bool) (line : Int) (blocks : List (BitVec 64)) : State :=
  (s.sendCopy m kind 0 chunk last line blocks).sendCopy m kind 1 chunk last line blocks

/-! ### Alignment-marker rows (R62, R71) -/

/-- Rows from one alignment marker to the next. -/
def amPeriod : Nat := 16384

/-- The row of a unit that stands at row `r`, if one does. -/
def rowAt (us : List UpUnit) (r : Nat) : Option (List (Nat × BitVec 64)) :=
  match us.find? fun u => decide (u.row ≤ r ∧ r < u.row + u.rows.length) with
  | some u => u.rows[r - u.row]?
  | none => none

/-- The blocks of row `r` on `n` lanes: those of a unit, and IDLE on the others (R61). -/
def blocksAt (us : List UpUnit) (n r : Nat) : List (Nat × BitVec 64) :=
  let x := (rowAt us r).getD []
  (List.range n).map fun k => (x[k]?).getD (2, idleBody)

/-- Send `n` rows from row `r` on: the exclusive or of the scrambled bodies on each lane, and the scramblers after them. -/
def runRows (us : List UpUnit) (lanes : Nat) : Nat → Nat → List (BitVec 64) → List (BitVec 58) → List (BitVec 64) × List (BitVec 58)
  | 0, _, sums, cs => (sums, cs)
  | n + 1, r, sums, cs =>
    let (x, cs) := scrRow cs (blocksAt us lanes r)
    runRows us lanes n (r + 1) ((List.range lanes).map fun k => sums.getD k 0 ^^^ (x.getD k (2, 0)).2) cs

/-- What of a unit is still to come from row `r` on, behind an alignment marker in row `r`. -/
def UpUnit.after (u : UpUnit) (r : Nat) : Option UpUnit :=
  if r ≤ u.row then some u
  else if r < u.row + u.rows.length then some { u with row := r + 1, rows := u.rows.drop (r - u.row) }
  else none

/-- The alignment-marker row falls due: in row AMPERIOD after the last, or one row later where a token goes first (R71). Its bodies hold the
lane numbers and the BIP8 of the rows since the last one, and what it displaces moves on. -/
def State.sendAm (s : State) (m : Nat) : State :=
  let h := s.link m
  let n := s.upLanes m
  let due := h.up.amRow + amPeriod
  let moved := h.up.units.any fun u => decide (u.cls = 0 ∧ u.row = due)
  let row := due + b2n moved
  let (sums, cs) := runRows h.up.units n (row - h.up.amRow - 1) (h.up.amRow + 1) [] h.up.scr
  let units := pushUnits (row + 1) (h.up.units.filterMap fun u => u.after row)
  (s.setLink m { h with up := { h.up with amRow := row, scr := cs, units := units } }).emit
    (.amRow m moved ((List.range n).map fun k => amBody k (bip8 (sums.getD k 0))))

end Sys2Proof.Machine
end

