-- ==== Sys2Proof/Machine/Position.lean ====
section
/-! DEFINITION. Position feedback and the trigger generator (04_position_triggers.md): counters, soft limits, index, speed,
line targets, fires, the TRIG outputs, and the reference trigger. -/

namespace Sys2Proof.Machine

/-! ### Role and gating -/

/-- Does the member have the active role (R116): ROLEIN when RED_CTRL.EN = 1, else the level of the ROLE pin? -/
def State.roleActive (s : State) : Bool :=
  if s.flag Reg.RED_CTRL Fld.RED_CTRL_EN then s.flag Reg.RED_STATUS Fld.RED_STATUS_ROLEIN else s.pins.role

/-- Is the member a standby (R491)? -/
def State.standbyRole (s : State) : Bool :=
  s.flag Reg.RED_CTRL Fld.RED_CTRL_EN && !s.flag Reg.RED_STATUS Fld.RED_STATUS_ROLEIN

/-- Are pins held inactive and tokens withheld by the role (R116)? -/
def State.gated (s : State) : Bool := s.flag Reg.TRG_CTRL Fld.TRG_CTRL_ROLEGATE && !s.roleActive

/-! ### Line targets -/

/-- Does the pitch keep PD ≥ 1 and PN ≥ PD (R106)? -/
def State.pitchOk (s : State) : Bool :=
  decide (1 ≤ s.num Reg.TRG_PITCH_DEN) && decide (s.num Reg.TRG_PITCH_DEN ≤ s.num Reg.TRG_PITCH_NUM)

/-- The target x_j (R106). -/
def State.target (s : State) (j : Int) : Int :=
  s.get48 Reg.TRG_ORIGIN_LO + Int.fdiv (j * (s.num Reg.TRG_PITCH_NUM : Int)) (s.num Reg.TRG_PITCH_DEN)

/-- The offset of camera `n` (R36); index 12 is the reference of R148. -/
def State.offsetOf (s : State) (n : Nat) : Int :=
  if n < 12 then signed 32 (s.num (Reg.TRG_CAMOFS n)) else signed 32 (s.num Reg.STITCH_REFOFS)

/-- The smallest line whose target on camera `n` lies above the count (R107). -/
def State.lineAbove (s : State) (n : Nat) (c : Int) : Int :=
  let m := c - s.get48 Reg.TRG_ORIGIN_LO - s.offsetOf n
  0 - Int.fdiv (0 - ((m + 1) * (s.num Reg.TRG_PITCH_DEN : Int))) (s.num Reg.TRG_PITCH_NUM)

/-- A trigger generator camera before it is armed. -/
def trgCam0 (_ : Nat) : TrgCam := ⟨false, 0, none⟩

/-- Camera `n` of the trigger generator; 12 is the reference. -/
def State.trgCamOf (s : State) (n : Nat) : TrgCam := Store.get trgCam0 n s.trgCam

/-- Store camera `n` of the trigger generator. -/
def State.setTrgCam (s : State) (n : Nat) (c : TrgCam) : State := { s with trgCam := Store.set trgCam0 n c s.trgCam }

/-- The next line of a camera (R107). -/
def State.nextLine (s : State) (n : Nat) : Int :=
  if n < 12 then s.getS64 (Reg.TRG_NEXT_LO n) else (s.trgCamOf 12).nextRef

/-- Set the next line of a camera. -/
def State.setNextLine (s : State) (n : Nat) (j : Int) : State :=
  if n < 12 then s.setS64 (Reg.TRG_NEXT_LO n) j else s.setTrgCam 12 { s.trgCamOf 12 with nextRef := j }

/-- Is the camera enabled; the reference always is. -/
def State.trgEnabled (s : State) (n : Nat) : Bool :=
  if n < 12 then s.flag (Reg.TRG_CAMCFG n) Fld.TRG_CAMCFG_EN else true

/-- Arm one camera at the present count (R107). -/
def State.armCamera (s : State) (n : Nat) : State :=
  if s.trgEnabled n then
    (s.setTrgCam n { s.trgCamOf n with armed := true }).setNextLine n (s.lineAbove n s.count)
  else s

/-- Arm every enabled camera and the reference (R107): none with a pitch that breaks R106, with no position source (R568), or while triggers
are not generated (R116); nor while TRG_CTRL.EN = 0 (DESIGN CHOICE, log 130). No line has come since (R566). -/
def State.armCameras (s : State) : State :=
  if s.mode.active && s.pitchOk && s.source.isSome && s.flag Reg.TRG_CTRL Fld.TRG_CTRL_EN then
    let s := (List.range 13).foldl State.armCamera s
    { s with trg := { s.trg with maxRef := none } }
  else s

/-! ### TRIG outputs -/

/-- The pulse width of an output in ns (R114). -/
def State.trigWidth (s : State) (k : Nat) : Nat := max 8 (s.fld (Reg.TRIG_WIDTH k) Fld.TRIG_WIDTH_WIDTH)

/-- The latency in ps from the edge to the active edge at TRIG output `k` (R115): its path, from 22 to 26 ns at the reset value of TRIM, and
62.5 ps for each step of TRIM (DESIGN CHOICE, log 128); the ±1 ns is left out (log 7). -/
def State.pinLatency (s : State) (k : Nat) : Nat :=
  20000 + (Config.trigPath k).toNat % 4001 + 125 * s.fld (Reg.TRIG_CFG k) Fld.TRIG_CFG_TRIM / 2

/-- Fire output `k` for the edge that is being counted (R114 to R116): a new pulse, or a restart of the width counted in MERGE. -/
def State.fireTrig (s : State) (k : Nat) : State :=
  if s.gated then s
  else
    let at_ := s.trg.edge + s.pinLatency k
    let runs (s : State) (start : Nat) : State :=
      { s with outPins := { s.outPins with
          trigEnd := Store.set (fun _ => none) k (some (start, at_ + 1000 * s.trigWidth k)) s.outPins.trigEnd } }
    match Store.get (fun _ => none) k s.outPins.trigEnd with
    | some (b, e) => if at_ < e then runs (s.bump Reg.TRG_MERGE) b else runs (s.emit (.trigPulse k at_)) at_
    | none => runs (s.emit (.trigPulse k at_)) at_

/-- The pulse of output `k` is cut at once (R113, R116). -/
def State.cutPulse (s : State) (k : Nat) : State :=
  match Store.get (fun _ => none) k s.outPins.trigEnd with
  | some _ => { s with outPins := { s.outPins with trigEnd := Store.set (fun _ => none) k none s.outPins.trigEnd } }.emit (.trigEnd k)
  | none => s

/-- Outputs that are off, in MODE 0 or 3, are held inactive (R113, R568), and under ROLEGATE every output of a standby is (R116). -/
def State.holdPins (s : State) : State :=
  if s.gated then s.cutPulses
  else (List.range 16).foldl (fun (s : State) k =>
    if s.fld (Reg.TRIG_CFG k) Fld.TRIG_CFG_MODE = 0 ∨ s.fld (Reg.TRIG_CFG k) Fld.TRIG_CFG_MODE = 3 then s.cutPulse k else s) s

/-- The outputs that a fire of camera `n` in a phase drives (R112, R113). -/
def State.cameraOutputs (s : State) (n phase : Nat) : List Nat :=
  (List.range 16).filter fun k =>
    s.fld (Reg.TRIG_CFG k) Fld.TRIG_CFG_MODE = 1 && s.fld (Reg.TRIG_CFG k) Fld.TRIG_CFG_CAM = n
      && bit (s.fld (Reg.TRIG_CFG k) Fld.TRIG_CFG_PHMASK) phase

/-- The latency from the edge to the trigger's time, 24 ns (R115; the ±1 ns is left out, log 7). -/
def trigLatency : Nat := 24000

/-- Phases of a camera (R48). -/
def State.phases (s : State) (n : Nat) : Nat := s.fld (Reg.TRG_CAMCFG n) Fld.TRG_CAMCFG_PH + 1

/-- The common P of the enabled cameras: that of the lowest-numbered one (R48). -/
def State.commonPhases (s : State) : Nat :=
  match (List.range 12).find? s.trgEnabled with
  | some n => s.phases n
  | none => 1

/-- The P of stitched lines (R48): that of the live collection as it was accessioned, and with none live that of the enabled cameras. -/
def State.webPhases (s : State) : Nat := if s.live then s.acc.livePhases else s.commonPhases

/-- The phase of a line with P phases (R48). -/
def phaseOf (j : Int) (p : Nat) : Nat := (j % (p : Int)).toNat

/-! ### Fires -/

/-- Is link `m` READY (R77)? -/
def State.linkReady (s : State) (m : Nat) : Bool := s.fld (Reg.CAM_STATE m) Fld.CAM_STATE_LSTATE = 5

/-- A port before any trigger. -/
def port0 (_ : Nat) : PortHid := ⟨[], [], false, 0⟩

/-- A camera port's windows. -/
def State.port (s : State) (n : Nat) : PortHid := Store.get port0 n s.ports

/-- Store a camera port's windows. -/
def State.setPort (s : State) (n : Nat) (h : PortHid) : State := { s with ports := Store.set port0 n h s.ports }

/-- A correction unit at its initial values (R126). -/
def corr0 (_ : Nat) : CorrHid := ⟨[], [], [], [], none, [], false, none, none, none⟩

/-- The correction unit of pipeline `p`. -/
def State.corrOf (s : State) (p : Nat) : CorrHid := Store.get corr0 p s.corr

/-- Store the correction unit of pipeline `p`. -/
def State.setCorr (s : State) (p : Nat) (h : CorrHid) : State := { s with corr := Store.set corr0 p h s.corr }

/-- The bank that corrects the lines of camera `n` triggered now: the other one where a bank change has fallen due (R129). -/
def State.bankOf (s : State) (n : Nat) : Nat :=
  let b := s.fld (Reg.CORR_STATUS n) Fld.CORR_STATUS_BANK
  if (s.corrOf n).due.isSome then 1 - b else b

/-- The shelfmark of a camera line (R54): its web coordinate, the first column of the camera's territory, the trigger's time, the port. A
hand-over of the same cycle comes after it (R40). -/
def State.cameraMark (s : State) (n phase : Nat) (j : Int) (stamp : Nat) : List Byte :=
  s.shelfmark (s.mdOf (s.target j)) (s.cdOf (s.num (Reg.TERR_START n))) (s.target j) stamp n phase 0 j

/-- The port's part in a fire of its camera (R72, R82, R112): a window when EN = 1; a token when READY, withheld under ROLEGATE
but counted in TSEQ. The web coordinate recorded is x_j, also where a serial update passes it (R37, log 131). -/
def State.openWindow (s : State) (n : Nat) (j : Int) (at_ : Nat) : State :=
  let tseq := s.fld (Reg.CAM_TSEQ n) Fld.CAM_TSEQ_NEXT
  let phase := phaseOf j (s.phases n)
  let ready := s.linkReady n
  let w : Window := ⟨tseq, j, phase, at_, s.target j, s.timeAt at_, ready, none, [], s.fld (Reg.CAM_FILL n) Fld.CAM_FILL_FILL,
    s.fld (Reg.CORR_BPVAL n) Fld.CORR_BPVAL_BPVAL, s.fld (Reg.CAM_CTRL n) Fld.CAM_CTRL_FMT, s.fld (Reg.CAM_WIDTH n) Fld.CAM_WIDTH_W,
    s.bankOf n, s.fld Reg.ACC_LRMAX Fld.ACC_LRMAX_LRMAX, s.cameraMark n phase j (s.timeAt at_)⟩
  let s := if s.flag (Reg.CAM_CTRL n) Fld.CAM_CTRL_EN then
      s.setPort n { s.port n with windows := (s.port n).windows ++ [w] } else s
  if ready then
    let s := s.setFld (Reg.CAM_TSEQ n) Fld.CAM_TSEQ_NEXT (tseq + 1)
    if s.gated then s
    else s.sendToken n tseq phase (s.target j + s.offsetOf n) (at_ + 12000)
  else s

/-- A trigger of camera `n` for line `j` as its correction unit sees it (R129): the greatest line so far, and the moment the bank
change of a completed seal falls due. -/
def State.corrTrigger (s : State) (n : Nat) (j : Int) : State :=
  let h := s.corrOf n
  let isSealed := s.flag (Reg.CORR_STATUS n) Fld.CORR_STATUS_SEALED && !h.sealWait
  let reached := match h.jh with
    | some l => decide (l ≤ j)
    | none => true
  s.setCorr n { h with
    lastLine := some (match h.lastLine with
      | some m => max m j
      | none => j)
    due := if isSealed && reached && h.due.isNone then some j else h.due }

/-- Camera `n` fires for line `j`, `skipped` lines having been passed over (R108, R110 to R112). -/
def State.fireCamera (s : State) (n : Nat) (j : Int) (skipped : Nat) : State :=
  let at_ := s.trg.edge + trigLatency
  let s := if 0 < skipped then (s.bumpBy Reg.TRG_SKIP skipped).breach 3 n (some j) else s
  let late := match (s.trgCamOf n).lastFire with
    | some e => s.belowPmin e at_
    | none => false
  let s := if late then (s.bump Reg.TRG_OVERRATE).breach 2 n (some j) else s
  let s := s.setTrgCam n { s.trgCamOf n with lastFire := some at_ }
  let s := (s.corrTrigger n j).openWindow n j at_
  (s.cameraOutputs n (phaseOf j (s.phases n))).foldl State.fireTrig s

/-- Is there a stop that takes effect at the boundary of line `j`, whose reference trigger comes now: a requested stop, or a breach that names
no line and has arisen by then, or one not above `j` (R253, R525)? -/
def State.stopDue (s : State) (j : Int) : Bool :=
  s.err.stopReq || s.err.breaches.any fun b =>
    match b.line with
    | none => decide (b.at_ < s.trg.edge + trigLatency)
    | some l => decide (l ≤ j)

/-- A reference trigger of line `j` makes the bank change of a sealed remap table due (R156). -/
def State.remapDue (s : State) (j : Int) : State :=
  let h := s.stitch
  let reached := match h.atLine with
    | some l => decide (l ≤ j)
    | none => true
  if s.flag Reg.RMP_TCTL Fld.RMP_TCTL_SEALED && !h.sealWait && reached && h.due.isNone then
    { s with stitch := { h with due := some j } }
  else s

/-- A reference trigger of line `j` at or after the switch line makes the hand-over of an armed collection due (R236, R238). -/
def State.switchDue (s : State) (j : Int) : State :=
  match s.acc.arm with
  | none => s
  | some line =>
    let reached := match line with
      | some l => decide (l ≤ j)
      | none => true
    if reached && s.acc.due.isNone then { s with acc := { s.acc with due := some j } } else s

/-- A profile sync that waits for a reference trigger takes the line `j` + 4 as its sync line, which goes east (R305, R307). -/
def State.syncLineDue (s : State) (j : Int) : State :=
  if s.prof.waitRef then
    let s := { s with prof := { s.prof with pend := some (j + 4, s.trg.edge + trigLatency), waitRef := false } }
    if s.flag (Reg.CAM_CTRL 13) Fld.CAM_CTRL_EN && s.linkReady 13 then
      s.sendMgmt 13 10 0 (BitVec.ofNat 48 (unsignedOf 48 (j + 4)))
    else s
  else s

/-- What a reference trigger of line `j` makes due (R566). -/
def State.refSwitches (s : State) (j : Int) : State := ((s.remapDue j).switchDue j).syncLineDue j

/-- Record the mark of a line. -/
def State.noteMark (s : State) (j : Int) (m : LineMark) : State :=
  { s with card := { s.card with marks := ((s.card.marks.filter fun x => decide (x.1 ≠ j)) ++ [(j, m)]).drop (s.card.marks.length + 1 - 32) } }

/-- The reference trigger of line `j` (R23, R26, R148, R402, R566): the rate is judged, the line boundary of a stop is fixed, HOST_RDY
is high in a member with the active role, and the line's slot is entered. DESIGN CHOICE, log 7. DEDUCED, log 47. -/
def State.refTrigger (s : State) (j : Int) : State :=
  let at_ := s.trg.edge + trigLatency
  let fast := match s.trg.lastRef with
    | some (_, e) => s.belowPmin e at_
    | none => false
  let s := if fast then s.breach 1 0 (some j) else s
  let s := { s with trg := ⟨some (j, at_), s.trg.lastRef, some (match s.trg.maxRef with
    | some m => max m j
    | none => j), s.trg.edge⟩ }
  let s := s.refSwitches j
  let s := if s.mode == .inspecting && s.err.boundary.isNone && s.stopDue j then
    { s with err := { s.err with boundary := some j } } else s
  let s := if s.mode == .inspecting && s.err.boundary.isNone && !s.standbyRole then
    { s with outPins := { s.outPins with hostRdy := true } } else s
  let c := s.target j
  let s := if s.mode == .inspecting then s.noteMark j ⟨s.mdOf c, c, s.timeAt at_, s.cdOf 0⟩ else s
  if (s.mode == .inspecting && s.err.boundary.isNone) || s.flag Reg.PWR_STATUS Fld.PWR_STATUS_WAITTRIG then
    { s with slots := s.slots ++ [⟨j, at_, c, s.timeAt at_, phaseOf j s.webPhases, 0, s.regs, s.remapBank, s.webPhases⟩] }
  else s

/-- One camera, or the reference, after a step (R108 to R110): downstream past its next line it fires the last line passed;
upstream under RETAKE its next line goes back. Where its target lies far from the count, since its offset, pitch, origin or source has been
rewritten without arming it, it fires the last line passed and counts the others in SKIP, or goes back to the line above the count; and a
camera that an invalid pitch has left unarmed fires nothing until it is armed (DESIGN CHOICE, log 132). -/
def State.stepCamera (down : Bool) (s : State) (n : Nat) : State :=
  let c := s.trgCamOf n
  if c.armed && s.trgEnabled n then
    let j := s.nextLine n
    let j' := s.lineAbove n s.count
    if down then
      if j < j' then
        let s := s.setNextLine n j'
        if n < 12 then s.fireCamera n (j' - 1) (j' - 1 - j).toNat else s.refTrigger (j' - 1)
      else s
    else if j' < j && !s.flag Reg.TRG_CTRL Fld.TRG_CTRL_REVMODE then s.setNextLine n j' else s
  else s

/-- An armed compare output after a step from `prev` to the present count (R113). -/
def State.stepCompare (prev : Int) (down : Bool) (s : State) (k : Nat) : State :=
  let cmp := s.get48 (Reg.TRIG_CMP_LO k)
  let hit := if down then decide (prev < cmp ∧ cmp ≤ s.count) else decide (s.count ≤ cmp ∧ cmp < prev)
  if s.fld (Reg.TRIG_CFG k) Fld.TRIG_CFG_MODE = 2 && s.flag (Reg.TRIG_CMPCTL k) Fld.TRIG_CMPCTL_ARMED
      && hit && (s.flag (Reg.TRIG_CFG k) Fld.TRIG_CFG_DIRSEL == !down) then
    let stamp := s.timeAt (s.trg.edge + s.pinLatency k)
    let s := s.setFld (Reg.TRIG_CMPCTL k) Fld.TRIG_CMPCTL_ARMED 0
    let s := s.hwSet (Reg.TRIG_CMPCTL k) 2
    let s := s.setNum (Reg.TRIG_CMPTS0 k) (nsOf stamp)
    let s := s.setNum (Reg.TRIG_CMPTS1 k) (secOf stamp)
    let s := s.setNum (Reg.TRIG_CMPTS2 k) (secOf stamp / 2 ^ 32)
    (s.fireTrig k).route 0 (.request 28)
  else s

/-- The trigger generator's answer to a step of the position source (R117 orders 3 and 4): camera fires, the reference last,
then compares. It stands still outside Poised, Inspecting and Halted (R116), and while TRG_CTRL.EN = 0. -/
def State.stepTriggers (s : State) (prev : Int) (down : Bool) : State :=
  if s.mode.active && s.flag Reg.TRG_CTRL Fld.TRG_CTRL_EN then
    let s := if s.pitchOk then (List.range 13).foldl (State.stepCamera down) s else s
    (List.range 16).foldl (State.stepCompare prev down) s
  else s

/-! ### Inputs -/

/-- An input before any edge: levels low, no history. -/
def posIn0 (_ : Nat) : PosIn := ⟨false, false, false, none, [], none, none, none, none, 0⟩

/-- Position input `k`. -/
def State.posIn (s : State) (k : Nat) : PosIn := Store.get posIn0 k s.pos

/-- Store position input `k`. -/
def State.setPosIn (s : State) (k : Nat) (p : PosIn) : State := { s with pos := Store.set posIn0 k p s.pos }

/-- Is input `k` enabled (R94)? -/
def State.inputEnabled (s : State) (k : Nat) : Bool := bit (s.fld Reg.POS_CTRL Fld.POS_CTRL_INEN) k

/-- The stall timeout of input `k` in µs; 0 acts as 1 (R119). DEDUCED, log 56. -/
def State.stallTime (s : State) (k : Nat) : Nat := max 1 (s.fld (Reg.IN_CFG k) Fld.IN_CFG_STALL)

/-- The latch pulse of serial port `k` in ns (R96); values outside 2 to 10 act as the nearer end (R119). DEDUCED, log 56. -/
def State.latchTime (s : State) (k : Nat) : Nat := 100 * min 10 (max 2 (s.fld (Reg.SPOS_CFG (k - 4)) Fld.SPOS_CFG_LATCH))

/-- Is input `k` the position source? -/
def State.isSource (s : State) (k : Nat) : Bool := decide (s.source = some k)

/-- An event of the position source (POS_EVT). -/
def State.posEvent (s : State) (k n : Nat) : State := if s.isSource k then s.event Reg.POS_EVT Reg.POS_EVTEN n 16 else s

/-- A counter's soft limits. -/
def State.softLimits (s : State) (k : Nat) : Int × Int := (s.get48 (Reg.IN_SOFTLO_LO k), s.get48 (Reg.IN_SOFTHI_LO k))

/-- The history behind SPEED is lost, and SPEED reads 0 (R105). -/
def State.clearSpeed (s : State) (k : Nat) : State :=
  let s := s.setPosIn k { s.posIn k with hist := [], lastStep := none }
  (s.setNum (Reg.IN_SPEED k) 0).setFld (Reg.IN_STATUS k) Fld.IN_STATUS_SPDVALID 0

/-- SPEED over the last intervals (R104): steps × 10^9 over their ns, saturating. -/
def speedOf (hist : List (Nat × Nat)) : Nat :=
  let ns := (hist.map Prod.snd).sum
  if ns = 0 then 0xFFFFFFFF else min 0xFFFFFFFF ((hist.map Prod.fst).sum * 1000000000 / ns)

/-- A load (R102): the counter is set within its limits, no step is counted, the speed history is lost, and for the position
source the cameras are armed again (R107). -/
def State.loadCount (s : State) (k : Nat) (v : Int) : State :=
  let (lo, hi) := s.softLimits k
  let s := s.set48 (Reg.IN_CNT_LO k) (min hi (max lo v))
  let s := (s.setFld (Reg.IN_STATUS k) Fld.IN_STATUS_SATHI 0).setFld (Reg.IN_STATUS k) Fld.IN_STATUS_SATLO 0
  let s := s.clearSpeed k
  if s.isSource k then s.armCameras else s

/-- The interval in ns from the last step, with the coarsest resolution of the states it spans (R104); a serial port's is its poll
period. DEDUCED, log 63. A POLL value below 10 acts as 10 (DEDUCED, log 56). -/
def State.interval (s : State) (k : Nat) (last : Nat × Bool) : Nat :=
  if 4 ≤ k then max 10 (s.fld (Reg.SPOS_TIM (k - 4)) Fld.SPOS_TIM_POLL) * 100
  else if last.2 || !s.mode.allOn || decide (last.1 < s.pwr.onAt) then 40 * (s.now / 40000 - last.1 / 40000) else s.now / 1000 - last.1 / 1000

/-- Direction, reversal and speed after `n` counted steps one way (R103 to R105). DEDUCED, log 63. -/
def State.stepSpeed (s : State) (k : Nat) (up : Bool) (n : Nat) : State :=
  let p := s.posIn k
  let rev := match p.lastUp with
    | some u => u != up
    | none => false
  let s := s.setFld (Reg.IN_STATUS k) Fld.IN_STATUS_DIR (b2n up)
  let s := if rev then ((s.bump (Reg.IN_REVCNT k)).posEvent k 0).clearSpeed k else s
  let p := s.posIn k
  let hist := match p.lastStep with
    | some l => ((n, s.interval k l) :: p.hist).take (2 ^ s.fld (Reg.IN_CFG k) Fld.IN_CFG_SPDAVG)
    | none => p.hist
  let s := s.setPosIn k { p with lastUp := some up, hist := hist, lastStep := some (s.now, !s.mode.allOn), moved := some s.now }
  if hist.isEmpty then s
  else (s.setNum (Reg.IN_SPEED k) (speedOf hist)).setFld (Reg.IN_STATUS k) Fld.IN_STATUS_SPDVALID 1

/-- `d` counted steps at once on input `k` (one for a quadrature edge, the difference of R99 for a frame): soft limits (R100),
direction and speed, then triggers of the position source (R117). DEDUCED, log 55. A frame whose difference is 0 is no step and enters no
interval (DEDUCED, log 63). -/
def State.countSteps (s : State) (k : Nat) (d : Int) : State :=
  let prev := s.get48 (Reg.IN_CNT_LO k)
  let (lo, hi) := s.softLimits k
  let up := decide (d < 0)
  let new := min hi (max lo (prev + d))
  let refused := (prev + d - new).natAbs
  let s := if new = prev then s else
    ((s.set48 (Reg.IN_CNT_LO k) new).setFld (Reg.IN_STATUS k) Fld.IN_STATUS_SATHI 0).setFld (Reg.IN_STATUS k)
      Fld.IN_STATUS_SATLO 0
  let s := if refused = 0 then s else
    let s := (s.bumpBy (Reg.IN_SATCNT k) refused).setFld (Reg.IN_STATUS k)
      (if up then Fld.IN_STATUS_SATLO else Fld.IN_STATUS_SATHI) 1
    if s.isSource k then (s.posEvent k 3).notice 0x0203 (sourceOf Reg.POS_CTRL) k else s
  if new = prev then s else
    let s := s.stepSpeed k up (new - prev).natAbs
    if s.isSource k then s.stepTriggers prev (!up) else s

/-- An illegal transition (R95): nothing is counted, QERR adds one, and a Notice is recorded. -/
def State.illegalEdges (s : State) (k : Nat) : State :=
  ((s.bump (Reg.IN_QERR k)).posEvent k 4).notice 0x0201 (sourceOf Reg.POS_CTRL) k

/-- The step of one edge (R95): A leading B counts up; the level of the other signal tells. INVDIR swaps the senses. -/
def State.edgeStep (s : State) (k : Nat) (onB level other : Bool) : Int :=
  let fwd := if onB then level == other else level != other
  if fwd != s.flag (Reg.IN_CFG k) Fld.IN_CFG_INVDIR then 1 else -1

/-- The edge or the sampled bit that is being counted came at `at_` (R115). -/
def State.atEdge (s : State) (at_ : Nat) : State := { s with trg := { s.trg with edge := at_ } }

/-- An edge is decided (R95): on A or B, to a level, the other signal at a level, at time `at_`; its step is counted. -/
def State.decodeEdge (s : State) (k : Nat) (onB level other : Bool) (at_ : Nat) : State :=
  (s.atEdge at_).countSteps k (s.edgeStep k onB level other)

/-- The expected count of an active Z edge (R101), exact halves toward positive infinity. -/
def State.expectedIndex (s : State) (k : Nat) (a : Int) : Int :=
  let ref := s.get48 (Reg.IN_IDXREF_LO k)
  let per : Int := s.num (Reg.IN_IDXPER k)
  ref + per * Int.fdiv (2 * (a - ref) + per) (2 * per)

/-- An active Z edge (R101, R102). -/
def State.activeIndex (s : State) (k : Nat) : State :=
  let a := s.get48 (Reg.IN_CNT_LO k)
  if s.flag (Reg.IN_CFG k) Fld.IN_CFG_HOME then
    (s.setFld (Reg.IN_CFG k) Fld.IN_CFG_HOME 0).loadCount k (s.get48 (Reg.IN_IDXREF_LO k))
  else if s.num (Reg.IN_IDXPER k) = 0 then s.set48 (Reg.IN_IDXACT_LO k) a
  else
    let e := s.expectedIndex k a
    if (a - e).natAbs ≤ s.fld (Reg.IN_IDXTOL k) Fld.IN_IDXTOL_TOL then s
    else
      let s := (s.set48 (Reg.IN_IDXEXP_LO k) e).set48 (Reg.IN_IDXACT_LO k) a
      let s := ((s.bump (Reg.IN_IDXERR k)).posEvent k 1).notice 0x0202 (sourceOf Reg.POS_CTRL) k
      let pol := s.fld (Reg.IN_CFG k) Fld.IN_CFG_IDXPOL
      if pol = 1 then s.loadCount k e
      else if pol = 2 then (s.posEvent k 2).loadCount k e
      else s

/-- A new soft limit that excludes the count clamps it, as a load (R100); a limit that the count no longer stands at shows no refused step
(R119). -/
def State.clampToLimits (s : State) (k : Nat) : State :=
  let c := s.get48 (Reg.IN_CNT_LO k)
  let (lo, hi) := s.softLimits k
  if lo ≤ c ∧ c ≤ hi then
    let s := if c = hi then s else s.setFld (Reg.IN_STATUS k) Fld.IN_STATUS_SATHI 0
    if c = lo then s else s.setFld (Reg.IN_STATUS k) Fld.IN_STATUS_SATLO 0
  else s.loadCount k c

/-! ### Serial ports -/

/-- The width of the check (R97). -/
def checkWidth (code : Nat) : Nat := if code = 0 then 0 else if code = 1 then 4 else if code = 2 then 8 else 16

/-- The check over the status and position bits in the order sent (R97). The register shifts toward its least significant bit, as
in R68 (DEDUCED, log 8). -/
def checkOf (code : Nat) (bs : List Bool) : Nat :=
  if code = 0 then 0 else if code = 1 then crcBits 0xC 0xF bs else if code = 2 then crcBits 0xE0 0xFF bs
  else crcBits 0x8408 0xFFFF bs

/-- A failed frame (R98): the counter stays, and the third in a row on the position source is a breach in Inspecting. -/
def State.frameFails (s : State) (k : Nat) (counter : Nat) : State :=
  let n := (s.posIn k).fails + 1
  let s := s.setPosIn k { s.posIn k with fails := n }
  let s := ((s.bump counter).posEvent k 5).notice 0x0204 (sourceOf Reg.POS_CTRL) k
  if 3 ≤ n && s.isSource k then s.breach 4 k none else s

/-- A frame's status bit or check is bad (R98). -/
def State.frameBad (s : State) (k : Nat) (status : Bool) (pos check : Nat) : Bool :=
  let cfg := Reg.SPOS_CFG (k - 4)
  let errEn := s.flag cfg Fld.SPOS_CFG_ERR_EN
  let code := s.fld cfg Fld.SPOS_CFG_CRC
  let bits := (if errEn then [status] else []) ++ bitsOf (s.fld cfg Fld.SPOS_CFG_POSBITS) pos
  (errEn && (status == s.flag cfg Fld.SPOS_CFG_ERR_POL)) || decide (checkOf code bits ≠ check % 2 ^ checkWidth code)

/-- A valid frame (R99): the first loads the counter, each later one adds the difference in the range of half the sensor's. -/
def State.frameValid (s : State) (k : Nat) (pos : Nat) : State :=
  let n := s.fld (Reg.SPOS_CFG (k - 4)) Fld.SPOS_CFG_POSBITS
  let x := pos % 2 ^ n
  let p := s.posIn k
  let s := s.setPosIn k { p with prevPos := some x, fails := 0 }
  match p.prevPos with
  | none => s.loadCount k x
  | some y => s.countSteps k (signed n (x + 2 ^ n - y))

/-- A whole frame that was sampled at `at_` is checked and applied (R97 to R99). -/
def State.takeSerial (s : State) (k : Nat) (status : Bool) (pos check at_ : Nat) : State :=
  let s := s.atEdge at_
  if s.frameBad k status pos check then s.frameFails k (Reg.IN_FRAMEERR k) else s.frameValid k pos

/-- A serial port that has just been enabled starts afresh: its first valid frame loads the counter (R99). -/
def State.enableSerial (s before : State) (k : Nat) : State :=
  if s.inputEnabled k && !before.inputEnabled k then
    s.setPosIn k { s.posIn k with prevPos := none, fails := 0, frameAt := none }
  else s

/-- What the decoder decides at its moment: an edge, an active index edge, a frame; a disabled input counts nothing (R94). -/
def State.decideItem (s : State) (i : EvrItem) : State :=
  match i with
  | .edge k onB level other at_ => if s.mode.powered && s.inputEnabled k then s.decodeEdge k onB level other at_ else s
  | .index k => if s.mode.powered && s.inputEnabled k then s.activeIndex k else s
  | .frame k status pos check at_ => if s.mode.powered && s.inputEnabled k then s.takeSerial k status pos check at_ else s
  | _ => s

end Sys2Proof.Machine
end

