-- ==== Sys2Proof/Machine/Link.lean ====
section
/-! DEFINITION. The SerDes links (03_line_link.md R57 to R93; R162, R163, R502 for seam and twin links): link states, bring-up
attempts, alignment, management messages; and the camera ports' packets and windows. Links 0 to 11 are the camera ports,
12 SEAMW, 13 SEAME, 14 TWIN; their register windows share the offsets of CAM_CTRL.EN, CAM_STATE, CAM_RTT and LANE registers. -/

namespace Sys2Proof.Machine

/-- LSTATE of link `m`. -/
def State.lstate (s : State) (m : Nat) : Nat := s.fld (Reg.CAM_STATE m) Fld.CAM_STATE_LSTATE

/-- The producer code of a link's events (R439); TWIN has none. -/
def linkProducer (m : Nat) : Nat := if m < 14 then m + 2 else 0

/-- An event of link `m`. -/
def State.linkEvent (s : State) (m n : Nat) : State := s.event (Reg.CAM_EVT m) (Reg.CAM_EVTEN m) n (linkProducer m)

/-- Bits of LINKDOWN, LINKUP and FAILED: 5, 6, 8 on a camera port, 1, 0, 2 on a seam or twin link (R92, R171, R512). -/
def linkEvtBit (m : Nat) (n : Nat) : Nat := if m < 12 then n else if n = 5 then 1 else if n = 6 then 0 else 2

/-- Is the link bound in the live collection (R80)? A seam link is bound when it is enabled, TWIN never. -/
def State.linkBound (s : State) (m : Nat) : Bool :=
  s.live && (if m < 12 then s.camBound m else decide (m < 14) && s.flag (Reg.CAM_CTRL m) Fld.CAM_CTRL_EN)

/-- A packet of an open window is cut short when the link loses lock or alignment (R81); the model's packets come whole, so
nothing is kept of one in progress. Leaving READY sets LINKDOWN. -/
def State.leaveReady (s : State) (m : Nat) : State :=
  if s.lstate m = 5 then
    let s := if m = 14 then { s with red := { s.red with twinDown := some s.now } } else s
    s.linkEvent m (linkEvtBit m 5)
  else s

/-- Enter WAIT_SIGNAL: a bring-up attempt starts (R78), and the lanes send IDLE and alignment markers (R77). A lane that has block lock
keeps it until it loses it, so that its loss counts (R93). DEDUCED, log 59. -/
def State.waitSignal (s : State) (m : Nat) : State :=
  let h := s.link m
  let s := s.leaveReady m
  let s := s.setLink m { link0 m with
    attemptAt := s.now
    cregTag := h.cregTag
    cregAt := h.cregAt
    cregWrite := h.cregWrite
    up := h.up.start m s.now (s.lanes m) }
  let s := s.setFld (Reg.CAM_STATE m) Fld.CAM_STATE_ALIGNED 0
  s.setFld (Reg.CAM_STATE m) Fld.CAM_STATE_LSTATE 1

/-- Enter FAILED (R78, R80): a bound link records LINK_FAILED, class H, another LINK_FAILED_IDLE. DEDUCED, log 59. -/
def State.linkFailed (s : State) (m : Nat) : State :=
  let s := s.leaveReady m
  let s := s.setFld (Reg.CAM_STATE m) Fld.CAM_STATE_LSTATE 6
  let s := s.linkEvent m (linkEvtBit m 8)
  let src := sourceOf (Reg.CAM_CTRL m)
  if s.linkBound m then s.record 0x0301 1 src (BitVec.ofNat 32 m) else s.notice 0x0303 src m

/-- A failed bring-up attempt is counted; the fourth in a row enters FAILED (R78, R79). -/
def State.failAttempt (s : State) (m : Nat) : State :=
  let n := min 4 (s.fld (Reg.CAM_STATE m) Fld.CAM_STATE_TRIES + 1)
  let s := s.setFld (Reg.CAM_STATE m) Fld.CAM_STATE_TRIES n
  if 4 ≤ n then s.linkFailed m else s.waitSignal m

/-- Enter DISABLED (R78): the lanes are powered down. A port that was FAILED remembers it, since EN written 0 then 1 leaves FAILED. -/
def State.linkDisabled (s : State) (m : Nat) : State :=
  let failed := if s.lstate m = 6 then some (!s.flag (Reg.CAM_CTRL m) Fld.CAM_CTRL_EN) else none
  let s := s.leaveReady m
  let s := s.setFld (Reg.CAM_STATE m) Fld.CAM_STATE_LSTATE 0
  let s := s.setFld (Reg.CAM_STATE m) Fld.CAM_STATE_LOCK 0
  let h := s.link m
  (s.setFld (Reg.CAM_STATE m) Fld.CAM_STATE_ALIGNED 0).setLink m
    { link0 m with cregTag := h.cregTag, cregAt := h.cregAt, cregWrite := h.cregWrite, failed := failed }

/-- Do the port's settings let it run (R78): EN = 1 and, on a camera port, LANES not 3? -/
def State.linkEnabled (s : State) (m : Nat) : Bool :=
  s.flag (Reg.CAM_CTRL m) Fld.CAM_CTRL_EN
    && !(decide (m < 12) && decide (s.fld (Reg.CAM_CTRL m) Fld.CAM_CTRL_LANES = 3))

/-- Does a lane of the link have a PRBS field other than 0 (R78)? -/
def State.prbsOn (s : State) (m : Nat) : Bool :=
  (List.range 4).any fun k =>
    s.fld (Reg.LANE_CTRL m k) Fld.LANE_CTRL_PRBS_TX != 0 || s.fld (Reg.LANE_CTRL m k) Fld.LANE_CTRL_PRBS_RX != 0

/-- Reset the count of failed attempts. -/
def State.clearTries (s : State) (m : Nat) : State := s.setFld (Reg.CAM_STATE m) Fld.CAM_STATE_TRIES 0

/-- Leave DISABLED (R78, R79): the count of failed attempts starts anew only where the port was FAILED and EN has been written 0. -/
def State.linkStart (s : State) (m : Nat) : State :=
  let s := if (s.link m).failed = some true then s.clearTries m else s
  s.waitSignal m

/-- Enter TEST (R77, R78): the lanes run patterns and no blocks. What LOCK and ALIGNED showed stays until TEST is left (DESIGN CHOICE, log 59). -/
def State.enterTest (s : State) (m : Nat) : State :=
  let s := (s.leaveReady m).setFld (Reg.CAM_STATE m) Fld.CAM_STATE_LSTATE 7
  s.setLink m { s.link m with prbs := [], up := (link0 m).up }

/-- Leave TEST (R78): every lane finds its lock again. -/
def State.leaveTest (s : State) (m : Nat) : State :=
  let s := (List.range 4).foldl (fun (s : State) k => s.setFld (Reg.LANE_CTRL m k) Fld.LANE_CTRL_PRBS_LOCK 0) s
  ((s.setFld (Reg.CAM_STATE m) Fld.CAM_STATE_LOCK 0).clearTries m).waitSignal m

/-- After a write of the link's control or lane registers: the moves of R78 that follow from EN, LANES and PRBS. -/
def State.linkSettings (s : State) (m : Nat) : State :=
  if !s.linkEnabled m then
    if s.lstate m = 0 then
      let h := s.link m
      if h.failed = some false && !s.flag (Reg.CAM_CTRL m) Fld.CAM_CTRL_EN then s.setLink m { h with failed := some true } else s
    else s.linkDisabled m
  else
    let s := if s.lstate m = 0 then s.linkStart m else s
    if s.prbsOn m then (if s.lstate m = 7 then s else s.enterTest m)
    else if s.lstate m = 7 then s.leaveTest m
    else s

/-- RETRAIN leaves FAILED (R78). -/
def State.linkRetrain (s : State) (m : Nat) : State :=
  if s.lstate m = 6 then (s.clearTries m).waitSignal m else s

/-- The link reaches READY (R78): LINKUP; a camera port's TSEQ starts at 0 (R72). -/
def State.linkUp (s : State) (m : Nat) : State :=
  let s := s.setFld (Reg.CAM_STATE m) Fld.CAM_STATE_LSTATE 5
  let s := s.setLink m { s.link m with readyAt := s.now }
  let s := if m < 12 then s.setFld (Reg.CAM_TSEQ m) Fld.CAM_TSEQ_NEXT 0 else s
  s.linkEvent m (linkEvtBit m 6)

/-- Send the next ECHO (R76); its DATA is of any value, here the number of the ECHO. -/
def State.sendEcho (s : State) (m : Nat) : State :=
  let d : BitVec 48 := BitVec.ofNat 48 (s.link m).echoes
  (s.setLink m { s.link m with echo := some (d, s.now) }).sendMgmt m 3 0 d

/-- CONFIG part 0 of a camera port (R75). -/
def State.configWord (s : State) (n : Nat) : BitVec 48 :=
  BitVec.ofNat 48 (s.fld (Reg.CAM_CTRL n) Fld.CAM_CTRL_FMT
    + (s.fld (Reg.CAM_WIDTH n) Fld.CAM_WIDTH_W + 2 ^ 15 - 1) % 2 ^ 15 * 2 ^ 4 + (s.phases n - 1) * 2 ^ 19)

/-- Is a HELLO's part list whole and in order (R75)? -/
def helloWhole (parts : List (Nat × BitVec 48)) : Bool := decide (parts.map Prod.fst = [0, 1, 2, 3])

/-- The DATA of a part. -/
def partData (parts : List (Nat × BitVec 48)) (i : Nat) : Nat :=
  match parts.find? fun p => decide (p.1 = i) with
  | some p => p.2.toNat
  | none => 0

/-- The registers that show the last HELLO (R92). -/
def State.storeHello (s : State) (n : Nat) (parts : List (Nat × BitVec 48)) : State :=
  let d0 := partData parts 0
  let d1 := partData parts 1
  let d2 := partData parts 2
  let d3 := partData parts 3
  let s := s.setNum (Reg.CAM_ID0 n) d0
  let s := s.setNum (Reg.CAM_ID1 n) (d0 / 2 ^ 32 % 2 ^ 16 + d1 / 2 ^ 32 % 2 ^ 16 * 2 ^ 16)
  let s := s.setNum (Reg.CAM_ID2 n) d1
  let s := s.setNum (Reg.CAM_CAPS0 n)
    (d2 % 128 + d2 / 2 ^ 7 % 32 * 2 ^ 8 + d2 / 2 ^ 12 % 2 ^ 15 * 2 ^ 16)
  let s := s.setNum (Reg.CAM_CAPS1 n) (d3 / 2 ^ 16 % 2 ^ 19)
  s.setNum (Reg.CAM_CAPS2 n) (d3 % 2 ^ 16)

/-- Is the HELLO shown in the registers consistent with the port's settings (R78)? -/
def State.helloFits (s : State) (n : Nat) : Bool :=
  bit (s.fld (Reg.CAM_CAPS0 n) Fld.CAM_CAPS0_RATES) (s.fld (Reg.CAM_CTRL n) Fld.CAM_CTRL_RATE)
    && decide (s.lanes n ≤ s.fld (Reg.CAM_CAPS0 n) Fld.CAM_CAPS0_MAXLANES)
    && bit (s.fld (Reg.CAM_CAPS0 n) Fld.CAM_CAPS0_FMTS) (s.fld (Reg.CAM_CTRL n) Fld.CAM_CTRL_FMT)
    && decide (s.fld (Reg.CAM_WIDTH n) Fld.CAM_WIDTH_W ≤ s.fld (Reg.CAM_CAPS0 n) Fld.CAM_CAPS0_MAXNPIX + 1)

/-- An AM row as every lane should show it: present, the pattern right, each logical lane number below the lane count and once
(R62, R63). -/
def amRowGood (lanes : Nat) (ams : List AmLane) : Bool :=
  decide (ams.length = lanes) && ams.all (fun a => a.shown && decide (a.lane < lanes)) && decide (ams.map AmLane.lane).Nodup

/-- BIP8 mismatches of an AM row are counted by logical lane, and have no other effect (R62). -/
def State.countBip (s : State) (m : Nat) (ams : List AmLane) : State :=
  ams.foldl (fun (s : State) a => if a.shown && !a.bipOk then s.bump (Reg.LANE_BIP m a.lane) else s) s

/-- A lane has block lock on every active lane? -/
def State.allLocked (s : State) (m : Nat) : Bool :=
  decide (s.fld (Reg.CAM_STATE m) Fld.CAM_STATE_LOCK % 2 ^ s.lanes m = 2 ^ s.lanes m - 1)

/-! ### Line packets -/

/-- Bits per pixel of a format (R44). -/
def bitsPerPixel (fmt : Nat) : Nat := 8 + 2 * min fmt 4

/-- Does HCRC agree with SOL bits 0 to 47 (R68)? -/
def hcrcOk (pk : LinePacket) : Bool := decide (crc16 (bitsOf 48 pk.sol.toNat) = pk.hcrc)

/-- Does the packet's CRC-32 agree with its data blocks (R68)? -/
def crcOk (pk : LinePacket) : Bool :=
  decide (crc32 (pk.blocks.flatMap fun b => bitsOf 64 b.toNat) = pk.crc)

/-- The data blocks that NPIX_M1 asks for (R67). -/
def blocksNeeded (pk : LinePacket) : Nat := ((pk.npixM1 + 1) * bitsPerPixel pk.fmt + 63) / 64

/-- The pixels that the packet's data blocks hold as one bit stream, up to `n` of them (R67): a packet that brought fewer blocks than
NPIX_M1 asks for holds fewer. -/
def rawPixels (pk : LinePacket) (n : Nat) : List Nat :=
  let stream := (pk.blocks.zipIdx.foldl (fun acc p => acc + p.1.toNat * 2 ^ (64 * p.2)) 0)
  let b := bitsPerPixel pk.fmt
  (List.range (min n (min (pk.npixM1 + 1) (64 * pk.blocks.length / b)))).map fun i => stream / 2 ^ (i * b) % 2 ^ b

/-- Outcomes of a camera line (R83), as flag bits (R87): 0 none, 1 SHORT, 2 LONG, 4 LATE, 8 MALFORMED; FMT, PHASE and W as at its
trigger. -/
def outcome (w : Window) : Nat :=
  match w.pk with
  | none => 4
  | some pk =>
    if pk.cut || pk.fmt != w.fmt || pk.phase != w.phase
        || pk.nblk != blocksNeeded pk || pk.nblk != pk.blocks.length || !crcOk pk || pk.bad then 8
    else if pk.npixM1 + 1 < w.width then 1
    else if w.width < pk.npixM1 + 1 then 2 else 0

/-- The counter and the CAM_EVT bit of an outcome (R92). DEDUCED, log 60. -/
def State.countOutcome (s : State) (n o : Nat) : State :=
  let i := if o = 0 then 0 else if o = 1 then 1 else if o = 2 then 2 else if o = 4 then 3 else 4
  let s := s.bump (Reg.CAM_CNT n i)
  if o = 0 then s else s.linkEvent n (i - 1)

/-- A run that is complete (R86): a breach in Inspecting at the line's boundary; in a standby it waits for the partner's
confirmation (R495). -/
def State.runComplete (s : State) (code n : Nat) (j : Int) : State :=
  if s.mode == .inspecting then
    if s.standbyRole then
      let at_ := ((s.slots.find? fun (x : Slot) => decide (x.line = j)).map Slot.at_).getD s.now
      { s with runsWaiting := s.runsWaiting ++ [(code, n, j, at_)] }
    else s.breach code n (some j)
  else s

/-- LATERUN and BADRUN after a line's outcome, and the breaches they make (R86); LATE lines in the take-over window do not count
(R495). -/
def State.countRuns (s : State) (n : Nat) (j : Int) (o : Nat) : State :=
  if o = 4 && s.flag Reg.RED_STATUS Fld.RED_STATUS_TKWIN then s
  else
    let late := if o = 4 then min 3 (s.fld (Reg.CAM_TSEQ n) Fld.CAM_TSEQ_LATERUN + 1) else 0
    let bad := if o = 4 ∨ o = 8 then min 16 (s.fld (Reg.CAM_TSEQ n) Fld.CAM_TSEQ_BADRUN + 1) else 0
    let lateNow := decide (late = 3) && decide (s.fld (Reg.CAM_TSEQ n) Fld.CAM_TSEQ_LATERUN < 3)
    let badNow := decide (bad = 16) && decide (s.fld (Reg.CAM_TSEQ n) Fld.CAM_TSEQ_BADRUN < 16)
    let s := s.setFld (Reg.CAM_TSEQ n) Fld.CAM_TSEQ_LATERUN late
    let s := s.setFld (Reg.CAM_TSEQ n) Fld.CAM_TSEQ_BADRUN bad
    let s := if lateNow then s.runComplete 5 n j else s
    if badNow then s.runComplete 6 n j else s

/-- A discarded packet is counted (R82). -/
def State.discardPacket (s : State) (n : Nat) : State := (s.bump (Reg.CAM_CNT n 5)).linkEvent n 4

/-- Did the packet complete no later than the instant the window closed (R81)? -/
def State.onTime (s : State) (w : Window) : Bool :=
  decide ((s.now - w.at_) * w.lrmax ≤ 1000000000000)

/-- A standby's port adopts the token count from a packet: the oldest open window without a packet takes the packet's TSEQ, and
those after it count on (R494). -/
def State.adopt (s : State) (n : Nat) (pk : LinePacket) : State :=
  let h := s.port n
  let i := (h.windows.takeWhile fun w => w.pk.isSome || !s.onTime w).length
  if i < h.windows.length then
    let ws := h.windows.zipIdx.map fun p => { p.1 with tseq := (pk.tseq + 65536 + p.2 - i) % 65536, token := true }
    let s := s.setPort n { h with windows := ws, closed := [], adopting := false, strays := 0 }
    s.setFld (Reg.CAM_TSEQ n) Fld.CAM_TSEQ_NEXT (pk.tseq + h.windows.length - i)
  else s

/-- Does the packet's TSEQ name the window's trigger? -/
def named (pk : LinePacket) (w : Window) : Bool := w.token && decide (w.tseq = pk.tseq)

/-- The window with the packet that counts for it (R82). -/
def givePacket (pk : LinePacket) (w : Window) : Window :=
  if named pk w && w.pk.isNone then { w with pk := some pk } else w

/-- A packet that completes is joined to its open window by TSEQ, or discarded (R82); in a standby four in a row that name no
kept trigger make the port adopt again (R494). DESIGN CHOICE, log 58. -/
def State.takePacket (s : State) (n : Nat) (pk : LinePacket) : State :=
  if !hcrcOk pk then s.discardPacket n
  else
    let s := if (s.port n).adopting then s.adopt n pk else s
    let h := s.port n
    if h.windows.any (fun w => named pk w && w.pk.isNone && s.onTime w) then
      s.setPort n { h with strays := 0, windows := h.windows.map (givePacket pk) }
    else
      let kept := (h.windows ++ h.closed).any (named pk)
      let strays := if kept then 0 else h.strays + 1
      let s := s.setPort n { h with strays := strays, adopting := h.adopting || (s.standbyRole && decide (4 ≤ strays)) }
      s.discardPacket n

end Sys2Proof.Machine
end

