-- ==== Sys2Proof/Machine/Queues.lean ====
section
/-! DEFINITION. Queues and circulation (13_queues.md): rings of 64-byte units in SRAM with their pointers, commits and takes,
release, bookmark and rewind, watermarks, and the register port. -/

namespace Sys2Proof.Machine

/-- A queue before any packet. -/
def queue0 (_ : Nat) : QueueHid := ⟨[], 0, 0, [], 0, none, none, 0, false, 0, 0, 0⟩

/-- Queue `q` beside its registers. -/
def State.queue (s : State) (q : Nat) : QueueHid := Store.get queue0 q s.queues

/-- Store queue `q`. -/
def State.setQueue (s : State) (q : Nat) (h : QueueHid) : State := { s with queues := Store.set queue0 q h s.queues }

/-- Privileged queues (R350). -/
def isPriv (q : Nat) : Bool := decide (59 ≤ q ∧ q < 64)

/-- Circulation queues (R350). -/
def isCq (q : Nat) : Bool := decide (60 ≤ q ∧ q < 64)

/-- Units of a packet (R351). -/
def unitsOf (len : Nat) : Nat := (len + 63) / 64

/-- Units of some packets. -/
def unitsOfAll (l : List QPacket) : Nat := (l.map fun p => unitsOf p.len).sum

/-- Queues whose packets firmware or the host commits from Poised on (R356, R386); their sizes are fixed (R352). DEDUCED, log 49. -/
def isFixedQueue (q : Nat) : Bool := decide (56 ≤ q ∧ q < 59)

/-- SIZE of a queue. Queues 56 to 58 work from Poised on, with their sizes of R352 while the pool has not been allocated (log 49). -/
def State.qSize (s : State) (q : Nat) : Nat :=
  let n := s.fld (Reg.Q_CFG q) Fld.Q_CFG_SIZE
  if n = 0 && isFixedQueue q then (if q = 57 then 2048 else 1024) else n

/-- The SRAM offset of a queue's ring; queues 56 to 58 without an allocation stand one after another from offset 0 (log 49). -/
def State.qBase (s : State) (q : Nat) : Nat :=
  if s.fld (Reg.Q_CFG q) Fld.Q_CFG_SIZE = 0 && isFixedQueue q then (q - 56) * 131072 else s.fld (Reg.Q_BASE q) Fld.Q_BASE_BASE

/-- Occupancy in units: the distance from F to W (R354, R365). -/
def State.qOcc (s : State) (q : Nat) : Nat := unitsOfAll (s.queue q).packets

/-- Free units (R354); units that a DMA descriptor has reserved, or that the register port's open packet has taken (R356), are not free. -/
def State.qFree (s : State) (q : Nat) : Nat := s.qSize q - s.qOcc q - (s.queue q).resv - unitsOf (s.queue q).port.length

/-- Does a packet of so many bytes fit (R354, R362)? -/
def State.qFits (s : State) (q len : Nat) : Bool := decide (unitsOf len ≤ s.qFree q) && !(s.queue q).refused

/-- Advance a pointer by `n` units (R353). -/
def advance (size p n : Nat) : Nat :=
  let i := p % 2 ^ 19 + n
  if size ≤ i then (i - size) % 2 ^ 19 + (1 - p / 2 ^ 19 % 2) * 2 ^ 19 else i + p / 2 ^ 19 % 2 * 2 ^ 19

/-- The distance from pointer `b` to pointer `a` (R353). -/
def pointerDistance (size a b : Nat) : Nat :=
  if a / 2 ^ 19 = b / 2 ^ 19 then a % 2 ^ 19 - b % 2 ^ 19 else a % 2 ^ 19 + size - b % 2 ^ 19

/-- The packet at S, if one is committed beyond S (R355). -/
def State.qHead (s : State) (q : Nat) : Option QPacket := (s.queue q).packets[(s.queue q).sent]?

/-- Write bytes into the ring from a unit index on (R351). -/
def State.ringWrite (s : State) (q idx : Nat) (bytes : List Byte) : State :=
  let base := s.qBase q
  let n := (s.qSize q - idx) * 64
  { s with sram := writeBytes (writeBytes s.sram (base + 64 * idx) (bytes.take n)) base (bytes.drop n) }

/-- Read bytes from the ring from a unit index on. -/
def State.ringRead (s : State) (q idx len : Nat) : List Byte :=
  let base := s.qBase q
  let n := min len ((s.qSize q - idx) * 64)
  readBytes s.sram (base + 64 * idx) n ++ readBytes s.sram base (len - n)

/-- The index of a pointer register. -/
def ptrIndex (p : Nat) : Nat := p % 2 ^ 19

/-- The bytes of the packet at S. -/
def State.qHeadBytes (s : State) (q : Nat) : List Byte :=
  match s.qHead q with
  | some p => s.ringRead q (ptrIndex (s.num (Reg.Q_RPTR q))) p.len
  | none => []

/-- A watermark event (R365, R439). -/
def State.qEvent (s : State) (evt en q : Nat) : State := s.event (evt + 4 * (q / 32)) (en + 4 * (q / 32)) (q % 32) 23

/-- The high state and its events (R365); queue 58 HIGH also sets OHT_ATTN bit 4 (R405). -/
def State.qWatermarks (s : State) (q : Nat) : State :=
  let occ := s.qOcc q
  let hi := s.fld (Reg.Q_HIWM q) Fld.Q_HIWM_V
  if hi = 0 then s
  else if s.flag (Reg.Q_STATUS q) Fld.Q_STATUS_HIGHST then
    if occ ≤ s.fld (Reg.Q_LOWM q) Fld.Q_LOWM_V then
      (s.setFld (Reg.Q_STATUS q) Fld.Q_STATUS_HIGHST 0).qEvent Reg.QUE_LOEVT_LO Reg.QUE_LOEN_LO q
    else s
  else if hi ≤ occ then
    let s := (s.setFld (Reg.Q_STATUS q) Fld.Q_STATUS_HIGHST 1).qEvent Reg.QUE_HIEVT_LO Reg.QUE_HIEN_LO q
    if q = 58 then s.ohtAttn 4 else s
  else s

/-- The registers that show a queue: EMPTY, FULL, occupancy, peak, Q_RLEN and the key at F (R355, R362, R364, R365, R367). DEDUCED, log 89. -/
def State.qShow (s : State) (q : Nat) : State :=
  let h := s.queue q
  let occ := s.qOcc q
  let s := s.setFld (Reg.Q_STATUS q) Fld.Q_STATUS_EMPTY (b2n (s.qHead q).isNone)
  let s := s.setFld (Reg.Q_STATUS q) Fld.Q_STATUS_FULL (b2n (h.refused || decide (s.qSize q ≤ occ)))
  let s := s.setFld (Reg.Q_OCC q) Fld.Q_OCC_V occ
  let s := s.setFld (Reg.Q_PEAK q) Fld.Q_PEAK_V (max occ (s.fld (Reg.Q_PEAK q) Fld.Q_PEAK_V))
  let s := s.setNum (Reg.Q_RLEN q) (((s.qHead q).map fun p => p.len - h.part).getD 0)
  if isPriv q then s.set64 (Reg.PQ_HEADKEY_LO (q - 59)) (((h.packets.head?).map QPacket.key).getD 0) else s

/-- After an occupancy change: what the registers show, then the watermarks (R364, order 6). -/
def State.qRefresh (s : State) (q : Nat) : State := (s.qShow q).qWatermarks q

/-- Move a pointer register on by `n` units. -/
def State.qMove (s : State) (q reg n : Nat) : State := s.setNum reg (advance (s.qSize q) (s.num reg) n)

/-- The packet at S has been taken (R354, R359): S advances; in an ordinary queue F is S. -/
def State.qTake (s : State) (q : Nat) : State :=
  match s.qHead q with
  | none => s
  | some p =>
    let h := s.queue q
    let s := s.qMove q (Reg.Q_RPTR q) (unitsOf p.len)
    if isPriv q then (s.setQueue q { h with sent := h.sent + 1, part := 0, lastTaken := p.key }).qShow q
    else
      let s := s.setNum (Reg.Q_FPTR q) (s.num (Reg.Q_RPTR q))
      (s.setQueue q { h with packets := h.packets.eraseIdx h.sent, part := 0, lastTaken := p.key, headAt := s.now }).qRefresh q

/-- Does the member shadow-take (R492)? After a swap at line W, records of slots of lines below W are still the old active's (R509). -/
def State.shadowTakes (s : State) : Bool :=
  match s.red.swapAt, s.slots with
  | some w, sl :: _ => if sl.line < w then !s.standbyRole else s.standbyRole
  | _, _ => s.standbyRole

/-- Commit a packet that fits (R354); a standby takes packets of queues 48 to 55 and 60 to 63 at their commit (R492). -/
def State.qCommit (s : State) (q : Nat) (bytes : List Byte) (key kind : Nat) (due : Option Nat) : State :=
  let h := s.queue q
  let s := s.ringWrite q (ptrIndex (s.num (Reg.Q_WPTR q))) bytes
  let s := s.qMove q (Reg.Q_WPTR q) (unitsOf bytes.length)
  let s := s.setQueue q { h with
    packets := h.packets ++ [⟨bytes.length, key, kind, due, none, false⟩], headAt := if h.sent < h.packets.length then h.headAt else s.now }
  let s := s.qRefresh q
  if s.shadowTakes && decide ((48 ≤ q ∧ q < 56) ∨ 60 ≤ q) then s.qTake q else s

/-- A packet of firmware for queues 56 to 58 (R358, R386). -/
def State.qFirmware (s : State) (q : Nat) (bytes : List Byte) : State :=
  if s.qFits q bytes.length then s.qCommit q bytes 0 0 none
  else (s.bump (Reg.Q_DROP q)).notice 0x0601 0x0F q

/-- A card or crop record for a circulation queue (R362): refused with the breach CQ_FULL where it does not fit. -/
def State.cqEnqueue (s : State) (q : Nat) (bytes : List Byte) (key kind : Nat) (due : Option Nat) : State :=
  if s.qFits q bytes.length then s.qCommit q bytes key kind due
  else (s.setQueue q { s.queue q with refused := true }).qShow q |>.breach 9 (q - 60) none

/-- A record for a stream queue (R358): a real-time producer breaches HOST_RT where it does not fit, another discards it. A
standby's breach HOST_RT does not apply (R492). The second result tells whether it was written. -/
def State.streamEnqueue (s : State) (i : Nat) (realTime : Bool) (bytes : List Byte) : State × Bool :=
  let q := 48 + i
  if s.qFits q bytes.length then (s.qCommit q bytes 0 0 none, true)
  else if realTime then (if s.standbyRole then s else s.breach 11 (8 + i) none, false)
  else (s.bump (Reg.Q_DROP q), false)

/-- Packets that lead the queue, are sent and carry a key of `n` or less (R360). -/
def releasable (n : Nat) (sent : Nat) (l : List QPacket) : List QPacket := (l.take sent).takeWhile fun p => decide (p.key ≤ n)

/-- Release a privileged queue through key `n` (R360). -/
def State.qRelease (s : State) (q n : Nat) : State :=
  let i := q - 59
  if n ≤ s.get64 (Reg.PQ_RELKEY_LO i) then s
  else
    let h := s.queue q
    let r := releasable n h.sent h.packets
    let s := s.set64 (Reg.PQ_RELKEY_LO i) n
    let s := if h.lastTaken < n then s.bump (Reg.PQ_BEYOND i) else s
    let s := s.qMove q (Reg.Q_FPTR q) (unitsOfAll r)
    let bm := match h.bm with
      | some b => if r.length ≤ b then some (b - r.length) else none
      | none => none
    let s := s.setFld (Reg.Q_BMPTR q) Fld.Q_BMPTR_BMVALID (b2n bm.isSome)
    let s := s.setQueue q { h with packets := h.packets.drop r.length, sent := h.sent - r.length, bm := bm }
    if r.isEmpty then s.qShow q else s.qRefresh q

/-- BOOKMARK (R361). -/
def State.qBookmark (s : State) (q : Nat) : State :=
  let h := s.queue q
  let s := s.setFld (Reg.Q_BMPTR q) Fld.Q_BMPTR_PTR (s.num (Reg.Q_RPTR q))
  let s := s.setFld (Reg.Q_BMPTR q) Fld.Q_BMPTR_BMVALID 1
  s.setQueue q { h with bm := some h.sent }

/-- REWIND or REWFREE is requested (R361); of both, REWFREE, after which the bookmark would be gone anyway. -/
def State.qRequestRewind (s : State) (q : Nat) (free : Bool) : State :=
  let h := s.queue q
  s.setQueue q { h with rewind := some (free || h.rewind == some true) }

/-- A requested rewind takes effect (R361): S moves back, and the packets from there on are taken again. -/
def State.qRewind (s : State) (q : Nat) (free : Bool) : State :=
  let h := s.queue q
  let to_ := if free then 0 else min (h.bm.getD 0) h.sent
  let target := if free || h.bm.isNone then s.num (Reg.Q_FPTR q) else s.fld (Reg.Q_BMPTR q) Fld.Q_BMPTR_PTR
  let ps := h.packets.take to_ ++ ((h.packets.drop to_).take (h.sent - to_)).map (fun p => { p with again := true })
    ++ h.packets.drop h.sent
  let s := s.setNum (Reg.Q_RPTR q) target
  let s := s.setFld (Reg.Q_BMPTR q) Fld.Q_BMPTR_BMVALID 0
  let s := s.setQueue q { h with packets := ps, sent := to_, part := 0, bm := none, rewind := none, rewoundAt := s.now }
  (s.bump (Reg.PQ_REWINDS (q - 59))).qShow q

/-- Is a hardware consumer inside a packet of the queue: a record sent in part? -/
def State.qInside (s : State) (q : Nat) : Bool := decide (48 ≤ q) && decide ((s.queue q).part ≠ 0)

/-- FLUSH (R357): pending on an ordinary queue, rejected on a privileged one. -/
def State.qFlush (s : State) (q : Nat) : State :=
  if isPriv q then (s.bump (Reg.Q_DROP q)).notice 0x0601 0x0F q
  else s.setFld (Reg.Q_STATUS q) Fld.Q_STATUS_FLUSHPEND 1

/-- A pending flush takes effect (R357): S moves to W and every discarded packet counts. -/
def State.qFlushApply (s : State) (q : Nat) : State :=
  let h := s.queue q
  let s := s.bumpBy (Reg.Q_DROP q) h.packets.length
  let s := (s.setNum (Reg.Q_RPTR q) (s.num (Reg.Q_WPTR q))).setNum (Reg.Q_FPTR q) (s.num (Reg.Q_WPTR q))
  let s := s.setFld (Reg.Q_STATUS q) Fld.Q_STATUS_FLUSHPEND 0
  let s := s.setQueue q { h with packets := [], sent := 0, part := 0 }
  if h.packets.isEmpty then s.qShow q else s.qRefresh q

/-- PEAKCLR (R366): Q_PEAK becomes the occupancy; written with FLUSH clear, it also clears Q_DROP. -/
def State.qPeakClr (s : State) (q : Nat) (flushClear : Bool) : State :=
  let s := s.setFld (Reg.Q_PEAK q) Fld.Q_PEAK_V (s.qOcc q)
  if flushClear then s.setNum (Reg.Q_DROP q) 0 else s

/-- Does the register port write packets of the queue (R356)? -/
def portWrites (q : Nat) : Bool := decide (q < 48 ∨ q = 56 ∨ q = 58)

/-- A Q_WDATA write (R356): four bytes join the open packet; without a free unit the open packet is discarded. -/
def State.qWdata (s : State) (q : Nat) (v : Word) : State :=
  let h := s.queue q
  let p := h.port ++ leBytes 4 v.toNat
  if unitsOf p.length ≤ s.qFree q + unitsOf h.port.length then s.setQueue q { h with port := p }
  else ((s.setQueue q { h with port := [] }).bump (Reg.Q_DROP q)).notice 0x0601 0x0F q

/-- WEOP (R356): the open packet is committed; with none open, or for a queue without a write port, nothing. -/
def State.qWeop (s : State) (q : Nat) : State :=
  let h := s.queue q
  if portWrites q && !h.port.isEmpty then (s.setQueue q { h with port := [] }).qCommit q h.port 0 0 none else s

/-- A Q_RDATA read (R355): the next four bytes of the packet at S (beyond its last byte 0), or the last value with UNDERRUN. -/
def State.qRdata (s : State) (q : Nat) : Word × State :=
  if s.mode == .frozen || decide (48 ≤ q) then (0, s)
  else match s.qHead q with
    | none => ((s.queue q).lastRead, s.hwSet (Reg.Q_STATUS q) 2)
    | some p =>
      let h := s.queue q
      let w := BitVec.ofNat 32 (ofLeBytes ((s.qHeadBytes q).drop h.part |>.take 4))
      let s := s.setQueue q { h with lastRead := w, part := h.part + 4 }
      if p.len ≤ h.part + 4 then (w, s.qTake q) else (w, s.qShow q)

end Sys2Proof.Machine
end

