-- ==== Sys2Proof/Machine/Correction.lean ====
section
/-! DEFINITION. Pixel correction and calibration (05_correction_calibration.md): the four stages, the tables and their banks,
calibration runs and their limits, and the calibration image. -/

namespace Sys2Proof.Machine

/-! ### Tables -/

/-- The key of a table entry; LIN and BAD have no phase (R128). -/
def corrKey (tsel phase idx : Nat) : Nat := tsel * 2 ^ 17 + (if tsel < 2 then phase else 0) * 2 ^ 15 + idx

/-- The initial value of an entry (R126). -/
def corrInit (key : Nat) : Nat :=
  if key / 2 ^ 17 = 1 then 0x4000 else if key / 2 ^ 17 = 2 then min (key % 2 ^ 17 * 64) 65535 else 0

/-- The last index of a table (R128). -/
def corrLast (tsel : Nat) : Nat := if tsel = 2 then 1024 else 32767

/-- An entry of a bank as live tables: the live bank, or the one that was live before the last bank change (R129). -/
def State.corrEntry (s : State) (p bank tsel phase idx : Nat) : Nat :=
  let h := s.corrOf p
  Store.get corrInit (corrKey tsel phase idx) (if bank = s.fld (Reg.CORR_STATUS p) Fld.CORR_STATUS_BANK then h.live else h.old)

/-- An entry of the live bank. -/
def State.corrLive (s : State) (p tsel phase idx : Nat) : Nat :=
  Store.get corrInit (corrKey tsel phase idx) (s.corrOf p).live

/-- An entry of the shadow bank. -/
def State.corrShadow (s : State) (p tsel phase idx : Nat) : Nat :=
  Store.get corrInit (corrKey tsel phase idx) (s.corrOf p).shadow

/-- Write a shadow entry and mark it written (R128). -/
def State.corrWrite (s : State) (p key v : Nat) : State :=
  let h := s.corrOf p
  let s := s.setCorr p { h with shadow := Store.set corrInit key v h.shadow, marks := Store.set (fun _ => false) key true h.marks }
  s.setFld (Reg.CORR_STATUS p) Fld.CORR_STATUS_DIRTY 1

/-- Reject a table access: CORR_TWREJ and STAGED_REJECT (R128 to R130). -/
def State.corrReject (s : State) (p a : Nat) : State :=
  (s.bump (Reg.CORR_TWREJ p)).notice 0x0104 (sourceOf (Reg.CORR_CTRL p)) a

/-- Step CORR_TIDX after an access, under AUTOINC (R128). -/
def State.corrStepIdx (s : State) (p : Nat) : State :=
  let i := s.fld (Reg.CORR_TIDX p) Fld.CORR_TIDX_IDX
  if s.flag (Reg.CORR_TCTL p) Fld.CORR_TCTL_AUTOINC then
    s.setFld (Reg.CORR_TIDX p) Fld.CORR_TIDX_IDX
      (if i < corrLast (s.fld (Reg.CORR_TCTL p) Fld.CORR_TCTL_TSEL) then i + 1 else 0)
  else s

/-- Are table-port writes of the pipeline rejected (R128, R143, R503)? -/
def State.corrShut (s : State) (p : Nat) : Bool :=
  s.flag (Reg.CORR_STATUS p) Fld.CORR_STATUS_SEALED || s.flag (Reg.CORR_STATUS p) Fld.CORR_STATUS_CALBUSY
    || s.flag (Reg.CORR_STATUS p) Fld.CORR_STATUS_PENDING || s.joinActive

/-- A write of CORR_TDATA (R128). BAD keeps bits [1:0]. -/
def State.corrDataWrite (s : State) (p : Nat) (v : Word) : State :=
  let tsel := s.fld (Reg.CORR_TCTL p) Fld.CORR_TCTL_TSEL
  let phase := s.fld (Reg.CORR_TCTL p) Fld.CORR_TCTL_PHASE
  let idx := s.fld (Reg.CORR_TIDX p) Fld.CORR_TIDX_IDX
  let x := v.toNat % (if tsel = 3 then 4 else 65536)
  let s := if s.corrShut p || decide (corrLast tsel < idx) then s.corrReject p (Reg.CORR_TDATA p)
    else s.corrWrite p (corrKey tsel phase idx) x
  s.corrStepIdx p

/-- A read of CORR_TDATA (R128): the live entry, or 0 beyond the table. -/
def State.corrDataRead (s : State) (p : Nat) : Nat × State :=
  let tsel := s.fld (Reg.CORR_TCTL p) Fld.CORR_TCTL_TSEL
  let idx := s.fld (Reg.CORR_TIDX p) Fld.CORR_TIDX_IDX
  (if corrLast tsel < idx then 0 else s.corrLive p tsel (s.fld (Reg.CORR_TCTL p) Fld.CORR_TCTL_PHASE) idx, s.corrStepIdx p)

/-- The bank change of a pipeline (R129, R130): the shadow becomes live, and the copy of the new live bank begins. CORR_HOLINE waits for
the first line that the bank corrects (R146). -/
def State.corrBankChange (s : State) (p : Nat) : State :=
  let h := s.corrOf p
  let s := s.setCorr p { h with live := h.shadow, shadow := h.live, old := h.live, marks := [], jh := none, group := [], due := none }
  let st := Reg.CORR_STATUS p
  let s := s.setFld st Fld.CORR_STATUS_BANK (1 - s.fld st Fld.CORR_STATUS_BANK)
  let s := s.setFld st Fld.CORR_STATUS_SEALED 0
  let s := s.setFld st Fld.CORR_STATUS_DIRTY 0
  let s := s.setFld st Fld.CORR_STATUS_COPYING 1
  s.setS64 (Reg.CORR_HOLINE_LO p) (-(2 ^ 63))

/-- The greatest line triggered of some pipelines' cameras. -/
def State.greatestLine (s : State) (ps : List Nat) : Option Int :=
  (ps.filterMap fun p => (s.corrOf p).lastLine).foldl (fun m j => match m with
    | some k => some (max k j)
    | none => some j) none

/-- A seal completes for a group (R129): j_h for all; a pipeline whose camera is not enabled changes banks now. -/
def State.sealComplete (s : State) (ps : List Nat) : State :=
  let jh := (s.greatestLine ps).map (· + 1)
  ps.foldl (fun (s : State) p =>
    let s := s.setCorr p { s.corrOf p with jh := jh, sealWait := false, group := ps }
    if s.flag (Reg.TRG_CAMCFG p) Fld.TRG_CAMCFG_EN then s else s.corrBankChange p) s

/-- Seal some pipelines together (R129): the seal completes now, or when the last of their copies has ended (R130). -/
def State.corrSealGroup (s : State) (ps : List Nat) : State :=
  let s := ps.foldl (fun (s : State) p =>
    let s := (s.setFld (Reg.CORR_STATUS p) Fld.CORR_STATUS_SEALED 1).setFld (Reg.CORR_STATUS p) Fld.CORR_STATUS_PENDING 0
    s.setCorr p { s.corrOf p with sealWait := true, group := ps, due := none }) s
  if ps.any fun p => s.flag (Reg.CORR_STATUS p) Fld.CORR_STATUS_COPYING then s else s.sealComplete ps

/-- Are seals and discards of the pipeline rejected (R129, R130, R143, R503)? A run that targets it rejects only writes of entries. -/
def State.corrSealShut (s : State) (p : Nat) : Bool :=
  s.flag (Reg.CORR_STATUS p) Fld.CORR_STATUS_SEALED || s.flag (Reg.CORR_STATUS p) Fld.CORR_STATUS_PENDING || s.joinActive

/-- CAL_SEAL, or CORR_TCTL.SEAL of one pipeline (R129): rejected as a whole where one of them is already sealed. -/
def State.corrSeal (s : State) (ps : List Nat) (a : Nat) : State :=
  let shut := ps.filter s.corrSealShut
  if shut.isEmpty then s.corrSealGroup ps
  else (shut.foldl (fun (s : State) p => s.bump (Reg.CORR_TWREJ p)) s).notice 0x0104 (sourceOf a) a

/-- The live bank is copied into the shadow and the marks are cleared (R130). -/
def State.corrDiscard (s : State) (p : Nat) : State :=
  let h := s.corrOf p
  let s := s.setCorr p { h with shadow := h.live, marks := [], identity := none }
  (s.setFld (Reg.CORR_STATUS p) Fld.CORR_STATUS_DIRTY 0).setFld (Reg.CORR_STATUS p) Fld.CORR_STATUS_PENDING 0

/-- CORR_TCTL's SEAL and DISCARD (R129, R130): both together do neither. -/
def State.corrControl (s : State) (p : Nat) (sl discard : Bool) : State :=
  if sl && discard then s.corrReject p (Reg.CORR_TCTL p)
  else if sl then s.corrSeal [p] (Reg.CORR_TCTL p)
  else if discard then
    if s.corrSealShut p then s.corrReject p (Reg.CORR_TCTL p) else s.corrDiscard p
  else s

/-- The copy of R130 ends: unwritten shadow entries take the live value, and a seal that waited for it completes once no
pipeline of its group copies. -/
def State.corrCopyDone (s : State) (p : Nat) : State :=
  let h := s.corrOf p
  let kept := h.marks.foldl (fun m e => Store.set corrInit e.1 (Store.get corrInit e.1 h.shadow) m) h.live
  let s := (s.setCorr p { h with shadow := kept }).setFld (Reg.CORR_STATUS p) Fld.CORR_STATUS_COPYING 0
  if h.sealWait && !(h.group.any fun q => s.flag (Reg.CORR_STATUS q) Fld.CORR_STATUS_COPYING) then s.sealComplete h.group else s

/-! ### The four stages -/

/-- Stages D, G and L of a bank (R123), and whether stage G was limited (R124). -/
def State.correctDGL (s : State) (p bank phase x v : Nat) : Nat × Bool :=
  let c := Reg.CORR_CTRL p
  let d := if s.flag c Fld.CORR_CTRL_DKEN then v - s.corrEntry p bank 0 phase x else v
  let raw := (d * s.corrEntry p bank 1 phase x + 8192) / 16384
  let g := if s.flag c Fld.CORR_CTRL_GNEN then min 65535 raw else d
  let sat := s.flag c Fld.CORR_CTRL_GNEN && decide (65535 < raw)
  let i := g / 64
  let l0 : Int := s.corrEntry p bank 2 0 i
  let l1 : Int := s.corrEntry p bank 2 0 (i + 1)
  let t := if s.flag c Fld.CORR_CTRL_LINEN then (l0 + Int.fdiv ((l1 - l0) * (g % 64 : Nat) + 32) 64).toNat else g
  (t, sat)

/-- The nearest valid neighbour on one side within 8 columns (R131). -/
def nearestValid (codes vals : List Nat) (x : Nat) (below : Bool) : Option (Nat × Nat) :=
  ((List.range 8).map (· + 1)).findSome? fun d =>
    if below then
      if d ≤ x ∧ codes[x - d]? = some 0 then (vals[x - d]?).map fun v => (d, v) else none
    else if codes[x + d]? = some 0 then (vals[x + d]?).map fun v => (d, v) else none

/-- Stage B of one column (R131, R132): its value, or none for a replacement that fails. -/
def replaceBad (codes vals : List Nat) (x : Nat) : Option Nat :=
  let lo := nearestValid codes vals x true
  let hi := nearestValid codes vals x false
  if codes[x]? = some 1 then
    match lo, hi with
    | some (d, v), some (e, w) => some (if e < d then w else v)
    | some (_, v), none => some v
    | none, some (_, w) => some w
    | none, none => none
  else
    match lo, hi with
    | some (_, v), some (_, w) => some ((v + w + 1) / 2)
    | some (_, v), none => some v
    | none, some (_, w) => some w
    | none, none => none

/-- Correct the received pixels of a line with a bank and a CORR_BPVAL (R123 to R132): values, saturated gains, failed replacements. -/
def State.correctLine (s : State) (p bank bpval phase : Nat) (px : List Nat) : List Nat × Nat × Nat :=
  let st := px.zipIdx.map fun v => s.correctDGL p bank phase v.2 v.1
  let vals := st.map Prod.fst
  let codes := (List.range px.length).map fun x => s.corrEntry p bank 3 0 x
  let sat := (st.filter fun v => v.2).length
  if s.flag (Reg.CORR_CTRL p) Fld.CORR_CTRL_BPEN then
    let fixed := vals.zipIdx.map fun v =>
      let c := (codes[v.2]?).getD 0
      if c = 0 then some v.1 else if c = 3 then some bpval else replaceBad codes vals v.2
    (fixed.map fun v => v.getD bpval, sat, (fixed.filter fun v => v.isNone).length)
  else (vals, sat, 0)

/-- Left-justify a camera pixel (R44, R45). -/
def justify (fmt v : Nat) : Nat := v * 2 ^ (16 - bitsPerPixel fmt)

/-- The correction unit takes the pixels of a packet for a window as they arrive, in Inspecting (R84, R125): the first W of them, with
the settings and the bank of the line's trigger (R25, R129). The first line that the live bank corrects goes to CORR_HOLINE (R146). -/
def State.correctPacket (s : State) (n : Nat) (w : Window) (pk : LinePacket) : State :=
  if s.inspects then
    let px := (rawPixels pk w.width).map (justify pk.fmt)
    let (vals, sat, fail) := s.correctLine n w.bank w.bpval pk.phase px
    let s := (s.bumpBy (Reg.CORR_SATCNT n) sat).bumpBy (Reg.CORR_BPFAIL n) fail
    let s := if decide (w.bank = s.fld (Reg.CORR_STATUS n) Fld.CORR_STATUS_BANK)
        && decide (s.getS64 (Reg.CORR_HOLINE_LO n) = -(2 ^ 63)) && !px.isEmpty then
      s.setS64 (Reg.CORR_HOLINE_LO n) w.line else s
    let h := s.port n
    s.setPort n { h with windows := h.windows.map fun x => if x = w then { x with pixels := vals } else x }
  else s

/-! ### Calibration runs -/

/-- The test pulses of a TRIGDLY run up to now (R138): each output of the mask has had them, and CAL_STATUS keeps their number. DEDUCED,
log 65. -/
def State.endPulses (s : State) (r : CalRun) : State :=
  if r.kind = 6 then
    let n := s.calPulses r
    let s := (List.range n).foldl (fun (s : State) i =>
      (List.range 16).foldl (fun (s : State) k =>
        if bit (s.num Reg.CAL_TRMASK) k then s.emit (.testPulse k (r.startAt + 1000000 * i) 8000) else s) s) s
    s.setFld Reg.CAL_STATUS Fld.CAL_STATUS_LINES n
  else s

/-- A run ends with a result (R133, R135); CAL_STATUS.LIMIT names the failing limit. -/
def State.calEnd (s : State) (result limit : Nat) : State :=
  let s := match s.calRun with
    | some r => if r.kind ≤ 3 then
        (s.setFld (Reg.CORR_STATUS r.target) Fld.CORR_STATUS_CALBUSY 0).corrDiscard r.target else s.endPulses r
    | none => s
  let s := s.setFld Reg.CAL_STATUS Fld.CAL_STATUS_BUSY 0
  let s := s.setFld Reg.CAL_STATUS Fld.CAL_STATUS_RESULT result
  { (s.setFld Reg.CAL_STATUS Fld.CAL_STATUS_LIMIT limit) with calRun := none }

/-- A run that does not start: RESULT is set at once (R133, R135). -/
def State.calRefuse (s : State) (result : Nat) : State :=
  (s.setFld Reg.CAL_STATUS Fld.CAL_STATUS_RESULT result).setFld Reg.CAL_STATUS Fld.CAL_STATUS_LIMIT 0

/-- The states a kind is allowed in (R133); none during a JOIN (R503). -/
def State.calAllowed (s : State) (kind : Nat) : Bool :=
  !s.joinActive && !(decide (kind ≤ 3) && s.standbyRole) && (if kind ≤ 3 then s.mode.active else if kind ≤ 5 then s.mode == .poised || s.mode == .halted
    else s.mode == .poised)

/-- Does the target exist (R133, R144)? -/
def calTargetOk (kind target : Nat) : Bool :=
  decide (1 ≤ kind ∧ kind ≤ 6) && (if kind ≤ 3 then decide (target < 12) else if kind ≤ 5 then decide (target < 15) else true)

/-- GO of CAL_CMD (R133, R135). The command's own fields have been written. -/
def State.calGo (s : State) : State :=
  let cmd := s.reg Reg.CAL_CMD
  let kind := getBits cmd Fld.CAL_CMD_KIND
  let tgt := getBits cmd Fld.CAL_CMD_TARGET
  if s.flag Reg.CAL_STATUS Fld.CAL_STATUS_BUSY then s.hwSet Reg.CAL_STATUS 1
  else if !calTargetOk kind tgt then s.calRefuse 7
  else if !s.calAllowed kind then s.calRefuse 6
  else if kind ≤ 3 && (s.corrShut tgt || s.flag (Reg.CORR_STATUS tgt) Fld.CORR_STATUS_COPYING
      || s.flag (Reg.CORR_STATUS tgt) Fld.CORR_STATUS_DIRTY) then s.calRefuse 4
  else
    let s := s.setFld Reg.CAL_STATUS Fld.CAL_STATUS_BUSY 1
    let s := s.setFld Reg.CAL_STATUS Fld.CAL_STATUS_LINES 0
    let s := if kind ≤ 3 then s.setFld (Reg.CORR_STATUS tgt) Fld.CORR_STATUS_CALBUSY 1 else s
    { s with calRun := some ⟨kind, tgt, getBits cmd Fld.CAL_CMD_PHASE, cmd, s.reg Reg.CAL_TGT, s.reg Reg.CAL_LIM0,
        s.reg Reg.CAL_LIM1, s.reg Reg.CAL_LIM2, s.now, [], [], 0⟩ }

/-- N of a run (R136, R144). -/
def calLines (r : CalRun) : Nat := 2 ^ min 12 (max 4 (getBits r.cmd Fld.CAL_CMD_AVG))

/-- A run takes a line of its camera and phase whose outcome is none (R135): the samples are summed, after dark subtraction for
FLAT and BADPIX. -/
def State.calTake (s : State) (n : Nat) (w : Window) (outcome : Nat) : State :=
  match s.calRun, w.pk with
  | some r, some pk =>
    if r.kind ≤ 3 && r.target = n && r.phase = w.phase && outcome = 0 && r.lines < calLines r then
      let px := (rawPixels pk w.width).map (justify pk.fmt)
      let top := justify pk.fmt (2 ^ bitsPerPixel pk.fmt - 1)
      let sums := px.zipIdx.foldl (fun m v =>
        let d := if r.kind = 1 then v.1 else v.1 - s.corrLive n 0 w.phase v.2
        Store.set (fun _ => 0) v.2 (Store.get (fun _ => 0) v.2 m + d) m) r.sums
      let maxed := px.zipIdx.foldl (fun m v => if v.1 = top then Store.set (fun _ => false) v.2 true m else m) r.maxed
      { s.setFld Reg.CAL_STATUS Fld.CAL_STATUS_LINES (r.lines + 1) with
        calRun := some { r with sums := sums, maxed := maxed, lines := r.lines + 1 } }
    else s
  | _, _ => s

/-- The results of a run over W columns (R136): DARK, GAIN, or the new BAD codes. -/
def State.calResult (s : State) (r : CalRun) (w x : Nat) : Nat :=
  let n := calLines r
  let S (i : Nat) : Nat := Store.get (fun _ => 0) i r.sums
  if r.kind = 1 then (S x + n / 2) / n
  else if r.kind = 2 then
    if S x = 0 then 0x4000
    else min 0xFFFF ((getBits r.tgt Fld.CAL_TGT_TGT * 16384 * n + S x / 2) / S x)
  else
    let old := s.corrLive r.target 3 0 x
    let q := ((List.range 9).filterMap fun d => if d ≠ 4 ∧ 4 ≤ x + d ∧ x + d - 4 < w then some (x + d - 4) else none)
    let t := (q.map S).sum
    let diff := ((S x * q.length : Nat) : Int) - t
    let newbad := decide (t * getBits r.tgt Fld.CAL_TGT_BPTOL < diff.natAbs * 256)
      || decide (getBits r.lim0 Fld.CAL_LIM0_DK_PIXMAX < s.corrLive r.target 0 r.phase x)
    let code := getBits r.cmd Fld.CAL_CMD_BPCODE
    if old ≠ 0 then old else if newbad then (if code = 1 then 1 else 2) else 0

/-- The longest run of non-zero codes. -/
def longestRun (l : List Nat) : Nat :=
  (l.foldl (fun (m : Nat × Nat) c => if c = 0 then (m.1, 0) else (max m.1 (m.2 + 1), m.2 + 1)) (0, 0)).1

/-- The first limit of R139 that a table result fails, 0 if none. -/
def State.calLimit (s : State) (r : CalRun) (w : Nat) (vals : List Nat) : Nat :=
  let marked (x : Nat) : Bool := decide (s.corrLive r.target 3 0 x ≠ 0)
  let un := (List.range w).filter fun x => !marked x
  let val (x : Nat) : Nat := (vals[x]?).getD 0
  let S (x : Nat) : Nat := Store.get (fun _ => 0) x r.sums
  let peak := un.any fun x => Store.get (fun _ => false) x r.maxed
  if r.kind = 1 then
    if un.any fun x => decide (getBits r.lim0 Fld.CAL_LIM0_DK_PIXMAX < val x) then 1
    else if getBits r.lim0 Fld.CAL_LIM0_DK_MEANMAX * w < vals.sum then 2 else 0
  else if r.kind = 2 then
    if ((List.range w).map S).sum * 8 < getBits r.tgt Fld.CAL_TGT_TGT * (calLines r * w) then 3
    else if un.any fun x => decide (val x < getBits r.lim1 Fld.CAL_LIM1_GMIN) then 4
    else if un.any fun x => decide (getBits r.lim1 Fld.CAL_LIM1_GMAX < val x) then 5
    else if peak then 6
    else if un.any fun x => decide (S x = 0) then 9 else 0
  else
    if peak then 6
    else if getBits r.lim2 Fld.CAL_LIM2_BPMAX < (vals.filter fun v => v ≠ 0).length then 7
    else if 8 < longestRun vals then 8 else 0

/-- What LINKEQ and DESKEW found on a lane, as limits 10 to 14 judge it (R137, R139). -/
def laneLimit (r : CalRun) (ms : List LaneMeas) : Nat :=
  if r.kind = 4 then
    if ms.any fun m => decide (m.veye < getBits r.lim2 Fld.CAL_LIM2_EYE_MIN) then 10
    else if ms.any fun m => decide (m.heye < getBits r.lim2 Fld.CAL_LIM2_HEYE_MIN) then 11
    else if ms.any fun m => decide (0 < m.badHeaders) then 12 else 0
  else
    let ds := ms.map LaneMeas.delayPs
    if 180000 < ds.foldl max 0 - ds.foldl min (ds.headD 0) then 13
    else if ms.any fun m => decide (1 < m.spreadUi) then 14 else 0

/-- TRIM after the first measurement (R138): 24 ns is 1,536 units of 15.625 ps, a TRIM step is 4 of them. -/
def newTrim (trim lat : Nat) : Nat :=
  let x : Int := trim + Int.fdiv ((1536 - (lat : Int)) * 2 + 4) 8
  (max 0 (min 63 x)).toNat

/-- A run passes (R135, R139). -/
def State.calPass (s : State) (r : CalRun) : State :=
  let s := { s.endPulses r with calRun := none }
  let s := (s.setFld Reg.CAL_STATUS Fld.CAL_STATUS_BUSY 0).setFld Reg.CAL_STATUS Fld.CAL_STATUS_RESULT 0
  let s := (s.setFld Reg.CAL_STATUS Fld.CAL_STATUS_LIMIT 0).bump Reg.CAL_PASSCNT
  if r.kind ≤ 3 then
    (s.setFld (Reg.CORR_STATUS r.target) Fld.CORR_STATUS_CALBUSY 0).corrSealGroup [r.target]
  else s

/-- A run fails a limit (R139). -/
def State.calFail (s : State) (r : CalRun) (limit : Nat) : State :=
  ((s.calEnd 1 limit).bump Reg.CAL_FAILCNT).notice 0x0401 (sourceOf Reg.CAL_CMD) (r.kind + limit * 2 ^ 8)

/-- The values of a passed LINKEQ or DESKEW go to the lane's registers (R137). -/
def State.storeLane (s : State) (r : CalRun) (k : Nat) (m : LaneMeas) : State :=
  if r.kind = 4 then
    let s := s.setReg (Reg.EQ_CTLE k r.target) (setBits m.ctle Fld.EQ_CTLE_EQ_VALID 1)
    let s := s.setReg (Reg.EQ_DFE k r.target) m.dfe
    let s := s.setReg (Reg.EQ_SLICE k r.target) m.slice
    s.setNum (Reg.EQ_EYE k r.target) (m.veye + m.heye * 2 ^ 8)
  else s.setNum (Reg.DSK k r.target) m.delayUi

/-- A run completes (R136 to R139): `ms` is what LINKEQ or DESKEW measured per active lane, `ls` the two means TRIGDLY measured
per output of the mask. -/
def State.calComplete (s : State) (r : CalRun) (ms : List LaneMeas) (ls : List (Nat × Nat × Nat)) : State :=
  if r.kind ≤ 3 then
    let w := s.fld (Reg.CAM_WIDTH r.target) Fld.CAM_WIDTH_W
    let vals := (List.range w).map (s.calResult r w)
    let lim := s.calLimit r w vals
    if lim = 0 then
      (vals.zipIdx.foldl (fun (s : State) v =>
        if r.kind = 3 && v.1 = s.corrLive r.target 3 0 v.2 then s
        else s.corrWrite r.target (corrKey (r.kind - 1 + (if r.kind = 3 then 1 else 0)) r.phase v.2) v.1) s).calPass r
    else s.calFail r lim
  else if r.kind ≤ 5 then
    let lim := laneLimit r ms
    if lim = 0 then (ms.zipIdx.foldl (fun (s : State) m => s.storeLane r m.2 m.1) s).calPass r else s.calFail r lim
  else
    let trims := ls.map fun l => (l.1, newTrim (s.fld (Reg.TRIG_CFG l.1) Fld.TRIG_CFG_TRIM) l.2.1)
    let lim := if ls.any fun l => decide (16 < ((l.2.2 : Int) - 1536).natAbs) then 15
      else if trims.any fun l => decide (l.2 < 1 ∨ 62 < l.2) then 16 else 0
    let s := ls.foldl (fun (s : State) l => s.setFld (Reg.CAL_TRLAT l.1) Fld.CAL_TRLAT_LAT l.2.2) s
    if lim = 0 then (trims.foldl (fun (s : State) l => s.setFld (Reg.TRIG_CFG l.1) Fld.TRIG_CFG_TRIM l.2) s).calPass r
    else s.calFail r lim

/-! ### The calibration image -/

/-- A section header word (R140). -/
def sectionHeader (type unit phase len : Nat) : Nat := type + unit * 2 ^ 8 + phase * 2 ^ 12 + len * 2 ^ 14

/-- A section: header and payload. -/
def section_ (type unit phase : Nat) (payload : List Nat) : List Nat :=
  sectionHeader type unit phase payload.length :: payload

/-- Entries two to a word, the lower in bits [15:0] (R140). -/
def packPairs (n : Nat) (v : Nat → Nat) : List Nat := (List.range ((n + 1) / 2)).map fun i => v (2 * i) + v (2 * i + 1) * 2 ^ 16

/-- The BAD codes 16 to a word (R140). -/
def packCodes (v : Nat → Nat) : List Nat :=
  (List.range 2048).map fun m => ((List.range 16).map fun i => v (16 * m + i) * 4 ^ i).sum

/-- The sections of one pipeline (R141): its tables and the camera's identity. -/
def State.pipeSections (s : State) (p : Nat) : List Nat :=
  ((List.range 4).flatMap fun ph => section_ 1 p ph (packPairs 32768 (s.corrLive p 0 ph)))
    ++ ((List.range 4).flatMap fun ph => section_ 2 p ph (packPairs 32768 (s.corrLive p 1 ph)))
    ++ section_ 3 p 0 (packPairs 1025 fun i => if i < 1025 then s.corrLive p 2 0 i else 0)
    ++ section_ 4 p 0 (packCodes (s.corrLive p 3 0))
    ++ section_ 8 p 0 [s.num (Reg.CAM_ID0 p), s.num (Reg.CAM_ID1 p), s.num (Reg.CAM_ID2 p), s.num (Reg.CAM_CAPS0 p)]

/-- The number of lanes a type 5 section of a link holds (R145): every lane that has registers, whether it is active or not (DESIGN
CHOICE, log 134). -/
def eqLanes (m : Nat) : Nat := if m = 14 then 2 else 4

/-- The EQ and DSK words of a link, lanes in order (R140). -/
def State.eqSection (s : State) (m : Nat) : List Nat :=
  section_ 5 m 0 ((List.range (eqLanes m)).flatMap fun k =>
    [s.num (Reg.EQ_CTLE k m), s.num (Reg.EQ_DFE k m), s.num (Reg.EQ_SLICE k m), s.num (Reg.EQ_EYE k m), s.num (Reg.DSK k m)])

/-- The TRIM of the 16 outputs, 4 to a word (R140). -/
def State.trimSection (s : State) : List Nat :=
  section_ 6 0 0 ((List.range 4).map fun i =>
    ((List.range 4).map fun b => s.fld (Reg.TRIG_CFG (4 * i + b)) Fld.TRIG_CFG_TRIM * 256 ^ b).sum)

/-- The training values in force, as a type 7 section while the controller is READY (R141). -/
def State.trainSection (s : State) : List Nat :=
  if s.fld Reg.MEMC_STATUS Fld.MEMC_STATUS_STATE = 2 then section_ 7 0 0 (s.training.map BitVec.toNat) else []

/-- The image of the values in force (R140, R141): header, sections, CRC. -/
def State.calImage (s : State) : List Nat :=
  let body := ((List.range 12).filter fun p => s.handshakes.contains p).flatMap s.pipeSections
    ++ ((List.range 15).filter fun m => (List.range (eqLanes m)).any fun k => s.flag (Reg.EQ_CTLE k m) Fld.EQ_CTLE_EQ_VALID).flatMap
        s.eqSection
    ++ s.trimSection ++ s.trainSection
  let words := [1, s.fld Reg.SYS_NODE Fld.SYS_NODE_NODE_ID + 0xB0 * 2 ^ 16, body.length + 4] ++ body
  words ++ [crc32 (byteBits (words.flatMap (leBytes 4)))]

/-- The SRAM offset of page 5, where the image lives (R140). -/
def imageBase : Nat := 0x2800000

/-- SNAP completes (R141): the image is in page 5 and its length in CAL_IMGLEN. -/
def State.snapDone (s : State) : State :=
  let words := s.calImage
  let s := { s with sram := writeBytes s.sram imageBase (words.flatMap (leBytes 4)), imgOp := none }
  let s := s.setNum Reg.CAL_IMGLEN (4 * words.length)
  (s.setFld Reg.CAL_IMGCTL Fld.CAL_IMGCTL_BUSY 0).setFld Reg.CAL_IMGCTL Fld.CAL_IMGCTL_RESULT 0

/-- SNAP or APPLY is written (R141, R142): refused while BUSY, and with RESULT = STATE in a state that does not allow it. -/
def State.imageStart (s : State) (apply : Bool) : State :=
  if s.flag Reg.CAL_IMGCTL Fld.CAL_IMGCTL_BUSY then s
  else if (if apply then s.mode == .poised || s.mode == .halted else s.mode.active) then
    { s.setFld Reg.CAL_IMGCTL Fld.CAL_IMGCTL_BUSY 1 with imgOp := some apply }
  else s.setFld Reg.CAL_IMGCTL Fld.CAL_IMGCTL_RESULT 6

/-- Sections of an image body: type, unit, phase, payload; a section that runs past the end ends the list. -/
def sections (fuel : Nat) (ws : List Nat) : List (Nat × Nat × Nat × List Nat) :=
  match fuel, ws with
  | 0, _ => []
  | _, [] => []
  | n + 1, h :: r =>
    let len := h / 2 ^ 14
    if r.length < len then []
    else (h % 256, h / 256 % 16, h / 4096 % 4, r.take len) :: sections n (r.drop len)

/-- The entries of a table section, as (key, value) pairs (R140). -/
def tableEntries (type phase : Nat) (ws : List Nat) : List (Nat × Nat) :=
  if type = 4 then ws.zipIdx.flatMap fun w => (List.range 16).map fun i => (corrKey 3 0 (16 * w.2 + i), w.1 / 4 ^ i % 4)
  else (ws.zipIdx.flatMap fun w =>
    [(corrKey (type - 1) phase (2 * w.2), w.1 % 65536), (corrKey (type - 1) phase (2 * w.2 + 1), w.1 / 65536)]).filter
      fun e => type ≠ 3 || e.1 % 2 ^ 17 ≤ 1024

/-- Does a table section pass the limits that a restored section is judged by (R139, R142)? -/
def State.tablePasses (s : State) (type unit : Nat) (es : List (Nat × Nat)) : Bool :=
  let w := s.fld (Reg.CAM_WIDTH unit) Fld.CAM_WIDTH_W
  let vals := (es.filter fun e => e.1 % 2 ^ 15 < w).map fun e => (e.1 % 2 ^ 15, e.2)
  let un := vals.filter fun e => s.corrLive unit 3 0 e.1 = 0
  if type = 1 then
    un.all (fun e => decide (e.2 ≤ s.fld Reg.CAL_LIM0 Fld.CAL_LIM0_DK_PIXMAX))
      && decide ((vals.map Prod.snd).sum ≤ s.fld Reg.CAL_LIM0 Fld.CAL_LIM0_DK_MEANMAX * w)
  else if type = 2 then
    un.all fun e => decide (s.fld Reg.CAL_LIM1 Fld.CAL_LIM1_GMIN ≤ e.2 ∧ e.2 ≤ s.fld Reg.CAL_LIM1 Fld.CAL_LIM1_GMAX)
  else if type = 4 then
    decide ((vals.filter fun e => e.2 ≠ 0).length ≤ s.fld Reg.CAL_LIM2 Fld.CAL_LIM2_BPMAX)
      && decide (longestRun (vals.map Prod.snd) ≤ 8)
  else true

/-- The words of the lanes of a type 5 section whose values are valid (R140, R145). -/
def validLanes (unit : Nat) (ws : List Nat) : List (List Nat) :=
  ((List.range (min (eqLanes unit) (ws.length / 5))).map fun k => (ws.drop (5 * k)).take 5).filter fun l => bit (l.headD 0) 31

/-- Do the lanes of a type 5 section with EQ_VALID = 1 pass limits 10, 11 and 13 (R139, R142, log 135)? -/
def State.lanesPass (s : State) (unit : Nat) (ws : List Nat) : Bool :=
  let ls := validLanes unit ws
  let eye (l : List Nat) : Nat := (l[3]?).getD 0
  let ds := ls.map fun l => (l[4]?).getD 0 % 65536
  ls.all (fun l => decide (s.fld Reg.CAL_LIM2 Fld.CAL_LIM2_EYE_MIN ≤ eye l % 256 ∧ s.fld Reg.CAL_LIM2 Fld.CAL_LIM2_HEYE_MIN ≤ eye l / 256 % 256))
    && decide ((ds.foldl max 0 - ds.foldl min (ds.headD 0)) * 1000000000 ≤ 180000 * s.laneRate unit)

/-- The TRIM of output `k` in a type 6 section (R140). -/
def trimOf (ws : List Nat) (k : Nat) : Nat := (ws[k / 4]?).getD 0 / 256 ^ (k % 4) % 64

/-- Does a section pass the limits of R139 (R142), or, one of training values, name the rate in force (R435)? -/
def State.sectionPasses (s : State) (type unit phase : Nat) (ws : List Nat) : Bool :=
  if type = 5 then s.lanesPass unit ws
  else if type = 6 then (List.range 16).all fun k => decide (1 ≤ trimOf ws k ∧ trimOf ws k ≤ 62)
  else if type = 7 then match ws with
    | w :: _ => decide (w % 4 = s.fld Reg.MEMC_FREQ Fld.MEMC_FREQ_RATE)
    | [] => false
  else if type = 8 then true
  else s.tablePasses type unit (tableEntries type phase ws)

/-- Can a section be applied where it belongs (R142, R145)? EQ only to a link in DISABLED or FAILED; tables only to a shadow that is
neither sealed nor the target of a run (log 136). -/
def State.sectionFits (s : State) (type unit : Nat) : Bool :=
  if type = 5 then decide (unit < 15) && (s.lstate unit = 0 || s.lstate unit = 6)
  else if type = 6 ∨ type = 7 then true
  else decide (unit < 12) && (type = 8 || !(s.flag (Reg.CORR_STATUS unit) Fld.CORR_STATUS_SEALED
    || s.flag (Reg.CORR_STATUS unit) Fld.CORR_STATUS_CALBUSY))

/-- SKIPPED of CAL_IMGCTL counts a section that is not applied (R140, R142, R144). -/
def State.countSkip (s : State) : State :=
  s.setFld Reg.CAL_IMGCTL Fld.CAL_IMGCTL_SKIPPED (min 255 (s.fld Reg.CAL_IMGCTL Fld.CAL_IMGCTL_SKIPPED + 1))

/-- A section that fails: SKIPPED and a Notice (R142). -/
def State.skipSection (s : State) (i : Nat) : State := s.countSkip.notice 0x0402 (sourceOf Reg.CAL_CMD) i

/-- What a section holds goes where it belongs (R142, R143): tables to the shadow, EQ, DSK and TRIM at once, training values to wait for
the next training (R435), a camera's identity to wait for its HELLO. -/
def State.applyPayload (s : State) (type unit phase : Nat) (ws : List Nat) : State :=
  if type = 5 then
    (List.range (min (eqLanes unit) (ws.length / 5))).foldl (fun (s : State) k =>
      let g (o : Nat) : Nat := (ws[5 * k + o]?).getD 0
      let s := (s.setNum (Reg.EQ_CTLE k unit) (g 0)).setNum (Reg.EQ_DFE k unit) (g 1)
      let s := (s.setNum (Reg.EQ_SLICE k unit) (g 2)).setNum (Reg.EQ_EYE k unit) (g 3)
      s.setNum (Reg.DSK k unit) (g 4)) s
  else if type = 6 then
    (List.range 16).foldl (fun (s : State) k => s.setFld (Reg.TRIG_CFG k) Fld.TRIG_CFG_TRIM (trimOf ws k)) s
  else if type = 7 then
    { s.setFld Reg.MEMC_STATUS Fld.MEMC_STATUS_IMGPEND 1 with trainPending := ws.map (BitVec.ofNat 32) }
  else if type = 8 then s.setCorr unit { s.corrOf unit with identity := some (ws.map (BitVec.ofNat 32)) }
  else (tableEntries type phase ws).foldl (fun (s : State) v => s.corrWrite unit v.1 v.2) s

/-- Apply one section, and add the pipeline whose tables it restored to the list (R142). A section of a TYPE that is not used is skipped
without a Notice (R140). -/
def State.applySection (i : Nat) (x : State × List Nat) (e : Nat × Nat × Nat × List Nat) : State × List Nat :=
  let (s, ps) := x
  let (type, unit, phase, ws) := e
  if type = 0 ∨ 8 < type then (s.countSkip, ps)
  else if s.sectionFits type unit && s.sectionPasses type unit phase ws then
    (s.applyPayload type unit phase ws, if type ≤ 4 ∧ !ps.contains unit then unit :: ps else ps)
  else (s.skipSection i, ps)

/-- After the sections (R143): a pipeline whose tables have been restored is sealed now, or held pending its port's HELLO where the image
holds its identity. -/
def State.sealRestored (ids : List Nat) (s : State) (p : Nat) : State :=
  if ids.contains p then s.setFld (Reg.CORR_STATUS p) Fld.CORR_STATUS_PENDING 1 else s.corrSealGroup [p]

/-- The check that refuses a whole image, as RESULT names it, 0 where none does (R142, R144). Where several fail, the first of LENGTH, CRC,
FORMAT, NODE and STEPPING is reported; a length that leaves no room for header and CRC is a failing LENGTH (DESIGN CHOICE, log 137). -/
def State.calImageFault (s : State) (word : Nat → Nat) : Nat :=
  let len := word 2
  if 0x200000 < len ∨ len < 4 then 5
  else if crc32 (byteBits (((List.range (len - 1)).map word).flatMap (leBytes 4))) ≠ word (len - 1) then 1
  else if word 0 % 65536 ≠ 1 then 2
  else if word 1 % 2 ^ 14 ≠ s.fld Reg.SYS_NODE Fld.SYS_NODE_NODE_ID then 3
  else if word 1 / 2 ^ 16 % 256 ≠ 0xB0 then 4 else 0

/-- The sections of an accepted image are applied in order, and the tables that they restored are sealed or held (R142, R143). -/
def State.applySections (s : State) (ss : List (Nat × Nat × Nat × List Nat)) : State :=
  let (s, ps) := ss.zipIdx.foldl (fun x e => State.applySection e.2 x e.1) (s, [])
  let ids := (ss.filter fun e => decide (e.1 = 8)).map fun e => e.2.1
  ps.foldl (State.sealRestored ids) s

/-- APPLY completes (R142): the whole image refused by its first failing check, or its sections applied in order. -/
def State.applyDone (s : State) : State :=
  let word (i : Nat) : Nat := ofLeBytes (readBytes s.sram (imageBase + 4 * i) 4)
  let s := s.setFld Reg.CAL_IMGCTL Fld.CAL_IMGCTL_SKIPPED 0
  let fault := s.calImageFault word
  let s := if fault = 0 then
    let n := word 2 - 4
    s.applySections (sections n ((List.range n).map fun i => word (3 + i))) else s
  { (s.setFld Reg.CAL_IMGCTL Fld.CAL_IMGCTL_BUSY 0).setFld Reg.CAL_IMGCTL Fld.CAL_IMGCTL_RESULT fault with imgOp := none }

/-- A port's HELLO decides on tables held pending (R143): equal identity seals them, another discards them and clears the port's
restored EQ_VALID. -/
def State.helloRestored (s : State) (n : Nat) : State :=
  if s.flag (Reg.CORR_STATUS n) Fld.CORR_STATUS_PENDING then
    let same := match (s.corrOf n).identity with
      | some (a :: b :: c :: _) => decide (a = s.reg (Reg.CAM_ID0 n)) && decide (b = s.reg (Reg.CAM_ID1 n))
          && decide (c = s.reg (Reg.CAM_ID2 n))
      | _ => false
    let s := s.setFld (Reg.CORR_STATUS n) Fld.CORR_STATUS_PENDING 0
    if same then (s.setCorr n { s.corrOf n with identity := none }).corrSealGroup [n]
    else
      let s := s.corrDiscard n
      let s := (List.range 4).foldl (fun (s : State) k => s.setFld (Reg.EQ_CTLE k n) Fld.EQ_CTLE_EQ_VALID 0) s
      s.notice 0x0302 (sourceOf (Reg.CORR_CTRL n)) n
  else s

end Sys2Proof.Machine
end

