-- ==== Sys2Proof/Machine/Stitch.lean ====
section
/-! DEFINITION. The stitch engine (06_stitching.md): line stores, remap with blending, territories and halos, seam frames. -/

namespace Sys2Proof.Machine

/-! ### Line stores -/

/-- MD delay of a camera (R149). -/
def State.mdDelay (s : State) (n : Nat) : Int :=
  0 - Int.fdiv (0 - ((s.offsetOf 12 - s.offsetOf n + 1) * (s.num Reg.TRG_PITCH_DEN : Int))) (s.num Reg.TRG_PITCH_NUM) - 1

/-- STITCH_MDDLY of every bound camera when a collection becomes live (R149). -/
def State.setDelays (s : State) : State :=
  (List.range 12).foldl (fun (s : State) n =>
    if s.camBound n then
      let d := (s.mdDelay n).toNat
      s.setNum (Reg.STITCH_MDDLY n) (d % 65536 + b2n (decide (16 ≤ d)) * 2 ^ 16)
    else s.setNum (Reg.STITCH_MDDLY n) 0) s

/-- The slot of a line in a camera's store (R150, R151). -/
def State.lineSlot (s : State) (n : Nat) (j : Int) : Nat :=
  (j % ((s.fld (Reg.STITCH_MDDLY n) Fld.STITCH_MDDLY_D + 1 : Nat) : Int)).toNat

/-- The lines a camera's store holds. -/
def State.lineStore (s : State) (n : Nat) : Store (Option HeldLine) := Store.get (fun _ => []) n s.stitch.lines

/-- The bytes of 16-bit pixels. -/
def pixelBytes (px : List Nat) : List Byte := px.flatMap (leBytes 2)

/-- A camera line becomes the line held in its slot (R151); a deep camera's also stands in its ring in GDDR6 (R150). -/
def State.holdLine (s : State) (n : Nat) (h : HeldLine) : State :=
  let i := s.lineSlot n h.line
  let st := Store.set (fun _ => none) i (some h) (s.lineStore n)
  let s := { s with stitch := { s.stitch with lines := Store.set (fun _ => []) n st s.stitch.lines } }
  if s.flag (Reg.STITCH_MDDLY n) Fld.STITCH_MDDLY_DEEP then
    let base := s.get64 (Reg.STITCH_DDBASE_LO n) + i * 2 * s.fld (Reg.CAM_WIDTH n) Fld.CAM_WIDTH_W
    { s with ram := writeBytes s.ram base (pixelBytes h.pixels) }
  else s

/-- The line content of an outcome (R83, R84): the pixels received, then fill, to W columns. -/
def lineContent (w : Window) (o : Nat) : List Nat :=
  if o = 4 ∨ o = 8 then List.replicate w.width w.fill
  else (w.pixels.take w.width) ++ List.replicate (w.width - w.pixels.length) w.fill

/-- The fill line that stands for a camera's missing line (R151): flagged LATE, and without a shelfmark, since no camera line is there. -/
def State.fillLine (s : State) (n : Nat) (j : Int) : HeldLine :=
  ⟨j, 4, List.replicate (s.fld (Reg.CAM_WIDTH n) Fld.CAM_WIDTH_W) (s.fld (Reg.CAM_FILL n) Fld.CAM_FILL_FILL), []⟩

/-- The source row of a camera for stitched line `j` (R147, R151): the held line, or a fill line flagged LATE and counted in
STITCH_MISS. -/
def State.sourceRow (s : State) (n : Nat) (j : Int) : HeldLine × Nat :=
  if s.camBound n then
    match Store.get (fun _ => none) (s.lineSlot n j) (s.lineStore n) with
    | some h => if h.line = j then (h, 0) else (s.fillLine n j, 1)
    | none => (s.fillLine n j, 1)
  else (⟨j, 0, [], []⟩, 0)

/-! ### Remap -/

/-- The reset value of a remap entry (R156). -/
def rmpInit (_ : Nat) : Word := 0x07800000

/-- A live entry of the remap table (0) or the secondary table (1). -/
def State.rmpLive (s : State) (tsel i : Nat) : Word := Store.get rmpInit (tsel * 2 ^ 19 + i) s.stitch.live

/-- Divide by 2048, halves away from zero (R153). -/
def roundWeight (n : Int) : Int := if 0 ≤ n then Int.fdiv (2 * n + 2048) 4096 else 0 - Int.fdiv (2048 - 2 * n) 4096

/-- A column of a source row; outside it, the nearest inside (R153). -/
def tapAt (row : List Nat) (c : Int) : Int :=
  ((row[(max 0 (min ((row.length : Int) - 1) c)).toNat]?).getD 0 : Nat)

/-- A source sampled at column `c` and fraction `f`, and the clamps made (R153). -/
def sampleAt (cubic : Bool) (row : List Nat) (c f : Nat) : Nat × Nat :=
  let p (d : Int) : Int := tapAt row (c + d)
  if cubic then
    let g : Int := f
    let wm1 := roundWeight (0 - g * g * g + 512 * (g * g) - 65536 * g)
    let w1 := roundWeight (0 - 3 * (g * g * g) + 1024 * (g * g) + 65536 * g)
    let w2 := roundWeight (g * g * g - 256 * (g * g))
    let w0 := 16384 - (wm1 + w1 + w2)
    let v := Int.fdiv (wm1 * p (-1) + w0 * p 0 + w1 * p 1 + w2 * p 2 + 8192) 16384
    ((max 0 (min 65535 v)).toNat, b2n (decide (v < 0 ∨ 65535 < v)))
  else ((Int.fdiv (p 0 * (256 - f) + p 1 * f + 128) 256).toNat, 0)

/-- The expected length of an export, in pixels (R166): XLEN of the side. DEDUCED, log 72. -/
def State.xlen (s : State) (side : Nat) : Nat := s.fld (Reg.SEAM_XCFG (side - 12)) Fld.SEAM_XCFG_XLEN

/-- The received row of a side for a line: the export, or the halo. -/
def State.seamRow (s : State) (side : Nat) (halo : Bool) (j : Int) : Option SeamRow :=
  s.stitch.frames.find? fun r => decide (r.side = side) && r.halo == halo && decide (r.line = j)

/-- The source row an entry names (R152, R153); none for a bad reference by source or column (R154). -/
def State.refRow (s : State) (o : OpenLine) (e : Word) : Option (List Nat) :=
  let src := e.toNat / 2 ^ 23 % 16
  let scol := e.toNat / 2 ^ 8 % 2 ^ 15
  if src < 12 then
    if s.camBound src then
      let row := ((o.rows[src]?).map HeldLine.pixels).getD []
      if scol < row.length then some row else none
    else none
  else if src < 14 then
    if s.flag (Reg.CAM_CTRL src) Fld.CAM_CTRL_EN then
      let row := (((s.seamRow src false o.line).map SeamRow.pixels).getD []).take (s.xlen src)
      if scol < row.length then some row else none
    else none
  else none

/-- Does an entry name STITCH_FILL (SRC 14 and 15, R152)? -/
def isFill (e : Word) : Bool := decide (14 ≤ e.toNat / 2 ^ 23 % 16)

/-- What a column of the stitched line is, with its bad references and clamps. -/
structure Column where
  value : Nat
  bad : Nat
  clamps : Nat
  deriving DecidableEq, Repr

/-- One reference sampled: its value (STITCH_FILL where bad), whether it is bad, and its clamps. -/
def State.sampleRef (s : State) (o : OpenLine) (e : Word) : Nat × Bool × Nat :=
  let fill := s.fld Reg.STITCH_FILL Fld.STITCH_FILL_FILL
  if isFill e then (fill, false, 0)
  else match s.refRow o e with
    | some row =>
      let v := sampleAt (s.flag Reg.STITCH_CTRL Fld.STITCH_CTRL_INTERP) row (e.toNat / 2 ^ 8 % 2 ^ 15) (e.toNat % 256)
      (v.1, false, v.2)
    | none => (fill, true, 0)

/-- LEN of a boundary; above 256 it is disabled (R155, R568). -/
def State.bndLen (s : State) (b : Nat) : Nat :=
  let l := s.fld (Reg.BND_CFG b) Fld.BND_CFG_LEN
  if 256 < l then 0 else l

/-- The column `k` of the stitched line (R152 to R155). -/
def State.column (s : State) (o : OpenLine) (k : Nat) : Column :=
  let fill := s.fld Reg.STITCH_FILL Fld.STITCH_FILL_FILL
  if !s.flag Reg.STITCH_CTRL Fld.STITCH_CTRL_EN then ⟨fill, 0, 0⟩
  else
    let e := s.rmpLive 0 k
    let (a, badA, clA) := s.sampleRef o e
    let b := e.toNat / 2 ^ 28
    if bit e.toNat 27 && decide (b < 14) then
      let i : Int := (k : Int) - signed 20 (s.num (Reg.BND_START b))
      let len := s.bndLen b
      if 0 < len ∧ 0 ≤ i ∧ i < len then
        let (c, badC, clC) := s.sampleRef o (s.rmpLive 1 (b * 256 + i.toNat))
        let n := b2n badA + b2n badC
        if badA then ⟨fill, n, clA + clC⟩
        else if badC then ⟨a, n, clA + clC⟩
        else ⟨(Int.fdiv ((a : Int) * (2 * len - 2 * i - 1) + c * (2 * i + 1) + len) (2 * len)).toNat, n, clA + clC⟩
      else ⟨fill, 1, clA⟩
    else ⟨a, b2n badA, clA⟩

/-- The columns `from_` to `from_ + n - 1` of the stitched line. -/
def State.columns (s : State) (o : OpenLine) (from_ n : Nat) : List Column :=
  (List.range n).map fun i => s.column o (from_ + i)

/-- The bad references and the clamps of the columns of the open line are counted, once each (R153, R154, log 52). -/
def State.countColumns (s : State) (ws : Nat) : State :=
  match s.stitch.cur with
  | none => s
  | some o =>
    let cs := s.columns o 0 ws
    (s.bumpBy Reg.STITCH_BADREF (cs.map Column.bad).sum).bumpBy Reg.STITCH_CLAMP (cs.map Column.clamps).sum

/-! ### Territories, halos and frames -/

/-- The stitched width in force. -/
def State.ws (s : State) : Nat := s.fld Reg.STITCH_WIDTH Fld.STITCH_WIDTH_WS

/-- HALO in force. -/
def State.halo (s : State) : Nat := s.fld Reg.STITCH_CTRL Fld.STITCH_CTRL_HALO

/-- The column of the stitched line or of a halo beyond its edge (R158). -/
def State.haloColumn (s : State) (o : OpenLine) (k : Int) : Nat :=
  let beyond (side : Nat) (edge : Bool) (idx : Nat) (outer : Nat) : Nat :=
    if s.flag (Reg.CAM_CTRL side) Fld.CAM_CTRL_EN then
      ((s.seamRow side true o.line).bind fun r => r.pixels[idx]?).getD (s.fld Reg.STITCH_FILL Fld.STITCH_FILL_FILL)
    else if edge then s.fld Reg.STITCH_FILL Fld.STITCH_FILL_FILL else (s.column o outer).value
  if k < 0 then beyond 12 (s.flag Reg.STITCH_CTRL Fld.STITCH_CTRL_EDGEW) (s.halo + k).toNat 0
  else if (s.ws : Int) ≤ k then
    beyond 13 (s.flag Reg.STITCH_CTRL Fld.STITCH_CTRL_EDGEE) (k - s.ws).toNat (s.ws - 1)
  else (s.column o k.toNat).value

/-- The territory of a pipeline with its halos (R157, R158). -/
def State.territory (s : State) (o : OpenLine) (p : Nat) : List Nat :=
  let start : Int := s.num (Reg.TERR_START p)
  let n := s.num (Reg.TERR_LEN p)
  (List.range (n + 2 * s.halo)).map fun (i : Nat) => s.haloColumn o (start - (s.halo : Int) + (i : Int))

/-- Is a side of a column's primary source, or, inside the span of a boundary that is enabled, of its secondary source (R155, R159)? With
STITCH_CTRL.EN = 0 every column is fill. -/
def State.usesSide (s : State) (side k : Nat) : Bool :=
  let e := s.rmpLive 0 k
  let b := e.toNat / 2 ^ 28
  let i : Int := (k : Int) - signed 20 (s.num (Reg.BND_START b))
  s.flag Reg.STITCH_CTRL Fld.STITCH_CTRL_EN && (decide (e.toNat / 2 ^ 23 % 16 = side) ||
    (bit e.toNat 27 && decide (b < 14 ∧ 0 ≤ i ∧ i < s.bndLen b) && decide ((s.rmpLive 1 (b * 256 + i.toNat)).toNat / 2 ^ 23 % 16 = side)))

/-- The columns that the H-frame to a side carries (R165): SEAMW the first HALO, SEAME the last. -/
def State.haloCols (s : State) (side : Nat) : List Nat :=
  (List.range s.halo).map fun i => if side = 12 then i else s.ws - s.halo + i

/-- Pixels four to a block, the lowest column in bits [15:0] (R165). -/
def packBlocks (px : List Nat) : List (BitVec 64) :=
  (List.range ((px.length + 3) / 4)).map fun i =>
    BitVec.ofNat 64 (((List.range 4).map fun j => ((px[4 * i + j]?).getD 0) * 65536 ^ j).sum)

/-- The pixels of blocks. -/
def unpackBlocks (bs : List (BitVec 64)) : List Nat := bs.flatMap fun b => (List.range 4).map fun j => b.toNat / 65536 ^ j % 65536

/-- The outcome flags of the twelve cameras as block 1 of an H-frame (R165). -/
def flagWord (rows : List HeldLine) : Nat := ((rows.take 12).zipIdx.map fun r => r.1.flags * 16 ^ r.2).sum

/-- Send the H-frames that are still owed and whose columns no longer wait for an export; one from a disabled link is a bad reference, and not
waited for (R154, R165, R166). -/
def State.sendHalos (s : State) : State :=
  match s.stitch.cur with
  | none => s
  | some o =>
    let ready (side : Nat) : Bool := (s.haloCols side).all fun k =>
      [12, 13].all fun x => !s.flag (Reg.CAM_CTRL x) Fld.CAM_CTRL_EN || !s.usesSide x k || (s.seamRow x false o.line).isSome
    let now_ := o.owed.filter ready
    let s := now_.foldl (fun (s : State) side =>
      let px := (s.haloCols side).map fun k => (s.column o k).value
      s.sendSeam side 1 0 false o.line
        (BitVec.ofInt 64 o.line :: BitVec.ofNat 64 (flagWord o.rows) :: packBlocks px)) s
    { s with stitch := { s.stitch with cur := some { o with owed := o.owed.filter fun x => !ready x } } }

/-- The sides whose links are bound (R80): enabled. -/
def State.seamSides (s : State) : List Nat := [12, 13].filter fun m => s.flag (Reg.CAM_CTRL m) Fld.CAM_CTRL_EN

/-- S_j comes (R151, R167): the source rows are taken from the line stores, exports leave, and halos that need no export. -/
def State.openLine (s : State) (j : Int) : State :=
  let rows := (List.range 12).map fun n => s.sourceRow n j
  let s := s.bumpBy Reg.STITCH_MISS ((rows.map Prod.snd).sum)
  let o : OpenLine := ⟨j, rows.map Prod.fst, s.seamSides⟩
  let s := { s with stitch := { s.stitch with cur := some o } }
  let s := s.seamSides.foldl (fun (s : State) m =>
    let len := s.xlen m
    if len = 0 then s else
      let row := ((o.rows[s.fld (Reg.SEAM_XCFG (m - 12)) Fld.SEAM_XCFG_XCAM]?).map HeldLine.pixels).getD []
      s.sendSeam m 0 0 false j (packBlocks ((row.drop (s.num (Reg.SEAM_XSTART (m - 12)))).take len))) s
  s.sendHalos

/-- Is a copy of a frame valid for line `j` (R166)? -/
def frameOk (f : SeamFrame) (j : Int) : Bool :=
  decide (crc32 (f.blocks.flatMap fun b => bitsOf 64 b.toNat) = f.crc) && decide (f.nblk = f.blocks.length)
    && decide (f.line = unsignedOf 32 j)

/-- A copy of a frame that fails (R166). -/
def State.copyError (s : State) (side : Nat) : State := (s.bump (Reg.SEAM_CNT (side - 12) 1)).linkEvent side 3

/-- The line that frames of a slot name: that of the open stitched line, or of the oldest slot not yet open. -/
def State.frameLine (s : State) : Option Int :=
  match s.stitch.cur with
  | some o => some o.line
  | none => (s.slots.head?).map Slot.line

/-- A copy of an export or halo frame (R165, R166): the first valid copy of the expected line and length is used. -/
def State.takeFrame (s : State) (side : Nat) (halo : Bool) (f : SeamFrame) : State :=
  match s.frameLine with
  | none => s.copyError side
  | some j =>
    let blocks := if halo then f.blocks.drop 2 else f.blocks
    let whole := if halo then decide (f.nblk = 2 + (s.halo + 3) / 4) && decide ((f.blocks.headD 0).toNat = unsignedOf 64 j)
      else decide (s.xlen side ≠ 0) && decide (f.nblk = (s.xlen side + 3) / 4)
    if frameOk f j && whole then
      if (s.seamRow side halo j).isSome then s
      else
        let flags := if halo then ((f.blocks.drop 1).headD 0).toNat else 0
        let r : SeamRow := ⟨side, halo, j, flags, unpackBlocks blocks⟩
        let s := { s with stitch := { s.stitch with frames := s.stitch.frames ++ [r] } }
        (s.bump (Reg.SEAM_CNT (side - 12) 0)).sendHalos
    else s.copyError side

/-- A frame is lost (R168). -/
def State.frameLost (s : State) (side : Nat) (j : Int) : State :=
  ((s.bump (Reg.SEAM_CNT (side - 12) 2)).linkEvent side 4).breach 7 side (some j)

/-! ### The remap table port -/

/-- The last index of a remap table (R156). -/
def State.rmpLast (s : State) : Nat := if s.flag Reg.RMP_TCTL Fld.RMP_TCTL_TSEL then 3583 else s.ws - 1

/-- Step RMP_TIDX (R156, R128). -/
def State.rmpStepIdx (s : State) : State :=
  let i := s.fld Reg.RMP_TIDX Fld.RMP_TIDX_IDX
  if s.flag Reg.RMP_TCTL Fld.RMP_TCTL_AUTOINC then
    s.setFld Reg.RMP_TIDX Fld.RMP_TIDX_IDX (if i < s.rmpLast then i + 1 else 0)
  else s

/-- Reject a table access: STITCH_TWREJ and a Notice. -/
def State.rmpReject (s : State) (code a : Nat) : State := (s.bump Reg.STITCH_TWREJ).notice code (sourceOf Reg.STITCH_CTRL) a

/-- The key of the entry that RMP_TIDX names. -/
def State.rmpKey (s : State) : Nat :=
  s.fld Reg.RMP_TCTL Fld.RMP_TCTL_TSEL * 2 ^ 19 + s.fld Reg.RMP_TIDX Fld.RMP_TIDX_IDX

/-- A write of RMP_TDATA (R156). -/
def State.rmpDataWrite (s : State) (v : Word) : State :=
  let k := s.rmpKey
  let s := if s.flag Reg.RMP_TCTL Fld.RMP_TCTL_SEALED || s.joinActive
      || decide (s.rmpLast < s.fld Reg.RMP_TIDX Fld.RMP_TIDX_IDX) then s.rmpReject 0x0104 Reg.RMP_TDATA
    else
      let s := { s with stitch := { s.stitch with
        shadow := Store.set rmpInit k v s.stitch.shadow, marks := Store.set (fun _ => false) k true s.stitch.marks } }
      s.setFld Reg.RMP_TCTL Fld.RMP_TCTL_DIRTY 1
  s.rmpStepIdx

/-- A read of RMP_TDATA (R156). -/
def State.rmpDataRead (s : State) : Word × State :=
  (if s.rmpLast < s.fld Reg.RMP_TIDX Fld.RMP_TIDX_IDX then 0 else Store.get rmpInit s.rmpKey s.stitch.live, s.rmpStepIdx)

/-- SEAL and DISCARD of RMP_TCTL (R156). The seal waits for a copy in progress; ATEN and RMP_AT are taken at the seal. -/
def State.rmpControl (s : State) (sl discard : Bool) : State :=
  let sealedNow := s.flag Reg.RMP_TCTL Fld.RMP_TCTL_SEALED
  let at_ := s.getS64 Reg.RMP_AT_LO
  let aten := s.flag Reg.RMP_TCTL Fld.RMP_TCTL_ATEN
  if sl && discard then s.rmpReject 0x0104 Reg.RMP_TCTL
  else if (sl || discard) && (sealedNow || s.joinActive) then s.rmpReject 0x0104 Reg.RMP_TCTL
  else if sl then
    if aten && s.refCame at_ then s.rmpReject 0x0105 Reg.RMP_TCTL
    else
      let s := s.setFld Reg.RMP_TCTL Fld.RMP_TCTL_SEALED 1
      { s with stitch := { s.stitch with
          due := none, atLine := if aten then some at_ else none, sealWait := s.flag Reg.RMP_TCTL Fld.RMP_TCTL_COPYING } }
  else if discard then
    { s.setFld Reg.RMP_TCTL Fld.RMP_TCTL_DIRTY 0 with stitch := { s.stitch with shadow := s.stitch.live, marks := [] } }
  else s

/-- The remap tables change banks (R156, R130); lines triggered before keep the old tables. -/
def State.rmpBankChange (s : State) : State :=
  let s := { s with stitch := { s.stitch with
    live := s.stitch.shadow, shadow := s.stitch.live, old := s.stitch.live, marks := [], atLine := none, sealWait := false, due := none } }
  let c := Reg.RMP_TCTL
  let s := s.setFld c Fld.RMP_TCTL_BANK (1 - s.fld c Fld.RMP_TCTL_BANK)
  let s := (s.setFld c Fld.RMP_TCTL_SEALED 0).setFld c Fld.RMP_TCTL_DIRTY 0
  s.setFld c Fld.RMP_TCTL_COPYING 1

/-- The copy after a remap bank change ends (R130, R156). -/
def State.rmpCopyDone (s : State) : State :=
  let h := s.stitch
  let kept := h.marks.foldl (fun m e => Store.set rmpInit e.1 (Store.get rmpInit e.1 h.shadow) m) h.live
  { s.setFld Reg.RMP_TCTL Fld.RMP_TCTL_COPYING 0 with stitch := { h with shadow := kept, sealWait := false } }

end Sys2Proof.Machine
end

