-- ==== Sys2Proof/Machine/Folio.lean ====
section
/-! DEFINITION. The folio engines (07_folio_engines.md, 08_folio_instructions.md): geometry, line store, the four slots of a
bundle and what each operation computes, a bundle (every source read before, every result written after it, R203), and
a line of a folio. -/

namespace Sys2Proof.Machine

/-! ### Engine, geometry and line store -/

/-- An engine before any collection (R182, R199). -/
def folio0 (_ : Nat) : FolioHid := ⟨[], [], [], [], [], 0, 0, [], [], false, false⟩

/-- Engine `e`. -/
def State.engine (s : State) (e : Nat) : FolioHid := Store.get folio0 e s.folio

/-- Store engine `e`. -/
def State.setEngine (s : State) (e : Nat) (h : FolioHid) : State := { s with folio := Store.set folio0 e h s.folio }

/-- TERR_LEN of an engine: a reading pipeline's is RP_TLEN (R172, R348). -/
def State.terrLen (s : State) (e : Nat) : Nat := if e < 12 then s.num (Reg.TERR_LEN e) else s.num (Reg.RP_TLEN (e - 12))

/-- HALO of an engine; a reading pipeline's is RP_HALO. -/
def State.engineHalo (s : State) (e : Nat) : Nat := if e < 12 then s.halo else s.num (Reg.RP_HALO (e - 12))

/-- The sweep width WW (R173). -/
def State.sweepWidth (s : State) (e : Nat) : Nat := s.terrLen e + 2 * s.engineHalo e

/-- The column groups G (R173). -/
def State.groups (s : State) (e : Nat) : Nat := (s.sweepWidth e + 31) / 32

/-- A field of FOLIO_GEOM. -/
def State.geom (s : State) (e : Nat) (b : Bits) : Nat := s.fld (Reg.FOLIO_GEOM e) b

/-- L_c in force (R189). -/
def State.lag (s : State) (e : Nat) : Nat := s.fld (Reg.FOLIO_STATUS e) Fld.FOLIO_STATUS_LAG

/-- NIN, the rows of the input ring (R187). -/
def State.ringRows (s : State) (e : Nat) : Nat := s.lag e + s.geom e Fld.FOLIO_GEOM_LAGF + 1

/-- The ring row of an age: the oldest filled one where none has that age yet (R191). -/
def rowOfAge (ring : List RingRow) (age : Nat) : Option RingRow :=
  match ring[age]? with
  | some r => some r
  | none => ring.getLast?

/-- A value of a row at a sweep column, the nearest inside the sweep (R174). -/
def edgeCol (ww : Nat) (x : Int) : Nat := (max 0 (min ((ww : Int) - 1) x)).toNat

/-- The value of ring row ρ at a sweep column (R187). -/
def State.ringAt (s : State) (e : Nat) (rho x : Int) : Nat :=
  match rowOfAge (s.engine e).ring ((s.lag e : Int) - rho).toNat with
  | some r => (r.cols[edgeCol (s.sweepWidth e) x]?).getD 0
  | none => 0

/-- The value of a plane slot at a sweep column (R190). -/
def State.planeAt (s : State) (e slot : Nat) (x : Int) : Nat :=
  Store.get (fun _ => 0) (slot * 2 ^ 16 + edgeCol (s.sweepWidth e) x) (s.engine e).planes

/-- Lane `i` of vector register `r`. -/
def State.vreg (s : State) (e r i : Nat) : Nat := Store.get (fun _ => 0) (32 * r + i) (s.engine e).v

/-- Scalar register `r`. -/
def State.sreg (s : State) (e r : Nat) : Nat := Store.get (fun _ => 0) r (s.engine e).sc

/-- The live bank (R196). -/
def State.folioBank (s : State) (e : Nat) : Nat := s.fld (Reg.FOLIO_STATUS e) Fld.FOLIO_STATUS_BANK

/-- A 16-bit entry of folio memory at a byte offset (R200). -/
def State.folioHalf (s : State) (e off : Nat) : Nat :=
  (Store.get (fun _ => (0 : Word)) (off / 4) (s.engine e).mem).toNat / 65536 ^ (off % 4 / 2) % 65536

/-- Entry `i` of the live table memory (R218). -/
def State.tableAt (s : State) (e i : Nat) : Nat :=
  if i < 32768 then s.folioHalf e (0x10000 + 0x10000 * s.folioBank e + 2 * i) else 0

/-- Word `a` of the live coefficient memory (R212). -/
def State.coefAt (s : State) (e a : Nat) : Nat :=
  if a < 16384 then s.folioHalf e (0x30000 + 0x8000 * s.folioBank e + 2 * a) else 0

/-- Word `w` of bundle `n` of the live program (R200, R202). -/
def State.bundleWord (s : State) (e n w : Nat) : Word :=
  Store.get (fun _ => (0 : Word)) ((0x8000 * s.folioBank e + 16 * n) / 4 + w) (s.engine e).mem

/-- The sweep column of lane `i` at stage `k` (R177). -/
def State.laneCol (s : State) (e k i : Nat) : Int := 32 * ((s.engine e).iter - k) + i

/-- Is the lane not void (R173, R177)? -/
def State.laneReal (s : State) (e k i : Nat) : Bool :=
  decide (0 ≤ s.laneCol e k i ∧ s.laneCol e k i < s.sweepWidth e)

/-- Is the lane a territory lane (R173)? -/
def State.laneTerr (s : State) (e k i : Nat) : Bool :=
  decide ((s.engineHalo e : Int) ≤ s.laneCol e k i ∧ s.laneCol e k i < s.engineHalo e + s.terrLen e)

/-! ### Results of a slot -/

/-- A result that a slot writes at the end of its bundle (R203). -/
inductive FolioWrite where
  /-- vector register `r` -/
  | vec (r : Nat) (lanes : List Nat)
  /-- scalar register `r` -/
  | scal (r v : Nat)
  /-- values of a plane slot or an output at sweep columns -/
  | cols (plane : Bool) (slot : Nat) (vals : List (Nat × Nat))
  /-- a plane index out of range (R190) -/
  | planeErr
  deriving DecidableEq, Repr

/-- The 32 lanes of a vector result. -/
def lanes32 (f : Nat → Nat) : List Nat := (List.range 32).map f

/-- The (column, value) pairs that lanes satisfying `p` store. -/
def State.colPairs (s : State) (e k : Nat) (p : Nat → Bool) (f : Nat → Nat) : List (Nat × Nat) :=
  (List.range 32).filterMap fun i => if p i then some ((s.laneCol e k i).toNat, f i) else none

/-- Store a result. -/
def State.folioWrite (e : Nat) (s : State) (w : FolioWrite) : State :=
  let h := s.engine e
  match w with
  | .vec r ls => s.setEngine e { h with v := ls.zipIdx.foldl (fun m x => Store.set (fun _ => 0) (32 * r + x.2) (x.1 % 65536) m) h.v }
  | .scal r v => s.setEngine e { h with sc := Store.set (fun _ => 0) r (v % 2 ^ 32) h.sc }
  | .cols true slot vs =>
    s.setEngine e { h with planes := vs.foldl (fun m x => Store.set (fun _ => 0) (slot * 2 ^ 16 + x.1) x.2 m) h.planes }
  | .cols false slot vs =>
    s.setEngine e { h with outs := vs.foldl (fun m x => Store.set (fun _ => 0) (slot * 2 ^ 16 + x.1) x.2 m) h.outs }
  | .planeErr => s.bump (Reg.FOLIO_PLNERR e)

/-! ### WIN slot -/

/-- A WIN instruction (R210). -/
structure WinOp where
  op : Nat
  d : Nat
  src : Nat
  slot : Nat
  str : Nat
  w : Nat
  hh : Nat
  stg : Nat
  arg : Nat
  deriving DecidableEq, Repr

/-- Decode a WIN word (R210). -/
def winOf (x : Word) : WinOp :=
  let g (lo n : Nat) : Nat := getBits x ⟨lo, n⟩
  ⟨g 0 4, g 4 4, g 8 2, g 10 4, g 14 1, g 15 3, g 18 3, g 21 2, g 23 9⟩

/-- Samples of a window, `n` of them (R210). -/
def winCount (i : WinOp) : Nat := (2 * i.w + 1) * (2 * i.hh + 1)

/-- Does the slot execute (R205, R210, R211)? -/
def winValid (i : WinOp) : Bool :=
  decide (1 ≤ i.op ∧ i.op ≤ 0xC ∧ i.src < 3) && (if i.src = 0 then decide (i.slot = 0) else decide (i.str = 0 ∧ i.hh = 0))
    && (!(i.op = 3 || i.op = 9) || decide (i.arg < 256 ∧ i.arg < winCount i))

/-- The plane slot a WIN or XFER instruction names: direct, or by a scalar, where an index of NPL or more has none (R190). -/
def State.planeIndex (s : State) (e : Nat) (byScalar : Bool) (slot : Nat) : Option Nat :=
  if byScalar then
    if s.sreg e slot < s.geom e Fld.FOLIO_GEOM_NPL then some (s.sreg e slot) else none
  else some slot

/-- The samples of a lane's window, row by row from the oldest, within a row from the west (R210). -/
def State.winSamples (s : State) (e : Nat) (i : WinOp) (lane : Nat) : List Nat :=
  let x := s.laneCol e i.stg lane
  let t : Int := if i.str = 1 then s.webPhases else 1
  (List.range (2 * i.hh + 1)).flatMap fun (m : Nat) => (List.range (2 * i.w + 1)).map fun (c : Nat) =>
    let col : Int := x - (i.w : Int) + (c : Int)
    if i.src = 0 then s.ringAt e (t * ((m : Int) - (i.hh : Int))) col
    else match s.planeIndex e (decide (i.src = 2)) i.slot with
      | some p => s.planeAt e p col
      | none => 0

/-- Read 16 bits as signed or unsigned. -/
def lane16 (sgn : Bool) (v : Nat) : Int := if sgn then signed 16 v else v % 65536

/-- The 16-bit pattern of an integer. -/
def pat16 (x : Int) : Nat := unsignedOf 16 x

/-- An integer limited to a range. -/
def clampTo (lo hi x : Int) : Int := max lo (min hi x)

/-- Put a sample in its place among rising samples. -/
def insertSample (x : Int) : List Int → List Int
  | [] => [x]
  | y :: r => if x ≤ y then x :: y :: r else y :: insertSample x r

/-- The sorted samples. -/
def sortSamples (l : List Int) : List Int := l.foldr insertSample []

/-- Least of samples, `d` of none. -/
def leastOf (d : Int) (l : List Int) : Int := l.foldl min (l.headD d)

/-- Greatest of samples, `d` of none. -/
def greatestOf (d : Int) (l : List Int) : Int := l.foldl max (l.headD d)

/-- CONV over the samples of a window (R212). -/
def State.conv (s : State) (e base : Nat) (px : List Nat) : Nat :=
  let h := s.coefAt e base
  let shift := h % 32
  let r : Int := if bit h 5 && decide (0 < shift) then 2 ^ (shift - 1) else 0
  let acc : Int := (px.zipIdx.map fun p => signed 16 (s.coefAt e (base + 1 + p.2)) * lane16 (bit h 7) p.1).sum
  let v := Int.fdiv (acc + r) (2 ^ shift)
  pat16 (if bit h 6 then clampTo (-32768) 32767 v else clampTo 0 65535 v)

/-- The samples inside a structuring element (R213). -/
def State.inElement (s : State) (e : Nat) (i : WinOp) (px : List Nat) : List Int :=
  px.zipIdx.filterMap fun p =>
    if bit (s.coefAt e (32 * i.arg + p.2 / (2 * i.w + 1))) (p.2 % (2 * i.w + 1)) then some (p.1 : Int) else none

/-- The result of a WIN operation over a window (R211 to R213). -/
def State.winResult (s : State) (e : Nat) (i : WinOp) (px : List Nat) : Nat :=
  let n : Int := px.length
  let sgn := decide (i.op = 9 ∨ i.op = 0xA ∨ i.op = 0xB ∨ i.op = 0xC)
  let ps := px.map (lane16 sgn)
  if i.op = 1 then s.conv e (32 * i.arg) px
  else if i.op = 2 ∨ i.op = 0xC then pat16 (Int.fdiv (ps.sum + Int.fdiv n 2) n)
  else if i.op = 3 ∨ i.op = 9 then pat16 (((sortSamples ps)[i.arg]?).getD 0)
  else if i.op = 4 ∨ i.op = 0xA then pat16 (leastOf 0 ps)
  else if i.op = 5 ∨ i.op = 0xB then pat16 (greatestOf 0 ps)
  else if i.op = 6 then pat16 (leastOf 0xFFFF (s.inElement e i px))
  else if i.op = 7 then pat16 (greatestOf 0 (s.inElement e i px))
  else pat16 (min 65535 (Int.fdiv (n * (ps.map fun p => p * p).sum - ps.sum * ps.sum) (n * n)))

/-- The results of the WIN slot. -/
def State.winSlot (s : State) (e : Nat) (i : WinOp) : List FolioWrite :=
  if winValid i then
    .vec i.d (lanes32 fun l => s.winResult e i (s.winSamples e i l))
      :: (if i.src = 2 && (s.planeIndex e true i.slot).isNone then [.planeErr] else [])
  else []

/-! ### ALU slot -/

/-- An ALU instruction of format R; IMM22 is format I's (R214). -/
structure AluOp where
  op : Nat
  d : Nat
  a : Nat
  b : Nat
  c : Nat
  bk : Nat
  mode : Nat
  imm : Nat
  deriving DecidableEq, Repr

/-- Decode an ALU word (R214). -/
def aluOf (x : Word) : AluOp :=
  let g (lo n : Nat) : Nat := getBits x ⟨lo, n⟩
  ⟨g 0 6, g 6 4, g 10 4, g 14 4, g 18 4, g 22 2, g 24 3, g 10 22⟩

/-- A result brought to 16 bits under MODE (R208). -/
def clampMode (mode : Nat) (x : Int) : Nat :=
  if mode = 0 then pat16 x else if mode = 1 ∨ mode = 4 then pat16 (clampTo 0 65535 x) else pat16 (clampTo (-32768) 32767 x)

/-- May the vector operation have this MODE and BK (R216)? -/
def vecAllowed (op mode bk : Nat) : Bool :=
  let m := if op = 1 ∨ op = 2 ∨ op = 3 then decide (mode ≤ 4)
    else if op = 5 ∨ op = 6 ∨ (0x10 ≤ op ∧ op ≤ 0x15) then decide (mode = 0 ∨ mode = 2)
    else if op = 7 ∨ op = 0xA then decide (mode ≤ 2) else decide (mode = 0)
  let k := if op = 3 ∨ op = 0x16 then decide (bk ≤ 1) else if op = 4 then decide (bk = 0) else decide (bk ≤ 2)
  m && k

/-- One lane of a vector operation (R216): patterns of A and B, and of V[C] for SEL. -/
def vecLane (op mode c : Nat) (a b vc : Nat) : Nat :=
  let x := lane16 (decide (mode = 2)) a
  let y := lane16 (decide (mode = 2 ∨ mode = 4)) b
  let cl := clampMode mode
  if op = 0x01 then cl (x + y)
  else if op = 0x02 then cl (x - y)
  else if op = 0x03 then cl (Int.fdiv (x * y + (if c = 0 then 0 else 2 ^ (c - 1))) (2 ^ c))
  else if op = 0x04 then (signed 16 a).natAbs
  else if op = 0x05 then pat16 (min x y)
  else if op = 0x06 then pat16 (max x y)
  else if op = 0x07 then cl (Int.fdiv (x + y + 1) 2)
  else if op = 0x08 then a / 2 ^ b
  else if op = 0x09 then pat16 (Int.fdiv (signed 16 a) (2 ^ b))
  else if op = 0x0A then cl (x * 2 ^ b)
  else if op = 0x0B then Nat.land a b
  else if op = 0x0C then Nat.lor a b
  else if op = 0x0D then Nat.xor a b
  else if op = 0x0E then Nat.land a (65535 - b)
  else if op = 0x0F then b
  else if op = 0x10 then b2n (decide (x = y))
  else if op = 0x11 then b2n (decide (x ≠ y))
  else if op = 0x12 then b2n (decide (x < y))
  else if op = 0x13 then b2n (decide (x ≤ y))
  else if op = 0x14 then b2n (decide (y < x))
  else if op = 0x15 then b2n (decide (y ≤ x))
  else if vc = 0 then b else a

/-- IMM8 sign-extended to `n` bits (R215). -/
def imm8 (n b c : Nat) : Nat := unsignedOf n (signed 8 (b + 16 * c))

/-- The B pattern of a vector operation in a lane (R214, R215). -/
def State.vecB (s : State) (e : Nat) (i : AluOp) (l : Nat) : Nat :=
  if i.bk = 0 then s.vreg e i.b l else if i.bk = 1 then s.sreg e i.b % 65536 else imm8 16 i.b i.c

/-- A scalar read under the scalar MODE (R208). -/
def scalarAs (mode v : Nat) : Int := if mode = 2 then signed 32 v else v % 2 ^ 32

/-- A scalar result brought to 32 bits (R208). -/
def clampScalar (mode : Nat) (x : Int) : Nat :=
  if mode = 0 then unsignedOf 32 x else if mode = 1 then unsignedOf 32 (clampTo 0 0xFFFFFFFF x)
  else unsignedOf 32 (clampTo (-2147483648) 2147483647 x)

/-- May the scalar operation have this MODE, BK and B (R217)? -/
def scalAllowed (i : AluOp) : Bool :=
  let m := if i.op = 0x20 ∨ i.op = 0x21 ∨ i.op = 0x22 ∨ i.op = 0x26 then decide (i.mode ≤ 2)
    else if i.op = 0x2A ∨ i.op = 0x2B ∨ i.op = 0x30 ∨ i.op = 0x31 then decide (i.mode = 0 ∨ i.mode = 2) else decide (i.mode = 0)
  let k := if i.op = 0x2F then decide (i.bk = 1) else if i.op = 0x32 then decide (i.bk = 0 ∧ i.b = 0)
    else decide (i.bk = 1 ∨ i.bk = 2)
  m && k

/-- The result of a scalar operation on patterns (R217); `sc` is S[C], `d` the old S[D]. -/
def scalarOp (i : AluOp) (a b sc d : Nat) : Nat :=
  let x := scalarAs i.mode a
  let y := scalarAs i.mode b
  let cl := clampScalar i.mode
  if i.op = 0x20 then cl (x + y)
  else if i.op = 0x21 then cl (x - y)
  else if i.op = 0x22 then cl (x * y)
  else if i.op = 0x23 then (if b = 0 then 0xFFFFFFFF else a / b)
  else if i.op = 0x24 then (if 32 ≤ b then 0 else a / 2 ^ b)
  else if i.op = 0x25 then unsignedOf 32 (Int.fdiv (signed 32 a) (2 ^ min b 32))
  else if i.op = 0x26 then cl (x * 2 ^ min b 64)
  else if i.op = 0x27 then Nat.land a b
  else if i.op = 0x28 then Nat.lor a b
  else if i.op = 0x29 then Nat.xor a b
  else if i.op = 0x2A then unsignedOf 32 (min x y)
  else if i.op = 0x2B then unsignedOf 32 (max x y)
  else if i.op = 0x2C then b
  else if i.op = 0x2D then unsignedOf 32 (signed 22 i.imm)
  else if i.op = 0x2E then i.imm * 1024 + d % 1024
  else if i.op = 0x2F then (if sc = 0 then b else a)
  else if i.op = 0x30 then b2n (decide (x = y))
  else if i.op = 0x31 then b2n (decide (x < y))
  else (signed 32 a).natAbs

/-- The results of the ALU slot (R205, R216, R217). -/
def State.aluSlot (s : State) (e : Nat) (i : AluOp) : List FolioWrite :=
  if 1 ≤ i.op ∧ i.op ≤ 0x16 then
    if vecAllowed i.op i.mode i.bk then
      [.vec i.d (lanes32 fun l => vecLane i.op i.mode i.c (s.vreg e i.a l) (s.vecB e i l) (s.vreg e i.c l))]
    else []
  else if i.op = 0x2D ∨ i.op = 0x2E then [.scal i.d (scalarOp i 0 0 0 (s.sreg e i.d))]
  else if 0x20 ≤ i.op ∧ i.op ≤ 0x32 then
    if scalAllowed i then
      let b := if i.bk = 1 then s.sreg e i.b else imm8 32 i.b i.c
      [.scal i.d (scalarOp i (s.sreg e i.a) b (s.sreg e i.c) (s.sreg e i.d))]
    else []
  else []

/-! ### LUT slot -/

/-- A LUT instruction: fields of both formats (R219). -/
structure LutOp where
  op : Nat
  d : Nat
  a : Nat
  b : Nat
  base : Nat
  lg : Nat
  sh : Nat
  na : Nat
  nb : Nat
  deriving DecidableEq, Repr

/-- Decode a LUT word (R219). -/
def lutOf (x : Word) : LutOp :=
  let g (lo n : Nat) : Nat := getBits x ⟨lo, n⟩
  if g 0 4 = 4 then ⟨4, g 4 4, g 8 4, g 12 4, g 16 9, 0, 0, g 25 3 + 1, g 28 3 + 1⟩
  else ⟨g 0 4, g 4 4, g 8 4, 0, g 12 9, g 21 4, g 25 4, 0, 0⟩

/-- Entry `e` of the instruction's table (R218). -/
def State.lutEntry (s : State) (e : Nat) (i : LutOp) (n : Nat) : Nat := s.tableAt e (i.base * 64 + n)

/-- LUT, LUTS, LUTI and LUT2 of one lane (R220). -/
def State.lutLane (s : State) (e : Nat) (i : LutOp) (a b : Nat) : Nat :=
  let n := 2 ^ i.lg
  if i.op = 1 then s.lutEntry e i (min (a / 2 ^ i.sh) (n - 1))
  else if i.op = 2 then
    s.lutEntry e i (clampTo 0 ((n : Int) - 1) (Int.fdiv (signed 16 a) (2 ^ i.sh) + Int.fdiv n 2)).toNat
  else if i.op = 3 then
    let q := a / 2 ^ i.sh
    if n - 1 ≤ q ∨ i.sh = 0 then s.lutEntry e i (min q (n - 1))
    else
      let t0 : Int := s.lutEntry e i q
      let t1 : Int := s.lutEntry e i (q + 1)
      (t0 + Int.fdiv ((t1 - t0) * (a % 2 ^ i.sh : Nat) + 2 ^ (i.sh - 1)) (2 ^ i.sh)).toNat
  else s.lutEntry e i (a / 2 ^ (16 - i.na) * 2 ^ i.nb + b / 2 ^ (16 - i.nb))

/-- The results of the LUT slot (R205, R220). -/
def State.lutSlot (s : State) (e : Nat) (i : LutOp) : List FolioWrite :=
  if (1 ≤ i.op ∧ i.op ≤ 3 ∧ i.lg ≠ 0) ∨ i.op = 4 then
    [.vec i.d (lanes32 fun l => s.lutLane e i (s.vreg e i.a l) (s.vreg e i.b l))]
  else if i.op = 5 ∧ i.lg ≠ 0 then [.scal i.d (s.lutEntry e i (min (s.sreg e i.a / 2 ^ i.sh) (2 ^ i.lg - 1)))]
  else []

/-! ### XFER slot -/

/-- An XFER instruction: `x` is bits [31:15] (R221). -/
structure XferOp where
  op : Nat
  d : Nat
  a : Nat
  stg : Nat
  x : Nat
  deriving DecidableEq, Repr

/-- Decode an XFER word (R221). -/
def xferOf (w : Word) : XferOp :=
  let g (lo n : Nat) : Nat := getBits w ⟨lo, n⟩
  ⟨g 0 5, g 5 4, g 9 4, g 13 2, g 15 17⟩

/-- A signed 4-bit operation field at a bit of the word (R222). -/
def xferSigned (i : XferOp) (lo : Nat) : Int := signed 4 (i.x / 2 ^ (lo - 15))

/-- Does a plane or ring access hold no refused value (R205, R222)? -/
def xferValid (i : XferOp) : Bool :=
  if i.op = 1 then decide (xferSigned i 15 ≠ -8 ∧ xferSigned i 19 ≠ -8)
  else if i.op = 2 then decide ((i.x % 4 = 1 ∨ i.x % 4 = 2) ∧ xferSigned i 21 ≠ -8)
  else if i.op = 3 then decide (i.x % 4 = 1 ∨ i.x % 4 = 2) && decide (i.x / 2 ^ 6 % 16 = 0)
  else if i.op = 0xB then decide (i.x % 16 < 5 ∨ 8 ≤ i.x % 16)
  else decide (1 ≤ i.op ∧ i.op ≤ 0xC)

/-- The context source of a code (R183, R227). -/
def State.context (s : State) (e code : Nat) : Nat :=
  let h := s.engine e
  if code = 0 then ((rowOfAge h.ring (s.lag e)).map fun r => unsignedOf 32 r.line).getD 0
  else if code = 1 then ((rowOfAge h.ring (s.lag e)).map RingRow.phase).getD 0
  else if code = 2 then ((h.ring.head?).map RingRow.phase).getD 0
  else if code = 3 then h.iter.toNat
  else if code = 4 then s.terrLen e
  else (h.params[code - 8]?).getD 0

/-- A reduction of lanes into a scalar (R226). -/
def reduceInto (rop acc : Nat) (ls : List Nat) : Nat :=
  let u : Int := acc
  let g : Int := signed 32 acc
  let sl := ls.map (signed 16)
  let ul : List Int := ls.map fun (v : Nat) => (v : Int)
  if rop = 0 then (min 0xFFFFFFFF (u + ul.sum)).toNat
  else if rop = 1 then unsignedOf 32 (clampTo (-2147483648) 2147483647 (g + sl.sum))
  else if rop = 2 then (min 0xFFFFFFFF (u + (ul.map fun v => v * v).sum)).toNat
  else if rop = 3 then (min u (leastOf u ul)).toNat
  else if rop = 4 then (max u (greatestOf u ul)).toNat
  else if rop = 5 then unsignedOf 32 (min g (leastOf g sl))
  else if rop = 6 then unsignedOf 32 (max g (greatestOf g sl))
  else (min 0xFFFFFFFF (u + (ul.filter fun v => v ≠ 0).length)).toNat

/-- The territory lanes of V[A] at a stage (R185, R226). -/
def State.terrLanes (s : State) (e : Nat) (i : XferOp) : List Nat :=
  (List.range 32).filterMap fun l => if s.laneTerr e i.stg l then some (s.vreg e i.a l) else none

/-- An output write (R224): territory and halo lanes alike; void lanes are discarded. -/
def State.outWrite (s : State) (e : Nat) (i : XferOp) (out : Nat) (f : Nat → Nat) : List FolioWrite :=
  [.cols false out (s.colPairs e i.stg (s.laneReal e i.stg) f)]

/-- The results of the XFER slot (R222 to R227). -/
def State.xferSlot (s : State) (e : Nat) (i : XferOp) : List FolioWrite :=
  let col (l : Nat) : Int := s.laneCol e i.stg l
  let va (l : Nat) : Nat := s.vreg e i.a l
  let slot := i.x / 4 % 16
  let plane := s.planeIndex e (decide (i.x % 4 = 2)) slot
  if !xferValid i then []
  else if i.op = 1 then
    let t : Int := if bit i.x 8 then s.webPhases else 1
    [.vec i.d (lanes32 fun l => s.ringAt e (xferSigned i 15 * t) (col l + xferSigned i 19))]
  else if i.op = 2 then
    match plane with
    | some p => [.vec i.d (lanes32 fun l => s.planeAt e p (col l + xferSigned i 21))]
    | none => [.vec i.d (lanes32 fun _ => 0), .planeErr]
  else if i.op = 3 then
    match plane with
    | some p => [.cols true p (s.colPairs e i.stg (s.laneReal e i.stg) va)]
    | none => [.planeErr]
  else if i.op = 4 then s.outWrite e i 0 fun l => va l % 16 % 2 ^ s.geom e Fld.FOLIO_GEOM_MASKBITS
  else if i.op = 5 then s.outWrite e i 1 va
  else if i.op = 6 then s.outWrite e i (2 + i.x % 4) va
  else if i.op = 7 then
    let ls := s.terrLanes e i
    if ls.isEmpty then [] else [.scal i.d (reduceInto (i.x % 8) (s.sreg e i.d) ls)]
  else if i.op = 8 then [.vec i.d (lanes32 fun l => pat16 (s.laneCol e 0 l - s.engineHalo e))]
  else if i.op = 9 then [.vec i.d (lanes32 va)]
  else if i.op = 0xA then [.vec i.d (lanes32 fun _ => s.sreg e i.a % 65536)]
  else if i.op = 0xB then [.scal i.d (s.context e (i.x % 16))]
  else [.scal i.d (s.sreg e i.a)]

/-! ### Bundles and lines -/

/-- Write a bundle's results (R203). DESIGN CHOICE, log 21. -/
def State.folioWrites (s : State) (e : Nat) (ws : List FolioWrite) : State := ws.foldl (State.folioWrite e) s

/-- One bundle of the live program (R202, R203): the four slots read the state before it. -/
def State.runBundle (e : Nat) (s : State) (n : Nat) : State :=
  s.folioWrites e (s.winSlot e (winOf (s.bundleWord e n 0)) ++ s.aluSlot e (aluOf (s.bundleWord e n 1))
    ++ s.lutSlot e (lutOf (s.bundleWord e n 2)) ++ s.xferSlot e (xferOf (s.bundleWord e n 3)))

/-- The bundles from `from_` on, `n` of them. -/
def State.runBundles (s : State) (e from_ n : Nat) : State :=
  (List.range n).foldl (fun (s : State) i => State.runBundle e s (from_ + i)) s

/-- The engine at an iteration. -/
def State.atIter (s : State) (e : Nat) (i : Int) : State := s.setEngine e { s.engine e with iter := i }

/-- P, B and E of the folio (R175); B = 0 runs no body. -/
def State.sectionLengths (s : State) (e : Nat) : Nat × Nat × Nat :=
  (s.fld (Reg.FOLIO_LEN0 e) Fld.FOLIO_LEN0_PRO, s.fld (Reg.FOLIO_LEN0 e) Fld.FOLIO_LEN0_BODY,
    s.fld (Reg.FOLIO_LEN1 e) Fld.FOLIO_LEN1_EPI)

/-- The cycle count of a line, C (R178). -/
def State.lineCycles (s : State) (e : Nat) : Nat :=
  let (p, b, x) := s.sectionLengths e
  p + (s.groups e + s.geom e Fld.FOLIO_GEOM_SKEW) * b + x

/-- F_j − S_j in ns, rounded up, with the ready time R_j − S_j in ns (R178): a cycle is 2/3 ns. DEDUCED, log 126. -/
def State.folioEndNs (s : State) (e readyNs : Nat) : Nat :=
  let (p, b, x) := s.sectionLengths e
  (max (2 * p) (3 * readyNs) + 2 * ((s.groups e + s.geom e Fld.FOLIO_GEOM_SKEW) * b + x) + 2) / 3

/-- Run the folio over the line in the engine (R175, R178): prologue once, body over all iterations, epilogue once. -/
def State.runFolio (s : State) (e : Nat) : State :=
  let (p, b, x) := s.sectionLengths e
  let s := s.setEngine e { s.engine e with outs := [], iter := 0 }
  let s := s.runBundles e 0 p
  let s := (List.range (s.groups e + s.geom e Fld.FOLIO_GEOM_SKEW)).foldl (fun (s : State) (i : Nat) => (s.atIter e (i : Int)).runBundles e p b) s
  (s.atIter e 0).runBundles e (p + b) x

/-- The snapshot after the epilogue (R201): the newest line's number and the scalar registers. -/
def State.snapshot (s : State) (e : Nat) : State :=
  let s := match (s.engine e).ring.head? with
    | some r => s.setS64 (Reg.FOLIO_SNAPLINE_LO e) r.line
    | none => s
  (List.range 16).foldl (fun (s : State) n => s.setNum (Reg.FOLIO_SNAP e n) (s.sreg e n)) s

/-- Does the pipeline's engine run (R172, R528)? -/
def State.engineRuns (s : State) (e : Nat) : Bool := s.flag (Reg.FOLIO_GEOM e) Fld.FOLIO_GEOM_EN && decide (s.terrLen e ≠ 0)

/-- The clock of a pipeline runs or stops: RUNNING and PWR_GATE (R201, R528). DEDUCED, log 48. -/
def State.setRunning (s : State) (e : Nat) (on : Bool) : State :=
  (s.setFld (Reg.FOLIO_STATUS e) Fld.FOLIO_STATUS_RUNNING (b2n on)).setFld Reg.PWR_GATE ⟨e, 1⟩ (b2n on)

/-- A row enters the input ring as the newest and displaces the oldest (R187). -/
def State.pushRow (s : State) (e : Nat) (r : RingRow) : State :=
  s.setEngine e { s.engine e with ring := (r :: (s.engine e).ring).take (s.ringRows e) }

/-- The collection becomes live in an engine (R182, R190, R197): banks swap, V and planes are cleared, S loaded from SINIT. -/
def State.engineLive (s : State) (e : Nat) : State :=
  let sc := (List.range 16).foldl (fun m n => Store.set (fun _ => 0) n (s.num (Reg.FOLIO_SINIT e n)) m) ([] : Store Nat)
  let s := s.setEngine e { s.engine e with v := [], sc := sc, planes := [], outs := [], iter := 0 }
  s.setFld (Reg.FOLIO_STATUS e) Fld.FOLIO_STATUS_GROUPS (s.groups e)

/-- The ring of an engine is emptied; L_c slots will deliver no output (R191). -/
def State.emptyRing (s : State) (e : Nat) : State :=
  let l := s.lag e
  let s := s.setEngine e { s.engine e with ring := [], warm := l, ready := false, done := false }
  s.setFld (Reg.FOLIO_STATUS e) Fld.FOLIO_STATUS_WARMUP (b2n (decide (0 < l)))

/-! ### Folio memory -/

/-- The bank that an offset of folio memory belongs to (R200). -/
def folioBankOf (off : Nat) : Nat :=
  if off < 0x10000 then off / 0x8000 else if off < 0x30000 then off / 0x10000 - 1 else (off - 0x30000) / 0x8000

/-- A write to folio memory (R196): to the live bank it is rejected, counted in FOLIO_MEMREJ; to the other bank it is staged, and
rejected while the staged set is sealed (R233). -/
def State.folioMemWrite (s : State) (a : Nat) (v : Word) : State :=
  let e := (a - 0x400000) / 0x40000
  let off := (a - 0x400000) % 0x40000
  if folioBankOf off = s.folioBank e then
    (s.bump (Reg.FOLIO_MEMREJ e)).notice 0x0104 0x40 a
  else if s.fld Reg.ACC_STATUS Fld.ACC_STATUS_SSTATE ≠ 0 then (s.bump Reg.ACC_SHREJ).notice 0x0104 0x40 a
  else s.setEngine e { s.engine e with mem := Store.set (fun _ => 0) (off / 4) v (s.engine e).mem }

/-- A read of folio memory: both banks can always be read (R196). -/
def State.folioMemRead (s : State) (a : Nat) : Word :=
  Store.get (fun _ => (0 : Word)) ((a - 0x400000) % 0x40000 / 4) (s.engine ((a - 0x400000) / 0x40000)).mem

end Sys2Proof.Machine
end

