-- ==== Sys2Proof/Machine/Segments.lean ====
section
/-! DEFINITION. The segmentation engine (10_segments_cards.md): runs, segments and their features, closure, long segments, the
overflow segment, and segments across seams. What closes goes to the card builder. -/

namespace Sys2Proof.Machine

/-- Bits of the card FLAGS (R288). -/
def flTainted : Nat := 1
@[inherit_doc flTainted] def flReplay : Nat := 2
@[inherit_doc flTainted] def flCont : Nat := 4
@[inherit_doc flTainted] def flMerged : Nat := 8
@[inherit_doc flTainted] def flFlood : Nat := 16
@[inherit_doc flTainted] def flSeamcut : Nat := 32
@[inherit_doc flTainted] def flCutoff : Nat := 64
@[inherit_doc flTainted] def flNomatch : Nat := 128
@[inherit_doc flTainted] def flSatfeat : Nat := 256
@[inherit_doc flTainted] def flCropclip : Nat := 512
@[inherit_doc flTainted] def flCropdrop : Nat := 1024
@[inherit_doc flTainted] def flEdge : Nat := 2048
@[inherit_doc flTainted] def flDeferred : Nat := 4096

/-! ### Runs -/

/-- A run (R258): first and last stitched column, the pipeline it belongs to, whether it is a flood run, and its masked pixels
(column, mask, value). -/
structure Run where
  a : Nat
  b : Nat
  pipe : Nat
  flood : Bool
  px : List (Nat × Nat × Nat)
  deriving DecidableEq, Repr

/-- The pipeline whose territory holds a stitched column. -/
def State.territoryOf (s : State) (k : Nat) : Option Nat :=
  (List.range 12).find? fun p => decide (s.num (Reg.TERR_START p) ≤ k ∧ k < s.num (Reg.TERR_START p) + s.num (Reg.TERR_LEN p))

/-- The output `o` of an engine at a stitched column (R195). -/
def State.outAt (s : State) (e start o k : Nat) : Nat :=
  Store.get (fun _ => 0) (o * 2 ^ 16 + (k + s.engineHalo e - start)) (s.engine e).outs

/-- The masked pixels of an engine's territory on the output line (R257); none while segmentation is not enabled (R292). -/
def State.maskedOf (s : State) (e start len : Nat) : List (Nat × Nat × Nat) :=
  if !s.flag Reg.SEG_CTRL Fld.SEG_CTRL_EN then [] else
  (List.range len).filterMap fun i =>
    let m := Nat.land (s.outAt e start 0 (start + i)) (s.fld Reg.SEG_CTRL Fld.SEG_CTRL_MSEL)
    if m = 0 then none else some (start + i, s.outAt e start 0 (start + i), s.outAt e start 1 (start + i))

/-- Put a masked pixel behind the runs so far, newest first: it goes on with the last run where it is its next column. -/
def addPixel (pipe : Nat) (rs : List Run) (p : Nat × Nat × Nat) : List Run :=
  match rs with
  | r :: rest => if p.1 = r.b + 1 then { r with b := p.1, px := r.px ++ [p] } :: rest else ⟨p.1, p.1, pipe, false, [p]⟩ :: r :: rest
  | [] => [⟨p.1, p.1, pipe, false, [p]⟩]

/-- The runs of the output line over the live strip, west to east (R258). -/
def State.liveRuns (s : State) : List Run :=
  let order := sortBy (fun p q => decide (s.num (Reg.TERR_START p) ≤ s.num (Reg.TERR_START q)))
    ((List.range 12).filter fun p => decide (s.num (Reg.TERR_LEN p) ≠ 0))
  (order.foldl (fun rs p =>
    (s.maskedOf p (s.num (Reg.TERR_START p)) (s.num (Reg.TERR_LEN p))).foldl (addPixel p) rs) []).reverse

/-- The runs of the output line of a reading pipeline (R274). -/
def State.replayRuns (s : State) (e : Nat) : List Run :=
  ((s.maskedOf e (s.num (Reg.RP_TSTART (e - 12))) (s.num (Reg.RP_TLEN (e - 12)))).foldl (addPixel e) []).reverse

/-- The runs of one pipeline with the flood run made of those from the 4,096th on (R259). -/
def floodRuns (rs : List Run) : List Run :=
  if rs.length ≤ 4096 then rs
  else match rs.drop 4095 with
    | r :: rest => rs.take 4095 ++ [{ r with flood := true, b := (rest.getLast?.getD r).b, px := (r :: rest).flatMap Run.px }]
    | [] => rs

/-- Runs grouped by pipeline and flooded where there are too many. -/
def floodAll (rs : List Run) : List Run := (List.range 16).flatMap fun p => floodRuns (rs.filter fun r => decide (r.pipe = p))

/-! ### Features -/

/-- Add, saturating at the greatest value of so many bits. -/
def satAdd (bits : Nat) (x y : Nat) : Nat := min (2 ^ bits - 1) (x + y)

/-- Two sets of features as one (R260, R265, R271): sums saturate, and XSUM and YSUM are rebased to the union; the mark is that of
the earliest first line, and between equal ones the one furthest west. -/
def Features.join (f g : Features) : Features :=
  let first := min f.first g.first
  let col0 := min f.col0 g.col0
  let xs := f.xsum + f.area * (f.col0 - col0).toNat + (g.xsum + g.area * (g.col0 - col0).toNat)
  let ys := f.ysum + f.area * (f.first - first).toNat + (g.ysum + g.area * (g.first - first).toNat)
  let hist := (List.range 4).map fun i => (f.hist[i]?).getD 0 + (g.hist[i]?).getD 0
  let full := decide (2 ^ 32 ≤ f.area + g.area ∨ 2 ^ 48 ≤ f.vsum + g.vsum ∨ 2 ^ 64 ≤ f.vsq + g.vsq ∨ 2 ^ 64 ≤ xs ∨ 2 ^ 64 ≤ ys
    ∨ 2 ^ 32 ≤ f.runs + g.runs) || hist.any fun h => decide (2 ^ 16 ≤ h)
  { first := first, last := max f.last g.last, area := satAdd 32 f.area g.area, col0 := col0, east := max f.east g.east,
    vsum := satAdd 48 f.vsum g.vsum, vsq := satAdd 64 f.vsq g.vsq, vmin := min f.vmin g.vmin, vmax := max f.vmax g.vmax,
    xsum := min (2 ^ 64 - 1) xs, ysum := min (2 ^ 64 - 1) ys, runs := satAdd 32 f.runs g.runs,
    hist := hist.map (min 65535), sat := f.sat || g.sat || full,
    mark := if g.first < f.first ∨ (g.first = f.first ∧ g.col0 < f.col0) then g.mark else f.mark }

/-- The features of one run of a line (R264). -/
def runFeatures (colbase : Nat) (j : Int) (mark : LineMark) (r : Run) : Features :=
  let vs := r.px.map fun p => p.2.2
  let hist := (List.range 4).map fun b => (r.px.filter fun p => bit p.2.1 b).length
  { first := j, last := j, area := r.px.length, col0 := colbase + r.a, east := colbase + r.b, vsum := vs.sum,
    vsq := (vs.map fun v => v * v).sum, vmin := vs.foldl min 65535, vmax := vs.foldl max 0,
    xsum := (r.px.map fun p => p.1 - r.a).sum, ysum := 0, runs := 1, hist := hist.map (min 65535),
    sat := hist.any fun h => decide (65536 ≤ h), mark := mark }

/-- The features of the runs that one segment takes in on a line. -/
def runsFeatures (colbase : Nat) (j : Int) (mark : LineMark) (rs : List Run) : Option Features :=
  match rs with
  | [] => none
  | r :: rest => some (rest.foldl (fun f x => f.join (runFeatures colbase j mark x)) (runFeatures colbase j mark r))

/-! ### The segment table -/

/-- The segments of a strip. -/
def State.strip (s : State) (k : Nat) : List Segment := Store.get (fun _ => []) k s.seg.strips

/-- Store the segments of a strip. -/
def State.setStrip (s : State) (k : Nat) (l : List Segment) : State :=
  { s with seg := { s.seg with strips := Store.set (fun _ => []) k l s.seg.strips } }

/-- The index of the overflow segment. -/
def ovfTag : Nat := 65536

/-- The strip that holds the module's overflow segment, if it is open (R267). -/
def State.ovfStrip (s : State) : Option Nat :=
  (s.seg.strips.find? fun e => e.2.any fun g => decide (g.tag = ovfTag)).map Prod.fst

/-- The segments of all strips. -/
def State.allSegments (s : State) : List Segment := s.seg.strips.flatMap Prod.snd

/-- The indexes of segments that have closed and are held for a merge; a piece of one that is still open is none (R267). -/
def State.heldTags (s : State) : List Nat :=
  ((s.seg.held.map ClosedSeg.tag).eraseDups).filter fun t => !(s.allSegments.any fun g => decide (g.tag = t))

/-- Live segments, those held for a merge counted, the overflow segment not (R267). -/
def State.liveCount (s : State) : Nat :=
  (s.allSegments.filter fun g => decide (g.tag ≠ ovfTag)).length + s.heldTags.length

/-- SEG_LIVE and SEG_PEAK (R292). -/
def State.showLive (s : State) : State :=
  let n := s.liveCount
  let s := s.setFld Reg.SEG_LIVE Fld.SEG_LIVE_COUNT n
  s.setFld Reg.SEG_PEAK Fld.SEG_PEAK_COUNT (max n (s.fld Reg.SEG_PEAK Fld.SEG_PEAK_COUNT))

/-- Does a run touch a run of the line before (R260)? -/
def touches (conn4 : Bool) (r : Run) (p : Nat × Nat) : Bool :=
  if conn4 then decide (r.a ≤ p.2 ∧ p.1 ≤ r.b) else decide (r.a ≤ p.2 + 1 ∧ p.1 ≤ r.b + 1)

/-- Segments and runs that one line joins: indexes of segments, and runs, west to east. -/
structure Join where
  tags : List Nat
  runs : List Run
  deriving DecidableEq, Repr

/-- Put a run with the segments it touches into the joins so far. -/
def addJoin (conn4 : Bool) (segs : List Segment) (js : List Join) (r : Run) : List Join :=
  let tags := (segs.filter fun g => !g.ended && g.runs.any (touches conn4 r)).map Segment.tag
  let hit := js.filter fun j => j.tags.any fun t => tags.contains t
  let rest := js.filter fun j => !(j.tags.any fun t => tags.contains t)
  rest ++ [⟨(hit.flatMap Join.tags ++ tags).eraseDups, hit.flatMap Join.runs ++ [r]⟩]

/-- Order of R260: earliest first line, then furthest west. -/
def elder (g h : Segment) : Bool :=
  decide (g.f.first < h.f.first ∨ (g.f.first = h.f.first ∧ g.f.col0 ≤ h.f.col0))

/-- Closure order (R263): west column, then first line. -/
def closesBefore (c d : ClosedSeg) : Bool := decide (c.f.col0 < d.f.col0 ∨ (c.f.col0 = d.f.col0 ∧ c.f.first ≤ d.f.first))

/-- N of R266; values below 256 act as 256 (R568). -/
def State.cutN (s : State) : Nat := max 256 (s.fld Reg.SEG_CONTN Fld.SEG_CONTN_N)

/-- What a line has made so far: the strip's segments, pieces and segments that end, merges of edge segments (from, into), and the
indexes that have taken in a run of the line. -/
structure LineWork where
  segs : List Segment
  done : List ClosedSeg
  merges : List (Nat × Nat)
  seen : List Nat
  deriving DecidableEq, Repr

/-- Edge properties of runs (R268): flags, and whether they touch the column owned by SEAME or the one that waits for SEAMW. -/
def State.edges (s : State) (strip : Nat) (rs : List Run) : Nat × Bool × Bool :=
  if strip ≠ 0 then (0, false, false)
  else
    let w := rs.any fun r => decide (r.a = 0)
    let e := rs.any fun r => decide (r.b + 1 = s.ws)
    let sw := s.flag (Reg.CAM_CTRL 12) Fld.CAM_CTRL_EN
    let se := s.flag (Reg.CAM_CTRL 13) Fld.CAM_CTRL_EN
    (if (w && !sw) || (e && !se) then flEdge else 0, e && se, w && sw)

/-- A free index of the segment table that no segment had when the line began. DEDUCED, log 73. -/
def freeTag (used : List Nat) : Nat := ((List.range (used.length + 1)).find? fun t => !used.contains t).getD 0

/-- The flood flag of runs. -/
def floodFlag (rs : List Run) : Nat := if rs.any Run.flood then flFlood else 0

/-- A closed item of a segment (R260, R267, R268): an edge segment goes to SEAME unless it has been cut off; the overflow segment goes
nowhere, and at an edge with a seam it carries SEAMCUT. -/
def Segment.close (g : Segment) (extra : Nat) (closing : Int) (due strip : Nat) : ClosedSeg :=
  let ovf := decide (g.tag = ovfTag)
  ⟨if ovf then 2 else 1, g.tag, g.segid, g.f, g.piece,
    Nat.lor (Nat.lor (Nat.lor g.flags extra) (if ovf && (g.edge || g.west) then flSeamcut else 0))
      (Nat.lor (if g.f.sat then flSatfeat else 0) (if strip = 0 then 0 else flReplay)),
    closing, due, if strip = 0 then none else some strip, g.edge && !g.cut && !ovf, g.west && !ovf⟩

/-- Own segments have become one (R260): links of western parts to the one that vanished, and its recent lines at column 0, name the
other one too. -/
def State.renameOwn (s : State) (gone : List Nat) (base : Nat) : State :=
  let part (p : WestPart) : WestPart :=
    if p.links.any gone.contains then { p with links := (p.links ++ [base]).eraseDups } else p
  { s with seg := { s.seg with
    parts := s.seg.parts.map part
    col0 := s.seg.col0.map fun c => if gone.contains c.2 then (c.1, base) else c } }

/-- The overflow segment that another strip holds takes a run of this strip in (R267). DEDUCED, log 142. -/
def State.otherOverflow (s : State) (k strip : Nat) (rf : Features) (fl : Nat) : State :=
  s.setStrip k ((s.strip k).map fun g =>
    if g.tag = ovfTag then { g with f := g.f.join rf, flags := Nat.lor g.flags (Nat.lor fl (if strip = 0 then 0 else flReplay)) } else g)

/-- A run opens a segment (R260): an ordinary one, or the overflow segment. -/
def State.openSegment (s : State) (w : LineWork) (tag : Nat) (rf : Features) (fl : Nat) (rs : List (Nat × Nat)) (edge west : Bool) :
    State × LineWork :=
  let g : Segment := ⟨tag, s.seg.serial, rf, 0, fl, rs, false, edge, west, false⟩
  ({ s with seg := { s.seg with serial := (s.seg.serial + 1) % 2 ^ 32 } }, { w with segs := w.segs ++ [g], seen := tag :: w.seen })

/-- Segments of a line become one that keeps the identity of `base` (R260): `gone` are the others. -/
def Segment.absorb (base : Segment) (gone : List Segment) : Segment :=
  gone.foldl (fun (m g : Segment) => { m with
    f := m.f.join g.f, piece := max m.piece g.piece, flags := Nat.lor m.flags g.flags
    edge := m.edge || g.edge, west := m.west || g.west, cut := m.cut || g.cut }) base

/-- One join of a line (R260, R266, R267): a new segment, the overflow segment, or a merge and its runs, with a piece ended where
the line is a cut line. `used` are the indexes that may not be taken. -/
def State.joinLine (strip : Nat) (j : Int) (due : Nat) (mark : LineMark) (used : List Nat) (w : State × LineWork) (x : Join) :
    State × LineWork :=
  let s := w.1
  let cb := s.fld Reg.SEG_COLBASE Fld.SEG_COLBASE_V
  let (fl, edge, west) := s.edges strip x.runs
  let rs := x.runs.map fun r => (r.a, r.b)
  let fl := Nat.lor fl (floodFlag x.runs)
  match runsFeatures cb j mark x.runs with
  | none => w
  | some rf =>
    let full := !(w.2.segs.any fun g => x.tags.contains g.tag) && decide (65536 ≤ (s.setStrip strip w.2.segs).liveCount)
    let s := if full then s.bumpBy (Reg.SEG_CNT 3) x.runs.length else s
    let olds := sortBy elder (w.2.segs.filter fun g => if full then decide (g.tag = ovfTag) else x.tags.contains g.tag)
    match olds with
    | [] =>
      match if full then (s.ovfStrip).filter (fun k => decide (k ≠ strip)) else none with
      | some k => (s.otherOverflow k strip rf fl, w.2)
      | none =>
        if full then (s.event Reg.SEG_EVT Reg.SEG_EVTEN 1 18).openSegment w.2 ovfTag rf fl rs edge west
        else s.openSegment w.2 (freeTag (used ++ w.2.segs.map Segment.tag)) rf fl rs edge west
    | o :: _ =>
      let base := (olds.find? fun g => decide (g.tag = ovfTag)).getD o
      let gone := olds.filter fun g => decide (g.tag ≠ base.tag)
      let others := w.2.segs.filter fun g => !(olds.map Segment.tag).contains g.tag
      let m := base.absorb gone
      let ovf := decide (m.tag = ovfTag)
      let s := if strip ≠ 0 ∨ gone.isEmpty ∨ ovf then s else s.renameOwn (gone.map Segment.tag) m.tag
      let merges := if ovf then [] else
        (gone.filter fun g => g.edge && base.edge && !g.cut && !m.cut).map fun g => (g.tag, m.tag)
      let runs := if w.2.seen.contains m.tag then m.runs ++ rs else rs
      let n := { m with runs := runs, edge := m.edge || edge, west := m.west || west }
      if j % (s.cutN : Int) = 0 ∧ m.f.first < j then
        let n := { n with f := rf, piece := m.piece + 1, flags := Nat.lor fl (Nat.land m.flags flSeamcut) }
        (s.bump (Reg.SEG_CNT 1), ⟨others ++ [n], w.2.done ++ [m.close flCont j due strip], w.2.merges ++ merges, m.tag :: w.2.seen⟩)
      else
        let n := { n with f := m.f.join rf, flags := Nat.lor m.flags fl }
        (s, ⟨others ++ [n], w.2.done, w.2.merges ++ merges, m.tag :: w.2.seen⟩)

/-- Process an output line of a strip (R260 to R267): joins, cuts and closures. Answers what ends on it, in closure order. -/
def State.segmentLine (s : State) (strip : Nat) (j : Int) (due : Nat) (mark : LineMark) (rs : List Run) :
    State × List ClosedSeg × List (Nat × Nat) :=
  let runs := floodAll rs
  let nflood := (runs.filter Run.flood).length
  let s := if nflood = 0 then s else (s.bumpBy (Reg.SEG_CNT 2) nflood).event Reg.SEG_EVT Reg.SEG_EVTEN 0 18
  let segs := s.strip strip
  let joins := runs.foldl (addJoin (s.flag Reg.SEG_CTRL Fld.SEG_CTRL_CONN) segs) []
  let used := s.allSegments.map Segment.tag ++ s.seg.held.map ClosedSeg.tag ++ s.seg.parts.flatMap WestPart.links
  let (s, w) := joins.foldl (State.joinLine strip j due mark used) (s, ⟨segs, [], [], []⟩)
  let ended := w.segs.filter fun g => !w.seen.contains g.tag
  let sorted := sortBy (fun g h => decide (g.f.col0 < h.f.col0 ∨ (g.f.col0 = h.f.col0 ∧ g.f.first ≤ h.f.first))) ended
  let now_ := sorted.take 2048
  let late := (sorted.drop 2048).map fun g => { g with ended := true, flags := Nat.lor g.flags flDeferred, runs := [] }
  let s := if late.isEmpty then s else (s.bumpBy (Reg.SEG_CNT 4) late.length).event Reg.SEG_EVT Reg.SEG_EVTEN 2 18
  let live := w.segs.filter fun g => w.seen.contains g.tag
  let s := (s.setStrip strip (live ++ late)).bumpBy (Reg.SEG_CNT 0) now_.length
  let s := { s with seg := { s.seg with lastOut := Store.set (fun _ => none) strip (some j) s.seg.lastOut } }
  (s.showLive, sortBy closesBefore (w.done ++ now_.map fun g => g.close 0 j due strip), w.merges)

/-! ### Outcome flags (R87) -/

/-- Enter the outcome flags of a stitched line, in place of those of an earlier line of its number; flags of lines that no segment can
reach any more are forgotten by `forgetTaints`. -/
def State.noteTaints (s : State) (line : Int) (f w e : Nat) : State :=
  let rest := s.seg.taints.filter fun t => decide (t.1 ≠ line)
  { s with seg := { s.seg with taints := if f = 0 ∧ w = 0 ∧ e = 0 then rest else rest ++ [(line, f, w, e)] } }

/-- Do flagged lines taint a segment (R87)? A camera with a flagged line in range has a territory that the segment's columns with halos
overlap; beyond the module's edge, a flag that the neighbour sent. -/
def State.taintedBy (s : State) (taints : List (Int × Nat × Nat × Nat)) (lag halo : Nat) (c : ClosedSeg) : Bool :=
  let cb : Int := s.fld Reg.SEG_COLBASE Fld.SEG_COLBASE_V
  let lo := c.f.col0 - cb - halo
  let hi := c.f.east - cb + halo
  taints.any fun t =>
    decide (c.f.first - lag ≤ t.1 ∧ t.1 ≤ c.closing + lag) &&
      (((List.range 12).any fun n => decide (t.2.1 / 16 ^ n % 16 ≠ 0 ∧ s.num (Reg.TERR_LEN n) ≠ 0 ∧ lo < s.num (Reg.TERR_START n) + s.num (Reg.TERR_LEN n)
          ∧ (s.num (Reg.TERR_START n) : Int) ≤ hi))
        || (decide (lo < 0) && decide (t.2.2.1 ≠ 0)) || (decide ((s.ws : Int) ≤ hi) && decide (t.2.2.2 ≠ 0)))

/-- TAINTED of a live card (R87). -/
def State.tainted (s : State) (lag : Nat) (c : ClosedSeg) : Bool := s.taintedBy s.seg.taints lag s.halo c

/-- Forget flags of lines before every line that an open or held segment can still cover. -/
def State.forgetTaints (s : State) (lag : Nat) : State :=
  let firsts := (s.strip 0).map (fun g => g.f.first) ++ s.seg.held.map (fun c => c.f.first)
  let least := firsts.foldl min (((Store.get (fun _ => none) 0 s.seg.lastOut)).getD 0)
  { s with seg := { s.seg with taints := s.seg.taints.filter fun t => decide (least - lag ≤ t.1) } }

/-! ### Segments across seams -/

/-- The 16 blocks of a CLOSED group (R269). -/
def closedBlocks (c : ClosedSeg) : List (BitVec 64) :=
  let w (n : Nat) : BitVec 64 := BitVec.ofNat 64 n
  let h (i : Nat) : Nat := (c.f.hist[i]?).getD 0
  [w (3 + c.tag % 65536 * 2 ^ 16 + c.flags % 65536 * 2 ^ 32 + c.piece % 65536 * 2 ^ 48), BitVec.ofInt 64 c.f.first,
   w (unsignedOf 32 (c.f.last - c.f.first + 1) + c.f.area * 2 ^ 32), w (unsignedOf 32 c.f.col0 + unsignedOf 32 (c.f.east - c.f.col0 + 1) * 2 ^ 32),
   w (0x13 + c.f.vmin * 2 ^ 16 + c.f.vmax * 2 ^ 32), w c.f.vsum, w c.f.vsq, w c.f.xsum,
   w 0x23, w c.f.ysum, w c.f.runs, w (h 0 + h 1 * 2 ^ 16 + h 2 * 2 ^ 32 + h 3 * 2 ^ 48),
   w (0x33 + unsignedOf 48 c.f.mark.count * 2 ^ 16), BitVec.ofInt 64 c.f.mark.md, w (nsOf c.f.mark.stamp), w (secOf c.f.mark.stamp)]

/-- A field of a block. -/
def blkBits (b : BitVec 64) (lo n : Nat) : Nat := b.toNat / 2 ^ lo % 2 ^ n

/-- A CLOSED group read from its 16 blocks (R269); `due` is the time by which cards of its line are to leave, `cd0` the CD of stitched
column 0, which a card's own column replaces (R271). -/
def readClosed (line : Int) (due : Nat) (cd0 : Int) (bs : List (BitVec 64)) : ClosedSeg :=
  let g (i : Nat) : BitVec 64 := (bs[i]?).getD 0
  let first := signed 64 (g 1).toNat
  let col0 : Int := blkBits (g 3) 0 32
  { typ := 1, tag := blkBits (g 0) 16 16, segid := 0, piece := blkBits (g 0) 48 16, flags := blkBits (g 0) 32 16, closing := line, due := due
    replay := none, east := false, west := false
    f := { first := first, last := first + blkBits (g 2) 0 32 - 1, area := blkBits (g 2) 32 32, col0 := col0
           east := col0 + blkBits (g 3) 32 32 - 1, vsum := blkBits (g 5) 0 48, vsq := (g 6).toNat, vmin := blkBits (g 4) 16 16
           vmax := blkBits (g 4) 32 16, xsum := (g 7).toNat, ysum := (g 9).toNat, runs := blkBits (g 10) 0 32
           hist := (List.range 4).map fun i => blkBits (g 11) (16 * i) 16
           sat := bit (blkBits (g 0) 32 16) 8
           mark := ⟨signed 64 (g 13).toNat, signed 48 (blkBits (g 12) 16 48),
             (blkBits (g 15) 0 48 * 1000000000 + blkBits (g 14) 0 32) * 2 ^ 40, cd0⟩ } }

/-- A MERGE record (R269). -/
def mergeBlocks (m : Nat × Nat) : List (BitVec 64) :=
  [BitVec.ofNat 64 (2 + m.1 % 65536 * 2 ^ 16 + m.2 % 65536 * 2 ^ 32), 0, 0, 0]

/-- A CONTACT record (R269): TAG of the segment masked at the east edge column, if any. -/
def contactBlocks (tag : Option Nat) (ovf : Bool) : List (BitVec 64) :=
  [BitVec.ofNat 64 (1 + b2n tag.isSome * 2 ^ 8 + b2n ovf * 2 ^ 9 + tag.getD 0 % 65536 * 2 ^ 16), 0, 0, 0]

/-- Records in chunks of 16, the blocks of a CLOSED group never split (R165, R269): `units` are groups and single records. -/
def chunksOf : List (List (BitVec 64)) → List (BitVec 64) → List (List (BitVec 64))
  | [], cur => [cur]
  | u :: r, cur => if cur.length + u.length ≤ 64 then chunksOf r (cur ++ u) else cur :: chunksOf r u

/-- SEGMAX: the units that fit into the first SEGMAX records, and whether all do (R273). -/
def fitUnits : Nat → List (List (BitVec 64)) → List (List (BitVec 64)) × Bool
  | _, [] => ([], true)
  | n, u :: r => if u.length / 4 ≤ n then let (k, all) := fitUnits (n - u.length / 4) r; (u :: k, all) else ([], false)

/-- Emit chunks on SEAME from chunk number `n` on, their records counted; the last one carries LAST where `close` (R171, R272). -/
def State.sendChunks (s : State) (j : Int) (n : Nat) (close : Bool) (cs : List (List (BitVec 64))) : State :=
  cs.zipIdx.foldl (fun (s : State) c =>
    (s.bumpBy (Reg.SEAM_CNT 1 3) (c.1.length / 4)).sendSeam 13 2 ((n + c.2) % 16) (close && decide (c.2 + 1 = cs.length)) j c.1) s

/-- Does the module wait for the west neighbour's frames? -/
def State.hasWest (s : State) : Bool := s.flag (Reg.CAM_CTRL 12) Fld.CAM_CTRL_EN

/-- Does the module own nothing at its east edge (R268)? -/
def State.hasEast (s : State) : Bool := s.flag (Reg.CAM_CTRL 13) Fld.CAM_CTRL_EN

/-- The segment of the live strip with a masked pixel at a column of output line `j`, which is the last one processed. -/
def State.segmentAt (s : State) (j : Int) (k : Nat) : Option Segment :=
  if Store.get (fun _ => none) 0 s.seg.lastOut = some j then
    (s.strip 0).find? fun g => !g.ended && g.runs.any fun r => decide (r.1 ≤ k ∧ k ≤ r.2)
  else none

/-- HIT and TAG of the CONTACT of a line (R269): the index of the segment at column WS − 1. The overflow segment has no index, so TAG
is a free value. DEDUCED, log 141. -/
def State.eastContact (s : State) (j : Int) : Option Nat × State :=
  match s.segmentAt j (s.ws - 1) with
  | none => (none, s)
  | some g =>
    if g.tag = ovfTag then
      let (x, s) := s.freeValue
      (some (x.toNat % 65536), s)
    else (some g.tag, s)

/-- Records of a line are withheld (R273): from here on the open edge segments are issued here, with SEAMCUT, also those that wait for
western parts, and those of the records withheld. Answers the latter. -/
def State.cutEast (s : State) (withheld : List ClosedSeg) : State × List ClosedSeg :=
  let mark (c : ClosedSeg) : ClosedSeg := { c with flags := Nat.lor c.flags flSeamcut, east := false }
  let hit := ((s.strip 0).filter fun g => g.edge && !g.cut && decide (g.tag ≠ ovfTag)).map Segment.tag
    ++ (s.seg.held.filter ClosedSeg.east).map ClosedSeg.tag ++ withheld.map ClosedSeg.tag
  let segs := (s.strip 0).map fun g =>
    if g.edge && decide (g.tag ≠ ovfTag) then { g with cut := true, flags := Nat.lor g.flags flSeamcut } else g
  let held := s.seg.held.map fun c => if c.east then mark c else c
  let s := s.setStrip 0 segs
  let s := ({ s with seg := { s.seg with held := held } }).bumpBy (Reg.SEG_CNT 5) hit.eraseDups.length
  (s.event Reg.SEG_EVT Reg.SEG_EVTEN 3 18, withheld.map mark)

/-- The S-frames of an output line (R269, R272, R273): an empty chunk to the west; to the east the closed edge segments, merges and
the contact, with LAST at once where no west neighbour can add to the line. Answers the items that are issued here. DEDUCED, log 71. -/
def State.sendSegments (s : State) (j : Int) (edge : List ClosedSeg) (merges : List (Nat × Nat)) : State × List ClosedSeg :=
  let s := if s.hasWest then s.sendSeam 12 2 0 true j [] else s
  if s.hasEast then
    let units := edge.map closedBlocks ++ merges.map mergeBlocks
    let (kept, all) := fitUnits (s.fld (Reg.SEAM_SEGMAX 1) Fld.SEAM_SEGMAX_SEGMAX) units
    let (tag, s) := s.eastContact j
    let cs := chunksOf (kept ++ [contactBlocks tag (!all)]) []
    let s := s.sendChunks j 0 (!s.hasWest) cs
    let s := if s.hasWest then { s with seg := { s.seg with owed := s.seg.owed ++ [(j, cs.length)] } } else s
    if all then (s, []) else s.cutEast (edge.drop kept.length)
  else (s, edge)

/-- The part of the west neighbour with a TAG that is still open. -/
def openPart (ps : List WestPart) (tag : Nat) : Option WestPart := ps.find? fun p => decide (p.tag = tag) && p.group.isNone

/-- Change the open part with a TAG, or add one. -/
def setPart (ps : List WestPart) (p : WestPart) : List WestPart :=
  if (openPart ps p.tag).isSome then ps.map fun q => if q.tag = p.tag && q.group.isNone then p else q else ps ++ [p]

/-- Is a western part a piece that ended with CONT, its segment going on? -/
def WestPart.continued (p : WestPart) : Bool :=
  match p.group with
  | some c => bit c.flags 2
  | none => false

/-- Has a western part closed after a line? -/
def WestPart.closedAfter (p : WestPart) (line : Int) : Bool :=
  match p.group with
  | some c => decide (line < c.closing)
  | none => false

/-- A contact of the west neighbour on a line meets an own segment at column 0 (R270, R271): the link of the part that the line belongs
to, and of the pieces after it. `same` tells that both sides are masked on that line. -/
def State.linkPart (s : State) (line : Int) (tag own : Nat) (same : Bool) : State :=
  let add (n : Nat) (p : WestPart) : WestPart := { p with links := (p.links ++ [own]).eraseDups, shared := p.shared + n }
  match s.seg.parts.find? fun p => decide (p.tag = tag) && p.closedAfter line with
  | some p =>
    let part (q : WestPart) : WestPart := if q = p then add (b2n same) q else if p.continued && q.tag = tag then add 0 q else q
    { s with seg := { s.seg with parts := s.seg.parts.map part } }
  | none => { s with seg := { s.seg with parts := setPart s.seg.parts (add (b2n same) ((openPart s.seg.parts tag).getD ⟨tag, [], 0, none, none⟩)) } }

/-- Does a contact line meet an own line at the seam (R270)? -/
def State.meets (s : State) (contact own : Int) : Bool :=
  if s.flag Reg.SEG_CTRL Fld.SEG_CTRL_CONN then decide (contact = own) else decide ((contact - own).natAbs ≤ 1)

/-- The own segment at column 0 on the line just processed, linked with the contacts that have come (R270). The overflow segment links
with nothing (R267). -/
def State.ownContact (s : State) (j : Int) : State :=
  if !s.hasWest then s else
  match (s.segmentAt j 0).filter fun g => decide (g.tag ≠ ovfTag) with
  | none => s
  | some g =>
    let s := { s with seg := { s.seg with col0 := (s.seg.col0 ++ [(j, g.tag)]).drop ((s.seg.col0.length + 1) - 4) } }
    s.seg.contacts.foldl (fun (s : State) c => if s.meets c.1 j then s.linkPart c.1 c.2 g.tag (decide (c.1 = j)) else s) s

/-- A contact with OVF (R273): the links to the open western parts are dropped, their TAGs and that of the contact link no more, and own
segments that waited on them carry SEAMCUT. DEDUCED, log 141. -/
def State.cutWest (s : State) (tags : List Nat) : State :=
  let open_ := s.seg.parts.filter fun p => p.group.isNone
  let cut := (open_.flatMap WestPart.links).eraseDups
  let hit := cut.filter fun t => (s.strip 0).any (fun g => decide (g.tag = t)) || s.seg.held.any fun c => decide (c.tag = t)
  let segs := (s.strip 0).map fun g => if cut.contains g.tag then { g with flags := Nat.lor g.flags flSeamcut } else g
  let held := s.seg.held.map fun c => if cut.contains c.tag then { c with flags := Nat.lor c.flags flSeamcut } else c
  let gone := (s.seg.cutTags ++ open_.map WestPart.tag ++ tags).eraseDups
  let s := s.setStrip 0 segs
  let s := { s with seg := { s.seg with
    held := held, parts := s.seg.parts.filter fun p => p.group.isSome
    contacts := s.seg.contacts.filter fun c => !gone.contains c.2, cutTags := gone } }
  if hit.isEmpty then s else (s.bumpBy (Reg.SEG_CNT 5) hit.length).event Reg.SEG_EVT Reg.SEG_EVTEN 3 18

/-- A CONTACT record (R270, R273). -/
def State.takeContact (s : State) (j : Int) (b : BitVec 64) : State :=
  let tag := blkBits b 16 16
  let s := if bit b.toNat 9 then s.cutWest (if bit b.toNat 8 then [tag] else []) else s
  if bit b.toNat 8 && !s.seg.cutTags.contains tag then
    let s := { s with seg := { s.seg with contacts := (s.seg.contacts ++ [(j, tag)]).drop ((s.seg.contacts.length + 1) - 4) } }
    let s := if (openPart s.seg.parts tag).isSome then s else { s with seg := { s.seg with parts := s.seg.parts ++ [⟨tag, [], 0, none, none⟩] } }
    s.seg.col0.foldl (fun (s : State) c => if s.meets j c.1 then s.linkPart j tag c.2 (decide (c.1 = j)) else s) s
  else s

/-- The records name TAGs of segments that SEAMW sends again (R273). DEDUCED, log 141. -/
def State.uncut (s : State) (tags : List Nat) : State :=
  { s with seg := { s.seg with cutTags := s.seg.cutTags.filter fun t => !tags.contains t } }

/-- A MERGE record (R270): FROM becomes INTO in every link, and in the contacts that later own lines may meet. -/
def State.takeMerge (s : State) (b : BitVec 64) : State :=
  let src := blkBits b 16 16
  let dst := blkBits b 32 16
  let s := s.uncut [src, dst]
  let s := { s with seg := { s.seg with contacts := s.seg.contacts.map fun c => if c.2 = src then (c.1, dst) else c } }
  match openPart s.seg.parts src with
  | none => s
  | some p =>
    let q := (openPart s.seg.parts dst).getD ⟨dst, [], 0, none, none⟩
    let rest := s.seg.parts.filter fun x => !(x.tag == src && x.group.isNone)
    { s with seg := { s.seg with parts := setPart rest { q with links := (q.links ++ p.links).eraseDups, shared := q.shared + p.shared } } }

/-- A CLOSED group (R270): the part has closed; a continued piece leaves the TAG open with the same links. -/
def State.takeClosed (s : State) (c : ClosedSeg) : State :=
  let s := s.uncut [c.tag]
  let p := (openPart s.seg.parts c.tag).getD ⟨c.tag, [], 0, none, none⟩
  let rest := s.seg.parts.filter fun x => !(x.tag == c.tag && x.group.isNone)
  let next := if bit c.flags 2 then [{ p with shared := 0 }] else []
  { s with seg := { s.seg with parts := rest ++ [{ p with group := some c }] ++ next } }

/-- The newest slot whose S-frames name a line. -/
def State.slotTime (s : State) (j : Int) : Option SlotTime := s.seg.times.reverse.find? fun t => decide (t.line = j)

/-- The time by which cards that close on an output line are to leave. -/
def State.timeOfOutput (s : State) (j : Int) : Nat := ((s.slotTime j).map SlotTime.due).getD s.now

/-- The kind and part of a record (R269). -/
def recordKind (bs : List (BitVec 64)) : Nat × Nat :=
  let b := bs.headD 0
  (blkBits b 0 4, blkBits b 4 4)

/-- The records behind those of a broken CLOSED group (R269). -/
def skipParts : Nat → List (BitVec 64) → List (BitVec 64)
  | 0, bs => bs
  | n + 1, bs => if (recordKind bs).1 = 3 ∧ (recordKind bs).2 ≠ 0 then skipParts n (bs.drop 4) else bs

/-- Do blocks begin with a whole CLOSED group (R269)? -/
def wholeGroup (bs : List (BitVec 64)) : Bool :=
  decide (16 ≤ bs.length) && (List.range 4).all fun i => decide (recordKind (bs.drop (4 * i)) = (3, i))

/-- Take the records of a chunk in order (R269, R270); a record of unknown kind, or a broken group, is discarded and counted once. `n`
bounds the records. -/
def State.takeRecords (s : State) (j : Int) : Nat → List (BitVec 64) → State
  | 0, _ => s
  | n + 1, bs =>
    match bs with
    | [] => s
    | b :: _ =>
      let k := recordKind bs
      if k = (1, 0) then (s.takeContact j b).takeRecords j n (bs.drop 4)
      else if k = (2, 0) then (s.takeMerge b).takeRecords j n (bs.drop 4)
      else if wholeGroup bs then (s.takeClosed (readClosed j (s.timeOfOutput j) (s.cdOf 0) bs)).takeRecords j n (bs.drop 16)
      else (s.copyError 12).takeRecords j n (if k.1 = 3 then skipParts 3 (bs.drop 4) else bs.drop 4)

/-! ### Merged segments (R270 to R272) -/

/-- A merged segment in the making: indexes of own segments, and the west parts. -/
structure Merged where
  own : List Nat
  parts : List WestPart
  deriving DecidableEq, Repr

/-- Put a part into the merged segments so far. -/
def addMerged (ms : List Merged) (p : WestPart) : List Merged :=
  let hit := ms.filter fun m => m.own.any fun t => p.links.contains t
  let rest := ms.filter fun m => !(m.own.any fun t => p.links.contains t)
  rest ++ [⟨(hit.flatMap Merged.own ++ p.links).eraseDups, hit.flatMap Merged.parts ++ [p]⟩]

/-- Combine the closed parts of a merged segment (R271); the shelfmark is that of the part with the earliest FIRST, between equal ones
of that furthest west. -/
def combine (shared segid : Nat) (c : ClosedSeg) (rest : List ClosedSeg) : ClosedSeg :=
  let m := rest.foldl (fun (x : ClosedSeg) y =>
    { x with f := x.f.join y.f, piece := max x.piece y.piece, flags := Nat.lor x.flags y.flags
             closing := max x.closing y.closing, due := max x.due y.due, east := x.east || y.east }) c
  let lead := rest.foldl (fun (x : ClosedSeg) y =>
    if y.f.first < x.f.first ∨ (y.f.first = x.f.first ∧ y.f.col0 < x.f.col0) then y else x) c
  let m := { m with segid := segid, west := false }
  if rest.isEmpty then m
  else { m with f := { m.f with runs := m.f.runs - shared, mark := lead.f.mark }
                flags := Nat.lor m.flags (Nat.lor flMerged (if m.f.sat then flSatfeat else 0)) }

/-- The merged segments that can be decided once the contact of line `j` is in (R270): every west part has its group, no own segment
is open, nothing closes after `j`. Own segments without a part are decided too. -/
def State.decidable (s : State) (j : Int) (m : Merged) : Bool :=
  m.parts.all (fun p => match p.group with
    | some c => decide (c.closing ≤ j)
    | none => false) && m.own.all fun t => !((s.strip 0).any fun g => decide (g.tag = t)) && s.seg.held.all fun c => decide (c.tag ≠ t ∨ c.closing ≤ j)

/-- Is an item sent to SEAME (R268)? -/
def State.goesEast (s : State) (c : ClosedSeg) : Bool := s.hasEast && c.east

/-- Does an item wait for the parts of SEAMW (R268, R270)? -/
def State.waitsWest (s : State) (c : ClosedSeg) : Bool := s.hasWest && c.west

/-- The segments that wait, own and western, as they are linked (R270). -/
def State.linked (s : State) : List Merged :=
  let ms := s.seg.parts.foldl addMerged []
  ms ++ (((s.seg.held.map ClosedSeg.tag).eraseDups).filter fun t => !(ms.any fun m => m.own.contains t)).map fun t => ⟨[t], []⟩

/-- The own items of a merged segment that have closed by a line, and its western parts that have. -/
def State.readyItems (s : State) (m : Merged) (k : Int) : List ClosedSeg × List WestPart :=
  (sortBy (fun x y => decide (x.f.first < y.f.first ∨ (x.f.first = y.f.first ∧ x.f.col0 ≤ y.f.col0)))
      (s.seg.held.filter fun c => m.own.contains c.tag && decide (c.closing ≤ k)),
    m.parts.filter fun p => match p.group with
      | some c => decide (c.closing ≤ k)
      | none => false)

/-- The line up to which a merged segment can be issued at line `j` (R266, R270): the earliest cut among its pieces, else line `j` once it
can be decided as a whole. -/
def State.issueLine (s : State) (j : Int) (m : Merged) : Option Int :=
  let (own, parts) := s.readyItems m j
  let cuts := ((own ++ parts.filterMap WestPart.group).filter fun c => bit c.flags 2).map ClosedSeg.closing
  match cuts with
  | k :: r => some (r.foldl min k)
  | [] => if s.decidable j m then some j else none

/-- Issue a merged segment, or its pieces of a cut (R266, R270, R271): the SEGID is that of an own part, else the one of its earlier
pieces, else the next of this node, which its further pieces keep (R288). -/
def State.issueMerged (j : Int) (w : State × List ClosedSeg) (m : Merged) : State × List ClosedSeg :=
  let s := w.1
  match s.issueLine j m with
  | none => w
  | some k =>
    let (own, parts) := s.readyItems m k
    match own ++ parts.filterMap WestPart.group with
    | [] => w
    | c :: rest =>
      let earlier := ((own.head?).map ClosedSeg.segid) <|> parts.findSome? WestPart.segid
      let s := if earlier.isSome then s else { s with seg := { s.seg with serial := (s.seg.serial + 1) % 2 ^ 32 } }
      let id := earlier.getD w.1.seg.serial
      let tags := (parts.filter WestPart.continued).map WestPart.tag
      let s := { s with seg := { s.seg with
        held := s.seg.held.filter fun c => !own.contains c
        parts := (s.seg.parts.filter fun p => !parts.contains p).map fun p =>
          if tags.contains p.tag then { p with segid := some (p.segid.getD id) } else p } }
      (s, w.2 ++ [combine ((parts.map WestPart.shared).sum) id c rest])

/-- Decide merged segments, held segments and parts of the west neighbour at line `j` (R270, R272). Answers what is issued here and
what goes east. -/
def State.decideMerged (s : State) (j : Int) : State × List ClosedSeg × List ClosedSeg :=
  let (s, made) := s.linked.foldl (State.issueMerged j) (s, [])
  (s, made.filter fun c => !s.goesEast c, made.filter s.goesEast)

/-- The frames of a line are all in from the west and the line is processed: forward what goes east and close the line (R272). -/
def State.closeSeamLine (s : State) (j : Int) (forward : List ClosedSeg) : State :=
  match s.seg.owed.find? fun o => decide (o.1 = j) with
  | none => s
  | some o =>
    let cs := chunksOf (forward.map closedBlocks) []
    let s := s.sendChunks j o.2 true cs
    { s with seg := { s.seg with owed := s.seg.owed.filter fun x => decide (x.1 ≠ j) } }

end Sys2Proof.Machine
end

