-- ==== Sys2Proof/Machine/Cards.lean ====
section
/-! DEFINITION. The card builder (10_segments_cards.md): catalogue, routing, buckets, cards, flood cards, lacuna cards and crop
requests. -/

namespace Sys2Proof.Machine

/-! ### Catalogue -/

/-- Word `w` of a catalogue bank. -/
def State.catWord (s : State) (bank w : Nat) : Nat := (Store.get (fun _ => (0 : Word)) (bank * 8192 + w) s.card.cat).toNat

/-- The live catalogue bank (R293). -/
def State.catBank (s : State) : Nat := s.fld Reg.CAT_TCTL Fld.CAT_TCTL_BANK

/-- The feature of a card that FSEL names (R282). -/
def featureOf (c : ClosedSeg) (flags fsel : Nat) : Nat :=
  let f := c.f
  let h := (f.last - f.first + 1).toNat
  let w := (f.east - f.col0 + 1).toNat
  let v := if fsel = 1 then f.area else if fsel = 2 then h else if fsel = 3 then w else if fsel = 4 then f.vmin
    else if fsel = 5 then f.vmax else if fsel = 6 then f.vsum / f.area
    else if fsel = 7 then (f.area * f.vsq - f.vsum * f.vsum) / (f.area * f.area)
    else if fsel = 8 then f.runs else if fsel = 9 then f.vmax - f.vmin
    else if fsel ≤ 13 then (f.hist[fsel - 10]?).getD 0
    else if fsel = 14 then f.area * 65536 / (h * w) else if fsel = 15 then h * 256 / w
    else if fsel = 16 then f.col0.toNat else if fsel = 17 then f.col0.toNat + f.xsum / f.area
    else if fsel = 18 then c.piece else if fsel = 19 then flags % 65536 else 0
  min 0xFFFFFFFF v

/-- Does term `t` of rule `r` pass (R283)? -/
def State.termPasses (s : State) (bank r t : Nat) (c : ClosedSeg) (flags : Nat) : Bool :=
  let sel := s.catWord bank (32 * r + 1 + 3 * t)
  if sel % 32 = 0 then true
  else
    let v := featureOf c flags (sel % 32)
    decide (s.catWord bank (32 * r + 2 + 3 * t) ≤ v ∧ v ≤ s.catWord bank (32 * r + 3 + 3 * t)) != bit sel 5

/-- The class and rule of a card (R283); the last result tells that no rule matched. -/
def State.classify (s : State) (c : ClosedSeg) (flags : Nat) : Nat × Nat × Bool :=
  let bank := s.catBank
  match (List.range (min 256 (s.fld Reg.CARD_LIMITS Fld.CARD_LIMITS_NRULES))).find? fun r =>
      (List.range 8).all fun t => s.termPasses bank r t c flags with
  | some r => (s.catWord bank (32 * r) % 64, r, false)
  | none => (s.fld Reg.CARD_CTRL Fld.CARD_CTRL_DEFCLASS, 0xFF, true)

/-! ### Buckets -/

/-- One token in the units of the buckets. -/
def tokenUnit : Nat := 1000000000000

/-- Show the buckets in CARD_BUCKET. -/
def State.showBuckets (s : State) : State :=
  (List.range 4).foldl (fun (s : State) q =>
    (s.setFld (Reg.CARD_BUCKET q) Fld.CARD_BUCKET_CARDS (Store.get (fun _ => 0) q s.card.cards / tokenUnit)).setFld
      (Reg.CARD_BUCKET q) Fld.CARD_BUCKET_CROPS (Store.get (fun _ => 0) q s.card.crops / tokenUnit)) s

/-- Refill the buckets up to now (R278, R287). -/
def State.refill (s : State) : State :=
  let dt := s.now - s.card.refillAt
  let add (cap reg : Nat) (b : Bits) (m : Store Nat) (q : Nat) : Store Nat :=
    Store.set (fun _ => 0) q (min (cap * tokenUnit) (Store.get (fun _ => 0) q m + s.fld (reg + 4 * q) b * dt)) m
  let cards := (List.range 4).foldl (add 2048 (Reg.ACC_CQRATE 0) Fld.ACC_CQRATE_RATE) s.card.cards
  let crops := (List.range 4).foldl (add 4 (Reg.ACC_CQCROP 0) Fld.ACC_CQCROP_RATE) s.card.crops
  ({ s with card := { s.card with cards := cards, crops := crops, refillAt := s.now } }).showBuckets

/-- The buckets on entry to Inspecting: full (R278, R287). -/
def State.fillBuckets (s : State) : State :=
  let full (cap : Nat) : Store Nat := (List.range 4).map fun q => (q, cap * tokenUnit)
  ({ s with card := { s.card with cards := full 2048, crops := full 4, refillAt := s.now } }).showBuckets

/-- Take a card token (R278); none where the bucket is empty. -/
def State.takeToken (s : State) (q : Nat) : Option State :=
  let n := Store.get (fun _ => 0) q s.card.cards
  if n < tokenUnit then none
  else some ({ s with card := { s.card with cards := Store.set (fun _ => 0) q (n - tokenUnit) s.card.cards } }).showBuckets

/-- Take a crop token (R287). -/
def State.takeCropToken (s : State) (q : Nat) : Option State :=
  let n := Store.get (fun _ => 0) q s.card.crops
  if n < tokenUnit then none
  else some ({ s with card := { s.card with crops := Store.set (fun _ => 0) q (n - tokenUnit) s.card.crops } }).showBuckets

/-! ### Card bytes -/

/-- The 126 bytes of a card before its CRC, with the CRC of R289 behind them. -/
def withCrc (b : List Byte) : List Byte := b ++ leBytes 2 (crc16 (byteBits b))

/-- Bytes 0 to 15 of a card (R288). -/
def State.cardHead (s : State) (typ source flags q seq segid : Nat) : List Byte :=
  leBytes 1 typ ++ leBytes 1 (source % 32) ++ leBytes 2 flags ++ leBytes 2 (s.fld Reg.SYS_NODE Fld.SYS_NODE_NODE_ID + q * 2 ^ 14)
    ++ leBytes 6 seq ++ leBytes 4 segid

/-- What a card says beyond its header and shelfmark (R288). -/
structure CardTail where
  cls : Nat
  rule : Nat
  tag : Nat
  cw : Nat
  ch : Nat
  folded : Nat
  deriving DecidableEq, Repr

/-- Bytes 44 to 125 of a card (R288). -/
def cardBody (c : ClosedSeg) (t : CardTail) : List Byte :=
  let f := c.f
  leBytes 4 f.area ++ leBytes 4 (unsignedOf 32 (f.last - f.first + 1)) ++ leBytes 4 (unsignedOf 32 f.col0)
    ++ leBytes 4 (unsignedOf 32 (f.east - f.col0 + 1)) ++ leBytes 6 f.vsum ++ leBytes 8 f.vsq ++ leBytes 2 f.vmin ++ leBytes 2 f.vmax
    ++ leBytes 8 f.xsum ++ leBytes 8 f.ysum ++ leBytes 4 f.runs ++ (List.range 4).flatMap (fun i => leBytes 2 ((f.hist[i]?).getD 0))
    ++ leBytes 1 (t.cls % 64) ++ leBytes 1 t.rule ++ leBytes 4 t.tag ++ leBytes 2 t.cw ++ leBytes 2 t.ch ++ leBytes 2 c.piece
    ++ leBytes 4 t.folded ++ leBytes 4 0

/-- CD of the west column of a segment's box (R42, R54), counted from column 0 of the first line's own shelfmark, as a replay card keeps it
(R56). DEDUCED, log 76. -/
def State.cardCd (s : State) (c : ClosedSeg) : Int :=
  signed 32 (unsignedOf 32 (c.f.mark.cd + (s.cdOf (c.f.col0 - (s.fld Reg.SEG_COLBASE Fld.SEG_COLBASE_V : Int)) - s.cdOf 0)))

/-- The compact shelfmark of a card (R52, R54, R271): the first line's mark, with its CD. -/
def State.cardMark (s : State) (c : ClosedSeg) (cd : Int) : List Byte :=
  compact (s.shelfmark c.f.mark.md cd c.f.mark.count c.f.mark.stamp 0 0 2 c.f.first)

/-- NEXTSEQ of a circulation queue (R280). -/
def State.nextSeq (s : State) (q : Nat) : Nat := s.get64 (Reg.CARD_NEXTSEQ_LO q) % 2 ^ 48

/-- The bound DTIME in ps: cards of a line leave by its slot's trigger time plus DTIME (R249). -/
def State.dtime (s : State) : Nat := s.num (Reg.ACC_BOUND 1) * 1000

/-- Enter a card in its circulation queue with the next number (R280); one that does not fit takes no number (R362). -/
def State.enterCard (s : State) (q : Nat) (bytes : Nat → List Byte) (due : Nat) (first : Int) (mark : LineMark) : State :=
  let seq := s.nextSeq q
  let b := withCrc (bytes seq)
  if s.qFits (60 + q) b.length then
    (s.set64 (Reg.CARD_NEXTSEQ_LO q) ((seq + 1) % 2 ^ 48)).qCommit (60 + q) b seq 1 (some due)
  else
    let r := match s.card.refusedFirst with
      | some (f, m) => if first < f then (first, mark) else (f, m)
      | none => (first, mark)
    ({ s with card := { s.card with refusedFirst := some r } }).cqEnqueue (60 + q) b seq 1 none

/-! ### Folding and flood cards -/

/-- Fold a segment with its card flags into the flood card of a queue (R276, R278, R279). -/
def State.fold (s : State) (q : Nat) (c : ClosedSeg) (flags : Nat) : State :=
  let s := s.bump (Reg.CARD_CNT 3)
  let acc : FloodAcc := match Store.get (fun _ => none) q s.card.floods with
    | none => ⟨{ c with flags := flags }, 1, s.cardCd c⟩
    | some a =>
      let lead := decide (c.f.first < a.c.f.first)
      ⟨{ a.c with f := { a.c.f.join c.f with mark := if lead then c.f.mark else a.c.f.mark }, flags := Nat.lor a.c.flags flags },
        min 0xFFFFFFFF (a.folded + 1), if lead then s.cardCd c else a.cd⟩
  { s with card := { s.card with floods := Store.set (fun _ => none) q (some acc) s.card.floods } }

/-- The flood card of a queue at the end of a slot (R279). XSUM, YSUM, PIECE and SEGID are not stated for it: free values. DEDUCED, log 76. DESIGN CHOICE, log 77. -/
def State.floodCard (outLine : Int) (due : Nat) (s : State) (q : Nat) : State :=
  match Store.get (fun _ => none) q s.card.floods with
  | none => s
  | some a =>
    match s.takeToken q with
    | none => s
    | some s =>
      let s := { s with card := { s.card with floods := Store.set (fun _ => none) q none s.card.floods } }
      let (x, s) := s.freeValue
      let (y, s) := s.freeValue
      let (z, s) := s.freeValue
      let c := { a.c with f := { a.c.f with xsum := x.toNat, ysum := y.toNat }, piece := z.toNat % 65536, closing := outLine }
      let s := (s.bump (Reg.CARD_CNT 2)).event Reg.CARD_EVT Reg.CARD_EVTEN 0 19
      s.enterCard q (fun seq => s.cardHead 3 31 c.flags q seq (z.toNat / 65536 % 2 ^ 32) ++ s.cardMark c a.cd
        ++ cardBody c ⟨0, 0xFF, 0, 0, 0, a.folded⟩) due c.f.first c.f.mark

/-- The flood cards of a slot's end (R279). DEDUCED, log 80. -/
def State.floodCards (s : State) (outLine : Int) (due : Nat) : State :=
  if s.flag Reg.CARD_CTRL Fld.CARD_CTRL_EN && !s.flag Reg.RED_STATUS Fld.RED_STATUS_JOINING then (List.range 4).foldl (State.floodCard outLine due) s else s

/-! ### Crop requests -/

/-- The crop of a card (R286): first column, columns, lines and last line after clipping to the stitched width and to the lines that
the stacks still hold, and whether it was clipped. DEDUCED, log 79. -/
def State.cropArea (s : State) (c : ClosedSeg) (route : Nat) : Nat × Nat × Nat × Int × Bool :=
  let cw : Int := 8 * s.fld route Fld.CARD_ROUTE_CW8
  let ch : Int := 8 * s.fld route Fld.CARD_ROUTE_CH8
  let cx := c.f.col0 + Int.fdiv (c.f.east - c.f.col0 + 1) 2 - s.fld Reg.SEG_COLBASE Fld.SEG_COLBASE_V
  let cy := c.f.first + Int.fdiv (c.f.last - c.f.first + 1) 2
  let x0 := cx - Int.fdiv cw 2
  let y0 := cy - Int.fdiv ch 2
  let xa := max 0 x0
  let xb := min (s.ws : Int) (x0 + cw)
  let held : Int := (s.get64 Reg.STACKS_HEADROW_LO : Int) - s.get64 Reg.STACKS_OLDROW_LO
  let oldLine := s.getS64 Reg.STACKS_HEADLINE_LO - held
  let ya := if s.flag Reg.STACKS_CTRL Fld.STACKS_CTRL_EN then max oldLine y0 else y0
  let w := (xb - xa).toNat
  let h := (y0 + ch - ya).toNat
  (xa.toNat, w, h, y0 + ch - 1, decide ((w : Int) ≠ cw ∨ (h : Int) ≠ ch))

/-- A crop request as an inspection that ends leaves it (R286, R331): ready, and clipped to the rows held, the last of which is line
`head`. -/
def CropReq.atHalt (r : CropReq) (head : Int) : CropReq :=
  if r.last ≤ head then { r with ready := true }
  else
    let less := (r.last - head).toNat
    { r with ready := true, last := head, ch := r.ch - less, clipped := true, dropped := r.dropped || decide (r.ch ≤ less) }

/-- The newest held line, where a row is held. -/
def State.headLine (s : State) : Option Int := if s.stk.empty then none else some (s.getS64 Reg.STACKS_HEADLINE_LO)

/-- A crop request as it enters its list (R331): ready where its last line is committed already, and where the inspection has ended. -/
def State.cropEnters (s : State) (r : CropReq) : CropReq :=
  match s.headLine with
  | some l => if s.inspects then { r with ready := r.ready || decide (r.last ≤ l) } else r.atHalt l
  | none => { r with ready := r.ready || !s.inspects }

/-- Request the crop of a card where its class asks for one (R286, R287; a list of 4,096 is full, R331): the flags it adds and CROPTAG, CROPW, CROPH. DEDUCED, log 79. -/
def State.requestCrop (s : State) (c : ClosedSeg) (route q seq : Nat) : State × Nat × Nat × Nat × Nat :=
  if !s.flag route Fld.CARD_ROUTE_CROP then (s, 0, 0, 0, 0)
  else match s.takeCropToken q with
    | none => ((s.bump (Reg.CARD_CNT 5)).event Reg.CARD_EVT Reg.CARD_EVTEN 3 19, flCropdrop, 0, 0, 0)
    | some s =>
      let (x, w, h, last, clip) := s.cropArea c route
      let tag := s.card.cropSerial % (2 ^ 32 - 1) + 1
      let rs := Store.get (fun _ => []) q s.cropReqs
      let full := decide (4096 ≤ (rs.filter fun r => !r.dropped).length)
      let r : CropReq := ⟨q, seq, tag, x, w, h, last, s.flag route Fld.CARD_ROUTE_CROPSTREAM, clip, full, full⟩
      let s := { s with card := { s.card with cropSerial := s.card.cropSerial + 1 }, cropReqs := Store.set (fun _ => []) q (rs ++ [s.cropEnters r]) s.cropReqs }
      (s, if clip then flCropclip else 0, tag, w, h)

/-! ### Cards -/

/-- SOURCE of a card (R288). -/
def State.cardSource (s : State) (c : ClosedSeg) : Nat :=
  match c.replay with
  | some r => r
  | none =>
    let k := c.f.col0 - (s.fld Reg.SEG_COLBASE Fld.SEG_COLBASE_V : Int)
    if k < 0 then 31 else (s.territoryOf k.toNat).getD 31

/-- Turn a closed segment or piece into a card (R276 to R278, R283, R286 to R288). DEDUCED, log 76. -/
def State.buildCard (s : State) (c : ClosedSeg) : State :=
  let (cls, rule, none_) := s.classify c c.flags
  let s := if none_ then (s.bump (Reg.CARD_CNT 1)).event Reg.CARD_EVT Reg.CARD_EVTEN 2 19 else s
  let route := Reg.CARD_ROUTE cls
  if s.flag route Fld.CARD_ROUTE_DROP then s.bump (Reg.CARD_CNT 6)
  else
    let q := s.fld route Fld.CARD_ROUTE_QUEUE
    match s.takeToken q with
    | none => ((s.bump (Reg.CARD_CNT 4)).event Reg.CARD_EVT Reg.CARD_EVTEN 1 19).fold q c (Nat.lor c.flags (if none_ then flNomatch else 0))
    | some s =>
      let (s, fl, tag, w, h) := s.requestCrop c route q (s.nextSeq q)
      let flags := Nat.lor (Nat.lor c.flags fl) (if none_ then flNomatch else 0)
      let s := s.bump (Reg.CARD_CNT 0)
      s.enterCard q (fun seq => s.cardHead c.typ (s.cardSource c) flags q seq c.segid ++ s.cardMark c (s.cardCd c) ++ cardBody c ⟨cls, rule, tag, w, h, 0⟩)
        c.due c.f.first c.f.mark

/-- Does a join keep the card builder silent (R503)? -/
def State.joining (s : State) : Bool := s.flag Reg.RED_STATUS Fld.RED_STATUS_JOINING

/-- What a joiner does with its own cards (R503): it discards those of slots up to the one whose end sends the queues, and holds later
ones until it has loaded the numbers. -/
def State.joinHold (s : State) (cs : List ClosedSeg) : State :=
  match s.red.joinEnd, s.slots with
  | some e, sl :: _ => if e < sl.line then { s with red := { s.red with joinCards := s.red.joinCards ++ [cs] } } else s
  | _, _ => s

/-- How many segments that close on an output line of a strip have come to the builder (R276). -/
def State.burstOf (s : State) (strip : Nat) (line : Int) : Nat :=
  ((s.card.bursts.find? fun b => decide (b.1 = strip ∧ b.2.1 = line)).map fun b => b.2.2).getD 0

/-- An output line of a strip begins: none of its segments have come to the builder. -/
def State.newBurst (s : State) (strip : Nat) (line : Int) : State :=
  { s with card := { s.card with bursts := (s.card.bursts.filter fun b => !decide (b.1 = strip ∧ b.2.1 = line)).take 63 } }

/-- One segment more has come. -/
def State.countBurst (s : State) (strip : Nat) (line : Int) : State :=
  let n := s.burstOf strip line
  let s := s.newBurst strip line
  { s with card := { s.card with bursts := (strip, line, n + 1) :: s.card.bursts } }

/-- A segment goes to the card builder (R276): one of the first BURST of its closing line becomes a card, another is folded into FLOODQ's
flood card. -/
def State.takeClosing (s : State) (c : ClosedSeg) : State :=
  let strip := c.replay.getD 0
  let n := s.burstOf strip c.closing
  let s := s.countBurst strip c.closing
  if n < s.fld Reg.CARD_LIMITS Fld.CARD_LIMITS_BURST then s.buildCard c
  else s.fold (s.fld Reg.CARD_CTRL Fld.CARD_CTRL_FLOODQ) c c.flags

/-- Cards of what closes on an output line (R276): the first BURST become cards, the rest is folded into FLOODQ's flood card. DESIGN CHOICE, log 74. -/
def State.buildCards (s : State) (cs : List ClosedSeg) : State :=
  if !s.flag Reg.CARD_CTRL Fld.CARD_CTRL_EN then s
  else if s.joining then s.joinHold cs
  else cs.foldl State.takeClosing s

/-! ### Lacuna cards -/

/-- The circulation queues that the collection routes cards to: those of classes not dropped, and FLOODQ. DEDUCED, log 75. -/
def State.routedQueues (s : State) : List Nat :=
  (List.range 4).filter fun q => decide (q = s.fld Reg.CARD_CTRL Fld.CARD_CTRL_FLOODQ) ||
    (List.range 64).any fun c => !s.flag (Reg.CARD_ROUTE c) Fld.CARD_ROUTE_DROP && decide (s.fld (Reg.CARD_ROUTE c) Fld.CARD_ROUTE_QUEUE = q)

/-- The mark of a line: as recorded, or for a line that had no trigger its target (R39) with a free time. DEDUCED, log 57. -/
def State.markOf (s : State) (j : Int) : LineMark × State :=
  match s.card.marks.find? fun m => decide (m.1 = j) with
  | some m => (m.2, s)
  | none =>
    let (x, s) := s.freeValue
    (⟨s.mdOf (s.target j), s.target j, x.toNat * 2 ^ 40, s.cdOf 0⟩, s)

/-- Issue the waiting lacuna card to every routed queue (R275, R291, R481): `j0` is the first line after the gap. SEGID is not stated
for it: a free value. DESIGN CHOICE, log 77. DEDUCED, log 78. -/
def State.lacunaCards (s : State) (j0 : Int) (due : Nat) : State :=
  match s.card.lacuna with
  | none => s
  | some l =>
    let s := { s with card := { s.card with lacuna := none } }
    if !s.flag Reg.CARD_CTRL Fld.CARD_CTRL_EN || s.joining then s
    else
      let (lm, s) := match l.mark with
        | some m => (m, s)
        | none => s.markOf l.first
      let s := s.event Reg.CARD_EVT Reg.CARD_EVTEN 4 19
      s.routedQueues.foldl (fun (s : State) q =>
        let (z, s) := s.freeValue
        let g := Store.get (fun _ => (0, 0)) q l.gaps
        let body := leBytes 8 (unsignedOf 64 l.first) ++ leBytes 8 (unsignedOf 64 (j0 - 1))
          ++ leBytes 8 (unsignedOf 64 (s.mdOf (s.target (j0 - 1)))) ++ leBytes 6 g.1 ++ leBytes 4 g.2 ++ leBytes 1 l.reason
          ++ List.replicate 47 0
        s.enterCard q (fun seq => s.cardHead 4 31 0 q seq (z.toNat % 2 ^ 32)
          ++ compact (s.shelfmark lm.md lm.cd lm.count lm.stamp 31 0 1 l.first) ++ body) due l.first lm) s

/-! ### The catalogue table port -/

/-- Step CAT_TIDX (R293). -/
def State.catStep (s : State) : State :=
  if s.flag Reg.CAT_TCTL Fld.CAT_TCTL_AUTOINC then
    s.setFld Reg.CAT_TIDX Fld.CAT_TIDX_IDX ((s.fld Reg.CAT_TIDX Fld.CAT_TIDX_IDX + 1) % 8192) else s

/-- A write of CAT_TDATA (R281, R233, R293). -/
def State.catWrite (s : State) (v : Word) : State :=
  let s := if s.fld Reg.ACC_STATUS Fld.ACC_STATUS_SSTATE ≠ 0 then s.rejectStaged Reg.CAT_TDATA
    else { s with card := { s.card with
      cat := Store.set (fun _ => 0) ((1 - s.catBank) * 8192 + s.fld Reg.CAT_TIDX Fld.CAT_TIDX_IDX) v s.card.cat } }
  s.catStep

/-- A read of CAT_TDATA (R293). -/
def State.catRead (s : State) : Word × State :=
  let bank := if s.flag Reg.CAT_TCTL Fld.CAT_TCTL_RBANK then 1 - s.catBank else s.catBank
  (Store.get (fun _ => 0) (bank * 8192 + s.fld Reg.CAT_TIDX Fld.CAT_TIDX_IDX) s.card.cat, s.catStep)

end Sys2Proof.Machine
end

