-- ==== Sys2Proof/Machine/Stacks.lean ====
section
/-! DEFINITION. The stacks, the reading pipelines and the crop channels (12_stacks_dma.md R317 to R333): rows and their headers,
commit and hold, replays tick by tick, crop records. -/

namespace Sys2Proof.Machine

/-! ### Rows -/

/-- Stored bits per pixel for a WIDTH code (R317). -/
def storedBits (code : Nat) : Nat := if code = 0 then 8 else if code = 1 then 12 else 16

/-- The stored pixel width in force. -/
def State.stacksBits (s : State) : Nat := storedBits (s.fld Reg.STACKS_CTRL Fld.STACKS_CTRL_WIDTH)

/-- A pixel as stored (R319). -/
def storePixel (b v : Nat) : Nat := if b = 16 then v else min (2 ^ b - 1) ((v + 2 ^ (15 - b)) / 2 ^ (16 - b))

/-- A stored pixel expanded to 16 bits (R319). -/
def expandPixel (b v : Nat) : Nat := v * 2 ^ (16 - b)

/-- Values of `b` bits as one stream of `n` bytes, least significant bit first (R319). -/
def packStream (b n : Nat) (vs : List Nat) : List Byte := leBytes n (vs.foldr (fun v acc => v % 2 ^ b + acc * 2 ^ b) 0)

/-- Element `k` of a stream of `b`-bit values (R319). -/
def streamAt (b : Nat) (bytes : List Byte) (k : Nat) : Nat :=
  ofLeBytes ((bytes.drop (k * b / 8)).take 3) / 2 ^ (k * b % 8) % 2 ^ b

/-- l_s of R244 for a stitched width and a pixel width. -/
def lineBytes (ws b : Nat) : Nat := (ws * b + 7) / 8 + 64

/-- The ring's stride (R318). -/
def strideOf (ws b : Nat) : Nat := 64 * ((lineBytes ws b + 63) / 64)

/-- The address of a row in GDDR6 (R318). -/
def State.rowAddr (s : State) (row : Nat) : Nat :=
  s.get64 Reg.STACKS_BASE_LO + row % s.fld Reg.STACKS_NROWS Fld.STACKS_NROWS_NROWS * s.num Reg.STACKS_STRIDE

/-- The 64 header bytes of a row (R320), or of a relay line record with its own first column, columns and width (R395). -/
def State.rowHeader (s : State) (sl : Slot) (o : OpenLine) (row col0 ncol width : Nat) : List Byte :=
  let flagged (side : Nat) : Nat := match s.seamRow side true o.line with
    | some r => b2n (decide (r.flags ≠ 0))
    | none => 0
  s.shelfmark (s.mdOf sl.count) (s.cdOf col0) sl.count sl.stamp 31 sl.phase 1 sl.line ++ leBytes 8 row ++ leBytes 6 (flagWord o.rows)
    ++ leBytes 1 (flagged 12 + 2 * flagged 13) ++ leBytes 1 width ++ leBytes 4 (s.num Reg.ACC_LIVEDIG) ++ leBytes 3 ncol ++ [0]

/-- The bytes of a row (R318 to R320). -/
def State.rowBytes (s : State) (sl : Slot) (o : OpenLine) (row : Nat) : List Byte :=
  let b := s.stacksBits
  s.rowHeader sl o row 0 s.ws (s.fld Reg.STACKS_CTRL Fld.STACKS_CTRL_WIDTH) ++ packStream b (strideOf s.ws b - 64) ((s.columns o 0 s.ws).map fun c => storePixel b c.value)

/-- A processing slot opens for a line that becomes the next row (R321); the row it will overwrite is held no longer (R323). -/
def State.stacksSlotOpen (s : State) (j : Int) : State :=
  if s.flag Reg.STACKS_CTRL Fld.STACKS_CTRL_EN then
    let row := s.stk.next
    let oldest := max (s.get64 Reg.STACKS_OLDROW_LO) (row + 1 - s.fld Reg.STACKS_NROWS Fld.STACKS_NROWS_NROWS)
    let s := { s with stk := { s.stk with next := row + 1, pending := s.stk.pending ++ [⟨row, j, none⟩] } }
    if s.stk.empty then s else s.set64 Reg.STACKS_OLDROW_LO oldest
  else s

/-- The slot of a line ends: the bytes of its row are known (R321). -/
def State.stacksSlotEnd (s : State) (sl : Slot) : State :=
  match s.stitch.cur with
  | none => s
  | some o =>
    { s with stk := { s.stk with pending := s.stk.pending.map fun r =>
      if r.line = sl.line && r.bytes.isNone then { r with bytes := some (s.rowBytes sl o r.row) } else r } }

/-- Requests whose crop's last line is committed become ready (R331). -/
def State.cropsReady (s : State) (line : Int) : State :=
  { s with cropReqs := s.cropReqs.map fun e => (e.1, e.2.map fun r => { r with ready := r.ready || decide (r.last ≤ line) }) }

/-- The oldest row whose bytes are known is committed (R322, R323). -/
def State.stacksCommit (s : State) : State :=
  match s.stk.pending with
  | [] => s
  | r :: rest =>
    match r.bytes with
    | none => s
    | some bytes =>
      let fresh := s.stk.empty
      let s := { s with ram := writeBytes s.ram (s.rowAddr r.row) bytes, stk := { s.stk with pending := rest, empty := false } }
      let s := if fresh then s.set64 Reg.STACKS_OLDROW_LO r.row else s
      let s := (s.set64 Reg.STACKS_HEADROW_LO r.row).setS64 Reg.STACKS_HEADLINE_LO r.line
      (s.bump (Reg.STACKS_CNT 0)).cropsReady r.line

/-- All held rows are lost (R323): on entry to Standby or Off, or with another stacks layout. -/
def State.stacksLose (s : State) : State :=
  let s := { s with stk := { s.stk with empty := true, pending := [] } }
  s.set64 Reg.STACKS_OLDROW_LO (s.get64 Reg.STACKS_HEADROW_LO + 1)

/-- Every pending crop request becomes ready on entry to Halted, clipped to the rows held (R331). -/
def State.cropsHalt (s : State) : State :=
  let halt (r : CropReq) : CropReq := match s.headLine with
    | some l => r.atHalt l
    | none => { r with ready := true }
  { s with cropReqs := s.cropReqs.map fun e => (e.1, e.2.map halt) }

/-- The ROW field in the header of a row's place in GDDR6 (R324). -/
def State.headerRow (s : State) (row : Nat) : Nat := ofLeBytes (readBytes s.ram (s.rowAddr row + 40) 8)

/-- The line that the header of a row's place names. -/
def State.headerLine (s : State) (row : Nat) : Int := signed 64 (ofLeBytes (readBytes s.ram (s.rowAddr row + 32) 8))

/-! ### Replays -/

/-- The replay of reading pipeline 12 + `r`. -/
def State.replay (s : State) (r : Nat) : Option ReplayHid := Store.get (fun _ => none) r s.stk.replays

/-- Store the replay of reading pipeline 12 + `r`. -/
def State.setReplay (s : State) (r : Nat) (h : Option ReplayHid) : State :=
  { s with stk := { s.stk with replays := Store.set (fun _ => none) r h s.stk.replays } }

/-- RP_CTRL.STATUS and RUNNING. -/
def State.replayStatus (s : State) (r st : Nat) : State :=
  (s.setFld (Reg.RP_CTRL r) Fld.RP_CTRL_STATUS st).setFld (Reg.RP_CTRL r) Fld.RP_CTRL_RUNNING (b2n (decide (st = 1)))

/-- The conditions of R325. -/
def State.replayAllowed (s : State) (r : Nat) : Bool :=
  let first := s.get64 (Reg.RP_FIRST_LO r)
  let n := s.num (Reg.RP_COUNT r)
  s.mode == .inspecting && decide (s.fld (Reg.ACC_REPLAY r) Fld.ACC_REPLAY_RATE ≠ 0)
    && s.flag (Reg.FOLIO_GEOM (12 + r)) Fld.FOLIO_GEOM_EN && decide (1 ≤ n) && !s.stk.empty
    && decide (s.get64 Reg.STACKS_OLDROW_LO ≤ first) && decide (first + n - 1 ≤ s.get64 Reg.STACKS_HEADROW_LO)
    && (s.replay r).isNone

/-- RP_GO (R325, R326): the replay starts with Q_0 10 µs from now and an empty ring, or STATUS becomes REFUSED. -/
def State.replayGo (s : State) (r : Nat) : State :=
  if s.replayAllowed r then
    let h : ReplayHid := ⟨s.get64 (Reg.RP_FIRST_LO r), s.num (Reg.RP_COUNT r), s.now + 10000000,
      s.fld (Reg.ACC_REPLAY r) Fld.ACC_REPLAY_RATE, s.lag (12 + r), 0, none, none, none, [], none, []⟩
    (((s.setReplay r (some h)).emptyRing (12 + r)).setNum (Reg.RP_TICK r) 0).replayStatus r 1
  else s.setFld (Reg.RP_CTRL r) Fld.RP_CTRL_STATUS 7

/-- The state with the registers of a tick in force for the pipeline's work (R25, R326). -/
def State.atTick (s : State) (h : ReplayHid) (back : Nat) (f : State → State) : State :=
  s.withCfg ((h.cfgs[back]?).getD s.regs) f

/-- A stored row as a row of the folio's input ring (R327), with its line's shelfmark, in which the reading pipeline is the source (R56). -/
def State.readRow (s : State) (r row : Nat) : RingRow :=
  let bytes := readBytes s.ram (s.rowAddr row) (s.num Reg.STACKS_STRIDE)
  let f (at_ n : Nat) : Nat := ofLeBytes ((bytes.drop at_).take n)
  let b := s.stacksBits
  let px := bytes.drop 64
  let start : Int := (s.num (Reg.RP_TSTART r) : Int) - s.num (Reg.RP_HALO r)
  let n := s.num (Reg.RP_TLEN r) + 2 * s.num (Reg.RP_HALO r)
  { line := signed 64 (f 32 8), phase := f 30 1 / 32 % 4, md := signed 64 (f 0 8), count := signed 48 (f 12 6)
    stamp := (f 22 6 * 1000000000 + f 18 4) * 2 ^ 40, at_ := 0, flags := f 48 6, flagsW := f 54 1 % 2, flagsE := f 54 1 / 2 % 2
    cd := signed 32 (f 8 4), mark := bytes.take 30 ++ leBytes 1 (12 + r + f 30 1 / 32 % 4 * 32) ++ (bytes.drop 31).take 9
    cols := (List.range n).map fun (i : Nat) =>
      expandPixel b (streamAt b px (max 0 (min ((s.ws : Int) - 1) (start + (i : Int)))).toNat) }

/-- The cards of the segments of replay `r` that end (R274, R328, R330): TAINTED by the flags of the stored lines, CUTOFF where one holds
the first or the last row of the range. -/
def State.replayCards (s : State) (r : Nat) (h : ReplayHid) (cutoff : Bool) (cs : List ClosedSeg) : State :=
  let lastLine := (h.last.map fun x => x.2.line)
  let mark (c : ClosedSeg) : ClosedSeg :=
    let ends := decide (h.firstLine = some c.f.first) || (decide (lastLine = some c.f.last) && decide (h.count ≤ h.tick))
    { c with flags := Nat.lor c.flags (Nat.lor (if s.taintedBy h.taints h.lag (s.num (Reg.RP_HALO r)) c then flTainted else 0)
        (if cutoff || ends then flCutoff else 0)) }
  s.buildCards (cs.map mark)

/-- Close every open segment of a replay strip at a line (R328), 2,048 of them at a time, as the strip does; then the flood cards of the
slot (R279). -/
def State.replayFlush (s : State) (r : Nat) (h : ReplayHid) (line : Int) (due : Nat) (cutoff : Bool) : State :=
  ((List.range 33).foldl (fun (s : State) _ =>
    if (s.strip (12 + r)).isEmpty then s
    else
      let (s, cs, _) := s.segmentLine (12 + r) line due ⟨0, 0, 0, 0⟩ []
      s.replayCards r h cutoff cs) (s.newBurst (12 + r) line)).floodCards line due

/-- A replay ends (R328, R329): STATUS, and the event of STACKS_EVT. -/
def State.replayEnd (s : State) (r st : Nat) : State :=
  let s := ((s.setReplay r none).setStrip (12 + r) []).replayStatus r st
  let s := { s with seg := { s.seg with lastOut := Store.set (fun _ => none) (12 + r) none s.seg.lastOut } }
  let s := s.setRunning (12 + r) false
  let s := if st = 3 then s.bump (Reg.STACKS_CNT 5) else s
  s.event Reg.STACKS_EVT Reg.STACKS_EVTEN (if st = 2 then 2 else 3) 21

/-- A replay ends early: the segments still open close at the last output delivered, with CUTOFF (R329). -/
def State.replayCut (s : State) (r st : Nat) : State :=
  match s.replay r with
  | none => s
  | some h =>
    let s := match Store.get (fun _ => none) (12 + r) s.seg.lastOut with
      | some l => s.replayFlush r h (l + 1) (s.now + 9500000) true
      | none => s
    s.replayEnd r st

/-- The last row fetched, as the fetch that runs finds it (R324): its header names the row it meant to read, or it has been
overtaken and the rows before it are the range. -/
def State.replayFetched (s : State) (r : Nat) : State :=
  match s.replay r with
  | none => s
  | some h =>
    match h.fetching with
    | none => s
    | some row =>
      if s.headerRow row = row then
        let x := s.readRow r row
        let flags := if x.flags = 0 ∧ x.flagsW = 0 ∧ x.flagsE = 0 then [] else [(x.line, x.flags, x.flagsW, x.flagsE)]
        let s := s.set64 (Reg.RP_ROW_LO r) row
        s.setReplay r (some { h with
          fetching := none, last := some (row, x), taints := h.taints ++ flags
          firstLine := some (h.firstLine.getD x.line) })
      else if h.last.isNone then (s.setReplay r (some { h with fetching := none })).replayEnd r 3
      else s.setReplay r (some { h with fetching := none, count := row - h.first, stop := some 3 })

/-- The time (ps) by which cards of the slot of tick `k` are to leave (R330). -/
def ReplayHid.due (h : ReplayHid) (k : Nat) : Nat := h.q0 + (k + 2) * 1000000000000 / h.rate + 9500000

/-- The slot of tick `k` ends (R326, R328): its output line, if the ring has one, goes to the replay strip; the flush output has no
masked pixel; then the flood cards of the slot (R279). A folio that is not done is a slot overrun (R23). -/
def State.replaySlotEnd (s : State) (r k : Nat) : State :=
  match s.replay r with
  | none => s
  | some h =>
    if h.count + h.lag ≤ k then
      match h.last with
      | some (_, x) => s.replayFlush r h (x.line + 1) (h.due k) (h.stop.isSome)
      | none => s
    else if !(s.engine (12 + r)).done then s.breach 13 (12 + r) none
    else if k < h.lag then s
    else
      match rowOfAge (s.engine (12 + r)).ring h.lag with
      | none => s
      | some x =>
        let runs := s.replayRuns (12 + r)
        let (s, cs, _) := (s.newBurst (12 + r) x.line).segmentLine (12 + r) x.line (h.due k) ⟨x.md, x.count, x.stamp, x.cd⟩ runs
        (s.replayCards r h false cs).floodCards x.line (h.due k)

/-- The slot of a tick opens (R326, R328): the row fetched, or a copy of the last one, enters the ring, and the parameters of the tick
enter the engine (R183, R184). -/
def State.replaySlotOpen (s : State) (r : Nat) (h : ReplayHid) : State :=
  match h.last with
  | none => s
  | some (_, x) =>
    let s := s.pushRow (12 + r) x
    let params := (List.range 8).map fun i => s.num (Reg.FOLIO_PARAM (12 + r) i)
    s.setEngine (12 + r) { s.engine (12 + r) with params := params, ready := true, done := false }

/-- What FOLIO_STATUS shows of the slot of a tick that opens (R201): GROUPS of the registers in force for it, WARMUP, RUNNING. -/
def State.showReplay (s : State) (r : Nat) (cfg : Store Word) : State :=
  let e := 12 + r
  let s := s.setFld (Reg.FOLIO_STATUS e) Fld.FOLIO_STATUS_GROUPS ((s.under cfg).groups e)
  let s := s.setFld (Reg.FOLIO_STATUS e) Fld.FOLIO_STATUS_WARMUP (b2n (decide (0 < (s.engine e).warm)))
  s.setRunning e (s.engine e).ready

/-- The slot of a tick has ended: one less of those that fill the ring (R191), and the clock stops. -/
def State.replayWarmed (s : State) (r : Nat) : State :=
  let e := 12 + r
  let h := s.engine e
  ((s.setEngine e { h with warm := h.warm - 1 }).setFld (Reg.FOLIO_STATUS e) Fld.FOLIO_STATUS_WARMUP (b2n (decide (1 < h.warm)))).setRunning e false

/-- A replay tick `k` (R326): the slot of tick k − 2 ends, that of tick k − 1 opens, and the fetch of row k begins. The ticks after the
last one end the last slots, and the last of them the replay. An early end takes effect at the end of the slot in progress. -/
def State.replayTick (s : State) (r : Nat) : State :=
  let s := s.replayFetched r
  match s.replay r with
  | none => s
  | some h =>
    let k := h.tick
    let total := h.count + h.lag + 1
    let s := if 2 ≤ k then (s.atTick h 1 fun s => s.replaySlotEnd r (k - 2)).replayWarmed r else s
    if h.stop = some 4 then s.replayCut r 4
    else if total + 1 ≤ k then s.replayEnd r (if h.stop = some 3 then 3 else 2)
    else
      let s := if 1 ≤ k ∧ k ≤ total then
          (s.atTick h 0 fun s => s.replaySlotOpen r h).showReplay r ((h.cfgs[0]?).getD s.regs) else s
      let s := if k < total then s.setNum (Reg.RP_TICK r) (k + 1) else s
      s.setReplay r (some { h with
        tick := k + 1, cfgs := (s.regs :: h.cfgs).take 3, fetching := if k < h.count then some (h.first + k) else none })

/-- RP_ABORT (R329): the replay ends with the slot in progress; with none in progress, now. -/
def State.replayAbort (s : State) (r : Nat) : State :=
  match s.replay r with
  | none => s
  | some h => if h.tick < 2 then s.replayCut r 4 else s.setReplay r (some { h with stop := some 4 })

/-- Every running replay ends with a status (R329): SWITCHED or HALTED. -/
def State.replaysCut (s : State) (st : Nat) : State := (List.range 4).foldl (fun (s : State) r => s.replayCut r st) s

/-! ### Crops -/

/-- The row of a crop's last line (R332): the probe, else the latest of at most 256 held rows that names the line. -/
def State.cropRow (s : State) (e : Int) : Option Nat :=
  let head := s.get64 Reg.STACKS_HEADROW_LO
  let old := s.get64 Reg.STACKS_OLDROW_LO
  let probe := (head : Int) - (s.getS64 Reg.STACKS_HEADLINE_LO - e)
  if s.stk.empty then none
  else if 0 ≤ probe ∧ (old : Int) ≤ probe ∧ probe ≤ head ∧ s.headerLine probe.toNat = e then some probe.toNat
  else ((List.range (min 256 (head + 1 - old))).map fun i => head - i).find? fun r => decide (s.headerLine r = e)

/-- The header of a crop record before its CRC (R333). -/
def State.cropHeader (s : State) (c : CropReq) (status flags row0 h : Nat) (line0 md : Int) : List Byte :=
  leBytes 1 0x10 ++ leBytes 1 status ++ leBytes 2 flags ++ leBytes 2 (s.fld Reg.SYS_NODE Fld.SYS_NODE_NODE_ID + c.queue * 2 ^ 14)
    ++ leBytes 6 c.seq ++ leBytes 4 c.tag ++ leBytes 8 row0 ++ leBytes 8 (unsignedOf 64 line0) ++ leBytes 4 c.col
    ++ leBytes 2 (if status = 2 then 0 else c.cw) ++ leBytes 2 h ++ leBytes 1 (s.fld Reg.STACKS_CTRL Fld.STACKS_CTRL_WIDTH)
    ++ List.replicate 7 0 ++ leBytes 8 (unsignedOf 64 md) ++ leBytes 4 (unsignedOf 32 (s.cdOf c.col)) ++ [0, 0]

/-- The record of a crop request (R332, R333): its bytes, status, and whether it was clipped. What is read of an overtaken row is discarded
(R324); where ROW0 is overtaken, the line and the position of the record are free values. DESIGN CHOICE, log 144. -/
def State.cropRecord (s : State) (c : CropReq) : (List Byte × Nat × Bool) × State :=
  match (if c.dropped then none else s.cropRow c.last) with
  | none => ((withCrc (s.cropHeader c 2 (b2n c.clipped) 0 0 0 0), 2, c.clipped), s)
  | some last =>
    let row0 := max (s.get64 Reg.STACKS_OLDROW_LO) (last + 1 - c.ch)
    let rows := (List.range (last + 1 - row0)).map fun i => row0 + i
    let clip := c.clipped || decide (rows.length < c.ch)
    let whole := rows.filter fun r => decide (s.headerRow r = r)
    let overrun := decide (whole ≠ rows)
    let mono := (whole.zip (whole.drop 1)).all fun p => decide (s.headerLine p.2 - s.headerLine p.1 = (p.2 : Int) - p.1)
    let tainted := whole.any fun r => decide (ofLeBytes (readBytes s.ram (s.rowAddr r + 48) 7) ≠ 0)
    let b := s.stacksBits
    let px := rows.flatMap fun r =>
      if s.headerRow r = r then
        let bytes := readBytes s.ram (s.rowAddr r + 64) (s.num Reg.STACKS_STRIDE - 64)
        (List.range c.cw).map fun i => streamAt b bytes (c.col + i)
      else List.replicate c.cw 0
    let (x, n) := s.freeValue
    let (y, n) := n.freeValue
    let lost := decide (s.headerRow row0 ≠ row0)
    let md := if lost then y.toInt else signed 64 (ofLeBytes (readBytes s.ram (s.rowAddr row0) 8))
    let line0 := if lost then x.toInt else s.headerLine row0
    let head := s.cropHeader c (b2n overrun) (b2n clip + 2 * b2n (!mono) + 4 * b2n tainted) row0 rows.length line0 md
    ((withCrc head ++ packStream b ((c.cw * rows.length * b + 7) / 8) px, b2n overrun, clip), if lost then n else s)

/-- The defined bits of a register. -/
def definedBits (a : Nat) : Nat :=
  match kindAt a with
  | some k => k.fields.foldl (fun m f => Nat.lor m ((2 ^ f.bits.len - 1) * 2 ^ f.bits.lo)) 0
  | none => 0

/-- The descriptor registers of crop channel 28 + `q` read as the descriptor in force (R334): which descriptor a crop is cut with is not
stated, so its words are free values. DESIGN CHOICE, log 144. -/
def State.cropDescriptor (s : State) (q : Nat) : State :=
  (List.range 10).foldl (fun (s : State) i =>
    let a := Reg.DSC_OP (28 + q) + 4 * i
    let (x, s) := s.freeValue
    s.setNum a (Nat.land (x.toNat % 2 ^ 32) (definedBits a))) s

/-- The counters and events of a crop record (R331, R347). -/
def State.countCrop (s : State) (status : Nat) (clip : Bool) : State :=
  let s := if clip then s.bump (Reg.STACKS_CNT 2) else s
  if status = 0 then s.bump (Reg.STACKS_CNT 1)
  else if status = 1 then (s.bump (Reg.STACKS_CNT 3)).event Reg.STACKS_EVT Reg.STACKS_EVTEN 1 21
  else (s.bump (Reg.STACKS_CNT 4)).event Reg.STACKS_EVT Reg.STACKS_EVTEN 0 21

/-- Channel 28 + q finishes the first request of its list, if that is ready: its record goes to queue 60 + q, or to the crop stream
channel, where one that does not fit counts as lost (R331 to R333, R358). -/
def State.cropDone (s : State) (q : Nat) : State :=
  match Store.get (fun _ => []) q s.cropReqs with
  | [] => s
  | c :: rest =>
    if c.ready then
      let ((bytes, status, clip), s) := (s.cropDescriptor q).cropRecord c
      let s := { s with cropReqs := Store.set (fun _ => []) q rest s.cropReqs }
      let s := s.countCrop status clip
      if c.stream then
        let (s, ok) := s.streamEnqueue (s.fld Reg.OHT_CTRL Fld.OHT_CTRL_CROPCH) false bytes
        if ok then s else s.bump (Reg.STACKS_CNT 4)
      else s.cqEnqueue (60 + q) bytes (s.nextSeq q) 2 none
    else s

end Sys2Proof.Machine
end

