-- ==== Sys2Proof/Machine/Dma.lean ====
section
/-! DEFINITION. The DMA engine (12_stacks_dma.md R334 to R346): descriptors and chains, bursts and their reservations, the four
operations, protection, completion. -/

namespace Sys2Proof.Machine

/-- A channel before any descriptor. -/
def dma0 (_ : Nat) : DmaChan := ⟨0, [], [], 0, false, none, false, false⟩

/-- Channel `c` beside its registers. -/
def State.chan (s : State) (c : Nat) : DmaChan := Store.get dma0 c s.dma.chans

/-- Show the reserved bytes in DMA_BUF (R349). -/
def State.showBuf (s : State) : State :=
  s.setFld Reg.DMA_BUF Fld.DMA_BUF_V
    ((List.range 28).flatMap fun c => (s.chan c).bursts.map fun b => b.2.1).sum

/-- Store channel `c`. -/
def State.setChan (s : State) (c : Nat) (h : DmaChan) : State :=
  ({ s with dma := { s.dma with chans := Store.set dma0 c h s.dma.chans } }).showBuf

/-! ### Descriptors -/

/-- Bytes of a burst (R335, CH_CTRL.BURST). -/
def State.burstBytes (s : State) (c : Nat) : Nat := 64 * 2 ^ min 8 (s.fld (Reg.CH_CTRL c) Fld.CH_CTRL_BURST)

/-- Address of word `i` of a channel's descriptor (R341: words 0 to 9 are the registers +0x08 to +0x2C). -/
def dscReg (c i : Nat) : Nat := Reg.DSC_OP c + 4 * i

/-- Word `i` of the descriptor in force. -/
def State.dsc (s : State) (c i : Nat) : Nat := s.num (dscReg c i)

/-- OP of the descriptor in force. -/
def State.dscOp (s : State) (c : Nat) : Nat := s.dsc c 0 % 16

/-- LAST and EVT of the descriptor in force. -/
def State.dscLast (s : State) (c : Nat) : Bool := bit (s.dsc c 0) 4
@[inherit_doc State.dscLast] def State.dscEvt (s : State) (c : Nat) : Bool := bit (s.dsc c 0) 5

/-- SRC and DST: 40 bits, the space in bits [39:36] (R336). -/
def State.dscSrc (s : State) (c : Nat) : Nat := s.dsc c 1 + s.dsc c 2 % 256 * 2 ^ 32
@[inherit_doc State.dscSrc] def State.dscDst (s : State) (c : Nat) : Nat := s.dsc c 3 + s.dsc c 2 / 256 % 256 * 2 ^ 32

/-- The space of an address. -/
def spaceOf (a : Nat) : Nat := a / 2 ^ 36 % 16

/-- LEN, and the number of rows: COPY has one (R338). -/
def State.dscLen (s : State) (c : Nat) : Nat := s.dsc c 4 % 2 ^ 24
@[inherit_doc State.dscLen] def State.dscRows (s : State) (c : Nat) : Nat := if s.dscOp c = 1 then 1 else s.dsc c 5 % 65536

/-- The bytes of all rows. -/
def State.dscTotal (s : State) (c : Nat) : Nat := s.dscLen c * s.dscRows c

/-- The offset within its space of byte `n` (counted through the rows) from a base with a stride (R338); none below 0. -/
def State.rowOffset (s : State) (c base stride n : Nat) : Int :=
  (base % 2 ^ 36 : Nat) + (if s.dscOp c = 1 then 0 else signed 32 stride * ((n / s.dscLen c : Nat) : Int)) + ((n % s.dscLen c : Nat) : Int)

/-- Offset of byte `n` at the source and at the destination. -/
def State.srcAt (s : State) (c n : Nat) : Int := s.rowOffset c (s.dscSrc c) (s.dsc c 6) n
@[inherit_doc State.srcAt] def State.dstAt (s : State) (c n : Nat) : Int := s.rowOffset c (s.dscDst c) (s.dsc c 7) n

/-- The end of a memory space: GDDR6's usable 15 GiB (R421), SRAM's 48 MiB. -/
def spaceEnd (sp : Nat) : Int := if sp = 0 then 0x3C0000000 else 0x3000000

/-- Does a run of bytes stay in its space (R339)? -/
def inSpace (sp : Nat) (a : Int) (n : Nat) : Bool := decide (0 ≤ a ∧ a + n ≤ spaceEnd sp)

/-- Queues that a descriptor may write (R350). -/
def dmaQueue (q : Nat) : Bool := decide (q < 56 ∨ q = 57)

/-- Bytes of a memory space. -/
def State.memOf (s : State) (sp : Nat) : Store Byte := if sp = 0 then s.ram else s.sram

/-- Write bytes into a memory space. -/
def State.memWrite (s : State) (sp : Nat) (a : Nat) (b : List Byte) : State :=
  if sp = 0 then { s with ram := writeBytes s.ram a b } else { s with sram := writeBytes s.sram a b }

/-- Do two half-open ranges meet? -/
def meet (a n b m : Int) : Bool := decide (a < b + m ∧ b < a + n)

/-- Is a range of a memory space protected from descriptors in Inspecting (R337): the stacks ring, a deep-delay ring, crop staging,
SRAM pages 0 to 4? -/
def State.protects (s : State) (sp : Nat) (a : Int) (n : Nat) : Bool :=
  if sp = 0 then
    (s.flag Reg.STACKS_CTRL Fld.STACKS_CTRL_EN
      && meet a n (s.get64 Reg.STACKS_BASE_LO) ((s.fld Reg.STACKS_NROWS Fld.STACKS_NROWS_NROWS * s.num Reg.STACKS_STRIDE : Nat) : Int))
    || (List.range 12).any (fun k => s.flag (Reg.STITCH_MDDLY k) Fld.STITCH_MDDLY_DEEP && meet a n (s.get64 (Reg.STITCH_DDBASE_LO k))
      (((s.fld (Reg.STITCH_MDDLY k) Fld.STITCH_MDDLY_D + 1) * 2 * s.fld (Reg.CAM_WIDTH k) Fld.CAM_WIDTH_W : Nat) : Int))
    || (s.flag Reg.STACKS_CTRL Fld.STACKS_CTRL_EN && meet a n (s.get64 Reg.STACKS_CSBASE_LO) 0x100000)
  else meet a n 0 0x2800000

/-- Would the descriptor in force write where it may not (R337)? -/
def State.dscProtected (s : State) (c : Nat) : Bool :=
  let sp := spaceOf (s.dscDst c)
  if s.dscOp c = 4 then false
  else if sp = 2 then decide (59 ≤ s.dscDst c % 2 ^ 36 ∧ s.dscDst c % 2 ^ 36 < 64)
  else s.mode == .inspecting && decide (0 < s.dscLen c)
    && (List.range (s.dscRows c)).any fun i => s.protects sp (s.dstAt c (i * s.dscLen c)) (s.dscLen c)

/-- What is wrong with a descriptor before its first access, if anything: its OP (R338), its spaces (R336), protection (R337), a queue
that takes no packet or a packet greater than the queue (R350, R354). -/
def State.dscFault (s : State) (c : Nat) : Option Nat :=
  let op := s.dscOp c
  let dq := s.dscDst c % 2 ^ 36
  if op = 0 ∨ 5 ≤ op then some 6
  else if op ≠ 3 ∧ 2 ≤ spaceOf (s.dscSrc c) then some 2
  else if 3 ≤ spaceOf (s.dscDst c) ∨ (op = 4 ∧ spaceOf (s.dscDst c) = 2) then some 2
  else if s.dscProtected c then some 3
  else if spaceOf (s.dscDst c) = 2 ∧ (!dmaQueue dq ∨ s.qSize dq < unitsOf (s.dscTotal c)) then some 2
  else none

/-- The operation of the descriptor in force has ended with a result; DMA_DESCRIPTOR_COMPLETE takes it from there. -/
def State.dmaFin (s : State) (c r : Nat) : State := s.setChan c { s.chan c with fin := some r }

/-- Reserve the units of a queue packet (R354); while they are not free the channel waits. -/
def State.dmaReserve (s : State) (c : Nat) : State :=
  let q := s.dscDst c % 2 ^ 36
  let u := unitsOf (s.dscTotal c)
  if u ≤ s.qFree q then
    (s.setQueue q { s.queue q with resv := (s.queue q).resv + u }).setChan c { s.chan c with units := u, waiting := false }
  else s.setChan c { s.chan c with waiting := true }

/-- A descriptor comes into force and its channel starts (R340, R341). -/
def State.dmaStart (s : State) (c desc : Nat) : State :=
  let s := s.setChan c { dma0 c with stop := (s.chan c).stop }
  let s := (s.setFld (Reg.CH_STATUS c) Fld.CH_STATUS_BUSY 1).setNum (Reg.CH_DONEB c) 0
  let s := (s.setNum (Reg.CH_MISS c) 0).setNum (Reg.CH_CURDESC c) desc
  match s.dscFault c with
  | some r => s.dmaFin c r
  | none => if spaceOf (s.dscDst c) = 2 then s.dmaReserve c else s

/-- The sealed shadow becomes the descriptor in force (R340). -/
def State.dmaHandOver (s : State) (c : Nat) : State :=
  let s := (List.range 10).foldl (fun (s : State) i => s.setReg (dscReg c i) (s.stagedWord (dscReg c i))) s
  let s := (s.setFld (Reg.CH_STATUS c) Fld.CH_STATUS_SEALED 0).setFld (Reg.CH_STATUS c) Fld.CH_STATUS_DESCS 0
  s.dmaStart c 0xFFFFFFFF

/-- LOAD (R340): the shadow is sealed; an idle channel starts. The crop channels reject it (R334). -/
def State.dmaLoad (s : State) (c : Nat) : State :=
  if 28 ≤ c then (s.bump Reg.DMA_REJ).notice 0x0602 (sourceOf Reg.DMA_CTRL) c
  else
    let s := s.setFld (Reg.CH_STATUS c) Fld.CH_STATUS_SEALED 1
    if s.flag (Reg.CH_STATUS c) Fld.CH_STATUS_BUSY then s else s.dmaHandOver c

/-- STOP (R342): the chain is to end at the end of the descriptor in force. -/
def State.dmaStop (s : State) (c : Nat) : State :=
  if s.flag (Reg.CH_STATUS c) Fld.CH_STATUS_BUSY then s.setChan c { s.chan c with stop := true } else s

/-- ABORT (R342): the descriptor ends when the bursts already reserved have been written; with none, now. -/
def State.dmaAbort (s : State) (c : Nat) : State :=
  if s.flag (Reg.CH_STATUS c) Fld.CH_STATUS_BUSY && (s.chan c).fin.isNone then
    let h := s.chan c
    s.setChan c { h with abort := true, waiting := false, fin := if h.bursts.isEmpty then some 5 else none }
  else s

/-! ### Bursts -/

/-- The bytes of the burst that starts at byte `n`: within its row, up to the burst length (R338). -/
def State.burstLen (s : State) (c n : Nat) : Nat := min (s.burstBytes c) (s.dscLen c - n % s.dscLen c)

/-- Read a burst (R338): from the source, or the fill pattern; none where the access would leave the space (R339). -/
def State.readBurst (s : State) (c n : Nat) : Option (List Byte) :=
  let len := s.burstLen c n
  if s.dscOp c = 3 then
    some ((List.range len).map fun m => BitVec.ofNat 8 (s.dsc c 9 / 256 ^ ((n % s.dscLen c + m) % 4)))
  else
    let sp := spaceOf (s.dscSrc c)
    let a := s.srcAt c n
    if inSpace sp a len then some (readBytes (s.memOf sp) a.toNat len) else none

/-- The first place where two lists differ. -/
def firstDiff : Nat → List Byte → List Byte → Option Nat
  | n, x :: xs, y :: ys => if x = y then firstDiff (n + 1) xs ys else some n
  | _, _, _ => none

/-- Write, or compare, the burst that starts at byte `n` (R338, R339). -/
def State.writeBurst (s : State) (c n : Nat) (bytes : List Byte) : State :=
  let sp := spaceOf (s.dscDst c)
  let a := s.dstAt c n
  let count (s : State) : State := s.setNum (Reg.CH_DONEB c) (n + bytes.length)
  if sp = 2 then count (s.setChan c { s.chan c with packet := (s.chan c).packet ++ bytes })
  else if !inSpace sp a bytes.length then s.dmaFin c 2
  else if s.dscOp c = 4 then
    match firstDiff 0 bytes (readBytes (s.memOf sp) a.toNat bytes.length) with
    | none => count s
    | some i => ((s.setNum (Reg.CH_MISS c) (n + i)).setNum (Reg.CH_DONEB c) (n + i)).dmaFin c 1
  else count (s.memWrite sp a.toNat bytes)

/-- Has the 256 KiB buffer the space for a burst of a channel (R334, R335)? -/
def State.hasSpace (s : State) (c : Nat) : Bool := decide (s.fld Reg.DMA_BUF Fld.DMA_BUF_V + s.burstBytes c ≤ 0x40000)

/-- Can the channel reserve a burst now (R335): running, data left to read, fewer than two bursts, space in the buffer? -/
def State.wantsBurst (s : State) (c : Nat) : Bool :=
  let h := s.chan c
  s.flag (Reg.CH_STATUS c) Fld.CH_STATUS_BUSY && h.fin.isNone && !h.abort && !h.waiting && decide (h.pos < s.dscTotal c)
    && decide (h.bursts.length < 2) && s.hasSpace c
    && s.flag Reg.DMA_CTRL Fld.DMA_CTRL_EN

/-- Reserve a burst and read it (R335). -/
def State.takeBurst (s : State) (c : Nat) : State :=
  let h := s.chan c
  match s.readBurst c h.pos with
  | none => if h.bursts.isEmpty then s.dmaFin c 2 else s
  | some b => s.setChan c { h with pos := h.pos + b.length, bursts := h.bursts ++ [(h.pos, s.burstBytes c, b)] }

/-- A grant goes to the next waiting channel in rotating order (R335). -/
def State.bufferGrant (s : State) : State :=
  match ((List.range 28).map fun i => (s.dma.turn + 1 + i) % 28).find? s.wantsBurst with
  | none => s
  | some c => ({ s with dma := { s.dma with turn := c } }).takeBurst c

/-- Write the oldest burst and free its space. -/
def State.putBurst (s : State) (c : Nat) : State :=
  match (s.chan c).bursts with
  | [] => s
  | (n, _, b) :: rest => (s.setChan c { s.chan c with bursts := rest }).writeBurst c n b

/-- Move bursts until the descriptor has ended, or other channels have the buffer: write what has been read, oldest first, then read the
next. `n` bounds the work. DEDUCED, log 88. -/
def State.dmaMove (c : Nat) : Nat → State → State
  | 0, s => s
  | n + 1, s =>
    let h := s.chan c
    if h.fin.isSome then s
    else if !h.bursts.isEmpty then State.dmaMove c n (s.putBurst c)
    else if h.abort then s.dmaFin c 5
    else if h.pos < s.dscTotal c then if s.hasSpace c then State.dmaMove c n (s.takeBurst c) else s
    else s.dmaFin c 0

/-- Run the operation of the descriptor in force to its end, if it has the code `op` and is not waiting (R338). -/
def State.dmaRun (s : State) (c op : Nat) : State :=
  if s.flag (Reg.CH_STATUS c) Fld.CH_STATUS_BUSY && decide (s.dscOp c = op) && !(s.chan c).waiting
      && s.flag Reg.DMA_CTRL Fld.DMA_CTRL_EN then
    State.dmaMove c (2 * s.dscTotal c + 8) s
  else s

/-! ### Completion -/

/-- Set a channel's bit in DMA_DONE or DMA_ERR (R344). -/
def State.dmaBit (s : State) (evt en c : Nat) : State := s.event evt en c 22

/-- The chain of a channel ends with a result (R342, R344); a sealed shadow is handed over, unless STOP ended the chain (R340). -/
def State.chainEnd (s : State) (c r : Nat) (cut : Bool) : State :=
  let stopped := decide (r = 7)
  let s := (s.setFld (Reg.CH_STATUS c) Fld.CH_STATUS_BUSY 0).setFld (Reg.CH_STATUS c) Fld.CH_STATUS_RESULT r
  let s := s.setChan c (dma0 c)
  let s := s.dmaBit Reg.DMA_DONE Reg.DMA_DONEEN c
  let s := if r = 0 then s else s.dmaBit Reg.DMA_ERR Reg.DMA_ERREN c
  let s := if cut then s.hwSet (Reg.CH_STATUS c) 2 else s
  if s.flag (Reg.CH_STATUS c) Fld.CH_STATUS_SEALED && !stopped then s.dmaHandOver c else s

/-- The words of a descriptor in SRAM (R341). -/
def State.sramDesc (s : State) (off : Nat) : List Nat :=
  (List.range 12).map fun i => ofLeBytes (readBytes s.sram (off + 4 * i) 4)

/-- Is a descriptor in SRAM free of reserved bits and of a bad NEXT (R341)? -/
def descOk (ws : List Nat) : Bool :=
  let w (i : Nat) : Nat := (ws[i]?).getD 0
  decide (w 0 < 64 ∧ w 2 < 65536 ∧ w 4 < 2 ^ 24 ∧ w 5 < 65536 ∧ w 8 < 0x3000000 ∧ w 8 % 16 = 0 ∧ w 10 = 0 ∧ w 11 = 0)

/-- The next descriptor of a chain comes into force from SRAM (R341), or ends the chain with DESC. -/
def State.dmaNext (s : State) (c off : Nat) : State :=
  if off % 16 ≠ 0 ∨ 0x3000000 ≤ off then s.chainEnd c 6 false
  else
    let ws := s.sramDesc off
    if descOk ws then
      ((List.range 10).foldl (fun (s : State) i => s.setNum (dscReg c i) ((ws[i]?).getD 0)) s).dmaStart c off
    else s.chainEnd c 6 false

/-- Commit the packet of a queue destination and give its reservation back (R336, R354). -/
def State.dmaPacket (s : State) (c r : Nat) : State :=
  let h := s.chan c
  if spaceOf (s.dscDst c) = 2 ∧ 0 < h.units then
    let q := s.dscDst c % 2 ^ 36
    let s := s.setQueue q { s.queue q with resv := (s.queue q).resv - h.units }
    if r = 0 ∧ h.packet ≠ [] then s.qCommit q h.packet 0 0 none else s
  else s

/-- A descriptor completes (R341 to R344): its packet, its events, and then the chain's next step. DEDUCED, log 88. -/
def State.dmaComplete (s : State) (c : Nat) : State :=
  match (s.chan c).fin with
  | none => s
  | some r =>
    let h := s.chan c
    let s := s.dmaPacket c r
    let n := s.fld (Reg.CH_STATUS c) Fld.CH_STATUS_DESCS + 1
    let s := if r = 0 then s.setFld (Reg.CH_STATUS c) Fld.CH_STATUS_DESCS (min 65535 n) else s
    let s := if s.dscEvt c then s.dmaBit Reg.DMA_DONE Reg.DMA_DONEEN c else s
    let maxd := s.fld (Reg.CH_CTRL c) Fld.CH_CTRL_MAXDESC
    let more := !s.dscLast c
    if r ≠ 0 then s.chainEnd c r false
    else if h.stop then s.chainEnd c 7 false
    else if s.flag (Reg.CH_STATUS c) Fld.CH_STATUS_SEALED then s.chainEnd c 0 more
    else if !more then s.chainEnd c 0 false
    else if maxd ≠ 0 ∧ maxd ≤ n then s.chainEnd c 4 false
    else s.dmaNext c (s.dsc c 8)

/-- Units of the queue of a waiting descriptor are free (R354). -/
def State.queueRoom (s : State) (c : Nat) : State := if (s.chan c).waiting then s.dmaReserve c else s

/-! ### Disable -/

/-- Free values in the destination range of a descriptor that is dropped (R345). DESIGN CHOICE, log 87. -/
def State.scramble (s : State) (c : Nat) : State :=
  let sp := spaceOf (s.dscDst c)
  if s.dscOp c = 4 ∨ 2 ≤ sp then s
  else (List.range (s.dscTotal c)).foldl (fun (s : State) n =>
    let a := s.dstAt c n
    if inSpace sp a 1 then
      let (x, s) := s.freeValue
      s.memWrite sp a.toNat [x.setWidth 8]
    else s) s

/-- One channel is dropped (R345): CH_DONEB and DESCS are free values until it is loaded again, and so is the destination. DESIGN CHOICE, log 87. -/
def State.dmaDrop (s : State) (c : Nat) : State :=
  let busy := s.flag (Reg.CH_STATUS c) Fld.CH_STATUS_BUSY
  let h := s.chan c
  let s := if busy then s.scramble c else s
  let s := if busy && decide (0 < h.units) then
      let q := s.dscDst c % 2 ^ 36
      s.setQueue q { s.queue q with resv := (s.queue q).resv - h.units } else s
  let (x, s) := s.freeValue
  let s := (s.setReg (Reg.CH_DONEB c) (x.setWidth 32)).setFld (Reg.CH_STATUS c) Fld.CH_STATUS_DESCS (x.toNat / 2 ^ 32)
  let s := (s.setFld (Reg.CH_STATUS c) Fld.CH_STATUS_BUSY 0).setFld (Reg.CH_STATUS c) Fld.CH_STATUS_SEALED 0
  (s.setFld (Reg.CH_STATUS c) Fld.CH_STATUS_RESULT 8).setChan c (dma0 c)

/-- DMA_CTRL.EN becomes 0 (R345): every channel is dropped and pending crop requests are lost. -/
def State.dmaDisable (s : State) : State :=
  let s := (List.range 32).foldl State.dmaDrop s
  { s with cropReqs := [] }

end Sys2Proof.Machine
end

