-- ==== Sys2Proof/Machine/FolioCheck.lean ====
section
/-! DEFINITION. What accession checks in a folio (R175, R176, R193, R194, R201, R206, R228): the state given is the one the staged
set would make, so the folio checked is the one in its live bank. -/

namespace Sys2Proof.Machine

/-- Bundles of a folio: P + B + E, at most the program memory's 2,048. -/
def State.bundleCount (s : State) (e : Nat) : Nat :=
  let (p, b, x) := s.sectionLengths e
  min 2048 (p + b + x)

/-- Is bundle `n` in the body? -/
def State.inBody (s : State) (e n : Nat) : Bool :=
  let (p, b, _) := s.sectionLengths e
  decide (p ≤ n ∧ n < p + b)

/-- The stride of ring rows (R192): P of R48. -/
def State.rowStride (s : State) (str : Bool) : Nat := if str then s.commonPhases else 1

/-! ### Encoding -/

/-- The checks of a WIN word (R210 to R213, R228). -/
def State.winRefused (s : State) (e : Nat) (x : Word) : Bool :=
  let i := winOf x
  let n := winCount i
  let plain := [2, 4, 5, 8, 10, 11, 12].contains i.op
  let set := 32 * i.arg
  if i.op = 0 then decide (x ≠ 0)
  else !winValid i || (plain && decide (i.arg ≠ 0)) || decide (s.geom e Fld.FOLIO_GEOM_SKEW < i.stg)
    || (decide (i.src = 1) && decide (s.geom e Fld.FOLIO_GEOM_NPL ≤ i.slot))
    || (decide (i.op = 1) && (decide (16384 < set + 1 + n) || decide (s.coefAt e set / 256 ≠ 0)))
    || ((decide (i.op = 6) || decide (i.op = 7)) && (decide (16384 < set + (2 * i.hh + 1))
      || (List.range (2 * i.hh + 1)).any fun m => decide (s.coefAt e (set + m) / 2 ^ (2 * i.w + 1) ≠ 0)))

/-- The checks of an ALU word (R214 to R217). -/
def aluRefused (x : Word) : Bool :=
  let i := aluOf x
  if i.op = 0 then decide (x ≠ 0)
  else if i.op = 0x2D ∨ i.op = 0x2E then false
  else if 1 ≤ i.op ∧ i.op ≤ 0x16 then !vecAllowed i.op i.mode i.bk || decide (x.toNat / 2 ^ 27 ≠ 0)
  else if 0x20 ≤ i.op ∧ i.op ≤ 0x32 then !scalAllowed i || decide (x.toNat / 2 ^ 27 ≠ 0)
  else true

/-- The checks of a LUT word (R218, R219). -/
def lutRefused (x : Word) : Bool :=
  let i := lutOf x
  if i.op = 0 then decide (x ≠ 0)
  else if i.op = 4 then decide (x.toNat / 2 ^ 31 ≠ 0 ∨ 15 < i.na + i.nb ∨ 32768 < i.base * 64 + 2 ^ (i.na + i.nb))
  else if i.op ≤ 5 then decide (x.toNat / 2 ^ 29 ≠ 0 ∨ i.lg = 0 ∨ 32768 < i.base * 64 + 2 ^ i.lg)
  else true

/-- Operation fields in use, as the bits of [31:15] that may be set (R222). -/
def xferBits (op : Nat) : Nat :=
  if op = 1 then 9 else if op = 2 then 10 else if op = 3 then 6 else if op = 6 then 2 else if op = 7 then 3 else if op = 0xB then 4 else 0

/-- The checks of an XFER word (R221, R222, R228). -/
def State.xferRefused (s : State) (e : Nat) (w : Word) : Bool :=
  let i := xferOf w
  if i.op = 0 then decide (w ≠ 0)
  else !xferValid i || decide (i.x / 2 ^ xferBits i.op ≠ 0)
    || (if 1 ≤ i.op ∧ i.op ≤ 7 then decide (s.geom e Fld.FOLIO_GEOM_SKEW < i.stg) else decide (i.stg ≠ 0))
    || ((decide (i.op = 2) || decide (i.op = 3)) && decide (i.x % 4 = 1) && decide (s.geom e Fld.FOLIO_GEOM_NPL ≤ i.x / 4 % 16))
    || (decide (i.op = 6) && decide (s.geom e Fld.FOLIO_GEOM_TAPS ≤ i.x % 4))

/-- A destination register: vector or scalar, with its number (R206). -/
def dests (wi : WinOp) (al : AluOp) (lu : LutOp) (xf : XferOp) : List (Bool × Nat) :=
  (if wi.op = 0 then [] else [(true, wi.d)])
    ++ (if 1 ≤ al.op ∧ al.op ≤ 0x16 then [(true, al.d)] else if 0x20 ≤ al.op then [(false, al.d)] else [])
    ++ (if 1 ≤ lu.op ∧ lu.op ≤ 4 then [(true, lu.d)] else if lu.op = 5 then [(false, lu.d)] else [])
    ++ (if [1, 2, 8, 9, 10].contains xf.op then [(true, xf.d)] else if [7, 11, 12].contains xf.op then [(false, xf.d)] else [])

/-- Is a bundle refused with FOLIO_ENCODING (R228)? -/
def State.bundleRefused (s : State) (e n : Nat) : Bool :=
  let w (k : Nat) : Word := s.bundleWord e n k
  s.winRefused e (w 0) || aluRefused (w 1) || lutRefused (w 2) || s.xferRefused e (w 3)
    || !decide (dests (winOf (w 0)) (aluOf (w 1)) (lutOf (w 2)) (xferOf (w 3))).Nodup

/-- Does a bundle hold an instruction that R207 marks "body"? -/
def State.bodyOnly (s : State) (e n : Nat) : Bool :=
  let w (k : Nat) : Word := s.bundleWord e n k
  decide ((winOf (w 0)).op ≠ 0) || decide (1 ≤ (aluOf (w 1)).op ∧ (aluOf (w 1)).op ≤ 0x16)
    || decide (1 ≤ (lutOf (w 2)).op ∧ (lutOf (w 2)).op ≤ 4) || decide (1 ≤ (xferOf (w 3)).op ∧ (xferOf (w 3)).op ≤ 0xA)

/-! ### Lag and reach -/

/-- The lag that a bundle's ring reads require (R193). -/
def State.bundleLag (s : State) (e n : Nat) : Nat :=
  let i := winOf (s.bundleWord e n 0)
  let x := xferOf (s.bundleWord e n 3)
  max (if i.op ≠ 0 ∧ i.src = 0 then s.rowStride (decide (i.str = 1)) * i.hh else 0)
    (if x.op = 1 then (xferSigned x 15).natAbs * s.rowStride (bit x.x 8) else 0)

/-- The lag that a folio's reads require (R193). -/
def State.folioLag (s : State) (e : Nat) : Nat := ((List.range (s.bundleCount e)).map (s.bundleLag e)).foldl max 0

/-- What each register and plane slot carries of the reach (R194): none where it depends on no ring read. Keys: V n, 16 + n for S n,
32 + n for a plane slot; 64 for the outputs. -/
abbrev Reach := Store (Option Nat)

/-- The reach of a key. -/
def reachOf (r : Reach) (k : Nat) : Option Nat := Store.get (fun _ => none) k r

/-- The larger of two reaches. -/
def reachMax (a b : Option Nat) : Option Nat :=
  match a, b with
  | some x, some y => some (max x y)
  | some x, none => some x
  | none, y => y

/-- A reach with a contribution; counted up to 255, which stands for an unbounded one. -/
def reachAdd (a : Option Nat) (n : Nat) : Option Nat := a.map fun x => min 255 (x + n)

/-- The reach of a plane access: one slot, or through a scalar any slot. -/
def planeReach (r : Reach) (any_ : Bool) (slot : Nat) : Option Nat :=
  if any_ then (List.range 16).foldl (fun m i => reachMax m (reachOf r (32 + i))) none else reachOf r (32 + slot)

/-- The writes of a bundle to the reaches: key, reach, and whether it joins what is there. -/
def State.bundleReach (s : State) (e n : Nat) (r : Reach) : List (Nat × Option Nat × Bool) :=
  let i := winOf (s.bundleWord e n 0)
  let a := aluOf (s.bundleWord e n 1)
  let l := lutOf (s.bundleWord e n 2)
  let x := xferOf (s.bundleWord e n 3)
  let v (k : Nat) : Option Nat := reachOf r k
  let sc (k : Nat) : Option Nat := reachOf r (16 + k)
  let win := if i.op = 0 then [] else
    [(i.d, if i.src = 0 then some i.w else reachAdd (planeReach r (decide (i.src = 2)) i.slot) i.w, false)]
  let ab := if a.bk = 0 then v a.b else if a.bk = 1 then sc a.b else none
  let alu := if 1 ≤ a.op ∧ a.op ≤ 0x16 then
      [(a.d, if a.op = 0xF then ab else if a.op = 4 then v a.a else
        reachMax (reachMax (v a.a) ab) (if a.op = 0x16 then v a.c else none), false)]
    else if a.op = 0x2D then [(16 + a.d, none, false)]
    else if a.op = 0x2E then [(16 + a.d, sc a.d, false)]
    else if 0x20 ≤ a.op then
      let sb := if a.bk = 1 then sc a.b else none
      [(16 + a.d, if a.op = 0x2C then sb else if a.op = 0x32 then sc a.a else
        reachMax (reachMax (sc a.a) sb) (if a.op = 0x2F then sc a.c else none), false)]
    else []
  let lut := if l.op = 0 then [] else if l.op = 4 then [(l.d, reachMax (v l.a) (v l.b), false)]
    else if l.op = 5 then [(16 + l.d, sc l.a, false)] else [(l.d, v l.a, false)]
  let slot := x.x / 4 % 16
  let ind := decide (x.x % 4 = 2)
  let xfer := if x.op = 1 then [(x.d, some (xferSigned x 19).natAbs, false)]
    else if x.op = 2 then [(x.d, reachAdd (planeReach r ind slot) (xferSigned x 21).natAbs, false)]
    else if x.op = 3 then (if ind then (List.range 16).map fun k => (32 + k, v x.a, true) else [(32 + slot, v x.a, true)])
    else if 4 ≤ x.op ∧ x.op ≤ 6 then [(64, v x.a, true)]
    else if x.op = 7 then [(16 + x.d, v x.a, true)]
    else if x.op = 8 then [(x.d, none, false)]
    else if x.op = 9 then [(x.d, v x.a, false)]
    else if x.op = 0xA then [(x.d, sc x.a, false)]
    else if x.op = 0xB then [(16 + x.d, none, false)]
    else if x.op = 0xC then [(16 + x.d, sc x.a, false)] else []
  win ++ alu ++ lut ++ xfer

/-- One bundle's effect on the reaches: all sources as before the bundle (R203). -/
def State.stepReach (s : State) (e : Nat) (r : Reach) (n : Nat) : Reach :=
  (s.bundleReach e n r).foldl (fun m w =>
    Store.set (fun _ => none) w.1 (if w.2.2 then reachMax (reachOf r w.1) w.2.1 else w.2.1) m) r

/-- One line's effect on the reaches: prologue, every iteration of the body, epilogue. -/
def State.lineReach (s : State) (e : Nat) (r : Reach) : Reach :=
  let (p, b, x) := s.sectionLengths e
  let run (r : Reach) (from_ n : Nat) : Reach := (List.range n).foldl (fun r i => s.stepReach e r (from_ + i)) r
  let r := run r 0 p
  let r := (List.range (s.groups e + s.geom e Fld.FOLIO_GEOM_SKEW)).foldl (fun r _ => run r p b) r
  run r (p + b) x

/-- Lines until nothing grows any more; `n` bounds them. -/
def State.reachFix (s : State) (e : Nat) : Nat → Reach → Reach
  | 0, r => r
  | n + 1, r =>
    let r' := s.lineReach e r
    if r' = r then r else s.reachFix e n r'

/-- The reach of a folio (R194); 255 where it is unbounded. -/
def State.folioReach (s : State) (e : Nat) : Nat := (reachOf (s.reachFix e 12240 []) 64).getD 0

/-- The slots a folio needs of the line store (R193, R252): L_c + the greater of LAGF and the lag its reads require + 1 + NPL. -/
def State.slotsNeeded (s : State) (e lag : Nat) : Nat :=
  lag + max (s.geom e Fld.FOLIO_GEOM_LAGF) (s.folioLag e) + 1 + s.geom e Fld.FOLIO_GEOM_NPL

end Sys2Proof.Machine
end

