-- ==== Sys2Proof/Machine/Profile.lean ====
section
/-! DEFINITION. The profile engine (11_profile_engine.md): bins, the filter chain, syncs, threshold events and records. -/

namespace Sys2Proof.Machine

/-- The reset value of a profile table word (R316). -/
def profInit (k : Nat) : Word := if k % 2 ^ 18 = 2 ^ 16 then 0x10000 else 0

/-- The live profile bank. -/
def State.profBank (s : State) : Nat := s.fld Reg.PROF_TCTL Fld.PROF_TCTL_BANK

/-- A word of a live profile table (R316). -/
def State.profWord (s : State) (tsel i : Nat) : Nat := (Store.get profInit (s.profBank * 2 ^ 18 + tsel * 2 ^ 16 + i) s.prof.tables).toNat

/-- NB (R294). -/
def State.nb (s : State) : Nat := s.fld Reg.PROF_NBINS Fld.PROF_NBINS_NB

/-- NT (R298). -/
def State.nt (s : State) : Nat := s.fld Reg.PROF_FIR Fld.PROF_FIR_NT

/-- PRESET (R301). -/
def State.preset (s : State) : Nat := s.fld Reg.PROF_CTRL Fld.PROF_CTRL_PRESET

/-- log2 of the CIC ratio R (R301). -/
def cicLog (preset : Nat) : Nat := if preset = 0 then 2 else if preset = 1 then 5 else if preset = 2 then 8 else 10

/-- D, output lines per sample (R301). -/
def decimation (preset : Nat) : Nat := 2 ^ cicLog preset * (if preset = 3 then 4 else 2)

/-- GD_f in half-lines (R301). -/
def filterDelay (preset nt : Nat) : Nat :=
  let r := 2 ^ cicLog preset
  3 * (r - 1) + r * (nt - 1) + (if preset = 3 then 20 * r else 0)

/-- L_imp (R304). -/
def impulseSpan (preset nt : Nat) : Nat :=
  let r := 2 ^ cicLog preset
  3 * r - 2 + r * (nt - 1) + (if preset = 3 then 20 * r else 0)

/-- The slots A that a sample's bins take beyond its own (R302). -/
def spreadSlots (preset nb : Nat) : Nat :=
  let m := (nb + 4095) / 4096
  if preset = 3 then 2 * (m - 1) else m - 1

/-- GD_f and GD of the collection in force as registers (R303); `lag` is L_c. -/
def State.showDelays (s : State) (lag : Nat) : State :=
  let g := filterDelay s.preset s.nt
  (s.setNum Reg.PROF_GDH g).setNum Reg.PROF_GDREL (g + 2 * (lag + spreadSlots s.preset s.nb))

/-- A bin after a sync. -/
def bin0 (_ : Nat) : BinState := ⟨0, 0, 0, 0, 0, 0, [], [], 0, 0, 0⟩

/-- Bin `b`. -/
def State.bin (s : State) (b : Nat) : BinState := Store.get bin0 b s.prof.bins

/-- The tap of a stitched column on the output line (R195, R295). -/
def State.tapOf (s : State) (tap k : Nat) : Nat :=
  match s.territoryOf k with
  | some p => s.outAt p (s.num (Reg.TERR_START p)) (2 + tap) k
  | none => 0

/-- The bin input (R295). -/
def State.binInput (s : State) (b : Nat) : Int :=
  let w := s.profWord 0 (2 * b)
  let start := w % 2 ^ 19
  let wd := w / 2 ^ 19 % 64 + 1
  let sum : Int := ((List.range wd).map fun i => lane16 (bit w 27) (s.tapOf (w / 2 ^ 25 % 4) (start + i))).sum
  Int.fdiv (sum + Int.fdiv wd 2) wd

/-- Coefficient c_i of the symmetric filter (R298). -/
def State.firCoef (s : State) (i : Nat) : Int := signed 20 (s.profWord 1 (min i (s.nt - 1 - i)))

/-- The half-band coefficients (R299). -/
def halfBand : List Int := [384, 0, -3200, 0, 19200, 32768, 19200, 0, -3200, 0, 384]

/-- A sum of products with 16 fraction bits, rounded and clamped to 32 bits signed (R298); with the clamps made. -/
def firRound (acc : Int) : Int × Nat :=
  let z := Int.fdiv (acc + 32768) 65536
  (clampTo (-2147483648) 2147483647 z, b2n (decide (z < -2147483648 ∨ 2147483647 < z)))

/-- Products of coefficients and delayed values, the newest first. -/
def dotNewest (cs ys : List Int) : Int := ((cs.zip ys).map fun p => p.1 * p.2).sum

/-- One input of a bin (R297 to R300): `n` is the number of this input since the sync, from 1. Answers the bin, the sample value where
this input completes one, and the clamps. -/
def stepBin (preset : Nat) (coefs : List Int) (n : Nat) (u : Int) (b : BinState) : BinState × Option Int × Nat :=
  let m := 2 ^ 52
  let k := cicLog preset
  let r := 2 ^ k
  let i1 := (b.i1 + unsignedOf 52 u) % m
  let i2 := (b.i2 + i1) % m
  let i3 := (b.i3 + i2) % m
  let b := { b with i1 := i1, i2 := i2, i3 := i3 }
  if n % r ≠ 0 then (b, none, 0)
  else
    let c1 := (i3 + m - b.p1) % m
    let c2 := (c1 + m - b.p2) % m
    let c3 := (c2 + m - b.p3) % m
    let y := Int.fdiv (signed 52 c3 * 256 + 2 ^ (3 * k - 1)) (2 ^ (3 * k))
    let b := { b with p1 := i3, p2 := c1, p3 := c2, ys := (y :: b.ys).take coefs.length }
    if n % (2 * r) ≠ 0 then (b, none, 0)
    else
      let (z, cl) := firRound (dotNewest coefs b.ys)
      if preset ≠ 3 then (b, some z, cl)
      else
        let b := { b with zs := (z :: b.zs).take 11 }
        if n % (4 * r) ≠ 0 then (b, none, cl)
        else
          let (v, cl') := firRound (dotNewest halfBand b.zs)
          (b, some v, cl + cl')

/-- The number that PENDING shows: a sync is requested, or that of a collection switch is still to come. -/
def State.showPending (s : State) : State :=
  s.setFld Reg.PROF_SYNC Fld.PROF_SYNC_PENDING (b2n (s.prof.pend.isSome || s.prof.waitRef || s.prof.atNext || s.acc.engineAt.isSome))

/-- Has the sync line that was asked for come, with an output line `j` whose reference trigger was at `at_` (R305, R306)? A line triggered
before the request is not it, whatever its number. -/
def State.pendDue (s : State) (j : Int) (at_ : Nat) : Bool :=
  match s.prof.pend with
  | some p => decide (p.1 ≤ j ∧ p.2 ≤ at_)
  | none => false

/-- A sync takes effect at output line `j`, triggered at `at_` (R304): filters and counters are cleared, bins return to NORMAL. DEDUCED,
log 82. -/
def State.applySync (s : State) (j : Int) (at_ : Nat) : State :=
  let keep := if s.pendDue j at_ then none else s.prof.pend
  let s := { s with prof := { s.prof with bins := [], inputs := 0, pend := keep, atNext := false } }
  ((s.setS64 Reg.PROF_SYNCLINE_LO j).showPending).event Reg.PROF_EVT Reg.PROF_EVTEN 1 20

/-- Is a sync due when output line `j`, triggered at `at_`, is delivered (R305, R306)? -/
def State.syncDue (s : State) (j : Int) (at_ : Nat) : Bool := s.prof.atNext || s.pendDue j at_

/-- A delivered output line enters the filters (R295 to R304); a completed sample waits for its release slot, with the registers and
tables it was made under (R303, R311). -/
def State.profileLine (s : State) (j : Int) (at_ : Nat) (mark : LineMark) : State :=
  if !s.flag Reg.PROF_CTRL Fld.PROF_CTRL_EN then s
  else
    let s := if s.syncDue j at_ then s.applySync j at_ else s
    let n := s.prof.inputs + 1
    let coefs := (List.range s.nt).map s.firCoef
    let preset := s.preset
    let span := impulseSpan preset s.nt
    let d := decimation preset
    let step (w : Store BinState × List Int × Nat) (b : Nat) : Store BinState × List Int × Nat :=
      let (st, v, cl) := stepBin preset coefs n (s.binInput b) (s.bin b)
      (Store.set bin0 b st w.1, (match v with
        | some x => w.2.1 ++ [x]
        | none => w.2.1), w.2.2 + cl)
    let (bins, vs, clamps) := (List.range s.nb).foldl step (s.prof.bins, [], 0)
    let done := decide (n % d = 0)
    let i := n / d - 1
    let sample : ProfSample := ⟨i, j, mark, vs, decide ((i + 1) * d < span),
      s.prof.taints.any (fun l => decide (j - span < l ∧ l ≤ j)), decide (i = 0), spreadSlots preset s.nb,
      s.regs, s.prof.tables⟩
    let s := { s with prof := { s.prof with
      bins := bins, inputs := n, samples := if done then s.prof.samples ++ [sample] else s.prof.samples } }
    s.bumpBy (Reg.PROF_CNT 4) clamps

/-! ### Threshold events and records -/

/-- One sample of a bin against its threshold set (R309): the bin, and the event's TRANS where one is issued. -/
def State.threshold (s : State) (b : Nat) (v : Int) (st : BinState) : BinState × Option Nat :=
  let t := s.profWord 0 (2 * b + 1) % 64
  let hi := signed 32 (s.profWord 2 (4 * t))
  let lo := signed 32 (s.profWord 2 (4 * t + 1))
  let hyst : Int := s.profWord 2 (4 * t + 2)
  let w := s.profWord 2 (4 * t + 3)
  let persist := w % 256
  if st.st = 0 then
    if bit w 8 && decide (hi < v) then
      if persist ≤ st.up + 1 then ({ st with st := 1, up := 0, down := 0 }, some 0) else ({ st with up := st.up + 1, down := 0 }, none)
    else if bit w 9 && decide (v < lo) then
      if persist ≤ st.down + 1 then ({ st with st := 2, up := 0, down := 0 }, some 2) else ({ st with up := 0, down := st.down + 1 }, none)
    else ({ st with up := 0, down := 0 }, none)
  else
    let leaves := if st.st = 1 then decide (v < hi - hyst) else decide (lo + hyst < v)
    if leaves then
      if persist ≤ st.up + 1 then ({ st with st := 0, up := 0, down := 0 }, some (if st.st = 1 then 1 else 3))
      else ({ st with up := st.up + 1 }, none)
    else ({ st with up := 0 }, none)

/-- The stream channel of the profile engine (R311) and whether it is reserved. -/
def State.profChan (s : State) : Nat × Bool :=
  let i := s.fld Reg.PROF_CTRL Fld.PROF_CTRL_CHAN
  (i, decide (s.fld (Reg.ACC_STREAM i) Fld.ACC_STREAM_PORT ≠ 3))

/-- START of a bin. -/
def State.binStart (s : State) (b : Nat) : Nat := s.profWord 0 (2 * b) % 2 ^ 19

/-- One sample record (R311): the bins from `first` on, `n` of them. -/
def State.sampleRecord (s : State) (x : ProfSample) (first n : Nat) : List Byte :=
  s.shelfmark x.mark.md (s.cdOf (s.binStart first)) x.mark.count x.mark.stamp 31 (phaseOf x.line s.webPhases) 3 x.line
    ++ leBytes 2 first ++ leBytes 2 n ++ leBytes 1 s.preset
    ++ leBytes 1 (b2n x.settling + 2 * b2n x.tainted + 4 * b2n x.synced + 8 * b2n (decide (s.nb ≤ first + n)))
    ++ leBytes 2 s.nt ++ leBytes 8 x.n ++ leBytes 4 (filterDelay s.preset s.nt) ++ leBytes 4 0
    ++ ((x.values.drop first).take n).flatMap fun v => leBytes 4 (unsignedOf 32 v)

/-- The latest stitched line whose reference trigger has come (R54, R55); T_j comes after the edge that fires it. -/
def State.latestLine (s : State) : Option Int :=
  match s.trg.lastRef with
  | some (j, at_) => if at_ ≤ s.now then some j else s.trg.prevRef.map Prod.fst
  | none => none

/-- The state as the position of an event on a line sees it: the slot of that line fixes the scale, where it is still open (R40). -/
def State.atLine (s : State) (j : Int) : State :=
  match s.slots.find? fun sl => decide (sl.line = j) with
  | some sl => s.seenBy sl
  | none => s

/-- One event record (R311): its position is of the counter at the release, in the scale of the line it names (R39, R40). -/
def State.eventRecord (s : State) (x : ProfSample) (b kind : Nat) (v : Int) : List Byte :=
  let line := s.latestLine.getD x.line
  s.shelfmark ((s.atLine line).mdOf s.count) (s.cdOf (s.binStart b)) s.count s.t40 31 (phaseOf line (s.atLine line).webPhases) 4 line
    ++ leBytes 2 b ++ leBytes 1 (s.profWord 0 (2 * b + 1) % 64) ++ leBytes 1 kind ++ leBytes 4 0
    ++ leBytes 8 (unsignedOf 64 x.line) ++ leBytes 4 (unsignedOf 32 v) ++ leBytes 4 s.prof.lost

/-- One bin of a released sample: its threshold state, and its event record among at most 256 (R310). -/
def State.releaseBin (x : ProfSample) (w : State × Nat) (p : Int × Nat) : State × Nat :=
  let (s, issued) := w
  let b := p.2
  let st := s.bin b
  if x.settling then ({ s with prof := { s.prof with bins := Store.set bin0 b { st with up := 0, down := 0 } s.prof.bins } }, issued)
  else
    let (st', tr) := s.threshold b p.1 st
    let s := { s with prof := { s.prof with bins := Store.set bin0 b st' s.prof.bins } }
    match tr with
    | none => (s, issued)
    | some kind =>
      let evr := bit (s.profWord 2 (4 * (s.profWord 0 (2 * b + 1) % 64) + 3)) 10
      let s := if evr then s.event Reg.PROF_EVT Reg.PROF_EVTEN 0 20 else s
      if issued < 256 then
        let (i, rt) := s.profChan
        let s := (s.streamEnqueue i rt (s.eventRecord x b kind p.1)).1
        (({ s with prof := { s.prof with lost := 0 } }).bump (Reg.PROF_CNT 1), issued + 1)
      else
        let s := { s with prof := { s.prof with lost := s.prof.lost + 1 } }
        ((s.bump (Reg.PROF_CNT 2)).event Reg.PROF_EVT Reg.PROF_EVTEN 2 20, issued)

/-- The records of a released sample (R303, R311, R313): its sample records, then its events. -/
def State.sampleRecords (s : State) (x : ProfSample) : State :=
  let rb := max 1 (s.fld Reg.PROF_RECBINS Fld.PROF_RECBINS_RECBINS)
  let (i, rt) := s.profChan
  let s := (List.range ((x.values.length + rb - 1) / rb)).foldl (fun (s : State) (r : Nat) =>
    (s.streamEnqueue i rt (s.sampleRecord x (r * rb) (min rb (x.values.length - r * rb)))).1) s
  let s := ((s.bump (Reg.PROF_CNT 0)).setNum Reg.PROF_SAMPLE_LO x.n).setNum Reg.PROF_SAMPLE_HI (x.n / 2 ^ 32)
  (x.values.zipIdx.foldl (State.releaseBin x) (s, 0)).1

/-- Release a sample, under the registers and tables that it was made with. DEDUCED, log 82. -/
def State.releaseSample (s : State) (x : ProfSample) : State :=
  let tables := s.prof.tables
  let r := ({ s with prof := { s.prof with tables := x.tables } }).withCfg x.regs fun s => s.sampleRecords x
  { r with prof := { r.prof with tables := tables } }

/-- The flags of a stitched line, as the profile engine sees them (R312), in place of those of an earlier line of its number. -/
def State.noteFlagged (s : State) (line : Int) (flagged : Bool) : State :=
  let rest := s.prof.taints.filter fun l => decide (l ≠ line)
  { s with prof := { s.prof with taints := if flagged then rest ++ [line] else rest } }

/-- The flags of an output line are complete: the sample that it ends is judged again (R312). -/
def State.taintSamples (s : State) (j : Int) : State :=
  let span := impulseSpan s.preset s.nt
  let hit := s.prof.taints.any fun l => decide (j - span < l ∧ l ≤ j)
  { s with prof := { s.prof with samples := s.prof.samples.map fun x => if x.line = j then { x with tainted := x.tainted || hit } else x } }

/-- The end of a processing slot (R303): samples whose slot it is are released. -/
def State.profileSlotEnd (s : State) : State :=
  let due := s.prof.samples.filter fun x => decide (x.wait = 0)
  let later := (s.prof.samples.filter fun x => decide (x.wait ≠ 0)).map fun x => { x with wait := x.wait - 1 }
  due.foldl State.releaseSample { s with prof := { s.prof with samples := later } }

/-! ### Sync requests -/

/-- A rejected or ignored sync request (R305, R307, R308). -/
def State.syncRejected (s : State) : State := (s.bump (Reg.PROF_CNT 3)).event Reg.PROF_EVT Reg.PROF_EVTEN 3 20

/-- A sync line is known (R306): it replaces an older request. -/
def State.requestSync (s : State) (j : Int) : State :=
  ({ s with prof := { s.prof with pend := some (j, s.now), waitRef := false } }).showPending

/-- A request for a line to be fixed by the next reference trigger (R305, R307): only the first member of a chain acts on it. -/
def State.requestSyncNext (s : State) : State :=
  if s.fld Reg.ACC_CHAIN Fld.ACC_CHAIN_INDEX ≠ 0 then s.syncRejected
  else ({ s with prof := { s.prof with pend := none, waitRef := true } }).showPending

/-- PROF_SYNC.SYNC (R305, R307). -/
def State.profSyncWrite (s : State) (aten : Bool) : State :=
  if aten then
    let j := s.getS64 Reg.PROF_SYNCAT_LO
    if s.refCame j then s.syncRejected.notice 0x0105 0x0B Reg.PROF_SYNC else s.requestSync j
  else s.requestSyncNext

/-- The line whose low 48 bits a message carries, nearest to the lines that come now. -/
def State.lineOf48 (s : State) (d : Nat) : Int :=
  let near := match s.trg.lastRef with
    | some r => r.1
    | none => 0
  near + signed 48 (unsignedOf 48 ((d : Int) - near))

/-- A PROFSYNC message from the west (R307): taken and forwarded; one that comes too late is discarded. DEDUCED, log 83. -/
def State.profSyncMessage (s : State) (data : BitVec 48) : State :=
  let j := s.lineOf48 data.toNat
  if s.refCame j then s.syncRejected.notice 0x0105 0x0B Reg.PROF_SYNC
  else
    let s := s.requestSync j
    if s.flag (Reg.CAM_CTRL 13) Fld.CAM_CTRL_EN && s.linkReady 13 then s.sendMgmt 13 10 0 data else s

/-! ### The profile table port -/

/-- The last index of a profile table (R315). -/
def profLast (tsel : Nat) : Nat := if tsel = 0 then 49151 else if tsel = 1 then 31 else 255

/-- Step PROF_TIDX (R315). -/
def State.profStep (s : State) : State :=
  if s.flag Reg.PROF_TCTL Fld.PROF_TCTL_AUTOINC && decide (s.fld Reg.PROF_TCTL Fld.PROF_TCTL_TSEL < 3) then
    let i := s.fld Reg.PROF_TIDX Fld.PROF_TIDX_IDX
    s.setFld Reg.PROF_TIDX Fld.PROF_TIDX_IDX (if i < profLast (s.fld Reg.PROF_TCTL Fld.PROF_TCTL_TSEL) then i + 1 else 0)
  else s

/-- Does the index name a word of the selected table? -/
def State.profIndexed (s : State) : Bool :=
  let t := s.fld Reg.PROF_TCTL Fld.PROF_TCTL_TSEL
  decide (t < 3) && decide (s.fld Reg.PROF_TIDX Fld.PROF_TIDX_IDX ≤ profLast t)

/-- The key of the word that the port names, in a bank. -/
def State.profKey (s : State) (bank : Nat) : Nat :=
  bank * 2 ^ 18 + s.fld Reg.PROF_TCTL Fld.PROF_TCTL_TSEL * 2 ^ 16 + s.fld Reg.PROF_TIDX Fld.PROF_TIDX_IDX

/-- A write of PROF_TDATA (R315, R233). -/
def State.profTableWrite (s : State) (v : Word) : State :=
  let s := if s.fld Reg.PROF_TCTL Fld.PROF_TCTL_TSEL = 3 then s
    else if s.fld Reg.ACC_STATUS Fld.ACC_STATUS_SSTATE ≠ 0 then s.rejectStaged Reg.PROF_TDATA
    else if s.profIndexed then
      { s with prof := { s.prof with tables := Store.set profInit (s.profKey (1 - s.profBank)) v s.prof.tables } }
    else s
  s.profStep

/-- A read of PROF_TDATA (R315). -/
def State.profTableRead (s : State) : Word × State :=
  let bank := if s.flag Reg.PROF_TCTL Fld.PROF_TCTL_RBANK then 1 - s.profBank else s.profBank
  (if s.profIndexed then Store.get profInit (s.profKey bank) s.prof.tables else 0, s.profStep)

end Sys2Proof.Machine
end

