-- ==== Sys2Proof/Machine/Accession.lean ====
section
/-! DEFINITION. Accession (09_accession.md R229 to R252): the staged set, every check in its order, the cost model and the bounds,
the joint digest. A check works on the state that a hand-over of the staged set would make. -/

namespace Sys2Proof.Machine

/-! ### The staged set -/

/-- A register's RWS fields from its staged word (R9, R231). -/
def State.adoptStaged (s : State) (a : Nat) : State :=
  match kindAt a with
  | none => s
  | some k => s.setReg a (k.fields.foldl (fun w f => if f.acc == .rws then setBits w f.bits (getBits (s.stagedWord a) f.bits) else w) (s.reg a))

/-- Collection registers whose live or staged word is not the reset word. -/
def State.stagedKeys (s : State) : List Nat := ((s.shadow.map Prod.fst ++ s.regs.map Prod.fst).eraseDups).filter isCollection

/-- STAGECNT pairs of the staging list (R232). -/
def State.stagePairs (s : State) : List (Nat × Word) :=
  (List.range (min 1024 (s.fld Reg.ACC_STAGECNT Fld.ACC_STAGECNT_COUNT))).map fun i =>
    (s.num (Reg.ACC_STAGE (2 * i)), s.reg (Reg.ACC_STAGE (2 * i + 1)))

/-- A listed register takes its value as a whole (R232). -/
def State.takePair (s : State) (p : Nat × Word) : State :=
  match kindAt p.1 with
  | none => s
  | some k => s.setReg p.1 (k.fields.foldl (fun w f => if f.acc.settable then setBits w f.bits (getBits (hiValue p.1 p.2) f.bits) else w) (s.reg p.1))

/-- Change the live bank of every folio, the catalogue and the profile tables (R236, R315). -/
def State.flipBanks (s : State) : State :=
  let s := (List.range 16).foldl (fun (s : State) e =>
    s.setFld (Reg.FOLIO_STATUS e) Fld.FOLIO_STATUS_BANK (1 - s.folioBank e)) s
  (s.setFld Reg.CAT_TCTL Fld.CAT_TCTL_BANK (1 - s.catBank)).setFld Reg.PROF_TCTL Fld.PROF_TCTL_BANK (1 - s.profBank)

/-- The lag that the camera folios in force need (R189). -/
def State.ownLag (s : State) : Nat :=
  (((List.range 12).filter s.engineRuns).map fun e => s.geom e Fld.FOLIO_GEOM_LAGF).foldl max 0

/-- Set L_c in every engine; a reading pipeline uses its own LAGF (R189). -/
def State.setLags (s : State) (lag : Nat) : State :=
  (List.range 16).foldl (fun (s : State) e =>
    s.setFld (Reg.FOLIO_STATUS e) Fld.FOLIO_STATUS_LAG (if e < 12 then lag else s.geom e Fld.FOLIO_GEOM_LAGF)) s

/-- RP_HALO of the reading pipelines (R327). -/
def State.setReplayHalos (s : State) : State :=
  (List.range 4).foldl (fun (s : State) r => s.setNum (Reg.RP_HALO r) (s.geom (12 + r) Fld.FOLIO_GEOM_REACH)) s

/-- HALO: the largest window half-width of the camera pipelines' folios (R158, R194). -/
def State.setHalo (s : State) : State :=
  s.setFld Reg.STITCH_CTRL Fld.STITCH_CTRL_HALO
    ((((List.range 12).filter s.engineRuns).map fun e => s.geom e Fld.FOLIO_GEOM_REACH).foldl max 0)

/-- The live L_c, 0 while no collection is live. -/
def State.liveLag (s : State) : Nat := if s.live then s.lag 0 else 0

/-- The state that a hand-over of the staged set would make of the registers and banks (R231, R236); L_c as R198 says, where a start
from Poised lets it fall. -/
def State.wouldBe (s : State) (start : Bool) : State :=
  let w := s.stagedKeys.foldl State.adoptStaged s
  let w := s.stagePairs.foldl State.takePair w
  let w := w.flipBanks
  (w.setLags (if start then w.ownLag else max w.ownLag s.liveLag)).setHalo.setReplayHalos

/-! ### Checks -/

/-- ACC_DETAIL0 and ACC_DETAIL1 of a check that fails; none where the spec states no value (a free value). -/
abbrev Detail := Option Nat × Option Nat

/-- A check without detail. -/
def plain (bad : Bool) : Option Detail := if bad then some (some 0, some 0) else none

/-- The first unit that fails, in ascending order, with a second detail. -/
def units (l : List Nat) (bad : Nat → Bool) (d : Nat → Nat) : Option Detail := (l.find? bad).map fun n => (some n, some (d n))

/-- The least detail of some findings. -/
def leastDetail (l : List (Option Nat)) : Option Detail :=
  match l.filterMap id with
  | [] => none
  | x :: r => some (some (r.foldl min x), some 0)

/-- Bound cameras (R230). -/
def State.bound (s : State) : List Nat := (List.range 12).filter s.camBound

/-- Does R78's consistency with HELLO bear on a port: it is bound, and a HELLO has been received (log 50)? -/
def State.helloKnown (s : State) (n : Nat) : Bool := s.camBound n && decide (s.num (Reg.CAM_CAPS0 n) ≠ 0)

/-- The field offset of the first CAM field that is refused (R44, R92, R78). DEDUCED, log 50. -/
def State.portFault (s : State) (n : Nat) : Option Nat :=
  let fmt := s.fld (Reg.CAM_CTRL n) Fld.CAM_CTRL_FMT
  let w := s.fld (Reg.CAM_WIDTH n) Fld.CAM_WIDTH_W
  let caps := Reg.CAM_CAPS0 n
  let bad0 := decide (4 < fmt ∨ s.fld (Reg.CAM_CTRL n) Fld.CAM_CTRL_LANES = 3)
    || (s.helloKnown n && (!bit (s.fld caps Fld.CAM_CAPS0_RATES) (s.fld (Reg.CAM_CTRL n) Fld.CAM_CTRL_RATE)
      || decide (s.fld caps Fld.CAM_CAPS0_MAXLANES < s.lanes n) || !bit (s.fld caps Fld.CAM_CAPS0_FMTS) fmt))
  let bad4 := decide (w = 0 ∨ 32768 < w) || (s.helloKnown n && decide (s.fld caps Fld.CAM_CAPS0_MAXNPIX + 1 < w))
  if bad0 then some 0 else if bad4 then some 4 else none

/-- Ports and seam links that should have been READY when the collection was committed and were not (R230). -/
def State.notReady (s : State) (m : Nat) : Bool :=
  (if m < 12 then s.camBound m else s.flag (Reg.CAM_CTRL m) Fld.CAM_CTRL_EN) && !s.acc.ready.contains m

/-- Is the scale outside R38? -/
def State.scaleBad (s : State) : Bool :=
  let n := s.num Reg.POS_SCALE_NUM
  let d := s.num Reg.POS_SCALE_DEN
  decide (d = 0 ∨ n < 1000 * d ∨ 100000000 * d < n)

/-- Cameras with EN = 1. -/
def State.enabledCams (s : State) : List Nat := (List.range 12).filter s.trgEnabled

/-- Is an input's setting refused (R96, R102, R118)? Number 6 and 7 stand for POS_CTRL.SRC. -/
def State.inputBad (s : State) (k : Nat) : Bool :=
  if 6 ≤ k then decide (s.fld Reg.POS_CTRL Fld.POS_CTRL_SRC = k)
  else
    let c := Reg.SPOS_CFG (k - 4)
    decide (s.fld (Reg.IN_CFG k) Fld.IN_CFG_IDXPOL = 3) || (decide (4 ≤ k) &&
      (decide (s.fld c Fld.SPOS_CFG_LEN < 8 ∨ 48 < s.fld c Fld.SPOS_CFG_LEN)
        || decide (s.fld c Fld.SPOS_CFG_LEN ≠ s.fld c Fld.SPOS_CFG_ERR_EN + s.fld c Fld.SPOS_CFG_POSBITS + checkWidth (s.fld c Fld.SPOS_CFG_CRC))))

/-- Is an output's setting refused (R113, R114)? -/
def State.outputBad (s : State) (k : Nat) : Bool :=
  let m := s.fld (Reg.TRIG_CFG k) Fld.TRIG_CFG_MODE
  decide (m = 3) || decide (12 ≤ s.fld (Reg.TRIG_CFG k) Fld.TRIG_CFG_CAM)
    || (decide (m = 1) && decide (1000000000 < 2 * s.trigWidth k * s.fld Reg.ACC_LRMAX Fld.ACC_LRMAX_LRMAX))

/-- MEMBERS of the collection. -/
def State.members (s : State) : Nat := s.fld Reg.ACC_CHAIN Fld.ACC_CHAIN_MEMBERS
/-- INDEX of the collection. -/
def State.memberIndex (s : State) : Nat := s.fld Reg.ACC_CHAIN Fld.ACC_CHAIN_INDEX

/-- The greatest CAMOFS of the bound cameras. -/
def State.greatestOffset (s : State) : Option Int :=
  match s.bound.map s.offsetOf with
  | [] => none
  | x :: r => some (r.foldl max x)

/-- Is STITCH_REFOFS refused (R148)? In a chain another member may hold the greatest offset. -/
def State.refofsBad (s : State) : Bool :=
  match s.greatestOffset with
  | none => false
  | some g => if s.members ≤ 1 then decide (s.offsetOf 12 ≠ g) else decide (s.offsetOf 12 < g)

/-- The first pipeline at which the territories break R157; none of them, with a WS out of range, has no number of its own. -/
def State.territoryFault (s : State) : Option Detail :=
  if s.ws = 0 ∨ 393216 < s.ws then some (none, some 0)
  else
    let step (w : Nat × Option Nat) (p : Nat) : Nat × Option Nat :=
      let n := s.num (Reg.TERR_LEN p)
      if w.2.isSome ∨ n = 0 then w
      else if 32768 < n ∨ s.num (Reg.TERR_START p) ≠ w.1 ∨ s.ws < w.1 + n then (w.1, some p) else (w.1 + n, none)
    let (cur, bad) := (List.range 12).foldl step (0, none)
    match bad with
    | some p => some (some p, some 0)
    | none => if cur = s.ws then none else some (none, some 0)

/-- Is the export of a side refused: XSTART + XLEN above W(XCAM)? -/
def State.exportBad (s : State) (side : Nat) : Bool :=
  let m := side - 12
  let cam := s.fld (Reg.SEAM_XCFG m) Fld.SEAM_XCFG_XCAM
  decide ((if cam < 12 then s.fld (Reg.CAM_WIDTH cam) Fld.CAM_WIDTH_W else 0)
    < s.fld (Reg.SEAM_XSTART m) Fld.SEAM_XSTART_XSTART + s.fld (Reg.SEAM_XCFG m) Fld.SEAM_XCFG_XLEN)

/-- Is the chain's shape refused (R252)? -/
def State.shapeBad (s : State) : Bool :=
  let m := s.members
  let i := s.memberIndex
  decide (m = 0 ∨ 16 < m ∨ m ≤ i) || (s.flag (Reg.CAM_CTRL 12) Fld.CAM_CTRL_EN != decide (i ≠ 0))
    || (s.flag (Reg.CAM_CTRL 13) Fld.CAM_CTRL_EN != decide (i + 1 ≠ m))

/-- Pipelines that run a folio (R201 EN), whose folios are checked. -/
def State.folios (s : State) : List Nat := (List.range 16).filter fun e => s.flag (Reg.FOLIO_GEOM e) Fld.FOLIO_GEOM_EN

/-- The first pipeline and bundle with a finding (R243). -/
def State.bundleFault (s : State) (bad : Nat → Nat → Bool) : Option Detail :=
  s.folios.findSome? fun e => ((List.range (s.bundleCount e)).find? (bad e)).map fun n => (some e, some n)

/-- The section findings (R175, R176, R201): a bundle of a folio, or the FOLIO_LEN values of any pipeline. -/
def State.sectionFault (s : State) : Option Detail :=
  (List.range 16).findSome? fun e =>
    let (p, b, x) := s.sectionLengths e
    if b = 0 ∨ 2048 < p + b + x then some (some e, some 0xFFFFFFFF)
    else if !s.folios.contains e then none
    else match (List.range (s.bundleCount e)).find? fun n => !s.inBody e n && s.bodyOnly e n with
    | some n => some (some e, some n)
    | none => none

/-- The first folio whose reach is above 7 or not the declared one (R194); an unbounded reach has no number. -/
def State.reachFault (s : State) : Option Detail :=
  s.folios.findSome? fun e =>
    let r := s.folioReach e
    if 7 < r ∨ r ≠ s.geom e Fld.FOLIO_GEOM_REACH then some (some e, if r = 255 then none else some r) else none

/-- Is a pipeline's FOLIO_GEOM refused (R172, R201)? -/
def State.geomBad (s : State) (e : Nat) : Bool :=
  let en := s.flag (Reg.FOLIO_GEOM e) Fld.FOLIO_GEOM_EN
  decide (4 < s.geom e Fld.FOLIO_GEOM_MASKBITS ∨ 4 < s.geom e Fld.FOLIO_GEOM_TAPS)
    || (decide (e < 12) && decide (s.num (Reg.TERR_LEN e) ≠ 0) && !en)

/-- The field offsets of the segmentation checks. -/
def State.segmentFaults (s : State) : List (Option Nat) :=
  let burst := s.fld Reg.CARD_LIMITS Fld.CARD_LIMITS_BURST
  [if s.fld Reg.SEG_CONTN Fld.SEG_CONTN_N < 256 then some 4 else none, if burst = 0 ∨ 32 < burst then some 4 else none,
   if 6291456 < s.fld Reg.SEG_COLBASE Fld.SEG_COLBASE_V + s.ws then some 8 else none]

/-- Is a catalogue rule refused (R285)? -/
def State.ruleBad (s : State) (r : Nat) : Bool :=
  let w (i : Nat) : Nat := s.catWord s.catBank (32 * r + i)
  decide (64 ≤ w 0) || ((List.range 7).any fun i => decide (w (25 + i) ≠ 0)) || (List.range 8).any fun t =>
    let sel := w (1 + 3 * t)
    decide (64 ≤ sel) || decide (20 ≤ sel % 32) || decide (w (3 + 3 * t) < w (2 + 3 * t))

/-- The catalogue finding (R285). -/
def State.catalogueFault (s : State) : Option Detail :=
  match (List.range 256).find? s.ruleBad with
  | some r => some (some r, some 0)
  | none => if 256 < s.fld Reg.CARD_LIMITS Fld.CARD_LIMITS_NRULES then some (none, some 0) else none

/-! ### Rates, sizes and demands -/

/-- ACC_LRMAX. -/
def State.lrmax (s : State) : Nat := s.fld Reg.ACC_LRMAX Fld.ACC_LRMAX_LRMAX

/-- Divide, rounding up. -/
def ceilDiv (a b : Nat) : Nat := (a + b - 1) / b

/-- The IP MTU of a port (R370). -/
def State.mtu (s : State) (port : Nat) : Nat := if s.flag (Reg.HOST_CTRL port) Fld.HOST_CTRL_JUMBO then 8000 else 1500

/-- Sub-ports of a mode (R368). -/
def subports (mode : Nat) : Nat := if mode = 0 then 1 else if mode = 1 then 2 else 4

/-- Mb/s of a sub-port in a mode (R368). -/
def subportRate (mode : Nat) : Nat := if mode = 0 then 400000 else if mode = 1 then 200000 else 100000

/-- MODE of a port. -/
def State.portMode (s : State) (port : Nat) : Nat := s.fld (Reg.HOST_CTRL port) Fld.HOST_CTRL_MODE

/-- Wire bytes of a record of `x` bytes at an MTU (R400). -/
def recordWire (mtu x : Nat) : Nat := x + ceilDiv x (mtu - 84) * 126

/-- The MTU that a stream's records meet: the smaller of both where it is split. -/
def State.streamMtu (s : State) (i : Nat) : Nat :=
  let p := s.fld (Reg.ACC_STREAM i) Fld.ACC_STREAM_PORT
  if p = 0 then s.mtu 0 else if p = 1 then s.mtu 1 else if p = 2 then min (s.mtu 0) (s.mtu 1)
  else s.mtu (s.fld (Reg.STR_CFG i) Fld.STR_CFG_BEPORT)

/-- The rate reserved for a stream, in Mb/s. -/
def State.streamRate (s : State) (i : Nat) : Nat :=
  if s.fld (Reg.ACC_STREAM i) Fld.ACC_STREAM_PORT = 3 then 0 else 100 * s.fld (Reg.ACC_STREAM i) Fld.ACC_STREAM_RATE

/-- Bytes of a crop of a class (R287). -/
def State.cropBytes (s : State) (c : Nat) : Nat :=
  let r := Reg.CARD_ROUTE c
  ceilDiv (64 * s.fld r Fld.CARD_ROUTE_CW8 * s.fld r Fld.CARD_ROUTE_CH8 * s.stacksBits) 8 + 64

/-- The classes with CROP = 1 that meet a condition. -/
def State.cropClasses (s : State) (p : Nat → Bool) : List Nat :=
  (List.range 64).filter fun c => s.flag (Reg.CARD_ROUTE c) Fld.CARD_ROUTE_CROP && p c

/-- The largest crop of a circulation queue (R287), 0 without crops. -/
def State.largestCrop (s : State) (q : Nat) : Nat :=
  ((s.cropClasses fun c => decide (s.fld (Reg.CARD_ROUTE c) Fld.CARD_ROUTE_QUEUE = q)).map s.cropBytes).foldl max 0

/-- The largest crop on the crop stream. -/
def State.largestStreamCrop (s : State) : Nat :=
  ((s.cropClasses fun c => s.flag (Reg.CARD_ROUTE c) Fld.CARD_ROUTE_CROPSTREAM).map s.cropBytes).foldl max 0

/-- Bytes of a relay line record (R395). -/
def State.relayBytes (s : State) : Nat :=
  64 + ceilDiv (s.num Reg.RLY_NCOL * storedBits (s.fld Reg.RLY_CFG Fld.RLY_CFG_WIDTH)) 8

/-- EVERY of the relay. -/
def State.relayEvery (s : State) : Nat := s.fld Reg.RLY_CFG Fld.RLY_CFG_EVERY + 1

/-- Wire bits of the profile stream per second times D (R313, R400), with the event records at their limit of 256 a sample (R310). -/
def State.profileDemand (s : State) (mtu : Nat) : Nat :=
  let rb := max 1 (s.fld Reg.PROF_RECBINS Fld.PROF_RECBINS_RECBINS)
  let full := s.nb / rb
  let rest := s.nb % rb
  let bytes := full * recordWire mtu (64 + 4 * rb) + (if rest = 0 then 0 else recordWire mtu (64 + 4 * rest)) + 256 * recordWire mtu 64
  8 * bytes * s.lrmax

/-- l_s of the collection (R244, R317): 0 without stacks. -/
def State.ls (s : State) : Nat := if s.flag Reg.STACKS_CTRL Fld.STACKS_CTRL_EN then lineBytes s.ws s.stacksBits else 0

/-- D(n) of a camera as a number. -/
def State.delayOf (s : State) (n : Nat) : Nat := (s.mdDelay n).toNat

/-- The deep cameras (R149). -/
def State.deepCams (s : State) : List Nat := s.bound.filter fun n => decide (16 ≤ s.delayOf n)

/-- `deep` of R244, in bytes per line. -/
def State.deepBytes (s : State) : Nat := (s.deepCams.map fun n => 4 * s.fld (Reg.CAM_WIDTH n) Fld.CAM_WIDTH_W).sum

/-- r_rt of R244 in sixteenths of a byte per second. -/
def State.rrt16 (s : State) : Nat :=
  17 * (s.lrmax * (s.ls + s.deepBytes) + ((List.range 4).map fun r => s.fld (Reg.ACC_REPLAY r) Fld.ACC_REPLAY_RATE * s.ls).sum)

/-- r_rt in MB/s, rounded up. -/
def State.rrt (s : State) : Nat := ceilDiv s.rrt16 16000000

/-- B_eff in MB/s at a pin rate (R420). -/
def beff (rate : Nat) : Nat := if rate = 0 then 245760 else if rate = 1 then 215040 else 122880

/-- MEMC_FREQ.RATE. -/
def State.pinRate (s : State) : Nat := s.memc.rate

/-- wbuf of R244. -/
def State.wbuf (s : State) : Nat := 4096 * ceilDiv (s.lrmax * (2 * s.ls + s.deepBytes) * 16) (4096 * 10000000)

/-- E_q of R245. -/
def State.entries (s : State) (q : Nat) : Nat :=
  ceilDiv (s.fld (Reg.ACC_CQRATE q) Fld.ACC_CQRATE_RATE * (2 * s.fld Reg.ACC_RET Fld.ACC_RET_RET + 15)) 2000000 + 2048

/-- Crop entries of a circulation queue (R245). -/
def State.cropEntries (s : State) (q : Nat) : Nat :=
  if s.largestCrop q = 0 then 0
  else ceilDiv (s.fld (Reg.ACC_CQCROP q) Fld.ACC_CQCROP_RATE * (2 * s.fld Reg.ACC_RET Fld.ACC_RET_RET + 15)) 2000000 + 4

/-- X of R352 for a stream channel. -/
def State.largestRecord (s : State) (i : Nat) : Nat :=
  let src := s.fld (Reg.STR_CFG i) Fld.STR_CFG_SRC
  if src = 1 then s.relayBytes else if src = 2 then 64 + 4 * s.fld Reg.PROF_RECBINS Fld.PROF_RECBINS_RECBINS
  else if src = 3 then 64 + s.largestStreamCrop else 0

/-- SIZE of queue `q` from 48 on, in units (R352, R362). B is in bytes per second; 20 µs of it are RATE × 250 bytes. -/
def State.sizeOf (s : State) (q : Nat) : Nat :=
  if q < 56 then
    let i := q - 48
    let x := ceilDiv (s.largestRecord i) 64
    if s.fld (Reg.ACC_STREAM i) Fld.ACC_STREAM_PORT ≠ 3 then
      max 16 (2 * ceilDiv (s.fld (Reg.ACC_STREAM i) Fld.ACC_STREAM_RATE * 250) 64 + 2 * x)
    else if s.fld (Reg.STR_CFG i) Fld.STR_CFG_SRC = 0 then 1024 else max 1024 (4 * x)
  else if q = 56 ∨ q = 58 then 1024 else if q < 60 then 2048
  else 2 * s.entries (q - 60) + ceilDiv (s.largestCrop (q - 60)) 64 * s.cropEntries (q - 60)

/-- Pool bytes of the line stores (R244). -/
def State.storeBytes (s : State) : Nat :=
  ((s.bound.filter fun n => decide (s.delayOf n < 16)).map fun n => (s.delayOf n + 1) * 2 * s.fld (Reg.CAM_WIDTH n) Fld.CAM_WIDTH_W).sum

/-- The pool demand (R244). -/
def State.pool (s : State) : Nat :=
  s.storeBytes + s.wbuf + ((List.range 16).map fun i => 64 * s.sizeOf (48 + i)).sum

/-- GDDR6 bytes of the collection's structures: the ring, the deep-delay rings, crop staging (R243). -/
def State.capacity (s : State) : Nat :=
  (if s.flag Reg.STACKS_CTRL Fld.STACKS_CTRL_EN then
    s.fld Reg.STACKS_NROWS Fld.STACKS_NROWS_NROWS * strideOf s.ws s.stacksBits + 0x100000 else 0)
  + (s.deepCams.map fun n => (s.delayOf n + 1) * 2 * s.fld (Reg.CAM_WIDTH n) Fld.CAM_WIDTH_W).sum

/-! ### Profile, stacks and routing checks -/

/-- Is a bin refused (R314)? -/
def State.binBad (s : State) (b : Nat) : Bool :=
  let w := s.profWord 0 (2 * b)
  let last := w % 2 ^ 19 + w / 2 ^ 19 % 64
  let taps (k : Nat) : Bool := match s.territoryOf k with
    | some p => decide (s.geom p Fld.FOLIO_GEOM_TAPS ≤ w / 2 ^ 25 % 4)
    | none => false
  decide (s.ws ≤ last) || (List.range (w / 2 ^ 19 % 64 + 1)).any fun i => taps (w % 2 ^ 19 + i)

/-- Does a profile table entry of the live bank hold a reserved bit (R316)? An unlisted entry holds none. -/
def State.profReserved (s : State) : Bool :=
  s.prof.tables.any fun e =>
    let i := e.1 % 2 ^ 16
    let w := e.2.toNat
    decide (e.1 / 2 ^ 18 = s.profBank) &&
      match e.1 / 2 ^ 16 % 4 with
      | 0 => decide (i < 49152) && (if i % 2 = 0 then decide (2 ^ 28 ≤ w) else decide (64 ≤ w))
      | 1 => decide (i < 32 ∧ 2 ^ 20 ≤ w)
      | 2 => decide (i < 256 ∧ i % 4 = 3 ∧ 2 ^ 11 ≤ w)
      | _ => false

/-- The field offsets of the profile checks (R314); of the sets, those that a bin names are judged. DEDUCED, log 143. -/
def State.profileFaults (s : State) : List (Option Nat) :=
  let c := s.fld Reg.PROF_CTRL Fld.PROF_CTRL_CHAN
  let rb := s.fld Reg.PROF_RECBINS Fld.PROF_RECBINS_RECBINS
  let bins := List.range (min s.nb 24576)
  [if s.flag Reg.PROF_CTRL Fld.PROF_CTRL_EN ∧ s.streamRate c * 1000000 * decimation s.preset < s.profileDemand (s.streamMtu c) then
      some 0 else none,
   if 24576 < s.nb then some 4 else none, if s.nt % 2 = 0 ∨ 63 < s.nt then some 8 else none,
   if rb < 16 ∨ 2048 < rb then some 0xC else none,
   if bins.any s.binBad || bins.any (fun b => decide (s.profWord 2 (4 * (s.profWord 0 (2 * b + 1) % 64) + 3) % 256 = 0))
      || s.profReserved then some 0x88 else none]

/-- The field offsets of the stacks checks (R317, R330). -/
def State.stacksFaults (s : State) : List (Option Nat) :=
  let en := s.flag Reg.STACKS_CTRL Fld.STACKS_CTRL_EN
  let rate (r : Nat) : Nat := s.fld (Reg.ACC_REPLAY r) Fld.ACC_REPLAY_RATE
  let used := (List.range 64).any (fun c => s.flag (Reg.CARD_ROUTE c) Fld.CARD_ROUTE_CROP) || (List.range 4).any fun r => decide (rate r ≠ 0)
  [if s.fld Reg.STACKS_CTRL Fld.STACKS_CTRL_WIDTH = 3 ∨ (!en ∧ used) then some 0 else none,
   if s.fld Reg.STACKS_NROWS Fld.STACKS_NROWS_NROWS < 1024 then some 4 else none]
  ++ (List.range 4).map (fun r => if 500000 < rate r ∨ (rate r ≠ 0 ∧ !s.flag (Reg.FOLIO_GEOM (12 + r)) Fld.FOLIO_GEOM_EN) then
      some (0xC0 + 4 * r) else none)
  ++ (List.range 4).flatMap (fun r =>
    [if s.ws < s.num (Reg.RP_TSTART r) + s.num (Reg.RP_TLEN r) then some (0x110 + 0x40 * r) else none,
     if 32768 < s.num (Reg.RP_TLEN r) then some (0x114 + 0x40 * r) else none])

/-- Does a port lack a sub-port: disabled, or its MODE has fewer (R401)? MODE 3 has none. -/
def State.lacks (s : State) (port sub : Nat) : Bool :=
  !s.flag (Reg.HOST_CTRL port) Fld.HOST_CTRL_EN || decide (s.portMode port = 3) || decide (subports (s.portMode port) ≤ sub)

/-- The port and sub-port of a circulation queue. -/
def State.cqPort (s : State) (q : Nat) : Nat × Nat := (s.fld (Reg.CQ_CFG q) Fld.CQ_CFG_PORT, s.fld (Reg.CQ_CFG q) Fld.CQ_CFG_SUB)

/-- The ports a stream leaves on. -/
def State.streamPorts (s : State) (i : Nat) : List Nat :=
  let p := s.fld (Reg.ACC_STREAM i) Fld.ACC_STREAM_PORT
  if p = 2 then [0, 1] else if p = 3 then [s.fld (Reg.STR_CFG i) Fld.STR_CFG_BEPORT] else [p]

/-- Circulation queues routed to a sub-port. DEDUCED, log 90. -/
def State.cqOn (s : State) (ps : Nat × Nat) : Nat := ((List.range 4).filter fun q => decide (s.cqPort q = ps)).length

/-- Is the circulation queue in use: a rate is priced for it, or a class is routed to it? -/
def State.cqUsed (s : State) (q : Nat) : Bool :=
  decide (s.fld (Reg.ACC_CQRATE q) Fld.ACC_CQRATE_RATE ≠ 0) || s.routedQueues.contains q

/-- Is a stream channel in use: reserved, or named by a producer? -/
def State.streamUsed (s : State) (i : Nat) : Bool :=
  decide (s.fld (Reg.ACC_STREAM i) Fld.ACC_STREAM_PORT ≠ 3 ∨ s.fld (Reg.STR_CFG i) Fld.STR_CFG_SRC ≠ 0)

/-- Fragments of a crop record at an MTU (R389, R393). -/
def fragments (mtu x : Nat) : Nat := ceilDiv x (mtu - 84)

/-- Is a circulation queue's routing refused (R401)? Sub-port rates are in Mb/s: bits over Mb/s are µs. -/
def State.cqRouteBad (s : State) (q : Nat) : Bool :=
  let (port, sub) := s.cqPort q
  let f := 8 * (s.mtu port + 42)
  let r := subportRate (s.portMode port)
  let n := s.cqOn (port, sub)
  let c := s.largestCrop q
  let k := fragments (s.mtu port) c
  (s.cqUsed q && (s.lacks port sub || decide (900 * r < (n + 1) * f * 1000)
    || (decide (c ≠ 0) && decide (3500 * r < (k + 2) * n * f * 1000)))) || decide (16448 < c)
    || decide (s.fld (Reg.ACC_CQCROP q) Fld.ACC_CQCROP_RATE ≠ 0 ∧ s.fld (Reg.ACC_CQRATE q) Fld.ACC_CQRATE_RATE = 0)
    || (s.cropClasses fun x => decide (s.fld (Reg.CARD_ROUTE x) Fld.CARD_ROUTE_QUEUE = q)).any fun x =>
      let w := s.fld (Reg.CARD_ROUTE x) Fld.CARD_ROUTE_CW8
      let h := s.fld (Reg.CARD_ROUTE x) Fld.CARD_ROUTE_CH8
      decide (w = 0 ∨ 64 < w ∨ h = 0 ∨ 64 < h)

/-- Is a stream channel's routing refused (R401, R405)? -/
def State.streamRouteBad (s : State) (i : Nat) : Bool :=
  let src := s.fld (Reg.STR_CFG i) Fld.STR_CFG_SRC
  let reserved := decide (s.fld (Reg.ACC_STREAM i) Fld.ACC_STREAM_PORT ≠ 3)
  let cropstream := !(s.cropClasses fun c => s.flag (Reg.CARD_ROUTE c) Fld.CARD_ROUTE_CROPSTREAM).isEmpty
  let n := s.num Reg.RLY_NCOL
  (s.streamUsed i && (s.streamPorts i).any fun p => s.lacks p (s.fld (Reg.STR_CFG i) Fld.STR_CFG_SUB))
    || (decide (src = 1) && ((List.range i).any (fun k => decide (s.fld (Reg.STR_CFG k) Fld.STR_CFG_SRC = 1))
      || decide (s.fld Reg.RLY_CFG Fld.RLY_CFG_WIDTH = 3 ∨ n = 0 ∨ s.ws < s.num Reg.RLY_COL0 + n)
      || (reserved && decide (s.streamRate i * 1000000 * s.relayEvery < 8 * s.lrmax * recordWire (s.streamMtu i) s.relayBytes))))
    || (cropstream && decide (s.fld Reg.OHT_CTRL Fld.OHT_CTRL_CROPCH = i) && (decide (src ≠ 3) || reserved))
    || (s.flag Reg.PROF_CTRL Fld.PROF_CTRL_EN && decide (s.fld Reg.PROF_CTRL Fld.PROF_CTRL_CHAN = i) && decide (src ≠ 2))
    || (s.flag (Reg.STR_CFG i) Fld.STR_CFG_TIMED && decide (s.fld (Reg.ACC_STREAM i) Fld.ACC_STREAM_PORT = 2))

/-- The channels whose routing is refused, by CHAN (R377): 1 + q, 16 + i. -/
def State.routingFault (s : State) : Option Detail :=
  units ((List.range 4).map (· + 1) ++ (List.range 8).map (· + 16))
    (fun c => if c < 16 then s.cqRouteBad (c - 1) else s.streamRouteBad (c - 16)) fun _ => 0

/-- The pitch and the origin (R106). -/
def pitchRegs : List Nat := [Reg.TRG_PITCH_NUM, Reg.TRG_PITCH_DEN, Reg.TRG_ORIGIN_LO, Reg.TRG_ORIGIN_HI]

/-- The registers that a staged collection may not change while one is live (R235), with the bits compared. -/
def State.fixedRegs (s : State) : List Nat :=
  (pitchRegs ++ (List.range 12).map Reg.TRG_CAMOFS
    ++ (List.range 12).map Reg.ACC_BIND ++ s.bound.flatMap (fun n => [Reg.CAM_CTRL n, Reg.CAM_WIDTH n])
    ++ [Reg.CAM_CTRL 12, Reg.CAM_CTRL 13, Reg.STITCH_WIDTH, Reg.STITCH_REFOFS, Reg.STACKS_CTRL, Reg.STACKS_NROWS])

/-- LIVE_CHANGE: the first register that differs (R235). -/
def changed (live w : State) : Option Detail :=
  if live.live then units live.fixedRegs (fun a => decide (live.reg a ≠ w.reg a)) fun _ => 0 else none

/-- A finding or none. -/
abbrev Finding := Nat × Option Detail

/-- SRAM_POOL for a structure that does not fit its live allocation (R235): a queue, the write buffer, or the line stores. -/
def allocationFault (live w : State) : Option Detail :=
  if live.live then
    match (List.range 16).find? fun i => decide (live.qSize (48 + i) < w.sizeOf (48 + i)) with
    | some i => some (some (64 * w.sizeOf (48 + i)), some (64 * live.qSize (48 + i)))
    | none => if live.wbuf < w.wbuf then some (some w.wbuf, some live.wbuf)
      else if live.storeBytes < w.storeBytes then some (some w.storeBytes, some live.storeBytes) else none
  else none

/-- The checks that the table of R243 does not list, in ascending order of reason code (R243, R252). -/
def firstChecks (live w : State) : List Finding :=
  [(0x0101, units (List.range 12) (fun n => w.camBound n && decide (w.fld (Reg.ACC_BIND n) Fld.ACC_BIND_PIPE ≠ n))
      fun n => w.fld (Reg.ACC_BIND n) Fld.ACC_BIND_PIPE),
   (0x0102, units (List.range 12) (fun n => (w.portFault n).isSome) fun n => (w.portFault n).getD 0),
   (0x0103, units (List.range 14) w.notReady fun _ => 0),
   (0x0201, plain w.scaleBad),
   (0x0202, plain (!w.flag Reg.SYS_NODE Fld.SYS_NODE_NLOCK)),
   (0x0203, plain (!w.pitchOk || (live.live && decide (pitchRegs.map live.reg ≠ pitchRegs.map w.reg)))),
   (0x0204, units w.enabledCams (fun n => decide (w.phases n ≠ w.commonPhases)) fun _ => 0),
   (0x0205, units (List.range 8) w.inputBad fun _ => 0),
   (0x0206, units (List.range 16) w.outputBad fun _ => 0),
   (0x0301, plain w.refofsBad),
   (0x0303, w.territoryFault),
   (0x0304, units (List.range 14) (fun b => decide (256 < w.fld (Reg.BND_CFG b) Fld.BND_CFG_LEN)) fun _ => 0),
   (0x0305, units [12, 13] w.exportBad fun _ => 0),
   (0x0403, plain w.shapeBad),
   (0x0501, w.bundleFault w.bundleRefused),
   (0x0502, w.sectionFault),
   (0x0503, units w.folios (fun e => decide (w.geom e Fld.FOLIO_GEOM_LAGF < w.folioLag e)) fun e => w.slotsNeeded e (w.lag e)),
   (0x0504, w.reachFault),
   (0x0505, units (List.range 16) w.geomBad fun _ => 0),
   (0x0601, leastDetail w.segmentFaults),
   (0x0602, w.catalogueFault),
   (0x0603, leastDetail w.profileFaults),
   (0x0604, leastDetail w.stacksFaults),
   (0x0605, w.routingFault),
   (0x0606, units (List.range live.stagePairs.length) (fun i => !isListed ((live.stagePairs[i]?).map Prod.fst |>.getD 0)) fun _ => 0),
   (0x0607, changed live w), (0x0703, allocationFault live w)]

/-! ### The cost model -/

/-- Lane rate by RATE code, in thirty-seconds of 1 Gb/s (R57). -/
def laneRate32 (code : Nat) : Nat := if code = 0 then 330 else if code = 1 then 400 else if code = 2 then 825 else 900

/-- T_arr of a port times its lane rate in thirty-seconds of 1 Gb/s (R89), in ns. -/
def State.tarr (s : State) (n : Nat) : Nat :=
  let w := s.fld (Reg.CAM_WIDTH n) Fld.CAM_WIDTH_W
  let nblk := (w * bitsPerPixel (s.fld (Reg.CAM_CTRL n) Fld.CAM_CTRL_FMT) + 63) / 64
  let b := ceilDiv (nblk + 2) (s.lanes n) + 1
  (12 + s.fld (Reg.CAM_RTT n) Fld.CAM_RTT_RTT + s.fld (Reg.CAM_CAPS2 n) Fld.CAM_CAPS2_TLAT + 40)
    * laneRate32 (s.fld (Reg.CAM_CTRL n) Fld.CAM_CTRL_RATE) + b * 66 * 32

/-- T_arr in ns, rounded up. DEDUCED, log 126. -/
def State.tarrNs (s : State) (n : Nat) : Nat := ceilDiv (s.tarr n) (laneRate32 (s.fld (Reg.CAM_CTRL n) Fld.CAM_CTRL_RATE))

/-- Is a territory a seam territory (R159)? DEDUCED, log 69. -/
def State.seamTerritory (s : State) (e : Nat) : Bool :=
  let start : Int := s.num (Reg.TERR_START e)
  let n := s.num (Reg.TERR_LEN e)
  let lo := start - s.halo
  let hi := start + n + s.halo
  (decide (lo < 0) && s.flag (Reg.CAM_CTRL 12) Fld.CAM_CTRL_EN) || (decide ((s.ws : Int) < hi) && s.flag (Reg.CAM_CTRL 13) Fld.CAM_CTRL_EN)
    || (List.range (n + 2 * s.halo)).any fun (i : Nat) =>
      let k := lo + (i : Int)
      decide (0 ≤ k ∧ k < s.ws) && (s.usesSide 12 k.toNat || s.usesSide 13 k.toNat)

/-- R_j − S_j of an engine in ns (R159, R326). DEDUCED, log 69. -/
def State.readyNs (s : State) (e : Nat) : Nat := if e < 12 && s.seamTerritory e then 460 else 60

/-- F_j − S_j of an engine in thirds of a ns (R178). -/
def State.folioThirds (s : State) (e : Nat) : Nat :=
  let (p, b, x) := s.sectionLengths e
  max (2 * p) (3 * s.readyNs e) + 2 * ((s.groups e + s.geom e Fld.FOLIO_GEOM_SKEW) * b + x)

/-- The line rate that an engine is priced at (R243). -/
def State.engineRate (s : State) (e : Nat) : Nat := if e < 12 then s.lrmax else s.fld (Reg.ACC_REPLAY (e - 12)) Fld.ACC_REPLAY_RATE

/-- Running engines: camera pipelines with a territory, reading pipelines with a rate. -/
def State.runningEngines (s : State) : List Nat :=
  (List.range 16).filter fun e => s.engineRuns e && (decide (e < 12) || decide (s.engineRate e ≠ 0))

/-- Thirds of a ns by which an engine's line and the segmentation tail of 200 ns miss the slot (R180), times the rate. -/
def State.slotExcess (s : State) (e : Nat) : Int := ((s.folioThirds e + 600) * s.engineRate e : Nat) - 3000000000

/-- The demand on a sub-port in Mb/s, rounded up (R246, R400). DEDUCED, log 90. -/
def State.subportDemand (s : State) (port sub : Nat) : Nat :=
  let streams := (List.range 8).map fun i =>
    if (s.streamPorts i).contains port && decide (s.fld (Reg.STR_CFG i) Fld.STR_CFG_SUB = sub) then
      (if s.fld (Reg.ACC_STREAM i) Fld.ACC_STREAM_PORT = 2 then s.streamRate i / 2 else s.streamRate i) else 0
  let cq := (List.range 4).map fun q =>
    if s.cqPort q = (port, sub) then
      let rate := s.fld (Reg.ACC_CQRATE q) Fld.ACC_CQRATE_RATE
      let c := s.largestCrop q
      let per := 258 + (if c = 0 ∨ rate = 0 then 0 else
        ceilDiv (s.fld (Reg.ACC_CQCROP q) Fld.ACC_CQCROP_RATE * (c + fragments (s.mtu port) c * 126)) rate)
      8 * rate * per
    else 0
  streams.sum + ceilDiv cq.sum 1000000

/-- The sub-ports of both ports: 4 × port + sub. -/
def State.subportList (s : State) : List Nat :=
  [0, 1].flatMap fun p => (List.range (subports (s.portMode p))).map fun u => 4 * p + u

/-- A weight of ACC_BEW (R247): 0 CROP, 1 DMA, 2 OHT, 3 RELAY. -/
def State.weight (s : State) (i : Nat) : Nat := s.num Reg.ACC_BEW / 16 ^ i % 16

/-- The checks of R243's table, in its order. -/
def tableChecks (w : State) : List Finding :=
  let lr := w.lrmax
  [(0x0104, units w.bound (fun n => decide (1000000000 * laneRate32 (w.fld (Reg.CAM_CTRL n) Fld.CAM_CTRL_RATE) < w.tarr n * lr)) w.tarrNs),
   (0x0104, if lr = 0 ∨ 500000 < lr then some (some 0xFF, some lr) else
      units w.bound (fun n => decide (w.fld (Reg.CAM_CAPS1 n) Fld.CAM_CAPS1_MAXLR < lr)) w.tarrNs),
   (0x0506, units w.runningEngines (fun e => decide (0 < w.slotExcess e)) fun e => ceilDiv (w.slotExcess e).toNat (3 * w.engineRate e)),
   (0x0503, units w.folios (fun e => decide (16 < w.lag e + w.geom e Fld.FOLIO_GEOM_LAGF + 1 + w.geom e Fld.FOLIO_GEOM_NPL))
      fun e => w.slotsNeeded e (w.lag e)),
   (0x0302, units w.bound (fun n => decide (65535 < w.mdDelay n)) w.delayOf),
   (0x0402, units ([12, 13].filter fun m => w.flag (Reg.CAM_CTRL m) Fld.CAM_CTRL_EN)
      (fun m => decide (160 < w.fld (Reg.CAM_RTT m) Fld.CAM_RTT_RTT)) fun m => w.fld (Reg.CAM_RTT m) Fld.CAM_RTT_RTT),
   (0x0701, if 4 * w.rrt16 > 3 * 16000000 * beff w.pinRate then some (some w.rrt, some (3 * beff w.pinRate / 4)) else none),
   (0x0702, if 0x3C0000000 < w.capacity then some (some (ceilDiv w.capacity 0x100000), some 15360) else none),
   (0x0703, if 33554432 < w.pool then some (some w.pool, some 33554432) else none),
   (0x0704, if 8000000 < ((List.range 4).map fun q => w.fld (Reg.ACC_CQRATE q) Fld.ACC_CQRATE_RATE).sum then some (none, some 0) else none),
   (0x0704, if 100000 < w.fld Reg.ACC_RET Fld.ACC_RET_RET then some (none, some 0) else none),
   (0x0705, (w.subportList.find? fun x => decide (9 * subportRate (w.portMode (x / 4)) < 10 * w.subportDemand (x / 4) (x % 4))).map fun x =>
      (some (w.subportDemand (x / 4) (x % 4)), some (9 * subportRate (w.portMode (x / 4)) / 10))),
   (0x0706, units (List.range 4) (fun i => decide (w.weight i = 0)) fun _ => 0)]

/-- The first check that fails (R243). -/
def accessionFault (live w : State) : Option (Nat × Detail) :=
  (firstChecks live w ++ tableChecks w).findSome? fun f => f.2.map fun d => (f.1, d)

/-! ### Bounds and digest -/

/-- BTIME in ns (R249), rounded up. -/
def State.btime (s : State) : Nat := ceilDiv 2000000000 s.lrmax + 9500 + 2000 * (s.members - 1)

/-- The reserved rate of a host port in Mb/s (R250). -/
def State.portDemand (s : State) (port : Nat) : Nat :=
  ((s.subportList.filter fun x => decide (x / 4 = port)).map fun x => s.subportDemand port (x % 4)).sum

/-- B_be in sixteenths of a byte per second (R247). -/
def State.bbe16 (s : State) : Nat := 16000000 * beff s.pinRate - s.rrt16

/-- The sixteen bound words (R249, R250, R256). -/
def State.boundWords (s : State) (lag : Nat) : List Nat :=
  let wait (i : Nat) : Nat :=
    ceilDiv ((((List.range 4).filter (· ≠ i)).map s.weight).sum * 4096 * 16000000000 + 500 * s.bbe16) s.bbe16
  [lag, s.btime, s.members - 1, s.rrt, s.bbe16 / 16000000] ++ (List.range 4).map wait ++ [s.portDemand 0, s.portDemand 1, s.pool]
    ++ (List.range 4).map s.entries

/-- The words of the joint digest (R240), with the P of the collection as it was accessioned (R48). -/
def State.digestWords (s : State) (lag phases : Nat) : List Nat :=
  let k := s.fld Reg.POS_CTRL Fld.POS_CTRL_SRC
  [s.num Reg.POS_SCALE_NUM, s.num Reg.POS_SCALE_DEN, s.num Reg.POS_MDBASE_LO, s.num Reg.POS_MDBASE_HI,
   s.num Reg.TRG_PITCH_NUM, s.num Reg.TRG_PITCH_DEN]
  ++ (let o := unsignedOf 64 (s.get48 Reg.TRG_ORIGIN_LO); [o % 2 ^ 32, o / 2 ^ 32])
  ++ [s.fld Reg.TRG_CTRL Fld.TRG_CTRL_REVMODE]
  ++ (if k < 6 then [s.fld (Reg.IN_CFG k) Fld.IN_CFG_IDXPOL, s.num (Reg.IN_IDXPER k), s.fld (Reg.IN_IDXTOL k) Fld.IN_IDXTOL_TOL] else [0, 0, 0])
  ++ [s.num Reg.STITCH_REFOFS, s.halo, lag, s.num Reg.CD_PITCH, s.fld Reg.CD_DIR Fld.CD_DIR_CD_DIR, s.lrmax, phases, s.members]

/-- The joint digest (R240). -/
def State.digest (s : State) (lag phases : Nat) : Nat := crc32 (byteBits ((s.digestWords lag phases).flatMap (leBytes 4)))

/-- PEERMATCH of a side (R242). -/
def State.peerMatch (s : State) (side : Nat) : Bool :=
  let w := s.wouldBe false
  match (s.acc.peers.find? fun p => decide (p.1 = side)).map Prod.snd with
  | none => false
  | some (d, i, c) =>
    decide (s.fld Reg.ACC_STATUS Fld.ACC_STATUS_SSTATE = 2) && decide (d = s.num Reg.ACC_STAGEDDIG)
      && (if side = 12 then decide (i + 1 = w.memberIndex) && decide ((c - signed 32 (w.num Reg.CD_ORIGIN)).natAbs ≤ 1)
          else decide (i = w.memberIndex + 1))

/-- Show PMW, PME and JOINT (R242, R256). -/
def State.showJoint (s : State) : State :=
  let ok := decide (s.fld Reg.ACC_STATUS Fld.ACC_STATUS_SSTATE = 2)
  let w := s.peerMatch 12
  let e := s.peerMatch 13
  let s := (s.setFld Reg.ACC_STATUS Fld.ACC_STATUS_PMW (b2n w)).setFld Reg.ACC_STATUS Fld.ACC_STATUS_PME (b2n e)
  let joint := ok && (w || !s.flag (Reg.CAM_CTRL 12) Fld.CAM_CTRL_EN) && (e || !s.flag (Reg.CAM_CTRL 13) Fld.CAM_CTRL_EN)
  s.setFld Reg.ACC_STATUS Fld.ACC_STATUS_JOINT (b2n joint)

/-- Since when the live digests of a side differ (R242). -/
def State.noteDiffer (s : State) (side : Nat) : State :=
  let d := match Store.get (fun _ => none) side s.acc.livePeers with
    | some x => s.live && decide (x ≠ s.num Reg.ACC_LIVEDIG)
    | none => false
  let old := Store.get (fun _ => none) side s.acc.differ
  { s with acc := { s.acc with differ := Store.set (fun _ => none) side (if d then some (old.getD s.now) else none) s.acc.differ } }

/-- One DIGEST message of two parts on a side (R241). -/
def State.sendDigest (s : State) (m digest kind : Nat) (w : State) : State :=
  let cont := if m = 13 then unsignedOf 32 (w.cdOf w.ws) else 0
  (s.sendMgmt m 9 0 (BitVec.ofNat 48 (digest + kind * 2 ^ 32 + w.memberIndex * 2 ^ 33))).sendMgmt m 9 1 (BitVec.ofNat 48 cont)

/-- The DIGEST messages of a member on every READY seam link (R241): staged, then live. -/
def State.sendDigests (s : State) : State :=
  let w := s.wouldBe false
  let staged := if s.fld Reg.ACC_STATUS Fld.ACC_STATUS_SSTATE = 2 then s.num Reg.ACC_STAGEDDIG else 0
  (([12, 13] : List Nat).filter s.linkReady).foldl (fun (s : State) m =>
    (s.sendDigest m staged 0 w).sendDigest m (s.num Reg.ACC_LIVEDIG) 1 s) s

/-- A DIGEST message arrives (R242). -/
def State.takeDigest (s : State) (side : Nat) (d0 d1 : BitVec 48) : State :=
  let dig := d0.toNat % 2 ^ 32
  if bit d0.toNat 32 then
    ({ s with acc := { s.acc with livePeers := Store.set (fun _ => none) side (some dig) s.acc.livePeers } }).noteDiffer side
  else
    let said := (dig, d0.toNat / 2 ^ 33 % 16, signed 32 (d1.toNat % 2 ^ 32))
    ({ s with acc := { s.acc with peers := Store.set (fun _ => (0, 0, 0)) side said s.acc.peers } }).showJoint

/-! ### Commit and its end -/

/-- Reject a staged-set command (R233). -/
def State.rejectCommand (s : State) : State := (s.bump Reg.ACC_SHREJ).notice 0x0104 (sourceOf Reg.ACC_CTRL) Reg.ACC_CTRL

/-- COMMIT (R233, R234); the links that are READY now are what R230 asks about. Answers whether accession started. -/
def State.commit (s : State) : State × Bool :=
  if s.fld Reg.ACC_STATUS Fld.ACC_STATUS_SSTATE = 0 && s.mode.active then
    ({ s.setFld Reg.ACC_STATUS Fld.ACC_STATUS_SSTATE 1 with acc := { s.acc with ready := (List.range 14).filter s.linkReady } }, true)
  else (s.rejectCommand, false)

/-- A detail register: the value, or a free value where the spec states none. DESIGN CHOICE, log 43. -/
def State.setDetail (s : State) (a : Nat) (d : Option Nat) : State :=
  match d with
  | some v => s.setNum a v
  | none => let (x, s) := s.freeValue; s.setReg a (x.setWidth 32)

/-- The body of a COMMIT response and of a NOTICE of KIND 2 (R385, R386). -/
def State.accessionBody (s : State) : List Byte :=
  ([Reg.ACC_REASON, Reg.ACC_DETAIL0, Reg.ACC_DETAIL1].flatMap fun a => leBytes 4 (s.num a))
    ++ (List.range 16).flatMap fun i =>
      leBytes 4 (if s.fld Reg.ACC_STATUS Fld.ACC_STATUS_SSTATE = 2 then s.num (Reg.ACC_SBOUND i) else 0)

/-- Accession ends (R234): acceptance with bounds, digest and the stacks retention in rows (R323), or refusal
with the reason. DEDUCED, log 91. -/
def State.accessionEnd (s : State) : State :=
  if s.fld Reg.ACC_STATUS Fld.ACC_STATUS_SSTATE ≠ 1 then s
  else
    let w := s.wouldBe false
    match accessionFault s w with
    | some (code, d0, d1) =>
      let s := (s.setFld Reg.ACC_STATUS Fld.ACC_STATUS_SSTATE 0).setNum Reg.ACC_REASON code
      let s := (s.setDetail Reg.ACC_DETAIL0 d0).setDetail Reg.ACC_DETAIL1 d1
      (s.notice 0x0501 (sourceOf Reg.ACC_CTRL) code).sendNotice 2 s.accessionBody
    | none =>
      let s := (s.setFld Reg.ACC_STATUS Fld.ACC_STATUS_SSTATE 2).setNum Reg.ACC_REASON 0
      let s := (s.setNum Reg.ACC_DETAIL0 0).setNum Reg.ACC_DETAIL1 0
      let s := (w.boundWords (w.lag 0)).zipIdx.foldl (fun (s : State) b => s.setNum (Reg.ACC_SBOUND b.2) b.1) s
      let s := s.setNum Reg.ACC_STAGEDDIG (w.digest (w.lag 0) w.commonPhases)
      let s := { s with acc := { s.acc with
        stagedRate := s.pinRate, stagedPhases := w.commonPhases, retention := w.fld Reg.STACKS_NROWS Fld.STACKS_NROWS_NROWS - 1 } }
      (s.showJoint.sendDigests).sendNotice 2 s.accessionBody

/-- UNSEAL (R233). DEDUCED, log 91. -/
def State.unseal (s : State) : State :=
  if s.fld Reg.ACC_STATUS Fld.ACC_STATUS_SSTATE = 2 && !s.flag Reg.ACC_STATUS Fld.ACC_STATUS_ARMED then
    (s.setFld Reg.ACC_STATUS Fld.ACC_STATUS_SSTATE 0).showJoint
  else s.rejectCommand

/-- An arm, or a start (R237), rejected for want of the chain (R238, R252): ACC_REASON is CHAIN_MISMATCH with the side. -/
def State.armMismatch (s : State) : State :=
  let side := if s.flag (Reg.CAM_CTRL 12) Fld.CAM_CTRL_EN && !s.flag Reg.ACC_STATUS Fld.ACC_STATUS_PMW then 12 else 13
  ((s.setNum Reg.ACC_REASON 0x0401).setNum Reg.ACC_DETAIL0 side).setNum Reg.ACC_DETAIL1 0

/-- SWITCH_ARM (R238). -/
def State.switchArm (s : State) : State :=
  let aten := s.flag Reg.ACC_CTRL Fld.ACC_CTRL_ATEN
  let line := s.getS64 Reg.ACC_SWITCH_LO
  if s.mode != .inspecting || decide (s.fld Reg.ACC_STATUS Fld.ACC_STATUS_SSTATE ≠ 2) || (aten && s.refCame line) then
    s.notice 0x0105 (sourceOf Reg.ACC_CTRL) Reg.ACC_CTRL
  else if decide (1 < (s.wouldBe false).members) && !s.flag Reg.ACC_STATUS Fld.ACC_STATUS_JOINT then
    s.armMismatch.notice 0x0105 (sourceOf Reg.ACC_CTRL) Reg.ACC_CTRL
  else
    { s.setFld Reg.ACC_STATUS Fld.ACC_STATUS_ARMED 1 with acc := { s.acc with arm := some (if aten then some line else none), due := none } }

/-- SWITCH_CANCEL, and entry to Halted (R238). -/
def State.switchCancel (s : State) : State :=
  { s.setFld Reg.ACC_STATUS Fld.ACC_STATUS_ARMED 0 with acc := { s.acc with arm := none, due := none } }

/-! ### Allocation (R150, R237, R317, R331, R352, R362) -/

/-- A free gap of at most `slack` bytes, a multiple of `align`: where a structure is placed is not stated. DESIGN CHOICE, log 85. -/
def State.gap (s : State) (slack align : Nat) : Nat × State :=
  let (x, s) := s.freeValue
  (x.toNat % (slack + 1) / align * align, s)

/-- The packets of a queue with their bytes. -/
def State.queueContents (s : State) (q : Nat) : List (List Byte) :=
  ((s.queue q).packets.foldl (fun (w : List (List Byte) × Nat) p =>
    (w.1 ++ [s.ringRead q (ptrIndex w.2) p.len], advance (s.qSize q) w.2 (unitsOf p.len))) ([], s.num (Reg.Q_FPTR q))).1

/-- Give queue `q` a ring and put its packets into it, from unit 0 on. -/
def State.replaceQueue (s : State) (q base size : Nat) (contents : List (List Byte)) : State :=
  let s := (s.setFld (Reg.Q_BASE q) Fld.Q_BASE_BASE base).setFld (Reg.Q_CFG q) Fld.Q_CFG_SIZE size
  let (s, w) := contents.foldl (fun (x : State × Nat) b => (x.1.ringWrite q (ptrIndex x.2) b, advance size x.2 (unitsOf b.length))) (s, 0)
  let h := s.queue q
  let sent := (contents.take h.sent).foldl (fun p b => advance size p (unitsOf b.length)) 0
  let s := (s.setNum (Reg.Q_WPTR q) w).setNum (Reg.Q_RPTR q) sent
  let s := s.setNum (Reg.Q_FPTR q) (if isPriv q then 0 else sent)
  s.qShow q

/-- Place the queues 48 to 63 in the pool for collection `w` (R352, R362), above the line stores and the write buffer; a queue whose
contents would not fit keeps its size. -/
def State.placeQueues (s w : State) : State :=
  let all := (List.range 16).map fun i => (48 + i, max (w.sizeOf (48 + i)) (s.qOcc (48 + i)), s.queueContents (48 + i))
  let slack := 33554432 - w.pool
  ((all.foldl (fun (x : State × Nat × Nat) e =>
    let (g, s) := x.1.gap x.2.2 64
    (s.replaceQueue e.1 (x.2.1 + g) e.2.1 e.2.2, x.2.1 + g + 64 * e.2.1, x.2.2 - g)) (s, (w.storeBytes + w.wbuf + 63) / 64 * 64, slack - 64))).1

/-- The pool allocation of a start or restart that is to hand the staged set over (R237, R480, R522). DEDUCED, log 84. -/
def State.allocatePool (s : State) (start : Bool) : State :=
  if decide (s.fld Reg.ACC_STATUS Fld.ACC_STATUS_SSTATE = 2) then
    let before := (List.range 16).map fun i => (s.fld (Reg.Q_BASE (48 + i)) Fld.Q_BASE_BASE, s.fld (Reg.Q_CFG (48 + i)) Fld.Q_CFG_SIZE)
    let s := s.placeQueues (s.wouldBe start)
    { s with acc := { s.acc with pool := some before } }
  else s

/-- The preparation of a cancelled start is undone (R523): the queues return to the rings they had. -/
def State.undoPool (s : State) : State :=
  match s.acc.pool with
  | none => s
  | some before =>
    let all := (List.range 16).map fun i => (48 + i, (before[i]?).getD (0, 0), s.queueContents (48 + i))
    let s := all.foldl (fun (x : State) e => x.replaceQueue e.1 e.2.1.1 e.2.1.2 e.2.2) s
    { s with acc := { s.acc with pool := none } }

/-- Place structures of given sizes in free regions of GDDR6, in order, each in the first region that holds it. DESIGN CHOICE, log 85. -/
def State.placeIn (s : State) (regions : List (Nat × Nat)) (slack : Nat) : List (Nat × Nat) → State
  | [] => s
  | (reg, size) :: rest =>
    match regions.find? fun r => decide (size ≤ r.2 - r.1) with
    | none => s.placeIn regions slack rest
    | some r =>
      let (g, s) := s.gap (min slack (r.2 - r.1 - size)) 64
      let s := s.set64 reg (r.1 + g)
      s.placeIn (regions.map fun x => if x = r then (r.1 + g + size, r.2) else x) (slack - g) rest

/-- Allocate GDDR6 (R150, R317, R331). The ring stays where it is while the stacks layout does (`keep`), since its rows are held. DEDUCED, log 84. -/
def State.placeGddr (s : State) (keep : Bool) : State :=
  let en := s.flag Reg.STACKS_CTRL Fld.STACKS_CTRL_EN
  let stride := strideOf s.ws s.stacksBits
  let ring := if en then s.fld Reg.STACKS_NROWS Fld.STACKS_NROWS_NROWS * stride else 0
  let slack := 0x3C0000000 - s.capacity
  let (base, s) := if keep then (s.get64 Reg.STACKS_BASE_LO, s) else s.gap slack 4096
  let s := if en then (s.set64 Reg.STACKS_BASE_LO base).setNum Reg.STACKS_STRIDE stride else (s.set64 Reg.STACKS_BASE_LO 0).setNum Reg.STACKS_STRIDE 0
  let items := (if en then [(Reg.STACKS_CSBASE_LO, 0x100000)] else [])
    ++ s.deepCams.map fun n => (Reg.STITCH_DDBASE_LO n, (s.delayOf n + 1) * 2 * s.fld (Reg.CAM_WIDTH n) Fld.CAM_WIDTH_W)
  if en then s.placeIn [(0, base), (base + ring, 0x3C0000000)] (slack - base) items else s.placeIn [(0, 0x3C0000000)] slack items

/-! ### Hand-over -/

/-- The stacks layout (R317). -/
def State.stacksLayout (s : State) : List Nat := [s.num Reg.STACKS_CTRL, s.num Reg.STACKS_NROWS, s.ws]

/-- Camera pipelines whose change empties the ring (R191). -/
def emptiesRing (old new : State) : Bool :=
  decide (old.halo ≠ new.halo) || (List.range 12).any fun e => (old.engineRuns e || new.engineRuns e) &&
    (decide (old.num (Reg.TERR_START e) ≠ new.num (Reg.TERR_START e)) || decide (old.num (Reg.TERR_LEN e) ≠ new.num (Reg.TERR_LEN e))
      || decide (old.ringRows e ≠ new.ringRows e))

/-- Settings that a staging list changed act as a write of them would: links, serial ports (R99), limits, outputs (R113), and arming where
the list writes TRG_CTRL.EN = 1 (R107; a camera that becomes enabled is not armed by that alone, DEDUCED, log 35). -/
def State.settingsChanged (s : State) (old : State) : State :=
  let s := (List.range 14).foldl (fun (s : State) m => s.linkSettings m) s
  let s := (s.enableSerial old 4).enableSerial old 5
  let s := ((List.range 6).foldl (fun (s : State) k => s.clampToLimits k) s).holdPins
  if old.stagePairs.any (fun p => decide (p.1 = Reg.TRG_CTRL)) && s.flag Reg.TRG_CTRL Fld.TRG_CTRL_EN then s.armCameras else s

/-- What becoming live does beside the registers: delays of the cameras and of the profile (R149, R303), digests, the bounds. -/
def State.becomeLive (s : State) (lag : Nat) : State :=
  let s := (s.setFld Reg.ACC_STATUS Fld.ACC_STATUS_LIVE 1).setFld Reg.ACC_STATUS Fld.ACC_STATUS_ARMED 0
  (s.setDelays.showDelays lag).setNum Reg.ACC_LIVEDIG (s.digest lag s.acc.livePhases)

/-- The staged set becomes live (R236): registers, banks and bounds; the set is open again, its shadows a copy of the live values. -/
def State.makeLive (s : State) (start : Bool) : State :=
  let w := s.wouldBe start
  let keys := w.stagedKeys
  let w := keys.foldl (fun (x : State) a => x.setStaged a (x.reg a)) w
  let w := (List.range 16).foldl (fun (x : State) i => x.setNum (Reg.ACC_BOUND i) (x.num (Reg.ACC_SBOUND i))) w
  let w := w.setNum (Reg.ACC_BOUND 0) (w.lag 0)
  let w := { w with acc := { w.acc with arm := none, due := none, liveRate := w.acc.stagedRate, livePhases := w.acc.stagedPhases } }
  let w := ((w.setFld Reg.ACC_STATUS Fld.ACC_STATUS_SSTATE 0).setNum Reg.ACC_STAGECNT 0).becomeLive (w.lag 0)
  let w := (w.settingsChanged s).showJoint
  (w.noteDiffer 12).noteDiffer 13

/-- The scale and the base of MD, the one set of values that all shelfmarks of a line use (R39, R40). -/
def scaleRegs : List Nat := [Reg.POS_SCALE_NUM, Reg.POS_SCALE_DEN, Reg.POS_MDBASE_LO, Reg.POS_MDBASE_HI]

/-- A line that sees the new collection (R17, R236). The shelfmark of the line triggered in the cycle of the hand-over (`same`) keeps the
scale that was in force before it (R40). DEDUCED, log 140. -/
def State.renew (s : State) (same : Bool) (x : Slot) : Slot :=
  { x with
    regs := if same then scaleRegs.foldl (fun r a => Store.set resetWord a (Store.get resetWord a x.regs) r) s.regs else s.regs
    phase := phaseOf x.line s.webPhases, phases := s.webPhases }

/-- The mark of a line whose slot is still to end, under the registers in force for it (R40, R54). -/
def State.remark (s : State) (sl : Slot) : State :=
  let w := s.seenBy sl
  s.noteMark sl.line ⟨w.mdOf sl.count, sl.count, sl.stamp, w.cdOf 0⟩

/-- Hand-over of an armed switch at its reference trigger (R236, R238): lines from there on see the new collection (R17, R40); replays end,
and the reading pipelines take the new banks (R197); camera engines and the profile change at the slot of the line (R197, R305). Whether
another member of the chain changes a geometry that empties the rings of the whole chain (R191) is a free value: DESIGN CHOICE, log 138. -/
def State.handOver (s : State) : State :=
  match s.acc.due with
  | none => s
  | some j =>
    let old := s
    let s := s.replaysCut 5
    let s := s.makeLive false
    let (x, s) := if 1 < s.members then s.freeValue else (0, s)
    let empties := emptiesRing old s || s.joinActive || s.joining || bit x.toNat 0
    let raised := s.lag 0 - old.lag 0
    let s := [12, 13, 14, 15].foldl State.engineLive s
    let before := s.slots.takeWhile fun (x : Slot) => decide (x.line ≠ j)
    let after := s.slots.dropWhile fun (x : Slot) => decide (x.line ≠ j)
    let after := match after with
      | [] => []
      | x :: r => s.renew true x :: r.map (s.renew false)
    let s := { s with
      slots := before ++ after
      acc := { s.acc with engineAt := some (j, empties, raised) } }
    ((after.foldl State.remark s).showPending).sendDigests

/-- A peer's live digest has differed for more than 2 ms (R242): the breach SEAM_DIGEST. -/
def State.checkDigest (s : State) (side : Nat) : State :=
  match Store.get (fun _ => none) side s.acc.differ with
  | some t => if t + 2000000000 < s.now then s.breach 8 side none else s
  | none => s

end Sys2Proof.Machine
end

