-- ==== Sys2Proof/Machine/Router.lean ====
section
/-! DEFINITION. The event router (17_event_router.md): producers, channels, spacing and echoes, task inputs, the EVOUT pins; and
the passing of time, in which what waits in the router arrives. -/

namespace Sys2Proof.Machine

/-- A router channel before any fire. -/
def evrChan0 (_ : Nat) : EvrChan := ⟨none, [], false⟩

/-- Router channel `c` beside its registers. -/
def State.evrChan (s : State) (c : Nat) : EvrChan := Store.get evrChan0 c s.evr

/-- Store router channel `c`. -/
def State.setEvrChan (s : State) (c : Nat) (h : EvrChan) : State := { s with evr := Store.set evrChan0 c h s.evr }

/-- The producer codes of a channel: P0 to P7 in OR mode, P0 alone in GATE mode (R441). -/
def State.producers (s : State) (c : Nat) : List Nat :=
  let w0 := s.num (Reg.CH_PROD0 c)
  let w1 := s.num (Reg.CH_PROD1 c)
  let all := (List.range 4).map (fun i => w0 / 256 ^ i % 256) ++ (List.range 4).map fun i => w1 / 256 ^ i % 256
  if s.flag (Reg.CH_CFG c) Fld.CH_CFG_MODE then all.take 1 else all

/-- Is the gate of a channel open (R441)? -/
def State.gateOpen (s : State) (c : Nat) : Bool :=
  let g := s.fld (Reg.CH_CFG c) Fld.CH_CFG_GSEL
  if g = 0 then s.flag (Reg.CH_CFG c) Fld.CH_CFG_SWGATE
  else if g = 1 then s.mode == .standby
  else if g = 2 then s.mode == .poised
  else if g = 3 then s.mode == .halted || s.mode == .frozen
  else if g = 4 then s.pins.role
  else if g = 5 then !s.pins.role
  else if 8 ≤ g ∧ g < 16 then bit s.pins.evin (g - 8)
  else false

/-- The echo register and bit of a channel (R450). -/
def echoReg (c : Nat) : Nat := Reg.EVR_ECHO_LO + 4 * (c / 32)

/-- Is a channel enabled (R440)? -/
def State.chanEnabled (s : State) (c : Nat) : Bool :=
  s.flag (Reg.CH_CFG c) Fld.CH_CFG_EN && !bit (s.num (echoReg c)) (c % 32)

/-- A channel fires (R443 to R447): its fires of the last 1 µs are counted and more than 64 latch it; the tasks that select it
and the channels that name it are reached 6 ns later. -/
def State.chanFire (s : State) (c : Nat) : State :=
  let recent := s.now :: (s.evrChan c).recent.filter fun t => decide (s.now < t + 1000000)
  let s := (s.setEvrChan c ⟨some s.now, recent, false⟩).bump (Reg.CH_FIRES c)
  let s := if 64 < recent.length then (s.hwSet (echoReg c) (c % 32)).notice 0x0603 3 c else s
  let tasks := (List.range 61).filter fun t =>
    s.flag (Reg.TASK_SEL t) Fld.TASK_SEL_EN && decide (s.fld (Reg.TASK_SEL t) Fld.TASK_SEL_CHAN = c)
  (tasks.foldl (fun (s : State) t => s.route 6000 (.task t)) s).route 6000 (.request (64 + c))

/-- The re-fire spacing of a channel in ps (R444). -/
def State.spacing (s : State) (c : Nat) : Nat := s.fld (Reg.CH_CFG c) Fld.CH_CFG_SPACE * 20000

/-- A request reaches a channel (R440 to R444): refused by a closed gate, merged with one of the last 2 ns, deferred within the
spacing, or taken. DEDUCED, log 93. -/
def State.chanRequest (s : State) (c : Nat) : State :=
  let gate := s.flag (Reg.CH_CFG c) Fld.CH_CFG_MODE
  if !s.chanEnabled c then s
  else if gate && (s.mode == .inspecting || !s.gateOpen c) then s.bump (Reg.CH_GATED c)
  else match (s.evrChan c).lastFire with
    | none => s.chanFire c
    | some f =>
      if s.now < f + 2000 then s.bump (Reg.CH_MERGE c)
      else if s.now < f + s.spacing c then
        (s.setEvrChan c { s.evrChan c with deferred := true }).bump (Reg.CH_DEFER c)
      else s.chanFire c

/-- A producer's event reaches the channels that name it (R439); code 1 is not listed here, since EVR_FIRE reaches one channel. -/
def State.producerEvent (s : State) (p : Nat) : State :=
  if p = 0 then s else
  (List.range 64).foldl (fun (s : State) c => if (s.producers c).contains p then s.chanRequest c else s) s

/-- The SW producer of channel `c` (R439, R450). DEDUCED, log 93. -/
def State.swFire (s : State) (c : Nat) : State := if (s.producers c).contains 1 then s.chanRequest c else s

/-- The spacing of a channel ends: one fire for all deferred requests (R444). -/
def State.spacingEnd (s : State) (c : Nat) : State :=
  let h := s.evrChan c
  let passed := match h.lastFire with
    | some f => decide (f + s.spacing c ≤ s.now)
    | none => true
  if h.deferred && passed then
    if s.chanEnabled c then s.chanFire c else s.setEvrChan c { h with deferred := false }
  else s

/-- A bit of EVR_ECHO is cleared: the channel may fire again and its count is emptied (R445). -/
def State.echoCleared (s : State) (c : Nat) : State := s.setEvrChan c { s.evrChan c with recent := [] }

/-! ### EVOUT pins -/

/-- The width of EVOUT `k` in ps (R449). -/
def State.evoutWidth (s : State) (k : Nat) : Nat := 1000 * max 8 (s.fld (Reg.EVOUT_CFG k) Fld.EVOUT_CFG_WIDTH)

/-- Drive EVOUT `k` active or inactive. -/
def State.driveEvout (s : State) (k : Nat) (on : Bool) : State :=
  let s := if s.flag (Reg.EVOUT_CFG k) Fld.EVOUT_CFG_STATE == on then s else s.emit (.evout k on)
  s.setFld (Reg.EVOUT_CFG k) Fld.EVOUT_CFG_STATE (b2n on)

/-- Set or clear the end of EVOUT `k`'s pulse. -/
def State.setEvoutEnd (s : State) (k : Nat) (e : Option Nat) : State :=
  { s with outPins := { s.outPins with evoutEnd := Store.set (fun _ => none) k e s.outPins.evoutEnd } }

/-- EVOUT `k` is activated (R449): a pulse, or a restart of its width; in TOGGLE mode the pin inverts. -/
def State.activateEvout (s : State) (k : Nat) : State :=
  if s.flag (Reg.EVOUT_CFG k) Fld.EVOUT_CFG_MODE then
    (s.driveEvout k (!s.flag (Reg.EVOUT_CFG k) Fld.EVOUT_CFG_STATE)).setEvoutEnd k none
  else (s.driveEvout k true).setEvoutEnd k (some (s.now + s.evoutWidth k))

/-- The width of EVOUT `k` expires (R449). -/
def State.evoutPulseEnd (s : State) (k : Nat) : State :=
  match Store.get (fun _ => none) k s.outPins.evoutEnd with
  | some e => if e ≤ s.now then (s.driveEvout k false).setEvoutEnd k none else s
  | none => s

/-! ### Task inputs -/

/-- Arm compare output `k` (R113); with no position source none is armed (R568). -/
def State.armCompare (s : State) (k : Nat) : State :=
  if s.source.isSome then s.setFld (Reg.TRIG_CMPCTL k) Fld.TRIG_CMPCTL_ARMED 1 else s

/-- Does the task's block take an activation (R447): is it neither off nor Frozen? EVOUT pins stand in the AO domain. -/
def State.taskTakes (s : State) (t : Nat) : Bool := decide (t < 8) || s.mode.active

/-- What an activation of task `t` does (R447). -/
def State.runTask (s : State) (t : Nat) : State :=
  if t < 8 then s.activateEvout t
  else if t < 24 then s.armCompare (t - 8)
  else if t < 52 then s.dmaLoad (t - 24)
  else if t = 52 then s.profSyncWrite false
  else s.emit (.interrupt (t - 53))

/-- A fire reaches task input `t` (R447): activated, or dropped and counted. -/
def State.activate (s : State) (t : Nat) : State :=
  if s.taskTakes t then s.runTask t else s.bump Reg.EVR_TDROP

/-- The cycle of the clock of a task's block in which a time falls (R447, R18): EVOUT pins have no clock, TRG, DMA and the control
cluster take the 1.0 GHz time base, PROF its 1.5 GHz (DEDUCED, log 31). -/
def taskCycle (t at_ : Nat) : Nat := if t < 8 then at_ else if t = 52 then at_ * 3 / 2000 else at_ / 1000

/-! ### SET and STEP -/

/-- SET and STEP are taken outside Inspecting only (R410). -/
def State.stepRejected (s : State) (why : Nat) : State :=
  (s.bump (Reg.TIME_CNT 6)).notice 0x0206 (sourceOf Reg.TIME_CTRL) why

/-- The timekeeper takes a new time (R410, R419). -/
def State.loadTime (s : State) (x : Nat) : State :=
  ({ s with t40 := x, time := { s.time with second := secOf x } }).event Reg.TIME_EVT Reg.TIME_EVTEN 3 17

/-- A SET takes effect, or is rejected (R410). -/
def State.setTimeTo (s : State) (sec ns : Nat) : State :=
  if s.mode == .inspecting then s.stepRejected 0
  else if 999999999 < ns then s.stepRejected 1
  else s.loadTime (sec * secondUnits + ns * 2 ^ 40)

/-- A STEP by `ns` takes effect, or is rejected (R410). -/
def State.stepBy (s : State) (ns : Int) : State :=
  let new := (s.t40 : Int) + ns * (2 ^ 40 : Nat)
  if s.mode == .inspecting then s.stepRejected 0
  else if new < 0 ∨ ((2 ^ 48 * secondUnits : Nat) : Int) ≤ new then s.stepRejected 1
  else s.loadTime new.toNat

/-! ### Arrival -/

/-- The order of what happens at one moment (R117): counted steps, then Z edges, then what the router brings. -/
def itemRank : EvrItem → Nat
  | .edge .. => 0
  | .frame .. => 0
  | .index _ => 1
  | _ => 2

/-- Does an item act before another: at an earlier time, or first at the same one? -/
def EvrWait.before (x w : EvrWait) : Bool := decide (x.due < w.due ∨ (x.due = w.due ∧ itemRank x.item < itemRank w.item))

/-- The item that acts next, the first of several of one kind at one time. -/
def earliest : List EvrWait → Option EvrWait
  | [] => none
  | w :: r =>
    match earliest r with
    | some x => if x.before w then some x else some w
    | none => some w

/-- Fires that reach the task input in the same cycle as the one that arrives (R447). DEDUCED, log 31. -/
def coincident (t due : Nat) (w : EvrWait) : Bool := decide (w.item = .task t) && decide (taskCycle t w.due = taskCycle t due)

/-- An item arrives: a request at the channels, fires of one cycle as one activation of a task, a SET or STEP (R407), or what the decoder
decides (R95, R117). -/
def State.arrive (s : State) (w : EvrWait) : State :=
  let s := { s with evrQ := s.evrQ.erase w }
  match w.item with
  | .request p => s.producerEvent p
  | .task t =>
    let more := s.evrQ.filter (coincident t w.due)
    let s := { s with evrQ := s.evrQ.filter fun x => !coincident t w.due x }
    (s.bumpBy (Reg.TASK_COINC t) more.length).activate t
  | .setTime sec ns => s.setTimeTo sec ns
  | .stepTime ns => s.stepBy ns
  | i => s.decideItem i

/-! ### Time -/

/-- The timekeeper and the time move on to `t` (R406). -/
def State.passTime (s : State) (t : Nat) : State := { s with t40 := s.timeAt t, now := t }

/-- Let what waits in the router until time `t` arrive in order, at most `n` items (log 32). -/
def State.arriveUntil : Nat → Nat → State → State
  | 0, _, s => s
  | n + 1, t, s =>
    match earliest s.evrQ with
    | some w => if w.due ≤ t then State.arriveUntil n t ((s.passTime (max s.now w.due)).arrive w) else s
    | none => s

/-- The greatest number of router items that arrive in one command. DESIGN CHOICE, log 32. -/
def routerFuel : Nat := 4096

/-- NOTICE packets that wait are committed to queue 58 (R386). DESIGN CHOICE, log 29. -/
def State.commitNotices (s : State) : State :=
  s.notices.foldl (fun (s : State) b => s.qFirmware 58 b) { s with notices := [] }

/-- The preparation of R522, or the checks of R480, have ended: the module waits for its first reference trigger (R523). -/
def State.prepared (s : State) : State :=
  match s.pwr.prep with
  | none => s
  | some e =>
    if e ≤ s.now then { s.setFld Reg.PWR_STATUS Fld.PWR_STATUS_WAITTRIG 1 with pwr := { s.pwr with prep := none } } else s

/-- Time passes until `t`, never backwards: router items arrive, buckets fill (R278, R287), notices are committed, a preparation
ends. DESIGN CHOICE, log 9. -/
def State.advanceTo (s : State) (t : Nat) : State :=
  let t := max s.now t
  ((((s.arriveUntil routerFuel t).passTime t).refill).commitNotices).prepared

end Sys2Proof.Machine
end

