-- ==== Sys2Proof/Machine/Time.lean ====
section
/-! DEFINITION. Time and synchronization (15_time.md): the timekeeper's sources and states, SET and STEP, PTP on the host
sub-port, seam and twin time. Times here are in units of 2^-16 ns. -/

namespace Sys2Proof.Machine

/-! ### The timekeeper -/

/-- The present time in 2^-16 ns (R407). DEDUCED, log 97. -/
def State.stamp (s : State) : Int := (s.t40 / 2 ^ 24 : Nat)

/-- Saturate into a signed 32-bit word. -/
def sat32 (x : Int) : Int := max (-(2 ^ 31)) (min (2 ^ 31 - 1) x)

/-- The timekeeper's STATE changes (R409): its events, and a Notice. -/
def State.setTimeState (s : State) (n : Nat) : State :=
  let old := s.fld Reg.TIME_STATUS Fld.TIME_STATUS_STATE
  if old = n then s
  else
    let s := s.setFld Reg.TIME_STATUS Fld.TIME_STATUS_STATE n
    let ev (s : State) (b : Nat) : State := s.event Reg.TIME_EVT Reg.TIME_EVTEN b 17
    let s := if n = 2 then ev s 0 else s
    let s := if old = 2 then ev s 1 else s
    let s := if n = 3 then ev s 2 else s
    s.notice 0x0205 (sourceOf Reg.TIME_CTRL) n

/-- The time source (R409). -/
def State.timeSrc (s : State) : Nat := s.fld Reg.TIME_CTRL Fld.TIME_CTRL_SRC

/-- A new time source (R409): FREE for LOCAL; another source starts from the state the timekeeper is in, and LOCKED no longer holds. -/
def State.sourceChanged (s : State) : State :=
  let s := { s with time := { s.time with lock := 0, missed := 0, exch := none } }
  if s.timeSrc = 0 then s.setTimeState 0
  else if s.fld Reg.TIME_STATUS Fld.TIME_STATUS_STATE = 2 then s.setTimeState 1
  else s

/-- Load a time source under the pair's rules (R492). -/
def State.loadSource (s : State) (src : Nat) : State :=
  if s.timeSrc = src then s else (s.setFld Reg.TIME_CTRL Fld.TIME_CTRL_SRC src).sourceChanged

/-- The source stops delivering (R409): HOLDOVER with the RATE in force. -/
def State.holdover (s : State) : State :=
  if s.timeSrc = 0 then s
  else ({ s with time := { s.time with lock := 0 } }).setTimeState 3

/-- A SET or STEP takes effect when the cycle in which it completes is over, after the time-stamps of that cycle (R407), and is
judged then. DEDUCED, log 67. -/
def State.atCycleEnd (s : State) (i : EvrItem) : State := { s with evrQ := s.evrQ ++ [⟨(s.now / 1000 + 1) * 1000, i⟩] }

/-- TIME_CMD.SET (R410). -/
def State.timeSet (s : State) : State := s.atCycleEnd (.setTime (s.get64 Reg.TIME_SET_SEC_LO % 2 ^ 48) (s.num Reg.TIME_SET_NS))

/-- TIME_CMD.STEP (R410). -/
def State.timeStep (s : State) : State := s.atCycleEnd (.stepTime (s.getS64 Reg.TIME_STEP_LO))

/-- The time passes a second boundary (R419). -/
def State.secondBoundary (s : State) : State :=
  if s.time.second < secOf s.t40 then
    ({ s with time := { s.time with second := secOf s.t40 } }).event Reg.TIME_EVT Reg.TIME_EVTEN 4 17
  else s

/-- Firmware's servo after an update (R410): RATE within ±TIME_SLEWMAX, a free value, since the servo's law is not stated. DEDUCED, log 96. -/
def State.servo (s : State) : State :=
  let lim := min (2 ^ 31 - 1) (s.num Reg.TIME_SLEWMAX)
  let (x, s) := s.freeValue
  s.setNum Reg.TIME_RATE (unsignedOf 32 ((x.toNat % (2 * lim + 1) : Nat) - (lim : Int)))

/-- A source delivers an offset (R409): the registers that show it, the lock condition over 16 updates, and the servo. -/
def State.timeUpdate (s : State) (offset mean : Int) : State :=
  let s := s.setNum Reg.TIME_OFFSET (unsignedOf 32 (sat32 offset))
  let s := s.setNum Reg.TIME_PATHDLY (unsignedOf 32 (sat32 mean))
  let within := decide (offset.natAbs ≤ s.fld Reg.TIME_LOCK Fld.TIME_LOCK_LOCKTHR * 65536)
  let old := if s.fld Reg.TIME_STATUS Fld.TIME_STATUS_STATE = 3 then 0 else s.time.lock
  let lock := if within then min 16 (old + 1) else 0
  let s := { s with time := { s.time with lock := lock, missed := 0, updateAt := some s.now } }
  (s.setTimeState (if lock = 16 then 2 else 1)).servo

/-- The timekeeper at the entry to Standby and on leaving it (R408, R409). -/
def State.timeStandby (s : State) (leaving : Bool) : State :=
  if s.timeSrc ≠ 0 then s.holdover else if leaving then s.setTimeState 0 else s

/-! ### The PTP port -/

/-- The PTP port's sub-port (R412), as 4 × port + sub. -/
def State.ptpPort (s : State) : Nat := 4 * s.fld Reg.PTP_CTRL Fld.PTP_CTRL_PORT + s.fld Reg.PTP_CTRL Fld.PTP_CTRL_SUB

/-- The transport (R419): 3 acts as 1. -/
def State.ptpTransport (s : State) : Nat :=
  if s.fld Reg.PTP_CTRL Fld.PTP_CTRL_TRANSPORT = 3 then 1 else s.fld Reg.PTP_CTRL Fld.PTP_CTRL_TRANSPORT

/-- The state of the PTP port: 3 DISABLED, 4 LISTENING, 6 MASTER, 7 PASSIVE, 8 UNCALIBRATED, 9 SLAVE. -/
def State.portState (s : State) : Nat := s.fld Reg.TIME_STATUS Fld.TIME_STATUS_PORTST

/-- The MAC address of a sub-port, its first byte least significant. -/
def State.macOf (s : State) (ps : Nat) : Nat := s.get64 (Reg.SP_MAC_LO (ps / 4) (ps % 4)) % 2 ^ 48

/-- clockIdentity (R414): the EUI-64 of a sub-port's MAC address, first byte least significant; 0xFFFE stands in its middle. -/
def State.clockId (s : State) : Nat :=
  let m := s.macOf s.ptpPort
  m % 2 ^ 24 + 0xFEFF * 2 ^ 24 + m / 2 ^ 24 * 2 ^ 40

/-- What the module announces of its own clock (R414). -/
def State.ownSet (s : State) : PtpSet :=
  ⟨s.fld Reg.PTP_PRIO Fld.PTP_PRIO_PRI1, s.fld Reg.PTP_PRIO Fld.PTP_PRIO_CLASS, s.fld Reg.PTP_PRIO Fld.PTP_PRIO_ACCY,
    s.fld Reg.PTP_VAR Fld.PTP_VAR_VAR, s.fld Reg.PTP_PRIO Fld.PTP_PRIO_PRI2, s.clockId, 0, 0, false⟩

/-- The first byte of an identity is the most significant when identities are compared. -/
def idOrder (x : Nat) : Nat := ofLeBytes (leBytes 8 x).reverse

/-- The better of two clocks by the default BMCA's data set comparison (R412). PRESUMED, log 68. -/
def ptpBetter (a b : PtpSet) : Bool :=
  let ka := [a.prio1, a.cls, a.accuracy, a.variance, a.prio2, idOrder a.gm, a.steps]
  let kb := [b.prio1, b.cls, b.accuracy, b.variance, b.prio2, idOrder b.gm, b.steps]
  decide (ka < kb)

/-- An interval of PTP_INTV in ps: 2^n s with n held in its range (R412, R419). -/
def intervalPs (lo hi : Int) (v : Nat) : Nat :=
  let n := max lo (min hi (signed 8 v))
  if 0 ≤ n then 1000000000000 * 2 ^ n.toNat else 1000000000000 / 2 ^ (-n).toNat

/-- The interval between Syncs, Announces and Delay_Reqs in ps. -/
def State.syncPs (s : State) : Nat := intervalPs (-7) 1 (s.fld Reg.PTP_INTV Fld.PTP_INTV_LSYNC)
def State.announcePs (s : State) : Nat := intervalPs (-3) 3 (s.fld Reg.PTP_INTV Fld.PTP_INTV_LANN)
def State.delayPs (s : State) : Nat := intervalPs (-7) 5 (s.fld Reg.PTP_INTV Fld.PTP_INTV_LDREQ)

/-- The time after which a master that no longer announces is given up (R412). -/
def State.announceTimeout (s : State) : Nat := max 2 (s.fld Reg.PTP_INTV Fld.PTP_INTV_ARTO) * s.announcePs

/-- Forget what has been measured of a master. -/
def State.forgetMaster (s : State) : State :=
  { s with time := { s.time with sync := none, syncHalf := none, pdelayHalf := none, dreq := none, mean := none } }

/-- Show the clock identities (R419). -/
def State.showClock (s : State) : State :=
  let gm := match s.time.parent with
    | some p => ((s.time.masters.find? fun m => decide ((m.clock, m.port) = p)).map fun m => m.set_.gm).getD s.clockId
    | none => s.clockId
  (s.set64 Reg.PTP_CLKID_LO s.clockId).set64 Reg.PTP_GMID_LO gm

/-- The port leaves SLAVE (R409): its source stops delivering. -/
def State.enterPort (s : State) (n : Nat) : State :=
  let old := s.portState
  let s := s.setPortState n
  if old = 9 ∧ n ≠ 9 ∧ s.timeSrc = 1 then s.holdover else s

/-- The PTP port starts in a state with the host ports on, or stops (R414). -/
def State.ptpStart (s : State) : State :=
  let s := ({ s with time := { s.time with masters := [], parent := none } }).forgetMaster
  if s.mode.active then (s.enterPort (if s.fld Reg.PTP_CTRL Fld.PTP_CTRL_ROLE = 0 then 3 else 4)).showClock else s.enterPort 3

/-- The masters that count: heard twice within four announce intervals. -/
def State.qualified (s : State) : List PtpMaster :=
  s.time.masters.filter fun m => decide (2 ≤ m.heard) && decide (s.now ≤ m.at_ + 4 * s.announcePs)

/-- The best of some masters. PRESUMED, log 68. -/
def bestMaster : List PtpMaster → Option PtpMaster
  | [] => none
  | m :: r =>
    match bestMaster r with
    | some b => if ptpBetter b.set_ m.set_ then some b else some m
    | none => some m

/-- The state decision of the default BMCA for the one port, under ROLE and SRC (R412, R414). -/
def State.decidePort (s : State) : State :=
  let role := s.fld Reg.PTP_CTRL Fld.PTP_CTRL_ROLE
  if s.portState = 3 ∨ s.portState = 0 then s
  else match bestMaster s.qualified with
    | none => s
    | some m =>
      let own := s.ownSet
      if ptpBetter own m.set_ then
        let s := { s with time := { s.time with parent := none } }
        (s.enterPort (if role = 2 then 4 else 6)).showClock
      else if own.cls ≤ 127 ∨ role = 1 ∨ s.timeSrc ≠ 1 then
        ({ s with time := { s.time with parent := none } }).enterPort 7 |>.showClock
      else if s.time.parent = some (m.clock, m.port) ∧ (s.portState = 8 ∨ s.portState = 9) then s.showClock
      else
        let s := ({ s with time := { s.time with parent := some (m.clock, m.port) } }).forgetMaster
        (s.enterPort 8).showClock

/-- Does a received PTP message concern the PTP port (R412)? -/
def State.ptpTakes (s : State) (ps : Nat) (m : PtpMsg) : Bool :=
  decide (ps = s.ptpPort) && s.mode.active && decide (4 ≤ s.portState)
    && decide (m.domain = s.fld Reg.PTP_CTRL Fld.PTP_CTRL_DOMAIN) && decide (m.transport = s.ptpTransport)

/-- The time a message carries. -/
def ptpTime (m : PtpMsg) : Int := ((m.sec * 1000000000 + m.ns) * 65536 : Nat)

/-- The stamp of a frame that arrives or leaves now at the PTP sub-port (R411). -/
def State.ingress (s : State) (ps : Nat) : Int := s.stamp + signed 32 (s.num (Reg.TP_INLAT (ps % 4) (ps / 4)))
def State.egress (s : State) (ps : Nat) : Int := s.stamp - signed 32 (s.num (Reg.TP_EGLAT (ps % 4) (ps / 4)))

/-- ASYM of the PTP sub-port (R411). -/
def State.asym (s : State) : Int := signed 32 (s.num (Reg.TP_ASYM (s.ptpPort % 4) (s.ptpPort / 4)))

/-- Put a PTP message on its way to its sub-port's next frame boundary (R397). -/
def State.sendPtp (s : State) (m : PtpTx) : State :=
  let ps := s.ptpPort
  { s with host := { s.host with ptp := Store.set (fun _ => []) ps (Store.get (fun _ => []) ps s.host.ptp ++ [m]) s.host.ptp } }

/-- Is the message of the parent? DEDUCED, log 97. -/
def State.fromParent (s : State) (m : PtpMsg) : Bool := decide (s.time.parent = some (m.src, m.srcPort))

/-- An offset from the last Sync and the mean path delay (R411); the port is SLAVE from the first one on. -/
def State.measure (s : State) : State :=
  match s.time.sync, s.time.mean with
  | some (_, t1, t2, c), some mean =>
    (s.enterPort 9).timeUpdate (t2 - t1 - c - mean - s.asym) mean
  | _, _ => s

/-- A whole Sync, one-step or with its Follow_Up (R411). -/
def State.syncWhole (s : State) (seq : Nat) (t1 t2 c : Int) : State :=
  ({ s with time := { s.time with sync := some (seq, t1, t2, c), syncHalf := none, updateAt := some s.now } }).measure

/-- A Sync arrives (R411, R412). -/
def State.takeSync (s : State) (ps : Nat) (m : PtpMsg) : State :=
  if !s.ptpTakes ps m then s
  else
    let s := s.bump (Reg.TIME_CNT 0)
    if !s.fromParent m || (s.portState != 8 && s.portState != 9) then s
    else if m.twoStep then { s with time := { s.time with syncHalf := some (m.seq, s.ingress ps, m.corr) } }
    else s.syncWhole m.seq (ptpTime m) (s.ingress ps) m.corr

/-- A Follow_Up arrives (R412). -/
def State.takeFollowUp (s : State) (ps : Nat) (m : PtpMsg) : State :=
  match s.time.syncHalf with
  | some (seq, t2, c) =>
    if s.ptpTakes ps m && s.fromParent m && decide (seq = m.seq) then s.syncWhole seq (ptpTime m) t2 (c + m.corr) else s
  | none => s

/-- A Delay_Req arrives: the master answers with the time it came (R412). -/
def State.takeDelayReq (s : State) (ps : Nat) (m : PtpMsg) : State :=
  if s.ptpTakes ps m && decide (s.portState = 6) then
    s.sendPtp ⟨9, m.seq, s.ingress ps, m.corr, m.src, m.srcPort⟩
  else s

/-- Half of the sum of two ways, rounded down (R411). -/
def half (x : Int) : Int := Int.fdiv x 2

/-- A Delay_Resp completes a measurement (R411). -/
def State.takeDelayResp (s : State) (ps : Nat) (m : PtpMsg) : State :=
  if !s.ptpTakes ps m then s
  else
    let s := s.bump (Reg.TIME_CNT 1)
    match s.time.dreq, s.time.sync with
    | some (seq, t3), some (_, t1, t2, c) =>
      if s.fromParent m && decide (seq = m.seq) && decide (m.reqClock = s.clockId) && !s.flag Reg.PTP_CTRL Fld.PTP_CTRL_P2P then
        let mean := half ((t2 - t1 - c) + ((ptpTime m) - t3 - m.corr))
        ({ s with time := { s.time with mean := some mean, dreq := none } }).measure
      else s
    | _, _ => s

/-- A Pdelay_Req arrives and is answered (R412, R415); in one step the turnaround is added as the answer leaves. -/
def State.takePdelayReq (s : State) (ps : Nat) (m : PtpMsg) : State :=
  if s.ptpTakes ps m then s.sendPtp ⟨3, m.seq, s.ingress ps, m.corr, m.src, m.srcPort⟩ else s

/-- A mean path delay by peer delay; the offset follows with the next Sync. -/
def State.peerDelay (s : State) (mean : Int) : State :=
  { s with time := { s.time with mean := some mean, dreq := none, pdelayHalf := none } }

/-- A Pdelay_Resp arrives (R411, R412). -/
def State.takePdelayResp (s : State) (ps : Nat) (m : PtpMsg) : State :=
  if !s.ptpTakes ps m then s
  else
    let s := s.bump (Reg.TIME_CNT 1)
    match s.time.dreq with
    | some (seq, t1) =>
      if decide (seq = m.seq) && decide (m.reqClock = s.clockId) && s.flag Reg.PTP_CTRL Fld.PTP_CTRL_P2P then
        if m.twoStep then { s with time := { s.time with pdelayHalf := some (seq, (ptpTime m), s.ingress ps, m.corr) } }
        else s.peerDelay (half (s.ingress ps - t1 - m.corr))
      else s
    | none => s

/-- A Pdelay_Resp_Follow_Up arrives (R412). -/
def State.takePdelayFollowUp (s : State) (ps : Nat) (m : PtpMsg) : State :=
  match s.time.dreq, s.time.pdelayHalf with
  | some (_, t1), some (seq, t2, t4, c) =>
    if s.ptpTakes ps m && decide (seq = m.seq) && decide (m.reqClock = s.clockId) then
      s.peerDelay (half ((t4 - t1) - ((ptpTime m) - t2) - c - m.corr))
    else s
  | _, _ => s

/-- An Announce arrives (R412, R414, R419). -/
def State.takeAnnounce (s : State) (ps : Nat) (m : PtpMsg) (d : PtpSet) : State :=
  if !s.ptpTakes ps m || decide (m.src = s.clockId) then s
  else
    let old := s.time.masters.find? fun x => decide (x.clock = m.src ∧ x.port = m.srcPort)
    let heard := match old with
      | some x => if s.now ≤ x.at_ + 4 * s.announcePs then x.heard + 1 else 1
      | none => 1
    let rest := s.time.masters.filter fun x => decide (¬(x.clock = m.src ∧ x.port = m.srcPort))
    let s := { s with time := { s.time with masters := ⟨m.src, m.srcPort, d, s.now, min 2 heard⟩ :: rest } }
    let s := s.setFld Reg.TIME_STATUS Fld.TIME_STATUS_UTCVALID (b2n d.utcValid)
    (s.setFld Reg.TIME_STATUS Fld.TIME_STATUS_UTCOFS d.utcOffset).decidePort

/-- No Announce has come in time (R414): the port turns master, or listens where it may not. -/
def State.announceLost (s : State) : State :=
  let fresh := s.time.masters.any fun m => decide (s.now < m.at_ + s.announceTimeout)
  if fresh || decide (s.portState < 4) || decide (s.portState = 6) then s
  else
    let s := ({ s with time := { s.time with masters := [], parent := none } }).forgetMaster
    (s.enterPort (if s.fld Reg.PTP_CTRL Fld.PTP_CTRL_ROLE = 2 then 4 else 6)).showClock

/-- The next sequence number of a kind of message. -/
def State.nextPtpSeq (s : State) (kind : Nat) : Nat × State :=
  let n := Store.get (fun _ => 0) kind s.time.seqs
  (n, { s with time := { s.time with seqs := Store.set (fun _ => 0) kind ((n + 1) % 65536) s.time.seqs } })

/-- A PTP interval timer expires (R412): 0 Sync, 1 Announce, 2 Delay_Req or Pdelay_Req. -/
def State.ptpInterval (s : State) (which : Nat) : State :=
  let st := s.portState
  let p2p := s.flag Reg.PTP_CTRL Fld.PTP_CTRL_P2P
  let kind := if which = 0 then 0 else if which = 1 then 0xB else if p2p then 2 else 1
  let due := if which < 2 then decide (st = 6) else if p2p then decide (4 ≤ st) else decide (st = 8 ∨ st = 9)
  if s.mode.active && due then
    let (n, s) := s.nextPtpSeq kind
    s.sendPtp ⟨kind, n, 0, 0, s.clockId, 1⟩
  else s

/-- Emit a PTP message from the PTP port. -/
def State.emitPtp (s : State) (kind seq : Nat) (stamp corr : Int) : State :=
  s.emit (.ptp (s.ptpPort / 4) (s.ptpPort % 4) kind seq stamp corr)

/-- A PTP message leaves at a frame boundary (R412, R415): it takes its time as the frame starts. -/
def State.launchPtp (s : State) (m : PtpTx) : State :=
  let t := s.egress s.ptpPort
  let two := s.flag Reg.PTP_CTRL Fld.PTP_CTRL_TWOSTEP
  if m.kind = 0 then
    if two then (s.emitPtp 0 m.seq 0 0).sendPtp { m with kind := 8, stamp := t } else s.emitPtp 0 m.seq t 0
  else if m.kind = 1 ∨ m.kind = 2 then
    ({ s with time := { s.time with dreq := some (m.seq, t) } }).emitPtp m.kind m.seq 0 0
  else if m.kind = 3 then
    if two then (s.emitPtp 3 m.seq m.stamp 0).sendPtp { m with kind := 0xA, stamp := t }
    else s.emitPtp 3 m.seq 0 (m.corr + (t - m.stamp))
  else s.emitPtp m.kind m.seq m.stamp m.corr

/-- Has the source stopped delivering (R409): three sync intervals without a Sync, the port not SLAVE, three exchanges missed? -/
def State.sourceGone (s : State) : Bool :=
  if s.timeSrc = 1 then
    decide (s.portState ≠ 9) || (match s.time.updateAt with
      | some t => decide (t + 3 * s.syncPs ≤ s.now)
      | none => true)
  else decide (3 ≤ s.time.missed) || (match s.time.updateAt with
    | some t => decide (t + 375000000 ≤ s.now)
    | none => true)

/-- The timekeeper enters HOLDOVER when its source has stopped delivering (R409). -/
def State.enterHoldover (s : State) : State :=
  let st := s.fld Reg.TIME_STATUS Fld.TIME_STATUS_STATE
  if s.timeSrc ≠ 0 ∧ (st = 1 ∨ st = 2) ∧ s.sourceGone then s.holdover else s

/-! ### Seam and twin time -/

/-- DATA of the two parts of TSYNC and TRESP (R417). -/
def State.timeParts (s : State) : BitVec 48 × BitVec 48 :=
  (BitVec.ofNat 48 (secOf s.t40), BitVec.ofNat 48 (nsOf s.t40 + s.t40 / 2 ^ 24 % 65536 * 2 ^ 32))

/-- The time that two parts carry, in 2^-16 ns. -/
def partsTime (d0 d1 : BitVec 48) : Int :=
  (((d0.toNat * 1000000000 + d1.toNat % 2 ^ 32) * 65536 + d1.toNat / 2 ^ 32 : Nat) : Int)

/-- Does the member start exchanges on the link (R417)? -/
def State.exchanges (s : State) (m : Nat) : Bool :=
  s.linkReady m && (if m = 13 then s.flag Reg.SEAMT_CTRL Fld.SEAMT_CTRL_SENDE
    else decide (m = 14) && s.flag Reg.SEAMT_CTRL Fld.SEAMT_CTRL_SENDT)

/-- Send the present time on a link. -/
def State.sendTime (s : State) (m sub : Nat) : State :=
  let (d0, d1) := s.timeParts
  (s.sendMgmt m sub 0 d0).sendMgmt m sub 1 d1

/-- A seam time exchange starts (R417). -/
def State.exchangeStart (s : State) (m : Nat) : State := if s.exchanges m then s.sendTime m 11 else s

/-- Does the member follow the link (R417)? -/
def State.follows (s : State) (m : Nat) : Bool := decide (s.timeSrc = 2 ∧ m = 12 ∨ s.timeSrc = 3 ∧ m = 14)

/-- TSYNC arrives: the follower stamps it and answers (R417). -/
def State.takeTsync (s : State) (m : Nat) (d0 d1 : BitVec 48) : State :=
  if s.linkReady m && s.follows m then
    let s := { s with time := { s.time with exch := some (partsTime d0 d1, s.stamp, s.stamp, s.now) } }
    s.sendMgmt m 12 0 0
  else s

/-- TREQ arrives: it is stamped and answered (R417). -/
def State.takeTreq (s : State) (m : Nat) : State := if s.exchanges m then s.sendTime m 13 else s

/-- TRESP completes an exchange (R417): R411 without corrections. -/
def State.takeTresp (s : State) (m : Nat) (d0 d1 : BitVec 48) : State :=
  match s.time.exch with
  | some (t1, t2, t3, at_) =>
    if s.follows m && decide (s.now ≤ at_ + 20000000) then
      let mean := half ((t2 - t1) + (partsTime d0 d1 - t3))
      let s := { s with time := { s.time with exch := none } }
      s.timeUpdate (t2 - t1 - mean - signed 32 (s.num Reg.SEAMT_ASYM)) mean
    else s
  | none => s

/-- A TRESP has not come within 20 µs of its TSYNC (R417). -/
def State.trespTimeout (s : State) : State :=
  match s.time.exch with
  | some (_, _, _, at_) =>
    if at_ + 20000000 ≤ s.now then
      ({ s with time := { s.time with exch := none, missed := s.time.missed + 1 } }).bump (Reg.TIME_CNT 3)
    else s
  | none => s

/-- The timekeeper writes the measured rate of AOCLK while both clocks run (R408). -/
def State.aorateUpdate (s : State) (rate : Word) : State :=
  if s.mode.allOn && s.pwr.refclk && !s.flag Reg.PWR_CAUSE Fld.PWR_CAUSE_AOFALLBACK then s.setReg Reg.TIME_AORATE rate else s

end Sys2Proof.Machine
end

