-- ==== Sys2Proof/Machine/Memc.lean ====
section
/-! DEFINITION. The GDDR6 controller (16_gddr6.md): addresses, refresh, the real-time write buffer, EDC and ECC, training,
frequency changes, self-refresh. -/

namespace Sys2Proof.Machine

/-- MEMC_STATUS.STATE: 0 OFF, 1 TRAINING, 2 READY, 3 FROZEN, 4 frequency change (R438). -/
def State.memcState (s : State) : Nat := s.fld Reg.MEMC_STATUS Fld.MEMC_STATUS_STATE

/-- Set MEMC_STATUS.STATE. -/
def State.setMemc (s : State) (n : Nat) : State := s.setFld Reg.MEMC_STATUS Fld.MEMC_STATUS_STATE n

/-- An event of the controller. -/
def State.memcEvent (s : State) (n : Nat) : State := s.event Reg.MEMC_EVT Reg.MEMC_EVTEN n 26

/-- The channel and the bank of an address (R421). -/
def memChannel (a : Nat) : Nat := Nat.xor (a / 2 ^ 8 % 8) (a / 2 ^ 18 % 8)
def memBank (a : Nat) : Nat := Nat.xor (a / 2 ^ 11 % 16) (a / 2 ^ 21 % 16)

/-- Is a source of the real-time class (R424, R438): STACKS, DEEPn, REPLAYr? -/
def realTimeSource (source : Nat) : Bool := decide (source < 20)

/-- A request reaches the controller (R433): in Poised it ends self-refresh. -/
def State.memcRequest (s : State) : State :=
  { s.setFld Reg.MEMC_STATUS Fld.MEMC_STATUS_SELFREF 0 with memc := { s.memc with lastReq := s.now } }

/-- No request has arrived for 100 µs in Poised (R433). -/
def State.selfRefresh (s : State) : State :=
  if s.mode == .poised && decide (s.memcState = 2) && decide (s.memc.lastReq + 100000000 ≤ s.now) then
    s.setFld Reg.MEMC_STATUS Fld.MEMC_STATUS_SELFREF 1
  else s

/-- Does the controller serve requests? -/
def State.memcServes (s : State) : Bool := decide (s.memcState = 2)

/-! ### Bank queues -/

/-- The queue of a bank of a channel (R426). -/
def State.bankQueue (s : State) (k b : Nat) : List MemReq := Store.get (fun _ => []) (k * 16 + b) s.memc.queues

/-- The requests in the queues of a channel. -/
def State.queued (s : State) (k : Nat) : List MemReq := (List.range 16).flatMap (s.bankQueue k)

/-- Does a real-time request wait in a channel (R427)? -/
def State.realTimeWaits (s : State) (k : Nat) : Bool := (s.queued k).any fun r => realTimeSource r.source

/-- Store the queue of a bank; QDEPTH follows, up to 255 (R438). -/
def State.setBank (s : State) (k b : Nat) (l : List MemReq) : State :=
  let s := { s with memc := { s.memc with queues := Store.set (fun _ => []) (k * 16 + b) l s.memc.queues } }
  s.setFld (Reg.MEMC_CHST k) Fld.MEMC_CHST_QDEPTH (min 255 (s.queued k).length)

/-- A request enters the queue of its bank (R421, R426). -/
def State.enqueueBank (s : State) (r : MemReq) : State :=
  let k := memChannel r.a
  let b := memBank r.a
  s.setBank k b (s.bankQueue k b ++ [r])

/-- The data row of an address (R421). -/
def memRow (a : Nat) : Nat := a / 2 ^ 18

/-- A burst of a bank is issued: its row is open, and the bank is the one last served (R426). -/
def State.openRow (s : State) (a : Nat) : State :=
  let k := memChannel a
  { s with memc := { s.memc with
    rows := Store.set (fun _ => none) (k * 16 + memBank a) (some (memRow a)) s.memc.rows
    served := Store.set (fun _ => 15) k (memBank a) s.memc.served } }

/-- Every row of a channel closes (R427, R428). -/
def State.closeRows (s : State) (k : Nat) : State :=
  { s with memc := { s.memc with rows := s.memc.rows.filter fun e => decide (e.1 / 16 ≠ k) } }

/-- May the head of a bank's queue be issued: neither does other timing hold it up, nor does it need an activate that would break the
four-activate window (R426)? -/
def State.issuable (s : State) (k blocked : Nat) (window : Bool) (b : Nat) : Option MemReq :=
  match s.bankQueue k b with
  | [] => none
  | r :: _ =>
    let open_ := decide (Store.get (fun _ => none) (k * 16 + b) s.memc.rows = some (memRow r.a))
    if bit blocked b || (window && !open_) then none else some r

/-- The bank that a channel takes in a turn (R426): in rotation after the one last served, the first whose head is real-time and may be
issued, else the first whose head may be issued. -/
def State.pickBank (s : State) (k blocked : Nat) (window : Bool) : Option Nat :=
  let last := Store.get (fun _ => 15) k s.memc.served
  let order := (List.range 16).map fun i => (last + 1 + i) % 16
  (order.find? fun b => ((s.issuable k blocked window b).map fun r => realTimeSource r.source).getD false)
    <|> order.find? fun b => (s.issuable k blocked window b).isSome

/-- The head of a bank's queue is issued and leaves (R425, R426), and with it its bytes leave the write buffer (R429). -/
def State.issueBank (s : State) (k b : Nat) : State :=
  match s.bankQueue k b with
  | [] => s
  | r :: rest =>
    let s := (s.setBank k b rest).openRow r.a
    { s with memc := { s.memc with fill := s.memc.fill - r.held } }

/-! ### Refresh -/

/-- Set OWED of a channel, and MAXOWED with it (R438). -/
def State.setOwed (s : State) (k n : Nat) : State :=
  let s := s.setFld (Reg.MEMC_CHST k) Fld.MEMC_CHST_OWED n
  s.setFld (Reg.MEMC_CHST k) Fld.MEMC_CHST_MAXOWED (max n (s.fld (Reg.MEMC_CHST k) Fld.MEMC_CHST_MAXOWED))

/-- A forced refresh starts in channel `k`, whose rows close, or waits for the one in another channel (R428). -/
def State.forceRefresh (s : State) (k : Nat) : State :=
  if s.memc.forced.isNone then
    (({ s.closeRows k with memc := { (s.closeRows k).memc with forced := some k } }).bump (Reg.MEMC_CNT 2)).memcEvent 1
  else { s with memc := { s.memc with forcedWait := s.memc.forcedWait ++ [k] } }

/-- The refreshes that a channel owes are issued, and its rows close (R427). -/
def State.refreshOwed (s : State) (k : Nat) : State := (s.closeRows k).setOwed k 0

/-- A turn of a channel (R426, R427): none while the controller does not serve or the channel is inside a forced refresh; what it owes is
refreshed where no real-time request waits; else the bank picked is served. DEDUCED, log 95. -/
def State.memTurn (s : State) (k blocked : Nat) (window : Bool) : State :=
  if !s.memcServes || decide (s.memc.forced = some k) then s
  else if s.fld (Reg.MEMC_CHST k) Fld.MEMC_CHST_OWED ≠ 0 && !s.realTimeWaits k then s.refreshOwed k
  else match s.pickBank k blocked window with
    | some b => s.issueBank k b
    | none => s

/-- Does the controller take requests in: not while it is off or frozen (R432, R433, R436)? -/
def State.memcTakes (s : State) : Bool := decide (s.memcState ≠ 0 ∧ s.memcState ≠ 3)

/-- A request has arrived: it ends self-refresh, except that of a frequency change (R433, R436). -/
def State.memcArrives (s : State) : State := if s.memcServes then s.memcRequest else s

/-- One happening in the controller between commands. DESIGN CHOICE, log 94. -/
def State.memOp (s : State) (o : MemOp) : State :=
  match o with
  | .request a source write => if s.memcTakes then s.memcArrives.enqueueBank ⟨a, source, 0, write⟩ else s
  | .turn k blocked window => s.memTurn k blocked window

/-- What has happened in the controller since the command before. -/
def State.memWork (s : State) (traffic : List MemOp) : State := traffic.foldl State.memOp s

/-- A refresh of channel `k` falls due (R427, R428): it is issued with all owed ones where no real-time request waits, else owed; the
ninth is forced. While the channel is inside or waits for a forced refresh, nothing more is postponed. DEDUCED, log 95. -/
def State.refreshDue (s : State) (k : Nat) : State :=
  if s.memcState ≠ 2 ∨ s.flag Reg.MEMC_STATUS Fld.MEMC_STATUS_SELFREF then s
  else if s.memc.forced = some k ∨ s.memc.forcedWait.contains k then s
  else
    let s := s.setOwed k (s.fld (Reg.MEMC_CHST k) Fld.MEMC_CHST_OWED + 1)
    if !s.realTimeWaits k then s.refreshOwed k
    else if s.fld (Reg.MEMC_CHST k) Fld.MEMC_CHST_OWED = 9 then s.forceRefresh k
    else s

/-- A forced refresh ends (R428): nothing is owed, and the next channel that waits starts its own. -/
def State.forcedDone (s : State) (k : Nat) : State :=
  if s.memc.forced = some k then
    let s := { s.setOwed k 0 with memc := { s.memc with forced := none } }
    match s.memc.forcedWait with
    | [] => s
    | n :: r => ({ s with memc := { s.memc with forcedWait := r } }).forceRefresh n
  else s

/-- A real-time write of `len` bytes at an address (R426, R429): one that can be issued is, in its turn; one that cannot, since the
controller does not serve, its channel is inside a forced refresh or it waits its turn, stays in its bank queue and in the write buffer; where
that is full it is not buffered, which is the breach GDDR_RT. DEDUCED, log 95. -/
def State.realTimeWrite (s : State) (a len source : Nat) (waits : Bool) : State :=
  if !s.memcTakes then s else
  let s := s.memcArrives
  let fill := s.memc.fill + len
  if s.memcServes && !waits && decide (s.memc.forced ≠ some (memChannel a)) then s.openRow a
  else if fill ≤ s.wbuf then
    let s := ({ s with memc := { s.memc with fill := fill } }).enqueueBank ⟨a, source, len, true⟩
    s.setFld Reg.MEMC_WBPEAK Fld.MEMC_WBPEAK_PEAK (max fill (s.fld Reg.MEMC_WBPEAK Fld.MEMC_WBPEAK_PEAK))
  else s.breach 12 0 none

/-- An entry to Inspecting: the memory is active (R18), and the peaks start anew (R429, R438). -/
def State.memcInspect (s : State) : State :=
  let s := s.memcRequest.setFld Reg.MEMC_WBPEAK Fld.MEMC_WBPEAK_PEAK 0
  (List.range 8).foldl (fun (s : State) k =>
    s.setFld (Reg.MEMC_CHST k) Fld.MEMC_CHST_MAXOWED (s.fld (Reg.MEMC_CHST k) Fld.MEMC_CHST_OWED)) s

/-! ### EDC and ECC -/

/-- An uncorrectable error (R432): the error registers, the event, and a class F error. -/
def State.memError (s : State) (kind a source attempts : Nat) (write : Bool) : State :=
  let info := kind + memChannel a * 4 + memBank a * 32 + source * 2 ^ 16 + attempts * 2 ^ 24 + b2n write * 2 ^ 28
  let code := if kind = 1 then 0x0702 else if kind = 2 then 0x0703 else 0x0704
  if s.mode == .frozen then s.record code 2 (sourceOf Reg.MEMC_STATUS) (BitVec.ofNat 32 info)
  else
    let s := s.setNum Reg.MEMC_ERRINFO info
    let s := s.set64 Reg.MEMC_ERRADDR_LO a
    (s.memcEvent 3).record code 2 (sourceOf Reg.MEMC_STATUS) (BitVec.ofNat 32 info)

/-- EDC replays are counted: at most eight after the first attempt (R430). Answers whether the transfer failed all nine. -/
def State.edcReplays (s : State) (fails : Nat) : State × Bool := (s.bumpBy (Reg.MEMC_CNT 1) (min 8 fails), decide (9 ≤ fails))

/-- A read burst at `a` returns after `fails` failed EDCs (R430, R431): `bits` 0 without error, 1 corrected, 2 uncorrectable,
3 an address check failure. -/
def State.readReturn (s : State) (a source fails bits : Nat) : State :=
  if !s.memcServes then s
  else
    let (s, dead) := s.memcRequest.edcReplays fails
    if dead then s.memError 3 a source 9 false
    else if bits = 0 then s
    else if bits = 1 then ((s.bump (Reg.MEMC_CNT 0)).memcEvent 0).notice 0x0701 (sourceOf Reg.MEMC_STATUS) (a / 4)
    else s.memError (bits - 1) a source (fails + 1) false

/-- A device reports failed EDCs on a write burst, or a command-address parity error (R430). -/
def State.writeReport (s : State) (a source fails : Nat) (parity : Bool) : State :=
  if !s.memcServes then s
  else
    let (s, dead) := s.memcRequest.edcReplays fails
    if dead || parity then s.memError 3 a source (min 9 (max 1 fails)) true else s

/-! ### Training and frequency -/

/-- Set IMGPEND and the restored training values that wait (R435). -/
def State.setPendingTraining (s : State) (ws : List Word) : State :=
  { s.setFld Reg.MEMC_STATUS Fld.MEMC_STATUS_IMGPEND (b2n (!ws.isEmpty)) with trainPending := ws }

/-- Does the next training use restored values (R434)? -/
def State.usesImage (s : State) : Bool := s.flag Reg.MEMC_TRAIN Fld.MEMC_TRAIN_USEIMG && !s.trainPending.isEmpty

/-- A training starts: a quick check with restored values where there are some, else in full (R434). -/
def State.startTraining (s : State) (freq : Bool) : State :=
  let s := s.setMemc (if freq then 4 else 1)
  { s with memc := { s.memc with train := if s.usesImage then 2 else 1, freq := freq } }

/-- A frequency request is applied (R436): self-refresh, the new clock, training. Refreshes owed do not outlive it (R437);
requests stay in their queues. -/
def State.applyFrequency (s : State) (rate : Nat) : State :=
  let s := s.setFld Reg.MEMC_STATUS Fld.MEMC_STATUS_FPEND 0
  let s := s.setFld Reg.MEMC_STATUS Fld.MEMC_STATUS_SELFREF 1
  let s := (List.range 8).foldl (fun (s : State) k => s.setFld (Reg.MEMC_CHST k) Fld.MEMC_CHST_OWED 0) s
  let other := match s.trainPending with
    | w :: _ => decide (w.toNat % 4 ≠ rate)
    | [] => false
  let s := if other then s.setPendingTraining [] else s
  ({ s with memc := { s.memc with rate := rate, pend := none, forced := none, forcedWait := [], rows := [] } }).startTraining true

/-- Hold a frequency request until training ends. -/
def State.setPendRate (s : State) (p : Option Nat) : State := { s with memc := { s.memc with pend := p } }

/-- MEMC_FREQ.RATE has been written to `rate` (R436). -/
def State.frequencyRequest (s : State) (rate : Nat) : State :=
  if s.memc.train ≠ 0 then
    let pend := if rate = s.memc.rate then none else some rate
    (s.setFld Reg.MEMC_STATUS Fld.MEMC_STATUS_FPEND (b2n pend.isSome)).setPendRate pend
  else if rate = s.memc.rate then s
  else s.applyFrequency rate

/-- MEMC_TRAIN.RETRAIN (R435): accepted in Poised while no training runs. -/
def State.retrainMemc (s : State) : State :=
  if s.mode == .poised && decide (s.memc.train = 0) && decide (s.memcState = 2) then s.startTraining false else s

/-- The training ends (R434): channels that failed the quick check, and the values now in force. -/
def State.trained (s : State) (fails : Nat) (ws : List Word) : State :=
  let quick := decide (s.memc.train = 2)
  let n := ((List.range 8).filter fun k => bit fails k).length
  let s := if quick then (s.setFld Reg.MEMC_TRAIN Fld.MEMC_TRAIN_QFAIL fails).bumpBy (Reg.MEMC_CNT 3) n else s
  let s := if quick then s.setPendingTraining [] else s
  let s := if s.memc.freq then s.bump (Reg.MEMC_CNT 4) else s
  let s := { s with training := ws, memc := { s.memc with train := 0, freq := false, lastReq := s.now } }
  let s := (s.setMemc 2).setFld Reg.MEMC_STATUS Fld.MEMC_STATUS_SELFREF 0
  let s := s.memcEvent 2
  match s.memc.pend with
  | some r => s.applyFrequency r
  | none => s

/-- TRAINING_COMPLETE: a training that runs outside a start ends. -/
def State.trainingComplete (s : State) (fails : Nat) (ws : List Word) : State :=
  if s.memc.train ≠ 0 ∧ (s.memcState = 1 ∨ s.memcState = 4) then s.trained fails ws else s

end Sys2Proof.Machine
end

