-- ==== Sys2Proof/Machine/Host.lean ====
section
/-! DEFINITION. The host ports (14_host_ports.md): links, the frames the module answers, the datagrams of the Olunyx Host Transport
and how a sub-port shares its bandwidth. A sub-port is numbered 4 × port + sub. The control channel's operations stand in
Oht.lean. -/

namespace Sys2Proof.Machine

/-! ### Bytes of packets -/

/-- The one's complement sum of 16-bit words, first byte most significant, before folding. -/
def wordSum : List Byte → Nat
  | [] => 0
  | [a] => a.toNat * 256
  | a :: b :: r => a.toNat * 256 + b.toNat + wordSum r

/-- The internet checksum of bytes; 0 stands for no carry left over. -/
def inetSum (l : List Byte) : Nat :=
  let s := wordSum l
  let s := s % 65536 + s / 65536
  65535 - (s % 65536 + s / 65536)

/-- The checksum of a UDP datagram: 0 is sent as 0xFFFF. -/
def udpSum (l : List Byte) : Nat := if inetSum l = 0 then 65535 else inetSum l

/-- IPv4 header of a packet sent (R374): no options, DF, identification 0. -/
def ip4Header (dscp len ttl proto src dst : Nat) : List Byte :=
  let head (c : Nat) : List Byte :=
    [0x45, BitVec.ofNat 8 (dscp * 4)] ++ beBytes 2 len ++ beBytes 2 0 ++ beBytes 2 0x4000
      ++ [BitVec.ofNat 8 ttl, BitVec.ofNat 8 proto] ++ beBytes 2 c ++ leBytes 4 src ++ leBytes 4 dst
  head (inetSum (head 0))

/-- IPv6 header of a packet sent (R374): flow label 0. -/
def ip6Header (dscp len hop next src dst : Nat) : List Byte :=
  beBytes 4 (6 * 2 ^ 28 + dscp * 2 ^ 22) ++ beBytes 2 len ++ [BitVec.ofNat 8 next, BitVec.ofNat 8 hop] ++ leBytes 16 src ++ leBytes 16 dst

/-! ### Sub-ports -/

/-- The enabled sub-ports: the port is enabled and its MODE has the sub-port (R368). -/
def State.hasSub (s : State) (ps : Nat) : Bool := decide (ps < 8) && !s.lacks (ps / 4) (ps % 4)

/-- Has the sub-port link (R369)? -/
def State.subLink (s : State) (ps : Nat) : Bool := bit (s.fld (Reg.HOST_STATUS (ps / 4)) Fld.HOST_STATUS_LINK) (ps % 4)

/-- A counter of a sub-port (R404): 0 accepted, 1 sent, 2 FCS errors, 3 DISC, 4 PAUSEDISC, 5 FWDDROP. -/
def State.subCount (s : State) (ps i : Nat) : State := s.bump (Reg.SP_CNT (ps / 4) i (ps % 4))

/-- Does the host transport run: in Poised, Inspecting and Halted, and on the named port in the boot stage (R21, R532)? -/
def State.hostRuns (s : State) (ps : Nat) : Bool :=
  s.mode.active || (s.pwr.bootWait.isSome && decide (ps = 4 * s.pwr.bootPort))

/-- HOST_STATUS of a port. -/
def State.hostStatus (s : State) (port : Nat) : Nat := s.num (Reg.HOST_STATUS port)

/-- Does a sub-port carry a circulation queue or a reserved stream (R399)? -/
def State.carries (s : State) (ps : Nat) : Bool :=
  (List.range 4).any (fun q => s.cqUsed q && decide (s.cqPort q = (ps / 4, ps % 4)))
    || (List.range 8).any fun i =>
      decide (s.fld (Reg.ACC_STREAM i) Fld.ACC_STREAM_PORT ≠ 3) && (s.streamPorts i).contains (ps / 4)
        && decide (s.fld (Reg.STR_CFG i) Fld.STR_CFG_SUB = ps % 4)

/-- A sub-port's link changes (R369, R386, R399, R403, R464). DESIGN CHOICE, log 108. -/
def State.setLinkOf (s : State) (ps : Nat) (up hser : Bool) : State :=
  let port := ps / 4
  let s := s.setFld (Reg.HOST_STATUS port) ⟨4 + ps % 4, 1⟩ (b2n hser)
  if s.subLink ps == up then s
  else
    let s := s.setFld (Reg.HOST_STATUS port) ⟨ps % 4, 1⟩ (b2n up)
    let s := s.event (Reg.HOST_EVT port) (Reg.HOST_EVTEN port) (ps % 4 + (if up then 0 else 4)) (24 + port)
    let s := (s.ohtAttn 5).twiAttn 6
    let s := s.setFld Reg.TWI_SUM Fld.TWI_SUM_LINKUP (b2n (decide (s.hostStatus 0 % 16 ≠ 0 ∨ s.hostStatus 1 % 16 ≠ 0)))
    let s := s.sendNotice 3 (leBytes 4 port ++ leBytes 4 (s.hostStatus port))
    if !up && s.carries ps && !s.standbyRole then s.breach 11 ps none else s

/-- A sub-port that is not there loses its link: its port was disabled or its MODE changed. -/
def State.dropMissingLinks (s : State) (port : Nat) : State :=
  (List.range 4).foldl (fun (s : State) i =>
    if s.subLink (4 * port + i) && !s.hasSub (4 * port + i) then s.setLinkOf (4 * port + i) false false else s) s

/-- IPv4 address of a sub-port. -/
def State.ip4Of (s : State) (ps : Nat) : Nat := s.num (Reg.SP_IPV4 (ps / 4) (ps % 4))

/-- Global IPv6 address of a sub-port. -/
def State.ip6Of (s : State) (ps : Nat) : Nat :=
  ((List.range 4).map fun i => s.num (Reg.SP_IPV6 (ps / 4) i (ps % 4)) * 2 ^ (32 * i)).sum

/-- The link-local IPv6 address (R371): fe80::/64 and the modified EUI-64 of the MAC address. -/
def State.linkLocal (s : State) (ps : Nat) : Nat :=
  let m := s.macOf ps
  0x80FE + 2 ^ 64 * (Nat.xor (m % 2 ^ 24) 2 + 0xFEFF * 2 ^ 24 + m / 2 ^ 24 * 2 ^ 40)

/-- The IPv6 addresses of a sub-port; a global one of zeros is none. -/
def State.ip6All (s : State) (ps : Nat) : List Nat :=
  if s.ip6Of ps = 0 then [s.linkLocal ps] else [s.ip6Of ps, s.linkLocal ps]

/-- The source address for an IPv6 packet: link-local towards fe80::/64, else the global one where there is one. -/
def State.ip6Source (s : State) (ps dst : Nat) : Nat :=
  if dst % 65536 = 0x80FE ∨ s.ip6Of ps = 0 then s.linkLocal ps else s.ip6Of ps

/-- SP_HOP of a sub-port. -/
def State.hopOf (s : State) (ps : Nat) : Nat := s.fld (Reg.SP_HOP (ps / 4) (ps % 4)) Fld.SP_HOP_HOP

/-- The 802.1Q tag of a sent frame (R374). -/
def State.tagOf (s : State) (ps : Nat) : List Byte :=
  if s.flag (Reg.HOST_VLAN (ps / 4)) Fld.HOST_VLAN_VLANEN then
    [0x81, 0x00] ++ beBytes 2 (s.fld (Reg.HOST_VLAN (ps / 4)) Fld.HOST_VLAN_PCP * 8192 + s.fld (Reg.HOST_VLAN (ps / 4)) Fld.HOST_VLAN_VID)
  else []

/-- A frame from its destination address to its last payload byte. -/
def State.ethFrame (s : State) (ps dst etype : Nat) (payload : List Byte) : List Byte :=
  leBytes 6 dst ++ leBytes 6 (s.macOf ps) ++ s.tagOf ps ++ beBytes 2 etype ++ payload

/-- A UDP datagram in its frame (R374). -/
def State.udpFrame (s : State) (ps : Nat) (to_ : Peer) (dscp srcPort : Nat) (payload : List Byte) : List Byte :=
  let len := 8 + payload.length
  let udp (c : Nat) : List Byte := beBytes 2 srcPort ++ beBytes 2 to_.udp ++ beBytes 2 len ++ beBytes 2 c ++ payload
  if to_.v6 then
    let src := s.ip6Source ps to_.ip
    let pseudo := leBytes 16 src ++ leBytes 16 to_.ip ++ beBytes 4 len ++ beBytes 4 17
    s.ethFrame ps to_.mac 0x86DD (ip6Header dscp len (s.hopOf ps) 17 src to_.ip ++ udp (udpSum (pseudo ++ udp 0)))
  else
    let src := s.ip4Of ps
    let pseudo := leBytes 4 src ++ leBytes 4 to_.ip ++ beBytes 2 17 ++ beBytes 2 len
    s.ethFrame ps to_.mac 0x0800 (ip4Header dscp (20 + len) (s.hopOf ps) 17 src to_.ip ++ udp (udpSum (pseudo ++ udp 0)))

/-! ### Frames received -/

/-- The MTU of a sub-port's port. -/
def State.mtuOf (s : State) (ps : Nat) : Nat := s.mtu (ps / 4)

/-- Does the frame's tag suit the port (R372)? -/
def State.tagFits (s : State) (ps : Nat) (f : RxFrame) : Bool :=
  if s.flag (Reg.HOST_VLAN (ps / 4)) Fld.HOST_VLAN_VLANEN then decide (f.vid = some (s.fld (Reg.HOST_VLAN (ps / 4)) Fld.HOST_VLAN_VID))
  else f.vid.isNone || decide (f.vid = some 0)

/-- Is the destination one of some addresses and the frame accepted (R372)? -/
def State.accepts (s : State) (ps : Nat) (f : RxFrame) (groups : List Nat) : Bool :=
  s.hostRuns ps && s.hasSub ps && s.subLink ps && s.tagFits ps f && (decide (f.dst = s.macOf ps) || groups.contains f.dst)

/-- Take a frame in: counted and handled, or discarded for its length (R370), or not accepted. -/
def State.receive (s : State) (ps : Nat) (f : RxFrame) (groups : List Nat) (h : State → State) : State :=
  if !s.accepts ps f groups then s
  else if s.mtuOf ps < f.len then s.subCount ps 3
  else h (s.subCount ps 0)

/-- The broadcast address. -/
def broadcastMac : Nat := 2 ^ 48 - 1

/-- The solicited-node group addresses of a sub-port's IPv6 addresses. -/
def State.solicitedMacs (s : State) (ps : Nat) : List Nat := (s.ip6All ps).map fun a => 0xFF3333 + a / 2 ^ 104 * 2 ^ 24

/-- Put a neighbour reply on its way to the next frame boundary (R397). -/
def State.sendReply (s : State) (ps : Nat) (b : List Byte) : State :=
  { s with host := { s.host with replies := Store.set (fun _ => []) ps (Store.get (fun _ => []) ps s.host.replies ++ [b]) s.host.replies } }

/-- An ARP request is answered (R373). -/
def State.arpRequest (s : State) (ps : Nat) (f : RxFrame) (mac ip target : Nat) : State :=
  s.receive ps f [broadcastMac] fun s =>
    if target = s.ip4Of ps ∧ target ≠ 0 then
      s.sendReply ps (s.ethFrame ps mac 0x0806 (beBytes 2 1 ++ beBytes 2 0x0800 ++ [6, 4] ++ beBytes 2 2
        ++ leBytes 6 (s.macOf ps) ++ leBytes 4 target ++ leBytes 6 mac ++ leBytes 4 ip))
    else s.subCount ps 3

/-- An ICMP echo request is answered with the same identifier, sequence number and data (R373). -/
def State.icmpEcho (s : State) (ps : Nat) (f : RxFrame) (mac src dst ident : Nat) (data : List Byte) : State :=
  s.receive ps f [] fun s =>
    if dst = s.ip4Of ps ∧ dst ≠ 0 ∧ data.length ≤ 1472 then
      let msg (c : Nat) : List Byte := [0, 0] ++ beBytes 2 c ++ beBytes 4 ident ++ data
      s.sendReply ps (s.ethFrame ps mac 0x0800
        (ip4Header 0 (28 + data.length) (s.hopOf ps) 1 dst src ++ msg (inetSum (msg 0))))
    else s.subCount ps 3

/-- An ICMPv6 message of the module. -/
def State.icmp6 (s : State) (ps mac src dst : Nat) (msg : Nat → List Byte) : State :=
  let len := (msg 0).length
  let pseudo := leBytes 16 src ++ leBytes 16 dst ++ beBytes 4 len ++ beBytes 4 58
  s.sendReply ps (s.ethFrame ps mac 0x86DD (ip6Header 0 len (s.hopOf ps) 58 src dst ++ msg (inetSum (pseudo ++ msg 0))))

/-- An ICMPv6 echo request is answered (R373). -/
def State.icmp6Echo (s : State) (ps : Nat) (f : RxFrame) (mac src dst ident : Nat) (data : List Byte) : State :=
  s.receive ps f [] fun s =>
    if (s.ip6All ps).contains dst && decide (data.length ≤ 1452) then
      s.icmp6 ps mac dst src fun c => [129, 0] ++ beBytes 2 c ++ beBytes 4 ident ++ data
    else s.subCount ps 3

/-- A neighbour solicitation is answered with a solicited advertisement that overrides (R373). -/
def State.neighbour (s : State) (ps : Nat) (f : RxFrame) (mac src target : Nat) : State :=
  s.receive ps f (s.solicitedMacs ps) fun s =>
    if (s.ip6All ps).contains target then
      let m := s.macOf ps
      s.icmp6 ps mac target src fun c => [136, 0] ++ beBytes 2 c ++ beBytes 4 0x60000000 ++ leBytes 16 target ++ [2, 1] ++ leBytes 6 m
    else s.subCount ps 3

/-- The PTP multicast addresses (R412), first byte least significant: those of the two layer 2 addresses, and of the IPv4 and IPv6 groups. -/
def ptpMacs : List Nat := [0x000000191B01, 0x0E0000C28001, 0x8101005E0001, 0x6B00005E0001, 0x810100003333, 0x6B0000003333]

/-- Frames that are only discarded and counted (R369, R370, R372, R373, R378, R413); one at the broadcast address is an ARP message. A request
with an unused OP is answered in Oht.lean. -/
def State.discardFrame (s : State) (ps : Nat) (f : RxFrame) (why : Discard) : State :=
  if !(s.hostRuns ps && s.hasSub ps && s.subLink ps) then s
  else match why with
    | .fcs => s.subCount ps 2
    | .macControl => s.subCount ps 4
    | .badDatagram => s.receive ps f [] fun s => if s.flag Reg.OHT_CTRL Fld.OHT_CTRL_EN then s.bump (Reg.OHT_CNT 3) else s.subCount ps 3
    | .ptp => s.receive ps f ptpMacs fun s => s.bump (Reg.TIME_CNT 2)
    | .badOp _ _ _ => s
    | .other => s.receive ps f (broadcastMac :: s.solicitedMacs ps ++ ptpMacs) fun s => s.subCount ps 3

/-! ### Forwarding (R375, R416) -/

/-- Does the module forward: FWD = 1 in HOSTA and both ports in mode 0? -/
def State.forwards (s : State) : Bool :=
  s.mode.active && s.flag (Reg.HOST_CTRL 0) Fld.HOST_CTRL_FWD && s.hasSub 0 && s.hasSub 4
    && decide (s.portMode 0 = 0) && decide (s.portMode 1 = 0)

/-- A group address: bit 0 of the first byte. -/
def isGroup (mac : Nat) : Bool := decide (mac % 2 = 1)

/-- Frames that wait to be forwarded through a port. -/
def State.forwardList (s : State) (ps : Nat) : List (FwdFrame × Int × Nat) := Store.get (fun _ => []) ps s.host.forward

/-- The PTP messageType of a frame's bytes (R412): over Ethernet, or at UDP port 319 or 320 over IPv4 or IPv6, behind a tag or none. -/
def ptpTypeOf (bytes : List Byte) : Option Nat :=
  let p := if (bytes.drop 12).take 2 = [0x81, 0x00] then bytes.drop 16 else bytes.drop 12
  let type := (p.take 2).map BitVec.toNat
  let at_ (n : Nat) : Option Nat := (p[n]?).map fun b => b.toNat % 16
  let port (n : Nat) : Bool := decide ((p.drop n).take 2 = [0x01, 0x3F] ∨ (p.drop n).take 2 = [0x01, 0x40])
  if type = [0x88, 0xF7] then at_ 2
  else if type = [0x08, 0x00] && decide ((p.drop 11).take 1 = [17]) && port 24 then at_ 30
  else if type = [0x86, 0xDD] && decide ((p.drop 8).take 1 = [17]) && port 44 then at_ 50
  else none

/-- Is the frame a Pdelay message, which is never forwarded (R413)? -/
def isPdelay (f : FwdFrame) : Bool := (ptpTypeOf f.bytes).any fun n => decide (n = 2 ∨ n = 3 ∨ n = 0xA)

/-- Picoseconds a byte takes on a sub-port (R368). -/
def State.bytePs (s : State) (ps : Nat) : Nat := 8000000 / subportRate (s.portMode (ps / 4))

/-- A frame arrives at port `port` to be forwarded, its time-stamp point now: buffered for the other port within 256 KiB, or dropped; its
last bit is in after the bytes and the FCS. -/
def State.forwardFrame (s : State) (port : Nat) (f : FwdFrame) : State :=
  let from_ := 4 * port
  let to_ := 4 * (1 - port)
  if s.forwards && s.subLink from_ && !isPdelay f && (isGroup f.dst || decide (f.dst ≠ s.macOf from_)) then
    let l := s.forwardList to_
    if (l.map fun x => x.1.bytes.length).sum + f.bytes.length ≤ 262144 then
      { s with host := { s.host with forward := Store.set (fun _ => []) to_ (l ++ [(f, s.ingress from_, s.now + (f.bytes.length + 4) * s.bytePs from_)]) s.host.forward } }
    else s.subCount from_ 5
  else s

/-- The correctionField of a forwarded frame (R416). -/
def State.forwardCorr (s : State) (ps : Nat) (f : FwdFrame) (ingress : Int) : State × Option Int :=
  match f.ptp with
  | none => (s, none)
  | some (domain, corr) =>
    if s.flag Reg.TC_CTRL Fld.TC_CTRL_EN && decide (domain = s.fld Reg.TC_CTRL Fld.TC_CTRL_DOMAIN) then
      let c := corr + (s.egress ps - ingress)
      if c < 2 ^ 63 then (s.bump (Reg.TIME_CNT 4), some c) else (s.bump (Reg.TIME_CNT 5), some corr)
    else (s, some corr)

/-! ### Datagrams (R377, R388) -/

/-- The header of a datagram (R377). -/
def State.ohtHeader (s : State) (type seq len chan flags status : Nat) : List Byte :=
  [0x01, BitVec.ofNat 8 type] ++ leBytes 2 (s.fld Reg.SYS_NODE Fld.SYS_NODE_NODE_ID) ++ leBytes 4 seq ++ leBytes 2 len
    ++ [BitVec.ofNat 8 chan, BitVec.ofNat 8 flags] ++ leBytes 4 status

/-- Bytes with their CRC-32 after them. -/
def withCrc32 (b : List Byte) : List Byte := b ++ leBytes 4 (crc32 (byteBits b))

/-- A datagram with a CRC-32 trailer. -/
def State.datagram (s : State) (type seq chan flags status : Nat) (body : List Byte) : List Byte :=
  withCrc32 (s.ohtHeader type seq body.length chan flags status ++ body)

/-- Destination `d` and its DSCP (R405). -/
def State.dest (s : State) (d : Nat) : Peer × Nat :=
  let w1 := s.num (Reg.DST_MAC1 d)
  let ip := ((List.range 4).map fun i => s.num (Reg.DST_IP i d) * 2 ^ (32 * i)).sum
  (⟨s.num (Reg.DST_MAC0 d) + w1 % 65536 * 2 ^ 32, bit w1 16, if bit w1 16 then ip else ip % 2 ^ 32, s.num (Reg.DST_UDP d) % 65536⟩, w1 / 2 ^ 24 % 64)

/-! ### Frames sent -/

/-- How long a frame takes with preamble, FCS and gap (R400), and when its last bit leaves. -/
def State.framePs (s : State) (ps len : Nat) : Nat := (max 64 (len + 4) + 20) * s.bytePs ps
def State.lastBit (s : State) (ps len : Nat) : Nat := s.now + (max 64 (len + 4) + 8) * s.bytePs ps

/-- The sub-port is inside a frame of `len` bytes from now on. -/
def State.occupy (s : State) (ps len : Nat) : State :=
  ({ s with host := { s.host with busyUntil := Store.set (fun _ => 0) ps (s.now + s.framePs ps len) s.host.busyUntil } }).subCount ps 1

/-- Send a frame. -/
def State.sendFrame (s : State) (ps : Nat) (b : List Byte) : State :=
  (s.emit (.frame (ps / 4) (ps % 4) s.now b)).occupy ps b.length

/-- The next SEQ of circulation queue `q`. -/
def State.cqSeqOf (s : State) (q : Nat) : Nat := Store.get (fun _ => 0) q s.host.cqSeq

/-- Step the SEQ of circulation queue `q`. -/
def State.stepCqSeq (s : State) (q : Nat) : State :=
  { s with host := { s.host with cqSeq := Store.set (fun _ => 0) q ((s.cqSeqOf q + 1) % 2 ^ 32) s.host.cqSeq } }

/-- The cards of the next datagram of queue 60 + `q` (R387): those committed from S on, up to NMAX, before a crop record. -/
def State.cardRun (s : State) (q ps : Nat) : List QPacket :=
  let h := s.queue (60 + q)
  ((h.packets.drop h.sent).takeWhile fun p => decide (p.kind = 1)).take (min 32 ((s.mtuOf ps - 88) / 128))

/-- Take the packets of a datagram one by one; their bytes. -/
def State.takeRun (s : State) (q : Nat) : Nat → State × List Byte
  | 0 => (s, [])
  | n + 1 =>
    let b := s.qHeadBytes q
    let (s, r) := (s.qTake q).takeRun q n
    (s, b ++ r)

/-- Packet `i` of queue `q` has left for the first time: its last bit's time is kept (R251, R254). DEDUCED, log 109. -/
def State.markSent (s : State) (q i at_ : Nat) : State :=
  let h := s.queue q
  s.setQueue q { h with packets := h.packets.modify i fun p => if p.sentAt.isNone then { p with sentAt := some at_ } else p }

/-- The check of R251 on a card that leaves for the first time, its last bit at `at_`, and CQ_LAST (R392, R405). -/
def State.cardLeft (s : State) (q at_ : Nat) (p : QPacket) : State :=
  if p.again then s
  else
    let s := s.set64 (Reg.CQ_LAST_LO q) p.key
    let late := match p.due with
      | some d => decide (d < at_)
      | none => false
    if late && !s.red.resending.contains q && !s.standbyRole then s.breachAt 14 q none at_ else s

/-- After packets of circulation queue `q` have been taken: once S has equalled W the check of R251 resumes (R506). -/
def State.resendOver (s : State) (q : Nat) : State :=
  if (s.qHead (60 + q)).isNone then { s with red := { s.red with resending := s.red.resending.filter fun x => decide (x ≠ q) } } else s

/-- Send a CARDS datagram of circulation queue `q` (R387, R388). -/
def State.sendCards (s : State) (q ps : Nat) : State :=
  let run := s.cardRun q ps
  let n := run.length
  let sent := (s.queue (60 + q)).sent
  let first := (run.head?.map QPacket.key).getD 0
  let last := (run.getLast?.map QPacket.key).getD 0
  let relkey := s.get64 (Reg.PQ_RELKEY_LO (1 + q))
  let (d, dscp) := s.dest (s.fld (Reg.CQ_CFG q) Fld.CQ_CFG_DEST)
  let seq := s.cqSeqOf q
  let (s, body) := s.takeRun (60 + q) n
  let head := s.ohtHeader 0x10 seq body.length (1 + q) (b2n (run.any QPacket.again)) 0
  let pre := head ++ body ++ leBytes 6 first ++ leBytes 6 last ++ leBytes 6 relkey ++ leBytes 2 n
  let f := s.udpFrame ps d dscp (48611 + q) (withCrc32 pre)
  let at_ := s.lastBit ps f.length
  let s := (List.range n).foldl (fun (s : State) i => s.markSent (60 + q) (sent + i) at_) s
  let s := run.foldl (fun (s : State) p => s.cardLeft q at_ p) s
  let s := ((s.stepCqSeq q).bump (Reg.CQ_DGRAMS q)).resendOver q
  s.sendFrame ps f

/-- A fragment of a record (R393): RECORD, OFFSET, TOTAL and the bytes from OFFSET on. -/
def fragment (record off : Nat) (bytes : List Byte) (room : Nat) : List Byte :=
  leBytes 8 record ++ leBytes 4 off ++ leBytes 4 bytes.length ++ (bytes.drop off).take room

/-- Send one CROP datagram of circulation queue `q` (R389). -/
def State.sendCrop (s : State) (q ps : Nat) (p : QPacket) : State :=
  let h := s.queue (60 + q)
  let bytes := s.qHeadBytes (60 + q)
  let room := s.mtuOf ps - 84
  let (d, dscp) := s.dest (s.fld (Reg.CQ_CFG q) Fld.CQ_CFG_DEST)
  let f := s.udpFrame ps d dscp (48611 + q)
    (s.datagram 0x11 (s.cqSeqOf q) (1 + q) 0 0 (fragment p.key h.part bytes room))
  let at_ := s.lastBit ps f.length
  let s := if p.len ≤ h.part + room then ((s.qTake (60 + q)).markSent (60 + q) h.sent at_).resendOver q
    else s.setQueue (60 + q) { h with part := h.part + room }
  (s.stepCqSeq q).sendFrame ps f

/-- The record at the head of stream channel `i`, without its launch header on a TIMED channel (R398). -/
def State.streamRecord (s : State) (i : Nat) : List Byte :=
  let b := s.qHeadBytes (48 + i)
  if s.flag (Reg.STR_CFG i) Fld.STR_CFG_TIMED then b.drop 16 else b

/-- The sub-port on which stream channel `i` sends its next record (R396, R405). -/
def State.streamSub (s : State) (i : Nat) : Nat :=
  let p := s.fld (Reg.ACC_STREAM i) Fld.ACC_STREAM_PORT
  let port := if p = 2 then s.num (Reg.STR_REC_LO i) % 2 else if p = 3 then s.fld (Reg.STR_CFG i) Fld.STR_CFG_BEPORT else p
  4 * port + s.fld (Reg.STR_CFG i) Fld.STR_CFG_SUB

/-- The launch time of the head of stream channel `i`, in 2^-16 ns (R398). -/
def State.launchTime (s : State) (i : Nat) : Int :=
  let b := s.qHeadBytes (48 + i)
  (((ofLeBytes (b.take 6) * 1000000000 + ofLeBytes ((b.drop 6).take 4)) * 65536 : Nat) : Int)

/-- Does the head of stream channel `i` go untimed (R398)? -/
def State.untimed (s : State) (i ps : Nat) : Bool :=
  decide (s.mtuOf ps - 84 < (s.streamRecord i).length)
    || decide (s.launchTime i < ((Store.get (fun _ => 0) ps s.host.timedEnd : Nat) : Int) + 2000 * 65536)

/-- Is the head of stream channel `i` timed and on this sub-port? -/
def State.timedHead (s : State) (i ps : Nat) : Bool :=
  s.flag (Reg.STR_CFG i) Fld.STR_CFG_TIMED && (s.qHead (48 + i)).isSome && decide (s.streamSub i = ps)
    && decide ((s.queue (48 + i)).part = 0) && !s.untimed i ps

/-- Send one STREAM datagram of channel `i` (R393). -/
def State.sendStream (s : State) (i ps : Nat) : State :=
  let h := s.queue (48 + i)
  let bytes := s.streamRecord i
  let room := s.mtuOf ps - 84
  let key := 2 * i + ps / 4
  let seq := Store.get (fun _ => 0) key s.host.strSeq
  let record := s.get64 (Reg.STR_REC_LO i)
  let (d, dscp) := s.dest (s.fld (Reg.STR_CFG i) Fld.STR_CFG_DEST)
  let f := s.udpFrame ps d dscp (48620 + i) (s.datagram 0x20 seq (16 + i) 0 0 (fragment record h.part bytes room))
  let nolaunch := s.flag (Reg.STR_CFG i) Fld.STR_CFG_TIMED && decide (h.part = 0) && s.untimed i ps
  let s := if nolaunch then s.bump (Reg.OHT_CNT 7) else s
  let s := if bytes.length ≤ h.part + room then (s.qTake (48 + i)).set64 (Reg.STR_REC_LO i) (record + 1)
    else s.setQueue (48 + i) { h with part := h.part + room }
  let s := { s with host := { s.host with strSeq := Store.set (fun _ => 0) key ((seq + 1) % 2 ^ 32) s.host.strSeq } }
  (s.setNum (Reg.STR_SEQ i) (s.num (Reg.STR_SEQ i) + 1)).sendFrame ps f

/-- Send a timed record in class 1 (R398); one that reached the head of its queue after its launch time is late. -/
def State.sendTimed (s : State) (i ps : Nat) : State :=
  let late := decide (s.launchTime i < s.egress ps - (((s.now - (s.queue (48 + i)).headAt) * 65536 / 1000 : Nat) : Int))
  let s := if late then s.bump (Reg.OHT_CNT 6) else s
  let s := s.sendStream i ps
  let endNs := nsOf s.t40 + secOf s.t40 * 1000000000 + (Store.get (fun _ => 0) ps s.host.busyUntil - s.now + 999) / 1000
  { s with host := { s.host with timedEnd := Store.set (fun _ => 0) ps (endNs * 65536) s.host.timedEnd } }

/-- Send the notice at the head of queue 58 (R386). -/
def State.sendNoticeFrame (s : State) (ps : Nat) : State :=
  let (d, dscp) := s.dest (s.fld Reg.OHT_NOTEDST Fld.OHT_NOTEDST_DEST)
  let f := s.udpFrame ps d dscp 48610 (s.datagram 0x03 s.host.noticeSeq 0 0 0 (s.qHeadBytes 58))
  let s := s.qTake 58
  ({ s with host := { s.host with noticeSeq := (s.host.noticeSeq + 1) % 2 ^ 32 } }).sendFrame ps f

/-- Control answers, and neighbour replies, that wait at a sub-port. -/
def State.controlList (s : State) (ps : Nat) : List (List Byte) := Store.get (fun _ => []) ps s.host.control
def State.replyList (s : State) (ps : Nat) : List (List Byte) := Store.get (fun _ => []) ps s.host.replies
def State.ptpList (s : State) (ps : Nat) : List PtpTx := Store.get (fun _ => []) ps s.host.ptp

/-- Is stream channel `i` reserved (R395)? -/
def State.reserved (s : State) (i : Nat) : Bool := decide (s.fld (Reg.ACC_STREAM i) Fld.ACC_STREAM_PORT ≠ 3)

/-- Has stream channel `i` a frame for the sub-port in its own class? -/
def State.streamReady (s : State) (i ps : Nat) : Bool :=
  (s.qHead (48 + i)).isSome && decide (s.streamSub i = ps) && !s.timedHead i ps

/-- The sources of a class that have a frame ready at a sub-port (R397): class 1 timed channels; 2 circulation queues; 3 PTP; 4 reserved
streams; 5 control answers (0), notices (1), unreserved streams (2 + i), forwarded frames (10), replies (11). With OHT_CTRL.EN = 0 the
transport's own sources have nothing ready. DEDUCED, log 107. -/
def State.readySources (s : State) (ps cls : Nat) : List Nat :=
  let oht := s.flag Reg.OHT_CTRL Fld.OHT_CTRL_EN
  if !s.mode.active then
    (if cls = 5 then (if (s.controlList ps).isEmpty then [] else [0]) ++ (if (s.replyList ps).isEmpty then [] else [11]) else [])
  else if cls = 1 then (List.range 8).filter fun i => oht && s.timedHead i ps && decide (s.launchTime i ≤ s.egress ps)
  else if cls = 2 then (List.range 4).filter fun q => oht && decide (s.cqPort q = (ps / 4, ps % 4)) && (s.qHead (60 + q)).isSome
  else if cls = 3 then (if (s.ptpList ps).isEmpty then [] else [0])
  else if cls = 4 then (List.range 8).filter fun i => oht && s.reserved i && s.streamReady i ps
  else
    (if oht && !(s.controlList ps).isEmpty then [0] else [])
      ++ (if oht && (s.qHead 58).isSome
            && decide (4 * s.fld Reg.OHT_NOTEDST Fld.OHT_NOTEDST_PORT + s.fld Reg.OHT_NOTEDST Fld.OHT_NOTEDST_SUB = ps)
          then [1] else [])
      ++ ((List.range 8).filter fun i => oht && !s.reserved i && s.streamReady i ps).map (· + 2)
      ++ (if ((s.forwardList ps).head?).any (fun x => decide (x.2.2 ≤ s.now)) then [10] else []) ++ (if (s.replyList ps).isEmpty then [] else [11])

/-- The next in turn: the first source after the one served last, else the first. -/
def nextInTurn (last : Nat) (l : List Nat) : Option Nat :=
  match l.find? fun x => decide (last < x + 1) with
  | some x => some x
  | none => l.head?

/-- The source of a class whose turn it is; in class 1 the one with the earliest launch time. -/
def State.chooseSource (s : State) (ps cls : Nat) : Option Nat :=
  let l := s.readySources ps cls
  if cls = 1 then
    l.foldl (fun (b : Option Nat) i => match b with
      | some k => if s.launchTime i < s.launchTime k then some i else some k
      | none => some i) none
  else nextInTurn (Store.get (fun _ => 0) (8 * ps + cls) s.host.turns) l

/-- Take the first item of a list that waits at a sub-port and send it. -/
def State.sendFirst (s : State) (ps : Nat) (control : Bool) : State :=
  if control then
    match s.controlList ps with
    | b :: r => ({ s with host := { s.host with control := Store.set (fun _ => []) ps r s.host.control } }).sendFrame ps b
    | [] => s
  else
    match s.replyList ps with
    | b :: r => ({ s with host := { s.host with replies := Store.set (fun _ => []) ps r s.host.replies } }).sendFrame ps b
    | [] => s

/-- Send the forwarded frame that waits longest (R375, R416). -/
def State.sendForward (s : State) (ps : Nat) : State :=
  match s.forwardList ps with
  | (f, i, _) :: r =>
    let s := { s with host := { s.host with forward := Store.set (fun _ => []) ps r s.host.forward } }
    let (s, c) := s.forwardCorr ps f i
    (s.emit (.forwarded (ps / 4) s.now f.bytes c)).occupy ps f.bytes.length
  | [] => s

/-- Send the PTP message that waits longest; an event frame of 86 bytes at most counts as 86. -/
def State.sendPtpFrame (s : State) (ps : Nat) : State :=
  match s.ptpList ps with
  | m :: r =>
    let s := { s with host := { s.host with ptp := Store.set (fun _ => []) ps r s.host.ptp } }
    (s.launchPtp m).occupy ps 86
  | [] => s

/-- Serve a source of a class. -/
def State.serve (s : State) (ps cls x : Nat) : State :=
  let s := { s with host := { s.host with turns := Store.set (fun _ => 0) (8 * ps + cls) (x + 1) s.host.turns } }
  if cls = 1 then s.sendTimed x ps
  else if cls = 2 then
    match s.qHead (60 + x) with
    | some p => if p.kind = 2 then s.sendCrop x ps p else s.sendCards x ps
    | none => s
  else if cls = 3 then s.sendPtpFrame ps
  else if cls = 4 then s.sendStream x ps
  else if x = 0 then s.sendFirst ps true
  else if x = 1 then s.sendNoticeFrame ps
  else if x < 10 then s.sendStream (x - 2) ps
  else if x = 10 then s.sendForward ps
  else s.sendFirst ps false

/-- The classes from the first on: the first class that has a frame ready (R397). -/
def State.firstReady (s : State) (ps : Nat) : List Nat → Option (Nat × Nat)
  | [] => none
  | c :: r =>
    match s.chooseSource ps c with
    | some x => some (c, x)
    | none => s.firstReady ps r

/-- Would a frame that ends now keep every launch time still to come on the sub-port (R398)? -/
def State.keepsLaunches (before after : State) (ps : Nat) : Bool :=
  let dur : Int := ((Store.get (fun _ => 0) ps after.host.busyUntil - before.now) * 65536 / 1000 : Nat)
  (List.range 8).all fun i => !before.timedHead i ps || decide (before.egress ps + dur ≤ before.launchTime i)

/-- A frame boundary of a sub-port (R397, R398): the first class that has a frame ready sends one, unless it would run into a launch
time. -/
def State.arbitrate (s : State) (ps : Nat) : State :=
  if s.hostRuns ps && s.hasSub ps && s.subLink ps && decide (Store.get (fun _ => 0) ps s.host.busyUntil ≤ s.now) then
    match s.firstReady ps [1, 2, 3, 4, 5] with
    | none => s
    | some (c, x) =>
      let t := s.serve ps c x
      if c = 1 || s.keepsLaunches t ps then t else s
  else s

/-- The launch time of a timed record arrives (R398). -/
def State.timedLaunch (s : State) (ps : Nat) : State :=
  if s.hostRuns ps && s.hasSub ps && s.subLink ps && decide (Store.get (fun _ => 0) ps s.host.busyUntil ≤ s.now) then
    match s.chooseSource ps 1 with
    | some x => s.serve ps 1 x
    | none => s
  else s

/-! ### Returns and rewinds -/

/-- Perform REWFREE: at once, or at the packet boundary where a record is being sent (R361). -/
def State.rewfree (s : State) (q : Nat) : State := if s.qInside q then s.qRequestRewind q true else s.qRewind q true

/-- A RETURN is applied (R390): release through KEY, then REWFREE if it asks for a resend. -/
def State.applyReturn (s : State) (q key : Nat) (resend : Bool) : State :=
  let s := s.qRelease (60 + q) key
  let s := if resend then s.rewfree (60 + q) else s
  s.bump (Reg.OHT_CNT 4)

/-- The time the packet at F was sent, if it has been. -/
def State.firstSent (s : State) (q : Nat) : Option (QPacket × Nat) :=
  match (s.queue q).packets with
  | p :: _ => if 0 < (s.queue q).sent then p.sentAt.map fun t => (p, t) else none
  | [] => none

/-- RETX has passed without a release or a rewind (R391). DEDUCED, log 109. -/
def State.automaticRewind (s : State) (q : Nat) : State :=
  let retx := s.fld (Reg.CQ_CFG q) Fld.CQ_CFG_RETX * 1000000
  match s.firstSent (60 + q) with
  | some (_, t) =>
    if retx ≠ 0 ∧ t + retx ≤ s.now ∧ (s.queue (60 + q)).rewoundAt + retx ≤ s.now then
      (s.rewfree (60 + q)).bump (Reg.OHT_CNT 5)
    else s
  | none => s

/-- An unreturned card is older than ACC_RET (R254, R392, R492): the first card from F on that has been sent. -/
def State.returnLate (s : State) (q : Nat) : State :=
  let h := s.queue (60 + q)
  match (h.packets.take h.sent).find? fun p => decide (p.kind = 1) with
  | some p =>
    let late := match p.sentAt with
      | some t => decide (t + s.fld Reg.ACC_RET Fld.ACC_RET_RET * 1000000 < s.now)
      | none => false
    if late && !s.standbyRole then s.breach 10 q none else s
  | none => s

end Sys2Proof.Machine
end

