-- ==== Sys2Proof/Machine/Relay.lean ====
section
/-! DEFINITION. The relay of stitched lines to a stream channel (R394, R395): reserved, from the stitch engine, and unreserved, from the
stacks. -/

namespace Sys2Proof.Machine

/-- The stream channel of the relay (R394), and whether it is reserved (R395). -/
def State.relayChan (s : State) : Option (Nat × Bool) :=
  ((List.range 8).find? fun i => decide (s.fld (Reg.STR_CFG i) Fld.STR_CFG_SRC = 1)).map fun i =>
    (i, decide (s.fld (Reg.ACC_STREAM i) Fld.ACC_STREAM_PORT ≤ 2))

/-- The pixels of a relay record as stored at its width. -/
def State.relayPixels (s : State) (px : List Nat) : List Byte :=
  let b := storedBits (s.fld Reg.RLY_CFG Fld.RLY_CFG_WIDTH)
  packStream b ((px.length * b + 7) / 8) (px.map (storePixel b))

/-- A reserved relay commits the record of the line whose slot ends (R395); ROW is that of the stacks, or all ones without them. -/
def State.relayLine (s : State) (sl : Slot) : State :=
  match s.relayChan, s.stitch.cur with
  | some (i, true), some o =>
    if sl.line % (s.relayEvery : Int) = 0 then
      let row := match s.stk.pending.find? fun r => decide (r.line = sl.line) with
        | some r => r.row
        | none => 2 ^ 64 - 1
      let col0 := s.num Reg.RLY_COL0
      let n := s.num Reg.RLY_NCOL
      let px := (s.columns o col0 n).map Column.value
      (s.streamEnqueue i true (s.rowHeader sl o row col0 n (s.fld Reg.RLY_CFG Fld.RLY_CFG_WIDTH) ++ s.relayPixels px)).1
    else s
  | _, _ => s

/-- The record of a stored row (R395): its header with CD and bytes 55 and 60 to 62 of the relay, and its columns. CD goes on from the
row's own (log 76). -/
def State.relayRecord (s : State) (row : Nat) : List Byte :=
  let h := readBytes s.ram (s.rowAddr row) 64
  let b := s.stacksBits
  let col0 := s.num Reg.RLY_COL0
  let n := s.num Reg.RLY_NCOL
  let bytes := readBytes s.ram (s.rowAddr row + 64) (s.num Reg.STACKS_STRIDE - 64)
  let px := (List.range n).map fun i => expandPixel b (streamAt b bytes (col0 + i))
  let cd := signed 32 (ofLeBytes ((h.drop 8).take 4)) + (s.cdOf col0 - s.cdOf 0)
  h.take 8 ++ leBytes 4 (unsignedOf 32 cd) ++ (h.drop 12).take 43 ++ leBytes 1 (s.fld Reg.RLY_CFG Fld.RLY_CFG_WIDTH)
    ++ (h.drop 56).take 4 ++ leBytes 3 n ++ (h.drop 63).take 1 ++ s.relayPixels px

/-- Does an unreserved relay read the stacks (R395)? -/
def State.relayOn (s : State) : Bool :=
  match s.relayChan with
  | some (_, r) => !r && s.flag Reg.STACKS_CTRL Fld.STACKS_CTRL_EN
  | none => false

/-- An unreserved relay starts at the newest committed row when it is enabled, and forgets its place when it is not (R395). DEDUCED, log 86. -/
def State.relayWatch (s : State) : State :=
  if s.relayOn == s.stk.relay.isSome then s
  else { s with stk := { s.stk with relay := if s.relayOn then some (s.get64 Reg.STACKS_HEADROW_LO) else none } }

/-- An unreserved relay reads its next row (R395): an overtaken one (R324) is skipped, one that has no line due passes, and the record
of another goes to the channel, a record that does not fit being dropped (R358). DEDUCED, log 86. -/
def State.relayRead (s : State) : State :=
  match s.relayChan, s.stk.relay with
  | some (i, false), some row =>
    if s.stk.empty || decide (s.get64 Reg.STACKS_HEADROW_LO < row) then s
    else
      let s := { s with stk := { s.stk with relay := some (row + 1) } }
      if s.headerRow row = row && decide (s.headerLine row % (s.relayEvery : Int) = 0) then (s.streamEnqueue i false (s.relayRecord row)).1
      else s
  | _, _ => s

end Sys2Proof.Machine
end

