-- ==== Sys2Proof/Machine/Redundancy.lean ====
section
/-! DEFINITION. The active/standby pair (20_redundancy.md) as far as it needs no register access: roles, HB, the gathering of epochs,
TQ packets, the messages and packets on TWIN, the port records, a join's queues and state. -/

namespace Sys2Proof.Machine

/-! ### Packets and messages on TWIN -/

/-- A packet's bytes as blocks, the last one filled with zeros (R502). -/
def byteBlocks : Nat → List Byte → List (BitVec 64)
  | 0, _ => []
  | n + 1, l => if l.isEmpty then [] else BitVec.ofNat 64 (ofLeBytes (l.take 8)) :: byteBlocks n (l.drop 8)

/-- A field of a received packet: `n` bytes from byte `at_` on, little-endian. -/
def pktField (bs : List (BitVec 64)) (at_ n : Nat) : Nat :=
  (List.range n).foldl (fun v i =>
    v + ((bs[(at_ + i) / 8]?).getD 0).toNat / 2 ^ (8 * ((at_ + i) % 8)) % 256 * 256 ^ i) 0

/-- The bytes of a received packet. -/
def blockBytes (bs : List (BitVec 64)) : List Byte := bs.flatMap fun b => leBytes 8 b.toNat

/-- Is the TWIN link READY? -/
def State.twinReady (s : State) : Bool := s.linkReady 14

/-- Record a REDUNDANCY Notice (R513). -/
def State.redNotice (s : State) (reason : Nat) : State := s.notice 0x0901 (sourceOf Reg.RED_CTRL) reason

/-- Set a bit of RED_EVT. -/
def State.redEvent (s : State) (n : Nat) : State := s.hwSet Reg.RED_EVT n

/-- A packet leaves on TWIN as one frame, LINE the low bits of its epoch (R501, R502). DEDUCED, log 72. -/
def State.twinFrame (s : State) (epoch : Nat) (bytes : List Byte) : State :=
  s.sendSeam 14 3 0 true epoch (byteBlocks (bytes.length / 8 + 1) bytes)

/-- The first twelve bytes of a TQ packet (R501). -/
def tqHead (type epoch : Nat) : List Byte := leBytes 1 type ++ leBytes 3 0 ++ leBytes 8 epoch

/-- Commit a packet to TQ with the key of its epoch; on a READY link it leaves at once (R498, R501, R502). Answers whether it fitted
(R363). -/
def State.tqCommit (s : State) (epoch : Nat) (bytes : List Byte) : State × Bool :=
  if s.qFits 59 bytes.length then
    let s := s.qCommit 59 bytes epoch 0 none
    (if s.twinReady then (s.twinFrame epoch bytes).qTake 59 else s, true)
  else (s, false)

/-- A pair message (R502). -/
def State.pairMessage (s : State) (op mid low28 : Nat) : State :=
  let d := op + s.fld Reg.RED_STATUS Fld.RED_STATUS_ROLEIN * 2 ^ 4 + s.fld Reg.RED_STATUS Fld.RED_STATUS_HBRUN * 2 ^ 5
    + b2n (s.mode == .inspecting) * 2 ^ 6 + mid % 2 ^ 12 * 2 ^ 8 + low28 % 2 ^ 28 * 2 ^ 20
  s.sendMgmt 14 14 0 (BitVec.ofNat 48 d)

/-- Does the member send on TWIN: paired, Poised, Inspecting or Halted, and the link READY (R502)? -/
def State.pairSends (s : State) : Bool := s.flag Reg.RED_CTRL Fld.RED_CTRL_EN && s.mode.active && s.twinReady

/-- The last line of a camera was LATE or MALFORMED (R502), as BADRUN shows it. DEDUCED, log 118. -/
def State.badLines (s : State) : Nat :=
  ((List.range 12).map fun n => b2n (decide (s.fld (Reg.CAM_TSEQ n) Fld.CAM_TSEQ_BADRUN ≠ 0)) * 2 ^ n).sum

/-- The newest stitched line. -/
def State.newestLine (s : State) : Int := (s.trg.lastRef.map Prod.fst).getD 0

/-- A STATUS message (R502). -/
def State.sendStatus (s : State) : State :=
  if s.pairSends then s.pairMessage 3 s.badLines (unsignedOf 28 s.newestLine) else s

/-! ### HB -/

/-- Does HB's condition of the role hold (R504)? -/
def State.hbCondition (s : State) : Bool :=
  s.mode == .inspecting && !s.flag Reg.ERR_STATUS Fld.ERR_STATUS_HALTING &&
    (if s.standbyRole then
      s.flag Reg.RED_STATUS Fld.RED_STATUS_SYNCED
        && (List.range 4).all (fun q => !s.cqUsed q || s.subLink (4 * (s.cqPort q).1 + (s.cqPort q).2))
        && (List.range 8).all fun i => !s.streamUsed i
          || (s.streamPorts i).all fun p => s.subLink (4 * p + s.fld (Reg.STR_CFG i) Fld.STR_CFG_SUB)
    else true)

/-- HB starts or stops with its condition (R504); held low when stopped, with TWI_ATTN bit 4 (R464). DEDUCED, log 41. -/
def State.hbUpdate (s : State) : State :=
  let run := s.hbCondition
  if s.flag Reg.RED_STATUS Fld.RED_STATUS_HBRUN == run then s
  else
    let s := s.setFld Reg.RED_STATUS Fld.RED_STATUS_HBRUN (b2n run)
    if run then s else { (s.twiAttn 4) with outPins := { s.outPins with hb := false } }

/-- HB inverts (R504). -/
def State.hbToggle (s : State) : State :=
  let s := s.hbUpdate
  if s.flag Reg.RED_STATUS Fld.RED_STATUS_HBRUN then
    { (s.emit (.hbEdge (!s.outPins.hb))) with outPins := { s.outPins with hb := !s.outPins.hb } }
  else s

/-! ### Gathering epochs -/

/-- Is the register or memory at an address in the copied set (R496)? -/
def isCopied (a : Nat) : Bool :=
  isCollection a || inFolio a || isStaging a
    || (decide (0x200000 ≤ a ∧ a < 0x2C0000) && decide (a % 0x10000 = 0x10 ∨ a % 0x10000 = 0x14 ∨ a % 0x10000 = 0x18 ∨ a % 0x10000 = 0x1C))
    || decide (Reg.RMP_TCTL ≤ a ∧ a ≤ Reg.RMP_AT_HI) || decide (Reg.CAT_TCTL ≤ a ∧ a ≤ Reg.CAT_TDATA)
    || decide (Reg.PROF_TCTL ≤ a ∧ a ≤ Reg.PROF_TDATA) || decide (Reg.PROF_SYNC ≤ a ∧ a ≤ Reg.PROF_SYNCAT_HI)
    || decide (a = Reg.ACC_CTRL ∨ a = Reg.ACC_SWITCH_LO ∨ a = Reg.ACC_SWITCH_HI)
    || (decide (0x60200 ≤ a ∧ a < 0x60400) && decide (a % 0x20 = 0x10))
    || (decide (0x310100 ≤ a ∧ a < 0x310200) && decide (a % 0x40 < 0x10))

/-- Does the member gather writes to the copied set into epochs (R497): a paired active in Inspecting? -/
def State.gathers (s : State) : Bool :=
  s.flag Reg.RED_CTRL Fld.RED_CTRL_EN && !s.standbyRole && s.mode == .inspecting && !s.red.applying

/-- Does the member reject host writes to the copied set (R492): a paired standby in Inspecting? -/
def State.rejectsCopied (s : State) : Bool := s.standbyRole && s.mode == .inspecting && !s.red.applying

/-- A write joins the open epoch (R497). -/
def State.gather (s : State) (a : Nat) (v : Word) : State :=
  { s with red := { s.red with writes := s.red.writes ++ [(a, v)], firstAt := some (s.red.firstAt.getD s.now) } }

/-- A standby in Inspecting rejects a write to the copied set (R492). -/
def State.rejectCopied (s : State) : State := (s.bump (Reg.RED_CNT 5)).redNotice 8

/-- EPL (R511): other values act as the nearer end. -/
def State.epl (s : State) : Nat := min 4096 (max 16 (s.fld Reg.RED_CFG Fld.RED_CFG_EPL))

/-- EL (R497). -/
def State.effectLag (s : State) : Nat := max s.epl (ceilDiv (50 * s.fld Reg.ACC_LRMAX Fld.ACC_LRMAX_LRMAX) 1000000)

/-- The next epoch opens after line `k`: it closes at the next multiple of EPL, or 1 ms after its first write (R497). -/
def State.openEpoch (s : State) (k : Int) (carried : List (Nat × Word)) : State :=
  { s with red := { s.red with
    boundary := (Int.fdiv k (s.epl : Int) + 1) * (s.epl : Int), writes := carried
    firstAt := if carried.isEmpty then none else some s.now } }

/-- The active enters SOLO (R499). -/
def State.enterSolo (s : State) (reason : Nat) : State :=
  if s.flag Reg.RED_STATUS Fld.RED_STATUS_SOLO then s
  else (((s.setFld Reg.RED_STATUS Fld.RED_STATUS_SOLO 1).redEvent 3).redNotice reason)

/-- The last committed epoch (R511). -/
def State.lastCommit (s : State) : Nat := s.get64 Reg.RED_EPOCH_LO

/-- The RELKEYs of the circulation queues (R501). -/
def State.relkeys (s : State) : List Nat := (List.range 4).map fun q => s.get64 (Reg.PQ_RELKEY_LO (1 + q)) % 2 ^ 48

/-- Records of writes in a packet (R501). -/
def writeRecords (ws : List (Nat × Word)) : List Byte := ws.flatMap fun w => leBytes 4 w.1 ++ leBytes 4 w.2.toNat

/-- The writes that a packet of `n` records carries from byte `at_` on. -/
def readRecords (bs : List (BitVec 64)) (at_ n : Nat) : List (Nat × Word) :=
  (List.range n).map fun i => (pktField bs (at_ + 8 * i) 3, BitVec.ofNat 32 (pktField bs (at_ + 8 * i + 4) 4))

/-- An EPOCH packet (R501). -/
def State.epochPacket (s : State) (e : Epoch) : List Byte :=
  tqHead 1 e.num ++ leBytes 8 (unsignedOf 64 e.effect) ++ leBytes 8 s.lastCommit ++ e.keys.flatMap (leBytes 6)
    ++ leBytes 2 e.writes.length ++ leBytes 10 0 ++ writeRecords e.writes

/-- Does an epoch hold a swap (R509)? -/
def hasSwap (ws : List (Nat × Word)) : Bool := ws.any fun w => decide (w.1 = Reg.RED_CTRL)

/-- An epoch has been committed in the member (R498, R509): RED_EPOCH, the counter, and a swap's line. -/
def State.epochCommitted (s : State) (e : Epoch) : State :=
  let s := (s.set64 Reg.RED_EPOCH_LO e.num).bump (Reg.RED_CNT 2)
  if hasSwap e.writes then (s.setS64 Reg.RED_SWAP_LO e.effect).setFld Reg.RED_STATUS Fld.RED_STATUS_SWAPPEND 1 else s

/-- The lines by which a first effect in SOLO comes 300 µs after TWIN left READY (R499). -/
def State.soloDelay (s : State) : Nat :=
  match s.red.twinDown with
  | some d => ceilDiv ((d + 300000000 - s.now) * s.fld Reg.ACC_LRMAX Fld.ACC_LRMAX_LRMAX) 1000000000000
  | none => 0

/-- Is the open epoch to be closed (R497)? -/
def State.closeDue (s : State) : Bool :=
  decide (s.red.boundary ≤ s.newestLine) || (match s.red.firstAt with
    | some f => decide (f + 1000000000 ≤ s.now)
    | none => false)

/-- The open epoch closes (R497, R498): it is committed to TQ and the next one opens, with the writes beyond 4,096. In SOLO it will
be applied without a commit, and goes to TQ only while TWIN is READY (R499). -/
def State.epochClose (s : State) : State :=
  if !s.gathers || !s.closeDue then s
  else
    let k := s.newestLine
    let solo := s.flag Reg.RED_STATUS Fld.RED_STATUS_SOLO
    let el := max s.effectLag (if solo then s.soloDelay else 0)
    let e : Epoch := ⟨s.red.num, s.red.writes.take 4096, k + el, s.relkeys, solo⟩
    let rest := s.red.writes.drop 4096
    let (s, ok) := if solo && !s.twinReady then (s, true) else s.tqCommit e.num (s.epochPacket e)
    let e := if ok then e else { e with done := true, effect := k + max s.effectLag s.soloDelay }
    let s := if ok then s else (s.redNotice 7).enterSolo 7
    let s := { s with red := { s.red with num := s.red.num + 1, closed := s.red.closed ++ [e] } }
    s.openEpoch k rest

/-- An EPACK arrives at the active (R498): in time, the epoch is committed, EPCOMMIT leaves three times, TQ is released. -/
def State.takeEpack (s : State) (n : Nat) : State :=
  match s.red.closed.find? fun e => decide (e.num % 2 ^ 28 = n % 2 ^ 28) with
  | none => s
  | some e =>
    if s.standbyRole then s
    else
      let s := (List.range 3).foldl (fun (s : State) _ => s.pairMessage 2 0 (e.num % 2 ^ 28)) s
      let s := { s with red := { s.red with
        missed := 0, closed := s.red.closed.map fun (x : Epoch) => if x.num = e.num then { x with done := true } else x } }
      (s.epochCommitted e).qRelease 59 e.num

/-- No EPACK by T(X_n) − 2 µs (R499): the epoch stays uncommitted, and its writes lead those of the open epoch; a swap in it does not
happen (R509). After two in a row the active enters SOLO. DEDUCED, log 110. -/
def State.epochMissed (s : State) (n : Nat) : State :=
  match s.red.closed.find? fun e => decide (e.num = n) && !e.done with
  | none => s
  | some e =>
    if s.standbyRole then s
    else
      let carried := e.writes.filter fun w => decide (w.1 ≠ Reg.RED_CTRL)
      let s := { s with
        red := { s.red with
          missed := s.red.missed + 1, closed := s.red.closed.filter fun (x : Epoch) => decide (x.num ≠ n), writes := carried ++ s.red.writes
          firstAt := if carried.isEmpty then s.red.firstAt else some (s.red.firstAt.getD s.now) }
        host := { s.host with answers := s.host.answers.map fun (a : EpochAnswer) => if a.epoch = n then { a with epoch := s.red.num } else a } }
      let s := (s.bump (Reg.RED_CNT 3)).redNotice 2
      let s := if hasSwap e.writes then s.redNotice 5 else s
      if 2 ≤ s.red.missed then s.enterSolo 1 else s

/-- A standby is no longer in step (R499). -/
def State.clearSynced (s : State) : State :=
  if s.flag Reg.RED_STATUS Fld.RED_STATUS_SYNCED then
    ((((s.setFld Reg.RED_STATUS Fld.RED_STATUS_SYNCED 0).redEvent 2).redNotice 3)).hbUpdate
  else s

/-- An EPOCH packet arrives (R498, R499, R502): an active discards it; a standby keeps it, sends EPACK, and falls out of step where the
active's last committed epoch or its accession result differs from its own. `report` is the accession result that the active
reports, if it reports one (no field is stated for it). DESIGN CHOICE, log 19. DEDUCED, log 113. -/
def State.takeEpoch (s : State) (bs : List (BitVec 64)) (report : Option Nat) : State :=
  if !s.standbyRole then s.redNotice 10
  else
    let n := pktField bs 4 8
    let known := s.red.closed.any fun e => decide (e.num = n)
    let e : Epoch := ⟨n, readRecords bs 64 (pktField bs 52 2), signed 64 (pktField bs 12 8), (List.range 4).map fun q => pktField bs (28 + 6 * q) 6, false⟩
    let s := if known then s else { s with red := { s.red with closed := s.red.closed ++ [e] } }
    let differs := decide (pktField bs 20 8 ≠ s.lastCommit) || (match report with
      | some r => decide (r ≠ s.num Reg.ACC_REASON)
      | none => false)
    let s := if differs then s.clearSynced else s
    if s.mode == .frozen then s else s.pairMessage 1 0 (n % 2 ^ 28)

/-- An EPCOMMIT arrives at a standby before the effect line (R498): the epoch is committed, and queues are released through its keys
(R493). -/
def State.takeEpcommit (s : State) (n : Nat) : State :=
  match s.red.closed.find? fun e => decide (e.num % 2 ^ 28 = n % 2 ^ 28) && !e.done with
  | none => s
  | some e =>
    if !s.standbyRole || decide (e.effect ≤ s.newestLine) then s
    else
      let s := { s with red := { s.red with closed := s.red.closed.map fun (x : Epoch) => if x.num = e.num then { x with done := true } else x } }
      let s := s.epochCommitted e
      e.keys.zipIdx.foldl (fun (s : State) k => s.qRelease (60 + k.2) k.1) s

/-! ### Port records (R494, R501) -/

/-- A PORTREC packet of a port. -/
def State.portRecord (s : State) (n : Nat) : List Byte :=
  tqHead 2 s.red.num ++ leBytes 1 n ++ leBytes 1 (s.lstate n) ++ leBytes 2 0
    ++ ([Reg.CAM_ID0 n, Reg.CAM_ID1 n, Reg.CAM_ID2 n, Reg.CAM_CAPS0 n, Reg.CAM_CAPS1 n, Reg.CAM_CAPS2 n, Reg.CAM_RTT n].flatMap fun a =>
      leBytes 4 (s.num a))

/-- The active sends port records of some ports; one that TQ refuses brings SOLO (R499, R501). -/
def State.sendRecords (s : State) (ns : List Nat) : State :=
  if s.pairSends && !s.standbyRole then
    ns.foldl (fun (s : State) n =>
      let (s, ok) := s.tqCommit s.red.num (s.portRecord n)
      if ok then s else (s.redNotice 7).enterSolo 7) s
  else s

/-- The last port record of a port. -/
def State.recordOf (s : State) (n : Nat) : Option PortRec := Store.get (fun _ => none) n s.red.records

/-- A standby's port that waits in place of HANDSHAKE reaches READY on its record (R494), where the record is consistent with the
port's own settings (R78). -/
def State.shadowReady (s : State) (n : Nat) : State :=
  match s.recordOf n with
  | none => s
  | some r =>
    if s.standbyRole && decide (s.lstate n = 4) && decide (r.lstate = 5) then
      let w := r.ids.zipIdx.foldl (fun (s : State) x => s.setReg (Reg.CAM_ID0 n + 4 * x.2) x.1) s
      if w.helloFits n then
        let w := (w.setFld (Reg.CAM_RTT n) Fld.CAM_RTT_RTT (r.rtt + 20)).linkUp n
        w.setPort n { w.port n with adopting := true, strays := 0 }
      else s
    else s

/-- A PORTREC packet arrives (R494). -/
def State.takeRecord (s : State) (bs : List (BitVec 64)) : State :=
  if s.standbyRole then
    let n := pktField bs 12 1
    let r : PortRec := ⟨n, pktField bs 13 1, (List.range 6).map fun i => BitVec.ofNat 32 (pktField bs (16 + 4 * i) 4), pktField bs 40 2⟩
    if n < 12 then ({ s with red := { s.red with records := Store.set (fun _ => none) n (some r) s.red.records } }).shadowReady n else s
  else s

/-! ### Confirmation of runs (R495) -/

/-- A STATUS message arrives (R495, R502): it may confirm runs that wait, within 20 µs of their line's trigger. -/
def State.takeStatus (s : State) (d : BitVec 48) : State :=
  let v := d.toNat
  let p : PairStatus := ⟨s.now, bit v 5, v / 2 ^ 8 % 2 ^ 12, v / 2 ^ 20 % 2 ^ 28⟩
  let s := { s with red := { s.red with partner := some p } }
  let names (j : Int) : Bool := decide ((p.newest + 2 ^ 28 - unsignedOf 28 j) % 2 ^ 28 < 2 ^ 27)
  let fresh (r : Nat × Nat × Int × Nat) : Bool := decide (s.now ≤ r.2.2.2 + 20000000)
  let ok (r : Nat × Nat × Int × Nat) : Bool := fresh r && p.healthy && names r.2.2.1 && !bit p.badline r.2.1
  let hit := s.runsWaiting.filter ok
  let s := { s with runsWaiting := s.runsWaiting.filter fun r => fresh r && !ok r }
  hit.foldl (fun (s : State) r => s.breach r.1 r.2.1 none) s

/-! ### Roles -/

/-- A role change opens the take-over window (R495). -/
def State.openTakeover (s : State) : State :=
  { s.setFld Reg.RED_STATUS Fld.RED_STATUS_TKWIN 1 with red := { s.red with tkEnd := some (s.now + 30000000) } }

/-- The take-over window closes (R495). -/
def State.takeoverEnd (s : State) : State :=
  match s.red.tkEnd with
  | some e => if e ≤ s.now then { s.setFld Reg.RED_STATUS Fld.RED_STATUS_TKWIN 0 with red := { s.red with tkEnd := none } } else s
  | none => s

/-- The member has the active role from now on (R492, R506). -/
def State.becomeActive (s : State) : State :=
  let s := ((s.setFld Reg.RED_STATUS Fld.RED_STATUS_ROLEIN 1).setFld Reg.RED_STATUS Fld.RED_STATUS_SYNCED 0).openTakeover
  (s.loadSource (s.fld Reg.RED_CFG Fld.RED_CFG_TSRCACT)).hbUpdate

/-- The member is a standby from now on (R492, R507): under ROLEGATE pulses end (R116), HOST_RDY falls; it is in step with the new active until epochs say
otherwise. DEDUCED, log 119. -/
def State.becomeStandby (s : State) : State :=
  let s := (s.setFld Reg.RED_STATUS Fld.RED_STATUS_ROLEIN 0).setFld Reg.RED_STATUS Fld.RED_STATUS_SYNCED 1
  let s := (s.setFld Reg.RED_STATUS Fld.RED_STATUS_SOLO 0).openTakeover
  let s := if s.gated then s.cutPulses else s
  let s := { s with outPins := { s.outPins with hostRdy := false }, red := { s.red with writes := [], firstAt := none } }
  (s.loadSource (s.fld Reg.RED_CFG Fld.RED_CFG_TSRCSTBY)).hbUpdate

/-- Epochs of the partner that are not committed are discarded, and the member numbers its own on from the last committed one (R506). -/
def State.ownEpochs (s : State) : State :=
  let s := { s with red := { s.red with closed := s.red.closed.filter Epoch.done, num := s.lastCommit + 1, missed := 0 } }
  s.openEpoch s.newestLine []

/-- A pending swap is cancelled by a counted edge (R509). -/
def State.cancelSwap (s : State) : State :=
  if s.flag Reg.RED_STATUS Fld.RED_STATUS_SWAPPEND then (s.setFld Reg.RED_STATUS Fld.RED_STATUS_SWAPPEND 0).redNotice 5 else s

/-- The age of unreturned cards is measured anew, from the new active's resend (R493). -/
def State.forgetSent (s : State) (q : Nat) : State :=
  s.setQueue q { s.queue q with packets := (s.queue q).packets.map fun p => { p with sentAt := none } }

/-- Take over (R506). -/
def State.takeOver (s : State) : State :=
  let s := (((s.bump (Reg.RED_CNT 0)).redEvent 0).becomeActive).ownEpochs
  let s := { s with red := { s.red with resending := [0, 1, 2, 3], swapAt := none } }
  (List.range 4).foldl (fun (s : State) q => (s.forgetSent (60 + q)).rewfree (60 + q)) s

/-- Everything that is still to be sent is shadow-taken (R492, R507). -/
def State.shadowTakeAll (s : State) (q : Nat) : State :=
  ((s.queue q).packets.drop (s.queue q).sent).foldl (fun (s : State) _ => s.qTake q) s

/-- Give up the role (R507). DEDUCED, log 119. -/
def State.giveUp (s : State) : State :=
  let s := ((s.bump (Reg.RED_CNT 1)).redEvent 1).becomeStandby
  let s := { s with red := { s.red with closed := s.red.closed.filter Epoch.done, swapAt := none } }
  ((List.range 8).map (48 + ·) ++ (List.range 4).map (60 + ·)).foldl State.shadowTakeAll s

/-- A counted edge of ROLE (R491, R510). In a member that is not paired only the level counts, and one that it gates ends its pulses
(R116). -/
def State.roleEdge (s : State) (level : Bool) : State :=
  if s.pins.role == level then s
  else
    let s := ({ s with pins := { s.pins with role := level }, red := { s.red with level := level } }).twiAttn 4
    let rolein := s.flag Reg.RED_STATUS Fld.RED_STATUS_ROLEIN
    if !s.flag Reg.RED_CTRL Fld.RED_CTRL_EN then (if s.gated then s.cutPulses else s)
    else if !s.mode.active then s
    else if s.flag Reg.RED_STATUS Fld.RED_STATUS_PINMIS then
      if level == rolein then { s.setFld Reg.RED_STATUS Fld.RED_STATUS_PINMIS 0 with red := { s.red with misAt := none } } else s
    else
      let s := s.cancelSwap
      if level == rolein then s
      else if level then
        if s.flag Reg.RED_STATUS Fld.RED_STATUS_SYNCED then s.takeOver else s.redNotice 4
      else s.giveUp

/-- RED_CTRL.EN is written 1 (R491): ROLEIN takes the level of ROLE. -/
def State.redEnable (s : State) : State :=
  (s.setFld Reg.RED_STATUS Fld.RED_STATUS_ROLEIN (b2n s.pins.role)).hbUpdate

/-- Is SWAP accepted (R509): paired, active, not SOLO, a SYNCED partner, whose HB runs only while it is SYNCED (R504)? DEDUCED, log 117. -/
def State.swapAllowed (s : State) : Bool :=
  s.gathers && !s.flag Reg.RED_STATUS Fld.RED_STATUS_SOLO && s.partnerUp

/-- SWAP is written (R509). -/
def State.swapRequest (s : State) : State :=
  if s.swapAllowed then s.gather Reg.RED_CTRL 4#32 else s.redNotice 5

/-- The swap line's reference trigger (R509, R510). DEDUCED, log 120. -/
def State.swapLine (s : State) : State :=
  let w := s.getS64 Reg.RED_SWAP_LO
  if !s.flag Reg.RED_STATUS Fld.RED_STATUS_SWAPPEND || decide (s.newestLine < w) then s
  else
    let s := (s.setFld Reg.RED_STATUS Fld.RED_STATUS_SWAPPEND 0).bump (Reg.RED_CNT 4)
    let s := { s.redEvent 4 with red := { s.red with swapAt := some w } }
    let s := if s.flag Reg.RED_STATUS Fld.RED_STATUS_ROLEIN then s.becomeStandby else (s.becomeActive).ownEpochs
    if s.pins.role == s.flag Reg.RED_STATUS Fld.RED_STATUS_ROLEIN then s
    else { s.setFld Reg.RED_STATUS Fld.RED_STATUS_PINMIS 1 with red := { s.red with misAt := some s.now } }

/-- ROLE still disagrees 10 ms after a swap (R510). -/
def State.pinmisTimeout (s : State) : State :=
  match s.red.misAt with
  | some m =>
    if m + 10000000000 ≤ s.now && s.flag Reg.RED_STATUS Fld.RED_STATUS_PINMIS then
      (({ s with red := { s.red with misAt := none } }).redEvent 5).redNotice 6
    else s
  | none => s

/-- 250 µs after TWIN left READY (R499). -/
def State.syncedTimeout (s : State) : State :=
  match s.red.twinDown with
  | some d => if d + 250000000 ≤ s.now && s.standbyRole then s.clearSynced else s
  | none => s

/-! ### Joining (R503) -/

/-- The writes that bring one table of a correction unit to its live contents, through the table port. -/
def State.corrTableWrites (s : State) (p tsel phase n : Nat) : List (Nat × Word) :=
  [(Reg.CORR_TCTL p, BitVec.ofNat 32 (tsel + phase * 4 + 16)), (Reg.CORR_TIDX p, 0#32)]
    ++ (List.range n).map fun i => (Reg.CORR_TDATA p, BitVec.ofNat 32 (s.corrLive p tsel phase i))

/-- The writes of JOINTAB (R503): every pipeline's tables, the remap and the secondary table, and the seals. -/
def State.joinWrites (s : State) : List (Nat × Word) :=
  let pipe (p : Nat) : List (Nat × Word) :=
    let w := s.fld (Reg.CAM_WIDTH p) Fld.CAM_WIDTH_W
    ((List.range 4).flatMap fun ph => s.corrTableWrites p 0 ph w ++ s.corrTableWrites p 1 ph w)
      ++ s.corrTableWrites p 2 0 1025 ++ s.corrTableWrites p 3 0 w
  let rmp (tsel n : Nat) : List (Nat × Word) :=
    [(Reg.RMP_TCTL, BitVec.ofNat 32 (tsel + 16)), (Reg.RMP_TIDX, 0#32)] ++ (List.range n).map fun i => (Reg.RMP_TDATA, s.rmpLive tsel i)
  s.bound.flatMap pipe ++ rmp 0 s.ws ++ rmp 1 3584
    ++ s.bound.map (fun p => (Reg.CORR_TCTL p, 0x100#32)) ++ [(Reg.RMP_TCTL, 0x100#32)]

/-- Writes in packets of at most 4,096. -/
def packetsOf : Nat → List (Nat × Word) → List (List (Nat × Word))
  | 0, _ => []
  | n + 1, l => if l.isEmpty then [] else l.take 4096 :: packetsOf n (l.drop 4096)

/-- A JOINTAB packet (R501). -/
def joinTabPacket (epoch : Nat) (ws : List (Nat × Word)) : List Byte :=
  tqHead 3 epoch ++ leBytes 2 ws.length ++ leBytes 2 0 ++ writeRecords ws

/-- RED_CTRL.JOIN in the active (R503): the tables leave, and table ports and calibration are shut until the join ends. DEDUCED, log 114. -/
def State.join (s : State) : State :=
  if s.pairSends && !s.standbyRole && s.mode == .inspecting && !s.joinActive then
    let ws := s.joinWrites
    let s := { s with joinActive := true, red := { s.red with joinLine := none, joinEnd := none } }
    (packetsOf (ws.length / 4096 + 1) ws).foldl (fun (s : State) p => s.twinFrame s.red.num (joinTabPacket s.red.num p)) s
  else s

/-- The hand-over at a join line (R503): the slot that issues the switch's lacuna card is that of line J + L_c. -/
def State.joinSwitch (s : State) (j : Int) : State :=
  { s with red := { s.red with joinLine := some j, joinEnd := some (j + s.lag 0) } }

/-- The 128 bytes of a flood card in the making, all 0 where none is (R501); the card's header fields that it has not yet are 0. -/
def State.floodImage (s : State) (q : Nat) : List Byte :=
  match Store.get (fun _ => none) q s.card.floods with
  | none => leBytes 128 0
  | some a => withCrc (s.cardHead 3 31 a.c.flags q 0 0 ++ s.cardMark a.c a.cd ++ cardBody a.c ⟨0, 0xFF, 0, 0, 0, a.folded⟩)

/-- The line that a mark's count names. -/
def State.markLine (s : State) (m : LineMark) : Int := if s.pitchOk then s.lineAbove 12 (m.count + s.offsetOf 12) - 1 else 0

/-- A flood card in the making read from its image; PIECE, SEGID, XSUM and YSUM of a flood card are free anyway. -/
def State.readFlood (s : State) (b : List Byte) : Option FloodAcc :=
  let f (at_ n : Nat) : Nat := ofLeBytes ((b.drop at_).take n)
  if f 0 1 = 0 then none
  else
    let col0 : Int := signed 32 (f 52 4)
    let cd := signed 32 (f 24 4)
    let cd0 := signed 32 (unsignedOf 32 (cd - (s.cdOf (col0 - (s.fld Reg.SEG_COLBASE Fld.SEG_COLBASE_V : Int)) - s.cdOf 0)))
    let mark : LineMark := ⟨signed 64 (f 16 8), signed 48 (f 28 6), (f 38 6 * 1000000000 + f 34 4) * 2 ^ 40, cd0⟩
    let first := s.markLine mark
    some ⟨{ typ := 1, tag := 0, segid := 0, piece := 0, flags := f 2 2, closing := first, due := 0, replay := none, east := false, west := false
            f := { first := first, last := first + f 48 4 - 1, area := f 44 4, col0 := col0, east := col0 + f 56 4 - 1, vsum := f 60 6
                   vsq := f 66 8, vmin := f 74 2, vmax := f 76 2, xsum := f 78 8, ysum := f 86 8, runs := f 94 4
                   hist := (List.range 4).map fun i => f (98 + 2 * i) 2, sat := bit (f 2 2) 8, mark := mark } }, f 118 4, cd⟩

/-- The JOINSTATE packet (R501). -/
def State.joinState (s : State) : List Byte :=
  tqHead 5 s.red.num ++ (List.range 4).flatMap (fun q =>
    leBytes 6 (s.nextSeq q) ++ leBytes 2 (s.fld (Reg.CARD_BUCKET q) Fld.CARD_BUCKET_CARDS)
      ++ leBytes 1 (s.fld (Reg.CARD_BUCKET q) Fld.CARD_BUCKET_CROPS) ++ leBytes 7 0)
    ++ leBytes 4 s.seg.serial ++ leBytes 4 s.card.cropSerial ++ (List.range 4).flatMap s.floodImage

/-- The queues and the state leave at the end of the slot that issues the lacuna card (R503): the join ends in the active, which leaves
SOLO; epochs are numbered from 0 (R497). DEDUCED, log 114. -/
def State.joinSend (s : State) (line : Int) : State :=
  if s.joinActive && decide (s.red.joinEnd = some line) then
    let s := (List.range 4).foldl (fun (s : State) q =>
      (s.queueContents (60 + q)).foldl (fun (s : State) b =>
        s.twinFrame s.red.num (tqHead 4 s.red.num ++ leBytes 1 (60 + q) ++ leBytes 3 0 ++ b)) s) s
    let s := s.twinFrame s.red.num s.joinState
    let s := { s with joinActive := false, red := { s.red with joinLine := none, joinEnd := none, num := 0, missed := 0 } }
    s.setFld Reg.RED_STATUS Fld.RED_STATUS_SOLO 0
  else s

/-- The join fails in the joiner (R503): a Notice, and Halted at the next line boundary. DEDUCED, log 115. -/
def State.joinFailed (s : State) : State :=
  let s := (s.setFld Reg.RED_STATUS Fld.RED_STATUS_JOINING 0).redNotice 9
  if s.mode == .inspecting then { s with err := { s.err with breaches := s.err.breaches ++ [⟨0, 0, none, false, s.now⟩] } } else s

/-- The checks of a joiner at its hand-over (R503): lines processed before J, and the seals of JOINTAB. -/
def State.joinChecks (s : State) (j : Int) : State :=
  if !s.joining then s
  else
    let deepest := (s.bound.map s.delayOf).foldl max 0
    let shut := (List.range 12).any (fun p => s.flag (Reg.CORR_STATUS p) Fld.CORR_STATUS_SEALED) || s.flag Reg.RMP_TCTL Fld.RMP_TCTL_SEALED
    let s := s.joinSwitch j
    if s.red.joinLines < deepest + 1 || shut then s.joinFailed else s

/-- The end of a slot in a joiner (R503): a line more has been processed, and the packets must have come by the slot of J + 2 × EL. -/
def State.joinSlotEnd (s : State) (line : Int) : State :=
  if !s.joining then s
  else
    let s := { s with red := { s.red with joinLines := s.red.joinLines + 1 } }
    match s.red.joinLine with
    | some j => if j + 2 * (s.effectLag : Int) ≤ line then s.joinFailed else s
    | none => s

/-- A JOINCQ packet arrives at the joiner (R503): its queue's own contents go with the first one, and the packet takes its place. -/
def State.takeJoinCq (s : State) (bs : List (BitVec 64)) (len : Nat) : State :=
  let q := pktField bs 12 1
  if !s.joining || decide (q < 60 ∨ 63 < q) then s
  else
    let s := if s.red.joinGot.contains q then s
      else
        let s := { s with red := { s.red with joinGot := s.red.joinGot ++ [q] } }
        let h := s.queue q
        let s := (s.setNum (Reg.Q_RPTR q) (s.num (Reg.Q_WPTR q))).setNum (Reg.Q_FPTR q) (s.num (Reg.Q_WPTR q))
        s.setQueue q { h with packets := [], sent := 0, part := 0, bm := none }
    let b := ((blockBytes bs).drop 16).take len
    let kind := if ofLeBytes (b.take 1) = 0x10 then 2 else 1
    let key := ofLeBytes ((b.drop 6).take 6)
    if s.qFits q b.length then s.qCommit q b key kind none else s.joinFailed

/-- The JOINSTATE packet arrives at the joiner (R503): numbers, tokens, serials and flood cards are loaded; the joiner is in step, and
builds the cards that it held. `digest` is the active's live digest. -/
def State.takeJoinState (s : State) (bs : List (BitVec 64)) (digest : Nat) : State :=
  if !s.joining then s
  else if digest ≠ s.num Reg.ACC_LIVEDIG then s.joinFailed
  else
    let b := blockBytes bs
    let s := (List.range 4).foldl (fun (s : State) q =>
      let s := s.set64 (Reg.CARD_NEXTSEQ_LO q) (pktField bs (12 + 16 * q) 6)
      { s with card := { s.card with
        cards := Store.set (fun _ => 0) q (pktField bs (18 + 16 * q) 2 * tokenUnit) s.card.cards
        crops := Store.set (fun _ => 0) q (pktField bs (20 + 16 * q) 1 * tokenUnit) s.card.crops
        floods := Store.set (fun _ => none) q (s.readFlood ((b.drop (84 + 128 * q)).take 128)) s.card.floods } }) s
    let s := { s with
      seg := { s.seg with serial := pktField bs 76 4 }, card := { s.card with cropSerial := pktField bs 80 4 } }
    let s := (s.setFld Reg.RED_STATUS Fld.RED_STATUS_JOINING 0).setFld Reg.RED_STATUS Fld.RED_STATUS_SYNCED 1
    let held := s.red.joinCards
    let s := { s with red := { s.red with joinCards := [], joinGot := [], joinLine := none, joinEnd := none, twinDown := none } }
    ((held.foldl State.buildCards s).showBuckets).hbUpdate

/-- A paired standby that enters Inspecting joins (R503); the active's first epoch opens (R497). DEDUCED, log 116. -/
def State.pairEntry (s : State) (j : Int) : State :=
  if !s.flag Reg.RED_CTRL Fld.RED_CTRL_EN then s
  else if s.standbyRole then
    let s := (s.setFld Reg.RED_STATUS Fld.RED_STATUS_JOINING 1).setFld Reg.RED_STATUS Fld.RED_STATUS_SYNCED 0
    { s with red := { s.red with joinLine := none, joinEnd := none, joinGot := [], joinLines := 0, joinCards := [] } }
  else s.openEpoch (j - 1) []

/-! ### What every command leaves consistent -/

/-- A calibration run ends with ABORTED when the module changes state, with LINK when its link leaves READY (R135), with STATE when a
JOIN begins (R503). DEDUCED, log 64. -/
def State.calWatch (s before : State) : State :=
  match before.calRun, s.calRun with
  | some a, some b =>
    if a.startAt ≠ b.startAt then s
    else if before.mode != s.mode then s.calEnd 3 0
    else if s.joinActive && !before.joinActive then s.calEnd 6 0
    else if a.kind ≤ 5 && before.linkReady a.target && !s.linkReady a.target then s.calEnd 2 0
    else s
  | _, _ => s

/-- TQ packets that TWIN has not taken leave when it reaches READY (R501, R502). -/
def State.twinFlush (s : State) : State :=
  ((s.queue 59).packets.drop (s.queue 59).sent).foldl (fun (s : State) p => (s.twinFrame p.key (s.qHeadBytes 59)).qTake 59) s

/-- After a command: TQ packets that waited for TWIN leave (R502), port records of ports that have reached or left READY leave (R501), a standby's waiting ports see their records
(R494), a calibration run may end, an unreserved relay starts or stops (R395), and HB follows its condition (R504). DESIGN CHOICE, log 10. DEDUCED, log 41. -/
def State.settle (s before : State) : State :=
  let moved := (List.range 12).filter fun n => s.camBound n && (before.linkReady n != s.linkReady n)
  let all := !before.twinReady && s.twinReady
  let s := if all then s.twinFlush else s
  let s := if moved.isEmpty && !all then s else s.sendRecords (if all then (List.range 12).filter s.camBound else moved)
  let s := if s.standbyRole then (List.range 12).foldl State.shadowReady s else s
  ((s.calWatch before).relayWatch).hbUpdate

end Sys2Proof.Machine
end

