-- ==== Sys2Proof/Machine/Power.lean ====
section
/-! DEFINITION. Power, starting and the operating states (21_power_start.md), and with them how an inspection is halted, stopped,
restarted and entered (09_accession.md R237, R253; 19_errors.md R477 to R483). -/

namespace Sys2Proof.Machine

/-! ### Halting and stopping an inspection -/

/-- Cards of what ends on a live output line: TAINTED where a flagged line reaches them (R87), then the card builder (R276). DEDUCED, log 24. -/
def State.issueCards (s : State) (cs : List ClosedSeg) : State :=
  s.buildCards (cs.map fun c => if s.tainted (s.lag 0) c then { c with flags := Nat.lor c.flags flTainted } else c)

/-- The breaches and errors that take effect at the boundary of line `k` (R253): those that name a line not above it, and those without a line
that arose before its reference trigger. -/
def State.dueBreaches (s : State) (k : Int) : List Breach :=
  let at_ := match s.trg.lastRef with
    | some (l, t) => if l = k then t else s.now
    | none => s.now
  s.err.breaches.filter fun b =>
    match b.line with
    | none => decide (b.at_ < at_)
    | some l => decide (l ≤ k)

/-- The breaches of their own among some, in ascending order of code; of one that arose for several units in one cycle, the lowest
unit's (R254, R476). -/
def ownBreaches (l : List Breach) : List Breach :=
  let own := sortBy (fun a b => decide (a.code < b.code ∨ (a.code = b.code ∧ a.unit ≤ b.unit))) (l.filter Breach.own)
  own.foldl (fun (m : List Breach) b => if m.any fun x => decide (x.code = b.code ∧ x.at_ = b.at_) then m else m ++ [b]) []

/-- ACC_BREACH and ACC_BRLINE become those of a breach at the boundary of line `k` (R253, R254, R469). -/
def State.showBreach (s : State) (code unit : Nat) (k : Int) : State :=
  let s := s.setFld Reg.ACC_BREACH Fld.ACC_BREACH_CODE code
  let s := s.setFld Reg.ACC_BREACH Fld.ACC_BREACH_UNIT unit
  s.setS64 Reg.ACC_BRLINE_LO k

/-- What a breach records (R253, R476): every breach of its own is an entry of class H, the first not nested. -/
def State.recordBreaches (s : State) (l : List Breach) : State :=
  l.foldl (fun (s : State) b =>
    (s.logEntry 0x0502 1 0xFF (BitVec.ofNat 32 (b.code + b.unit * 2 ^ 8))).setFld Reg.ERR_STATUS Fld.ERR_STATUS_HALTING 1) s

/-- The segments and parts that are open when an inspection ends at the boundary of line `k` (R477): each closes with line k − L_c
and CUTOFF; edge segments and merges that still wait carry SEAMCUT. DEDUCED, log 44. -/
def State.cutSegments (s : State) (closing : Int) (due : Nat) : State :=
  let n := (s.strip 0).length
  let own := (s.strip 0).map fun g =>
    g.close (Nat.lor (if g.ended then 0 else flCutoff) (if g.edge then Nat.lor flSeamcut flCutoff else 0)) closing due 0
  let pool := own ++ s.seg.held.map fun c => if c.east then { c with flags := Nat.lor c.flags (Nat.lor flSeamcut flCutoff) } else c
  let sets := s.seg.parts.foldl addMerged []
  let alone := (pool.filter fun c => !(sets.any fun m => m.own.contains c.tag)).map fun c =>
    if own.contains c then c else { c with flags := Nat.lor c.flags flSeamcut }
  let build (w : Nat × List ClosedSeg) (m : Merged) : Nat × List ClosedSeg :=
    let mine := pool.filter fun c => m.own.contains c.tag
    match mine ++ m.parts.filterMap WestPart.group with
    | c :: rest =>
      let earlier := ((mine.head?).map ClosedSeg.segid) <|> m.parts.findSome? WestPart.segid
      let x := combine ((m.parts.map WestPart.shared).sum) (earlier.getD w.1) c rest
      (if earlier.isSome then w.1 else (w.1 + 1) % 2 ^ 32, w.2 ++ [{ x with
        flags := Nat.lor x.flags (if m.parts.all fun p => p.group.isSome then 0 else flSeamcut), closing := closing, due := due }])
    | [] => w
  let (serial, merged) := sets.foldl build (s.seg.serial, [])
  let cards := sortBy closesBefore (alone ++ merged)
  let s := { s.setStrip 0 [] with seg := { (s.setStrip 0 []).seg with
    held := [], parts := [], owed := [], contacts := [], col0 := [], times := [], westLast := none, got := [], cutTags := []
    serial := serial
    lastOut := Store.set (fun _ => none) 0 none s.seg.lastOut } }
  let s := (s.bumpBy (Reg.SEG_CNT 0) n).showLive
  let s := s.issueCards cards
  { s with seg := { s.seg with taints := [] } }

/-- Halting or stopping an inspection completes (R475, R477): the last slot has ended and what was open has closed. DEDUCED, log 44. DEDUCED, log 80. -/
def State.finishHalt (s : State) : State :=
  match s.err.boundary with
  | none => s
  | some k =>
    if s.mode == .inspecting then s
    else
      let due := s.err.haltAt + s.dtime
      let s := (s.cutSegments (k - s.lag 0) due).floodCards (k - s.lag 0) due
      let s := (List.range 12).foldl (fun (s : State) e => s.setRunning e false) s
      let s := (List.range 3).foldl (fun (s : State) i => s.setFld Reg.PWR_GATE ⟨16 + i, 1⟩ 0) s
      let s := s.setFld Reg.ERR_STATUS Fld.ERR_STATUS_HALTING 0
      { s with slots := [], err := { s.err with boundary := none }, stitch := { s.stitch with cur := none, frames := [] } }

/-- The last slot before the boundary may have ended. -/
def State.finishIfDone (s : State) : State := if s.slots.isEmpty then s.finishHalt else s

/-- Inspection ends at the boundary of line `k` (R253, R525): the module leaves Inspecting, HB and HOST_RDY drop, an armed switch is
cleared (R238), replays end HALTED (R329), crops become ready (R331). -/
def State.leaveInspecting (s : State) (k : Int) (to_ : Mode) : State :=
  let s := ((((s.setMode to_).dropReady).switchCancel).cropsHalt).replaysCut 6
  let s := { s with err := { s.err with breaches := [], stopReq := false, haltLine := some k, haltAt := s.now } }
  s.finishIfDone

/-- A breach takes effect (R253, R476). DEDUCED, log 42. -/
def State.takeBreach (s : State) : State :=
  match s.err.boundary with
  | none => s
  | some k =>
    let l := s.dueBreaches k
    if s.mode != .inspecting || l.isEmpty then s
    else
      let own := ownBreaches l
      let s := match own, l.any fun b => !b.own with
        | b :: _, false => s.showBreach b.code b.unit k
        | _, _ => s.showBreach 0 0 k
      let s := (s.recordBreaches own).ohtAttn 3
      let s := s.setFld Reg.ERR_STATUS Fld.ERR_STATUS_FROMINSP 1
      let s := if s.err.stopReq then
          ((s.setFld Reg.PWR_STATUS Fld.PWR_STATUS_REQRES 9).setFld Reg.PWR_STATUS Fld.PWR_STATUS_BUSY 0).setFld
            Reg.PWR_STATUS Fld.PWR_STATUS_TARGET 0
        else s
      s.leaveInspecting k .halted

/-- A request ends: REQRES, and no transition is in progress. -/
def State.endRequest (s : State) (res : Nat) : State :=
  let s := s.setFld Reg.PWR_STATUS Fld.PWR_STATUS_REQRES res
  let s := s.setFld Reg.PWR_STATUS Fld.PWR_STATUS_BUSY 0
  let s := s.setFld Reg.PWR_STATUS Fld.PWR_STATUS_WAITTRIG 0
  { s.setFld Reg.PWR_STATUS Fld.PWR_STATUS_TARGET 0 with pwr := { s.pwr with prep := none } }

/-- A requested stop takes effect (R525), where no breach takes effect at the same boundary. -/
def State.inspectionStop (s : State) : State :=
  match s.err.boundary with
  | none => s
  | some k =>
    if s.mode != .inspecting || !s.err.stopReq || !(s.dueBreaches k).isEmpty then s
    else (s.endRequest 0).leaveInspecting k .poised

/-! ### Starting and restarting an inspection -/

/-- The checks of R522, which a restart shares in part: links, chain, temperature of the collection `w` that is to run. -/
def State.portsDown (s w : State) : Bool :=
  w.bound.any (fun n => !s.linkReady n)
    || ([12, 13] : List Nat).any fun m => w.flag (Reg.CAM_CTRL m) Fld.CAM_CTRL_EN && !s.linkReady m

/-- Is the seam chain not joint (R237)? -/
def State.chainDown (s w : State) : Bool := decide (1 < w.members) && !s.flag Reg.ACC_STATUS Fld.ACC_STATUS_JOINT

/-- Is the junction at 100 °C or above (R522)? -/
def State.tooHot (s : State) : Bool := decide (100 ≤ signed 8 (s.fld Reg.PWR_TEMP Fld.PWR_TEMP_TJ))

/-- Is the staged collection accepted? -/
def State.accepted (s : State) : Bool := decide (s.fld Reg.ACC_STATUS Fld.ACC_STATUS_SSTATE = 2)

/-- The collection that a start from Poised, or a restart, would run (R198, R237). -/
def State.toRun (s : State) (start : Bool) : State := if s.accepted then s.wouldBe start else s

/-- The first check of R522 that fails, 0 for none. -/
def State.inspectFault (s : State) : Nat :=
  let w := s.toRun true
  if !s.accepted && !s.live then 2
  else if s.portsDown w then 3
  else if s.chainDown w then 4
  else if !s.memcServes || decide ((if s.accepted then s.acc.stagedRate else s.acc.liveRate) ≠ s.memc.rate) then 5
  else if s.tooHot then 6
  else 0

/-- REQ = INSPECT in Poised (R522); `prep` is how long checks and preparation take, in ns. -/
def State.requestInspect (s : State) (prep : Nat) : State :=
  let r := s.inspectFault
  if r ≠ 0 then (if r = 4 then s.armMismatch else s).setFld Reg.PWR_STATUS Fld.PWR_STATUS_REQRES r
  else
    let s := ((s.finishHalt).memcRequest).allocatePool true
    let s := s.setFld Reg.PWR_STATUS Fld.PWR_STATUS_REQRES 0
    let s := (s.setFld Reg.PWR_STATUS Fld.PWR_STATUS_BUSY 1).setFld Reg.PWR_STATUS Fld.PWR_STATUS_TARGET 3
    let s := s.setNum Reg.PWR_TINSP prep
    { s with pwr := { s.pwr with prep := some (s.now + 1000 * prep) } }

/-- The restart's lacuna card (R481, R482): the lines from the boundary on, or from the first card refused. -/
def State.restartLacuna (s : State) (gaps : Store (Nat × Nat)) : State :=
  match s.err.haltLine with
  | none => s
  | some k =>
    let first := k - s.lag 0
    let l : Lacuna := match s.card.refusedFirst with
      | some (f, m) => if f < first then ⟨2, f, some m, gaps⟩ else ⟨2, first, none, gaps⟩
      | none => ⟨2, first, none, gaps⟩
    { s with card := { s.card with lacuna := some l } }

/-- What the releases of R482 free in a circulation queue: the packets through the last card taken. -/
def State.discardable (s : State) (q : Nat) : List QPacket :=
  if s.flag Reg.ERR_CTRL Fld.ERR_CTRL_DISCARD then
    releasable (s.queue (60 + q)).lastTaken (s.queue (60 + q)).sent (s.queue (60 + q)).packets
  else []

/-- The first check of R480 that fails, 0 for none. -/
def State.restartFault (s : State) : Nat :=
  let w := s.toRun false
  if s.mode != .halted then 1
  else if s.portsDown w then 2
  else if w.routedQueues.any fun q => decide (s.qFree (60 + q) + unitsOfAll (s.discardable q) < 4096) then 3
  else if s.chainDown w then 4
  else if !s.memcServes then 5
  else if s.tooHot then 6
  else 0

/-- What firmware does with a circulation queue at a restart (R482): the refusal latch, releases, REWFREE. Answers GAPSEQ and GAPCOUNT. DEDUCED, log 45. -/
def State.restartQueue (s : State) (q : Nat) : State × Nat × Nat :=
  let ps := s.discardable q
  let cards := ps.filter fun p => decide (p.kind = 1)
  let s := s.setQueue (60 + q) { s.queue (60 + q) with refused := false }
  let s := if ps.isEmpty then s else s.qRelease (60 + q) (s.queue (60 + q)).lastTaken
  ((s.qShow (60 + q)).rewfree (60 + q), ((cards.head?).map QPacket.key).getD 0, cards.length)

/-- ERR_CTRL.RESTART (R480 to R482); `prep` is how long the checks take, in ns. DEDUCED, log 45. -/
def State.restart (s : State) (prep : Nat) : State :=
  let r := if s.flag Reg.PWR_STATUS Fld.PWR_STATUS_BUSY then 1 else s.restartFault
  let s := s.setFld Reg.ERR_CTRL Fld.ERR_CTRL_RSTRES r
  if r ≠ 0 then (if r = 4 then s.armMismatch else s)
  else
    let s := s.finishHalt
    let (s, gaps) := (List.range 4).foldl (fun (w : State × Store (Nat × Nat)) q =>
      let (s, g) := w.1.restartQueue q
      (s, Store.set (fun _ => (0, 0)) q g w.2)) (s, [])
    let s := if s.flag Reg.ERR_STATUS Fld.ERR_STATUS_FROMINSP then s.restartLacuna gaps else s
    let s := s.allocatePool false
    let s := (s.setFld Reg.PWR_STATUS Fld.PWR_STATUS_BUSY 1).setFld Reg.PWR_STATUS Fld.PWR_STATUS_TARGET 3
    { s with err := { s.err with restarting := true }, pwr := { s.pwr with prep := some (s.now + 1000 * prep) } }

/-- Card numbering begins with 1 at the first entry to Inspecting (R280). -/
def State.firstNumbers (s : State) : State :=
  (List.range 4).foldl (fun (s : State) q => if s.nextSeq q = 0 then s.set64 (Reg.CARD_NEXTSEQ_LO q) 1 else s) s

/-- The stacks of the collection that runs (R317, R323): rows stay held while the layout does, and are lost with another one. -/
def State.takeLayout (s : State) (place : Bool) : State :=
  let keep := decide (s.stk.layout = s.stacksLayout)
  let n := if place || !keep then s.placeGddr keep else s
  if keep then n else { n.stacksLose with stk := { n.stacksLose.stk with layout := n.stacksLayout } }

/-- The collection that runs is chosen and allocated (R237): an accepted staged set becomes live, and its DIGEST messages leave (R241); at a
start from Poised L_c may fall (R198). The collection that runs again shows the digest of its values as they stand (R240). -/
def State.chooseCollection (s : State) (start : Bool) : State :=
  if s.accepted then
    let s := if s.acc.pool.isSome then s else s.allocatePool start
    let n := s.makeLive start
    (({ n with acc := { n.acc with pool := none } } : State).takeLayout true).sendDigests
  else
    let s := ({ s with acc := { s.acc with pool := none } } : State).takeLayout false
    ((s.setNum Reg.ACC_LIVEDIG (s.digest (s.lag 0) s.acc.livePhases)).noteDiffer 12).noteDiffer 13

/-- The module enters Inspecting at the first reference trigger after the preparation or the checks (R191, R237, R256, R278, R305, R402, R429,
R480, R522): the collection is chosen, rings are emptied, line stores emptied (R151), buckets filled, runs of lost lines forgotten, SEG_PEAK 0 (R292), the profile takes a sync at the first
line. DEDUCED, log 47. -/
def State.inspectEntry (s : State) : State :=
  match s.slots with
  | [] => s
  | sl :: _ =>
    if !s.flag Reg.PWR_STATUS Fld.PWR_STATUS_WAITTRIG || s.mode.allOn == false then s
    else
      let start := !s.err.restarting
      let s := { s with slots := [], err := { s.err with breaches := [], stopReq := false, boundary := none, restarting := false, haltLine := none } }
      let s := ((s.endRequest 0).chooseCollection start).firstNumbers
      let s := (List.range 16).foldl (fun (s : State) e =>
        let s := (s.emptyRing e).engineLive e
        if s.engineRuns e && decide (e < 12) then s
        else (s.setEngine e { s.engine e with warm := 0 }).setFld (Reg.FOLIO_STATUS e) Fld.FOLIO_STATUS_WARMUP 0) s
      let s := (((s.setMode .inspecting).memcInspect).fillBuckets).setFld Reg.ERR_STATUS Fld.ERR_STATUS_FROMINSP 0
      let s := s.showBreach 0 0 0
      let s := (List.range 12).foldl (fun (s : State) n =>
        (s.setFld (Reg.CAM_TSEQ n) Fld.CAM_TSEQ_LATERUN 0).setFld (Reg.CAM_TSEQ n) Fld.CAM_TSEQ_BADRUN 0) s
      let s := s.setFld Reg.SEG_PEAK Fld.SEG_PEAK_COUNT 0
      let s := { s with
        runsWaiting := [], prof := { s.prof with atNext := true, samples := [] }
        card := { s.card with refusedFirst := none }, stitch := { s.stitch with cur := none, lines := [] }
        slots := [{ sl with regs := s.regs }] }
      let s := if s.standbyRole then s else { s with outPins := { s.outPins with hostRdy := true } }
      (s.showPending.pairEntry sl.line).hbUpdate

/-! ### Standby, Off and failed starts -/

/-- Registers that Standby keeps (R526): those of the AO blocks, the card numbers, and OHT_ATTN, whose bits are held in the AO domain
(R403). DEDUCED, log 30. -/
def keptInStandby (a : Nat) : Bool :=
  (match blockAt a with
    | some (b, _) => isAo b
    | none => false) || decide (a = Reg.OHT_ATTN) || decide (Reg.CARD_NEXTSEQ_LO 0 ≤ a ∧ a < Reg.CARD_NEXTSEQ_LO 3 + 8)

/-- Everything that the main domains hold takes its reset value (R526); the AO domain, the pins, the next row number and the next SEQ of notices (R321,
R386, DEDUCED, log 139) and what the model records stay. DEDUCED, log 30. -/
def State.mainReset (s : State) : State :=
  { State.reset with
    pending := s.pending, now := s.now, mode := s.mode, regs := s.regs.filter fun e => keptInStandby e.1
    captured := s.captured.filter fun e => decide (e.1 / 2 ^ 24 = pathKey .twi), held := s.held.filter fun e => decide (e.1 / 2 ^ 24 = pathKey .twi)
    pins := s.pins, outPins := s.outPins, out := s.out, fresh := s.fresh, evrQ := s.evrQ, evr := s.evr
    err := { State.reset.err with nextSlot := s.err.nextSlot }, t40 := s.t40, pos := s.pos, time := s.time, pwr := s.pwr
    stk := { State.reset.stk with next := s.stk.next }, host := { State.reset.host with noticeSeq := s.host.noticeSeq }
    twi := s.twi, jtag := s.jtag }

/-- The rails that a state needs (R514), by the bits of PWR_RAILS. -/
def State.neededRails (s : State) : Nat := if s.mode.allOn then 0x7F else if s.mode.powered then 1 else 0

/-- Rails in regulation, and PG (R515). -/
def State.railsUp (s : State) : State :=
  { s.setFld Reg.PWR_RAILS Fld.PWR_RAILS_RAILS s.neededRails with
    outPins := { s.outPins with pg := true }, pwr := { s.pwr with railOut := none } }

/-- The module enters Standby (R519, R526): pulses end, HB and HOST_RDY drop, training values are saved, links and held rows are lost (R323). -/
def State.toStandby (s : State) : State :=
  let up := s.flag Reg.TWI_SUM Fld.TWI_SUM_LINKUP
  let s := if s.mode.allOn then { s with pwr := { s.pwr with saved := s.training, retained := s.flag Reg.PWR_CTRL Fld.PWR_CTRL_RETAIN } } else s
  let pend := s.trainPending
  let s := (((s.cutPulses.dropReady).setMode .standby).mainReset).stacksLose
  let s := s.setPendingTraining pend
  let s := { s with pwr := { s.pwr with bootWait := none, go := none, prep := none } }
  let s := if up then (s.setFld Reg.TWI_SUM Fld.TWI_SUM_LINKUP 0).twiAttn 6 else s
  ((s.timeStandby false).ptpStart).railsUp

/-- The position inputs with nothing but the levels of their pins, which the decoders take as their state at the next entry from Off
or RESET_N release (R95). -/
def pinLevels (m : Store PosIn) : Store PosIn :=
  m.foldl (fun r e => Store.set posIn0 e.1 { posIn0 e.1 with a := e.2.a, b := e.2.b, z := e.2.z } r) []

/-- The module enters Off, or reset (R515, R516): everything is lost, every output is released. -/
def State.toOff (s : State) (m : Mode) : State :=
  ({ State.reset with
    pending := s.pending, now := s.now, mode := m, pins := s.pins, out := s.out, fresh := s.fresh, pos := pinLevels s.pos
    pwr := { State.reset.pwr with offHeld := s.pwr.offHeld, enLowAt := s.pwr.enLowAt, refclk := s.pwr.refclk, vio33 := s.pwr.vio33 } }).emit .released

/-- REQ = OFF takes effect (R521). -/
def State.powerOff (s : State) : State := { (s.toOff .off) with pwr := { (s.toOff .off).pwr with offHeld := true } }

/-- Does a circulation queue hold a packet (R524)? -/
def State.holdsCards (s : State) : Bool := (List.range 4).any fun q => !(s.queue (60 + q)).packets.isEmpty

/-- The check of R524 for Standby and Off: what follows when it passes. -/
def State.unlessCards (s : State) (f : State → State) : State :=
  if !s.holdsCards then f s
  else if s.flag Reg.PWR_CTRL Fld.PWR_CTRL_FORCE then f (s.hwSet Reg.PWR_CAUSE 5)
  else s.setFld Reg.PWR_STATUS Fld.PWR_STATUS_REQRES 7

/-- A start fails (R537, R538): Standby with PG high, STARTRES, STARTFAIL, TWI_ATTN bit 3, FAILS. DEDUCED, log 28. DEDUCED, log 40. -/
def State.startFailed (s : State) (cause : Nat) : State :=
  let s := (s.toStandby).endRequest (s.fld Reg.PWR_STATUS Fld.PWR_STATUS_REQRES)
  let s := s.setFld Reg.PWR_STATUS Fld.PWR_STATUS_STARTRES cause
  let s := s.setFld Reg.PWR_STATUS Fld.PWR_STATUS_FAILS (min 3 (s.fld Reg.PWR_STATUS Fld.PWR_STATUS_FAILS + 1))
  let s := (s.hwSet Reg.PWR_CAUSE 4).twiAttn 3
  { s with pwr := { s.pwr with retained := false } }

/-! ### Cold starts and warm resumes -/

/-- The first check of R534 that an image fails, as a STARTRES code; 0 for none. -/
def imageFault (im : FwImage) : Nat :=
  if im.magic ≠ 0x4F4C5846 ∨ im.stepping ≠ 0xB0 ∨ im.length < 1 ∨ 6290944 < im.length ∨ !im.zeros then 3
  else if im.digest ≠ (List.range 12).map Config.keyDigest then 4
  else if im.version < Config.fwMin.toNat then 5
  else if !im.signed then 6
  else 0

/-- The slot that boots with its image, or the failure of slot B (R534, R537). -/
def pickImage (run : StartRun) : Sum (Nat × FwImage) Nat :=
  let b : Sum (Nat × FwImage) Nat := match run.slotB with
    | none => .inr 2
    | some im => if imageFault im = 0 then .inl (1, im) else .inr (imageFault im)
  match run.slotA with
  | some im => if imageFault im = 0 then .inl (0, im) else b
  | none => b

/-- The GDDR6 training of a start ends (R434, R529, R535); a warm resume checks the saved values. -/
def State.startMemory (s : State) (run : StartRun) (warm : Bool) : State :=
  let s := s.startTraining false
  let s := if warm then { s with memc := { s.memc with train := 2 } } else s
  s.trained run.memFails run.memWords

/-- A start reaches Poised (R529, R535, R537): firmware runs, both host ports are enabled; a warm resume keeps image and version. -/
def State.startDone (s : State) (run : StartRun) (image : Option (Nat × FwImage)) : State :=
  let s := { s with pwr := { s.pwr with bootWait := none, go := none } }
  let warm := image.isNone
  let s := (s.setMode .poised).startMemory run warm
  let s := match image with
    | some (slot, im) =>
      let s := (s.setFld Reg.SYS_BOOT Fld.SYS_BOOT_SLOT slot).setNum Reg.SYS_FWVER im.version
      let s := s.setFld (Reg.HOST_CTRL 0) Fld.HOST_CTRL_MODE (im.hmode % 4)
      s.setFld (Reg.HOST_CTRL 1) Fld.HOST_CTRL_MODE (im.hmode / 4 % 4)
    | none => s
  let s := (s.setFld (Reg.HOST_CTRL 0) Fld.HOST_CTRL_EN 1).setFld (Reg.HOST_CTRL 1) Fld.HOST_CTRL_EN 1
  let s := s.setFld Reg.SYS_BOOT Fld.SYS_BOOT_WARM (b2n warm)
  let s := s.endRequest 0
  let s := (s.setFld Reg.PWR_STATUS Fld.PWR_STATUS_STARTRES 0).setFld Reg.PWR_STATUS Fld.PWR_STATUS_FAILS 0
  let s := s.setNum Reg.PWR_TSTART ((s.now - s.pwr.startAt) / 1000000)
  let s := { s with pwr := { s.pwr with onAt := s.now } }
  ((s.railsUp).timeStandby true).ptpStart.armCameras

/-- The last stages of a start whose image is known (R529): training, then firmware. -/
def State.startEnd (s : State) (run : StartRun) (image : Option (Nat × FwImage)) : State :=
  if !run.memOk then s.startFailed 8 else if !run.fwOk then s.startFailed 9 else s.startDone run image

/-- Stages 2 to 6 from flash (R529, R534, R535), or the stages up to the boot stage of a host boot (R532). -/
def State.mainStages (s : State) (run : StartRun) : State :=
  if !run.pll then s.startFailed 1
  else if s.pwr.retained && run.scrub then s.startEnd run none
  else
    let b := s.pins.boot
    if b = 1 ∨ b = 2 then
      let s := s.setFld (Reg.HOST_CTRL (b - 1)) Fld.HOST_CTRL_EN 1
      let s := s.setFld (Reg.HOST_CTRL (b - 1)) Fld.HOST_CTRL_MODE 0
      { s with pwr := { s.pwr with bootWait := some s.now, bootPort := b - 1 } }
    else match pickImage run with
      | .inl im => s.startEnd run (some im)
      | .inr cause => s.startFailed cause

/-- At an entry from Off the module senses VIO and sets the levels of the VIO bank (R544). -/
def State.senseVio (s : State) (v33 : Bool) : State := if s.mode == .inReset then s else { s with pwr := { s.pwr with vio33 := v33 } }

/-- Stage 1 of a cold start (R452, R529): pins sampled, ledger empty, Standby reached. -/
def State.firstStage (s : State) (boot twAddr : Nat) : State :=
  let s := { s with mode := .standby, pins := { s.pins with en := true, resetN := true, boot := boot, twAddr := twAddr } }
  let s := { s.railsUp with pwr := { s.pwr with startAt := s.now, railOut := none, offHeld := false, enLowAt := none } }
  ((s.setFld Reg.PWR_STATUS Fld.PWR_STATUS_BUSY 1).setFld Reg.PWR_STATUS Fld.PWR_STATUS_TARGET 2)

/-- Is REQ = OFF no longer in force at an EN rise (R521): EN has been low for 1 ms, or RESET_N was low? -/
def State.mayStart (s : State) : Bool :=
  !s.pwr.offHeld || s.mode == .inReset || (match s.pwr.enLowAt with
    | some e => decide (e + 1000000000 ≤ s.now)
    | none => false)

/-- EN rises or RESET_N is released (R516, R529): the staged start; or the stages of a requested start from Standby. DESIGN CHOICE, log 13. DESIGN CHOICE, log 17. -/
def State.coldStart (s : State) (boot twAddr : Nat) (run : StartRun) : State :=
  if s.mode == .standby then
    if s.flag Reg.PWR_STATUS Fld.PWR_STATUS_BUSY && decide (s.fld Reg.PWR_STATUS Fld.PWR_STATUS_TARGET = 2) && s.pwr.bootWait.isNone then
      (s.advanceTo (s.now + run.dur)).mainStages run
    else s
  else if s.mode == .off || s.mode == .inReset || s.mode == .starting then
    if s.mayStart then
      let s := (s.senseVio run.vio33).firstStage boot twAddr
      if boot = 3 then (s.advanceTo (s.now + run.dur)).endRequest 0 else (s.advanceTo (s.now + run.dur)).mainStages run
    else { s with pins := { s.pins with en := true } }
  else s

/-! ### The host boot stage -/

/-- Is an address range of a boot area access inside the boot area (R532)? -/
def inBootArea (a n : Nat) : Bool := decide (a + n ≤ 0x600000)

/-- The image in the boot area as the ROM finds it (R533); `digest` and `signed` are what its SHA-384 and ECDSA checks compute. -/
def State.bootImage (s : State) (digest : List Word) (signed_ : Bool) : FwImage :=
  let f (a n : Nat) : Nat := ofLeBytes (readBytes s.sram a n)
  let z (a n : Nat) : Bool := decide (f a n = 0)
  ⟨f 0 4, f 4 4, f 8 4, f 16 1, f 17 1, z 18 14 && z 129 15 && z 240 272, digest, signed_⟩

/-- GO in the boot stage (R532, R534): verification, then the rest of the start. The wait for GO is not counted (R532). DESIGN CHOICE, log 17. DESIGN CHOICE, log 18. -/
def State.bootGo (s : State) (digest : List Word) (signed_ : Bool) (run : StartRun) : State :=
  match s.pwr.bootWait with
  | none => s
  | some w =>
    let s := { s with pwr := { s.pwr with startAt := s.pwr.startAt + (s.pwr.go.getD s.now - w) } }
    let im := s.bootImage digest signed_
    let s := s.advanceTo (s.now + run.dur)
    if imageFault im = 0 then s.startEnd run (some (2, im)) else s.startFailed (imageFault im)

/-- No GO within 60 s of the end of stage 3 (R532). -/
def State.hostTimeout (s : State) : State :=
  match s.pwr.bootWait with
  | some w => if s.pwr.go.isNone && decide (w + 60000000000000 ≤ s.now) then s.startFailed 7 else s
  | none => s

/-! ### Requests -/

/-- Cancel a start or a restart that waits for its trigger, or undo its preparation (R523). -/
def State.cancelStart (s : State) : State :=
  let s := s.undoPool
  { s with slots := [], err := { s.err with restarting := false }, card := { s.card with lacuna := none }, pwr := { s.pwr with prep := none } }

/-- The module is Poised after a request from Poised or Halted (R521, R523, R525). -/
def State.toPoised (s : State) : State :=
  let s := (s.finishHalt).cancelStart
  let s := { s with err := { s.err with haltLine := none }, card := { s.card with refusedFirst := none } }
  let s := if s.mode == .poised then s else s.setMode .poised
  (s.setFld Reg.ERR_STATUS Fld.ERR_STATUS_FROMINSP 0).endRequest 0

/-- REQ = POISED (R521, R523, R525, R535, R538). From Standby it starts, and the start's stages follow. -/
def State.requestPoised (s : State) : State :=
  if s.mode == .standby then
    if 3 ≤ s.fld Reg.PWR_STATUS Fld.PWR_STATUS_FAILS then s.setFld Reg.PWR_STATUS Fld.PWR_STATUS_REQRES 10
    else
      let s := (s.setFld Reg.PWR_STATUS Fld.PWR_STATUS_REQRES 0).setFld Reg.PWR_STATUS Fld.PWR_STATUS_BUSY 1
      let s := s.setFld Reg.PWR_STATUS Fld.PWR_STATUS_TARGET 2
      { s with pwr := { s.pwr with startAt := s.now } }
  else if s.mode == .inspecting then
    let s := (s.setFld Reg.PWR_STATUS Fld.PWR_STATUS_REQRES 0).setFld Reg.PWR_STATUS Fld.PWR_STATUS_BUSY 1
    let s := s.setFld Reg.PWR_STATUS Fld.PWR_STATUS_TARGET 2
    { s with err := { s.err with stopReq := true } }
  else if s.mode == .halted || s.flag Reg.PWR_STATUS Fld.PWR_STATUS_WAITTRIG then s.toPoised
  else s.setFld Reg.PWR_STATUS Fld.PWR_STATUS_REQRES 1

/-- REQ = STANDBY (R521, R523, R524). -/
def State.requestStandby (s : State) : State :=
  if s.mode == .poised || s.mode == .halted then
    s.unlessCards fun s => (((s.finishHalt).cancelStart).toStandby).endRequest 0
  else s.setFld Reg.PWR_STATUS Fld.PWR_STATUS_REQRES 1

/-- REQ = OFF (R521, R524). In Frozen it is accepted whatever is in progress (R521). -/
def State.requestOff (s : State) : State := s.unlessCards State.powerOff

/-- A request written to PWR_CTRL (R521 to R525, R541). DEDUCED, log 26. DEDUCED, log 27. -/
def State.powerRequest (s : State) (req prep : Nat) : State :=
  let waits := s.flag Reg.PWR_STATUS Fld.PWR_STATUS_WAITTRIG && (req = 1 || req = 2 || req = 4)
  if s.mode == .frozen then (if req = 4 then s.requestOff else s)
  else if s.flag Reg.PWR_STATUS Fld.PWR_STATUS_BUSY && !waits then s.setFld Reg.PWR_STATUS Fld.PWR_STATUS_REQRES 8
  else if req = 1 then s.requestStandby
  else if req = 2 then s.requestPoised
  else if req = 3 then
    if s.mode == .poised then s.requestInspect prep else s.setFld Reg.PWR_STATUS Fld.PWR_STATUS_REQRES 1
  else if req = 4 then s.requestOff
  else s.setFld Reg.PWR_STATUS Fld.PWR_STATUS_REQRES 11

/-- A write of PWR_CTRL that is answered (R538, R541): FORCE and RETAIN, CLRFAIL through the two-wire port, then the request. DEDUCED, log 26. -/
def State.powerWrite (s : State) (p : Path) (v : Word) (prep : Nat) : State :=
  let s := s.writeReg p Reg.PWR_CTRL v
  let s := if getBits v Fld.PWR_CTRL_CLRFAIL = 1 && decide (p = .twi) then s.setFld Reg.PWR_STATUS Fld.PWR_STATUS_FAILS 0 else s
  s.powerRequest (getBits v Fld.PWR_CTRL_REQ) prep

/-! ### Supply, clocks, temperature -/

/-- EN falls (R516, R521). DEDUCED, log 46. -/
def State.enFall (s : State) : State :=
  let s := { s with pins := { s.pins with en := false }, pwr := { s.pwr with enLowAt := some s.now } }
  if s.mode == .off then s
  else s.toOff .off

/-- RESET_N falls (R516); a REQ = OFF no longer holds (R521). With EN low the module is in Off and stays there. DEDUCED, log 46. -/
def State.resetAssert (s : State) : State :=
  let s := { s with pins := { s.pins with resetN := false } }
  let s := if s.pins.en then s.toOff .inReset else s
  { s with pwr := { s.pwr with offHeld := false } }

/-- A fault that turns every rail off (R515, R539, R544). -/
def State.powerFault (s : State) : State := if s.mode.powered then s.toOff .off else s

/-- A rail leaves its window (R515). -/
def State.railExit (s : State) (rail : Nat) : State :=
  if !s.mode.powered then s
  else
    let s := s.setFld Reg.PWR_RAILS ⟨rail, 1⟩ 0
    if bit s.neededRails rail then
      { s with outPins := { s.outPins with pg := false }, pwr := { s.pwr with railOut := some (s.pwr.railOut.getD s.now) } }
    else s

/-- A rail returns to its window within 10 µs (R515). -/
def State.railReturn (s : State) (rail : Nat) : State :=
  if !s.mode.powered || bit s.neededRails rail == false then s
  else
    let s := s.setFld Reg.PWR_RAILS ⟨rail, 1⟩ 1
    if (List.range 7).all fun r => !bit s.neededRails r || bit (s.fld Reg.PWR_RAILS Fld.PWR_RAILS_RAILS) r then
      { s with outPins := { s.outPins with pg := true }, pwr := { s.pwr with railOut := none } }
    else s

/-- REFCLK is lost, or a PLL is out of lock for more than 1 µs (R519). DEDUCED, log 28. -/
def State.refclkLoss (s : State) (pll : Bool) : State :=
  let s := if pll then s else { s with pwr := { s.pwr with refclk := false } }
  if s.mode.active then
    let s := s.toStandby
    (s.hwSet Reg.PWR_CAUSE (b2n pll)).endRequest (s.fld Reg.PWR_STATUS Fld.PWR_STATUS_REQRES)
  else s

/-- REFCLK returns (R519). -/
def State.refclkReturn (s : State) : State := { s with pwr := { s.pwr with refclk := true } }

/-- AOCLK is lost (R518). -/
def State.aoclkLoss (s : State) : State :=
  if s.mode.powered then
    (s.hwSet Reg.PWR_CAUSE 2).setFld Reg.PWR_CAUSE Fld.PWR_CAUSE_AOFALLBACK 1
  else s

/-- AOCLK has run for 1 ms (R518). -/
def State.aoclkReturn (s : State) : State :=
  if s.mode.powered then s.setFld Reg.PWR_CAUSE Fld.PWR_CAUSE_AOFALLBACK 0 else s

/-- The AO domain measures temperature and input (R539, R541); `tj` in °C. -/
def State.measureTemp (s : State) (tj : Int) (vin power : Nat) : State :=
  if !s.mode.powered then s
  else
    let talert : Int := s.fld Reg.PWR_TEMP Fld.PWR_TEMP_TALERT
    let peak := max tj (signed 8 (s.fld Reg.PWR_TEMP Fld.PWR_TEMP_TJPEAK))
    let s := s.setFld Reg.PWR_TEMP Fld.PWR_TEMP_TJ (unsignedOf 8 tj)
    let s := s.setFld Reg.PWR_TEMP Fld.PWR_TEMP_TJPEAK (unsignedOf 8 peak)
    let s := (s.setFld Reg.PWR_VIN Fld.PWR_VIN_VIN vin).setFld Reg.PWR_VIN Fld.PWR_VIN_POWER power
    let alert := if talert ≤ tj then true else if tj ≤ talert - 2 then false else s.outPins.tempAlert
    let s := if alert && !s.outPins.tempAlert then s.twiAttn 5 else s
    let s := { s with outPins := { s.outPins with tempAlert := alert } }
    let s := if 105 ≤ tj ∧ !s.pwr.hot then s.record 0x0801 1 (sourceOf Reg.PWR_TEMP) (BitVec.ofInt 32 tj) else s
    let s := { s with pwr := { s.pwr with hot := decide (105 ≤ tj) } }
    if 115 ≤ tj then s.powerFault else s

/-! ### Errors of the control cluster and of SRAM (R486) -/

/-- No firmware service of the watchdog for 100 ms. DEDUCED, log 38. -/
def State.watchdog (s : State) (core : Nat) : State :=
  if s.mode.allOn then s.record 0x0803 2 0xFF (BitVec.ofNat 32 core) else s

/-- An on-die SRAM access finds a wrong bit, or more. DEDUCED, log 38. -/
def State.sramError (s : State) (off : Nat) (corrected : Bool) : State :=
  if !s.mode.allOn then s
  else if corrected then s.notice 0x0705 0xFF off
  else s.record 0x0706 2 0xFF (BitVec.ofNat 32 off)

/-- Firmware reports a fault that halts, or a notice. -/
def State.firmwareFault (s : State) (code : Word) (halts : Bool) : State :=
  if s.mode.allOn then s.record (if halts then 0x0802 else 0x0804) (if halts then 1 else 0) 0xFF code else s

end Sys2Proof.Machine
end

