-- ==== Sys2Proof/Machine/Bus.lean ====
section
/-! DEFINITION. A read and a write of the register space through an access path (R5 to R12, R21, R22, R31 to R35): whether the access
is answered, what a read returns and does, and what a write starts beside setting its fields. Several command bits set by one
write act in ascending bit order (log 34). -/

namespace Sys2Proof.Machine

/-! ### Reads -/

/-- Is a read answered (R6, R22, R32, R33, R519)? -/
def State.readable (s : State) (a : Nat) : Bool :=
  decide (a % 4 = 0) && s.answersRead a && (s.mode != .frozen || s.pwr.refclk || (match blockAt a with
    | some (b, _) => isAo b
    | none => false))

/-- The queue whose Q_RDATA or Q_WDATA stands at an offset `at_` of its registers. -/
def queuePort (a at_ : Nat) : Option Nat :=
  if 0xF0100 ≤ a ∧ a < 0xF1100 ∧ (a - 0xF0100) % 0x40 = at_ then some ((a - 0xF0100) / 0x40) else none

/-- The pipeline whose CORR_TDATA stands at an address. -/
def corrPort (a : Nat) : Option Nat :=
  if 0x200000 ≤ a ∧ a < 0x2C0000 ∧ a % 0x10000 = 0x18 then some ((a - 0x200000) / 0x10000) else none

/-- What an answered read returns, and the state after it: memory windows, the ports that step or take, the captures of R12, and 0 where
no register is defined (R7). -/
def State.readNow (s : State) (p : Path) (a : Nat) : Word × State :=
  if inWindow a then (BitVec.ofNat 32 (ofLeBytes (readBytes s.sram (s.windowOffset a) 4)), s)
  else if inFolio a then (s.folioMemRead a, s)
  else if (kindAt a).isNone then (0, s)
  else match queuePort a 0x30, corrPort a with
    | some q, _ => s.qRdata q
    | none, some n => let (v, s) := s.corrDataRead n; (BitVec.ofNat 32 v, s)
    | none, none =>
      if a = Reg.RMP_TDATA then s.rmpDataRead
      else if a = Reg.CAT_TDATA then s.catRead
      else if a = Reg.PROF_TDATA then s.profTableRead
      else (s.view p a, s.captureFrom p a)

/-- A read through a path: the word, or none and a Notice where it is rejected (R6). -/
def State.busRead (s : State) (p : Path) (a : Nat) : Option Word × State :=
  if s.readable a then
    let (w, s) := s.readNow p a
    (some w, s)
  else (none, s.rejectAccess a)

/-- A read made by itself: what it returns is recorded; a rejected one returns 0 (R6). -/
def State.readAlone (s : State) (p : Path) (a : Nat) : State :=
  let (w, s) := s.busRead p a
  s.emit (.readWord a (w.getD 0))

/-! ### Counters -/

/-- The first counter and the number of counters that a counter-clear register clears (R91), as offsets in its block. -/
def clearsOf (b : Blk) (o : Nat) : Option (Nat × Nat) :=
  match b with
  | .err => if o = 0x1C then some (0x14, 2) else none
  | .evr =>
    if o = 0x24 then some (0x20, 1)
    else if 0x100 ≤ o ∧ o < 0x900 ∧ (o - 0x100) % 0x20 = 0x1C then some (o - 0x10, 4) else none
  | .twi => if o = 0x40 then some (0x20, 8) else none
  | .pos => if 0x100 ≤ o ∧ o < 0x400 ∧ (o - 0x100) % 0x80 = 0x60 then some (o - 0x18, 6) else none
  | .trg => if o = 0x20 then some (0x14, 3) else none
  | .time => if o = 0x7C then some (0x60, 7) else none
  | .cal => if o = 0x2C then some (0x24, 2) else none
  | .red => if o = 0x38 then some (0x20, 6) else none
  | .acc => if o = 0x28 then some (0x24, 1) else none
  | .prof => if o = 0x54 then some (0x40, 5) else none
  | .seg => if o = 0x40 then some (0x20, 6) else none
  | .card => if o = 0x40 then some (0x20, 7) else none
  | .dma => if o = 0x1C then some (0x18, 1) else none
  | .cam => if o = 0x38 then some (0x20, 6) else none
  | .seam => if o = 0x34 then some (0x20, 5) else none
  | .twin => if o = 0x34 then some (0x20, 5) else none
  | .corr => if o = 0x2C then some (0x20, 3) else none
  | .folio => if o = 0x120 then some (0x118, 2) else none
  | .stitch => if o = 0x30 then some (0x20, 4) else none
  | .stk => if o = 0x58 then some (0x40, 6) else none
  | .memc => if o = 0x34 then some (0x20, 5) else none
  | .host => if 0x100 ≤ o ∧ o < 0x200 ∧ (o - 0x100) % 0x40 = 0x38 then some (o - 0x18, 6) else none
  | .oht => if o = 0x40 then some (0x20, 8) else none
  | _ => none

/-- Is the offset LANE_CLR of a link with so many lanes (R93)? -/
def isLaneClr (lanes o : Nat) : Bool := decide (0x100 ≤ o ∧ o < 0x100 + 0x20 * lanes ∧ (o - 0x100) % 0x20 = 0x10)

/-- Is the offset LANE_CTRL of a link with so many lanes (R93)? -/
def isLaneCtrl (lanes o : Nat) : Bool := decide (0x100 ≤ o ∧ o < 0x100 + 0x20 * lanes ∧ (o - 0x100) % 0x20 = 0)

/-- A LANE_CLR write (R93): three counters before it and LANE_BIP after it. -/
def State.clearLane (s : State) (a : Nat) (v : Word) : State :=
  let s := s.clearCounters (a - 0xC) 3 v
  if bit v.toNat 3 then s.setNum (a + 4) 0 else s

/-- The counters that a write clears (R91, R93). -/
def State.clearsBy (s : State) (a : Nat) (v : Word) : State :=
  match blockAt a with
  | none => s
  | some (b, base) =>
    if (b == .cam || b == .seam) && isLaneClr 4 (a - base) || b == .twin && isLaneClr 2 (a - base) then s.clearLane a v
    else match clearsOf b (a - base) with
      | some (o, n) => s.clearCounters (base + o) n v
      | none => s

/-! ### What a write starts -/

/-- Perform an action for each bit of a word that is 1, in ascending order. DEDUCED, log 34. -/
def State.eachBit (s : State) (v : Word) (f : State → Nat → State) : State :=
  (List.range 32).foldl (fun (s : State) i => if bit v.toNat i then f s i else s) s

/-- ERR_ACK (R473): every held entry with serial number `n` or less is freed. -/
def State.errAck (s : State) (n : Nat) : State :=
  s.heldSlots.foldl (fun (s : State) i => if s.num (Reg.ERR_E7 i) ≤ n then s.setFld (Reg.ERR_E0 i) Fld.ERR_E0_VALID 0 else s) s

/-- How long the checks and the preparation of a start take where the write does not say: a free value of at most 30 µs (R522). DESIGN CHOICE, log 16. -/
def State.freePrep (s : State) : Nat × State := let (x, s) := s.freeValue; (x.toNat % 30001, s)

/-- A write to the ERR block: RESTART and ERR_ACK. -/
def State.errWrite (s : State) (a : Nat) (v : Word) (prep : Nat) : State :=
  if a = Reg.ERR_CTRL then (if bit v.toNat 0 then s.restart prep else s)
  else if a = Reg.ERR_ACK then s.errAck v.toNat else s

/-- A write to the EVR block (R439, R445, R447, R450). -/
def State.evrWrite (s before : State) (a : Nat) (v : Word) : State :=
  if a = Reg.EVR_FIRE_LO then s.eachBit v fun s c => s.swFire c
  else if a = Reg.EVR_FIRE_HI then s.eachBit v fun s c => s.swFire (32 + c)
  else if a = Reg.EVR_ECHO_LO then s.eachBit (v &&& before.reg a) fun s c => s.echoCleared c
  else if a = Reg.EVR_ECHO_HI then s.eachBit (v &&& before.reg a) fun s c => s.echoCleared (32 + c)
  else if a = Reg.EVR_TCLR_LO then s.eachBit v fun s c => s.setNum (Reg.TASK_COINC c) 0
  else if a = Reg.EVR_TCLR_HI then s.eachBit v fun s c => s.setNum (Reg.TASK_COINC (32 + c)) 0
  else if Reg.TASK_SEL 61 ≤ a ∧ a ≤ Reg.TASK_SEL 63 then s.setFld a Fld.TASK_SEL_EN 0
  else s

/-- A write to the POS block: a serial port that is enabled starts afresh, new soft limits clamp the counter (R100). -/
def State.posWrite (s before : State) (a : Nat) : State :=
  if a = Reg.POS_CTRL then (s.enableSerial before 4).enableSerial before 5
  else match (List.range 6).find? fun k => decide (a = Reg.IN_SOFTLO_LO k ∨ a = Reg.IN_SOFTHI_LO k) with
  | some k => s.clampToLimits k
  | none => s

/-- A write to the TRG block (R107, R113, R116): EN written 1 arms every camera, a camera that becomes enabled later is not armed by that
(DEDUCED, log 35); ARM arms a compare output; an output that is turned off, and under ROLEGATE every output of a standby, ends its pulse. -/
def State.trgWrite (s : State) (a : Nat) (v : Word) : State :=
  if a = Reg.TRG_CTRL then
    let s := s.holdPins
    if bit v.toNat 0 && s.mode != .inspecting then s.armCameras else s
  else match (List.range 16).find? fun k => decide (a = Reg.TRIG_CMPCTL k ∨ a = Reg.TRIG_CFG k) with
    | some k => if a = Reg.TRIG_CFG k then s.holdPins else if bit v.toNat 0 then s.armCompare k else s
    | none => s

/-- A write to the TIME block (R409, R410, R414). -/
def State.timeWrite (s before : State) (a : Nat) (v : Word) : State :=
  if a = Reg.TIME_CTRL then (if s.timeSrc = before.timeSrc then s else s.sourceChanged)
  else if a = Reg.TIME_CMD then
    let s := if bit v.toNat 0 then s.timeSet else s
    if bit v.toNat 1 then s.timeStep else s
  else if a = Reg.PTP_CTRL then (if s.reg a = before.reg a then s else s.ptpStart)
  else s

/-- A write to the CAL block (R129, R133, R135, R141, R142). -/
def State.calWrite (s : State) (a : Nat) (v : Word) : State :=
  if a = Reg.CAL_CMD then
    let s := if bit v.toNat 16 then s.calGo else s
    if bit v.toNat 17 && s.calRun.isSome then s.calEnd 3 0 else s
  else if a = Reg.CAL_SEAL then
    let ps := (List.range 12).filter fun p => bit v.toNat p
    if ps.isEmpty then s else s.corrSeal ps Reg.CAL_SEAL
  else if a = Reg.CAL_IMGCTL then
    let s := if bit v.toNat 0 then s.imageStart false else s
    if bit v.toNat 1 then s.imageStart true else s
  else s

/-- A write to the RED block (R491, R503, R509). -/
def State.redWrite (s before : State) (a : Nat) (v : Word) : State :=
  if a = Reg.RED_CTRL then
    let s := if s.flag a Fld.RED_CTRL_EN && !before.flag a Fld.RED_CTRL_EN then s.redEnable else s
    let s := if bit v.toNat 1 then s.join else s
    if bit v.toNat 2 then s.swapRequest else s
  else s

/-- A write to the ACC block (R233, R238). -/
def State.accWrite (s : State) (a : Nat) (v : Word) : State :=
  if a = Reg.ACC_CTRL then
    let s := if bit v.toNat 0 then s.commit.1 else s
    let s := if bit v.toNat 1 then s.unseal else s
    let s := if bit v.toNat 2 then s.switchArm else s
    if bit v.toNat 3 then s.switchCancel else s
  else s

/-- A write to the DMA block (R334, R340, R342, R345). -/
def State.dmaWrite (s before : State) (a : Nat) (v : Word) : State :=
  if a = Reg.DMA_CTRL then
    if before.flag a Fld.DMA_CTRL_EN && !s.flag a Fld.DMA_CTRL_EN then s.dmaDisable else s
  else match (List.range 32).find? fun c => decide (a = Reg.CH_CTRL c) with
    | some c =>
      let s := if bit v.toNat 0 then s.dmaLoad c else s
      let s := if bit v.toNat 1 then s.dmaStop c else s
      if bit v.toNat 2 then s.dmaAbort c else s
    | none => s

/-- Q_CMD of a queue (R356, R357, R361, R366): bookmark and rewinds of privileged queues only. -/
def State.queueCommand (s : State) (q : Nat) (v : Word) : State :=
  let b (i : Nat) : Bool := bit v.toNat i
  let s := if b 0 then s.qFlush q else s
  let s := if b 1 && isPriv q then s.qBookmark q else s
  let s := if b 2 && isPriv q then s.qRequestRewind q false else s
  let s := if b 3 && isPriv q then s.qRequestRewind q true else s
  let s := if b 4 then s.qPeakClr q (!b 0) else s
  if b 5 then s.qWeop q else s

/-- A write to the QUE block; `hi` is the word held for the path's PQ_RELEASE_HI. DEDUCED, log 89. -/
def State.queWrite (s : State) (a : Nat) (v : Word) (hi : Nat) : State :=
  match queuePort a 0x2C, queuePort a 0x34, queuePort a 0x00 with
  | some q, _, _ => s.queueCommand q v
  | none, some q, _ => s.qWdata q v
  | none, none, some q => s.qShow q
  | none, none, none =>
    match (List.range 5).find? fun i => decide (a = Reg.PQ_RELEASE_LO i) with
    | some i => s.qRelease (59 + i) (v.toNat + hi % 2 ^ 16 * 2 ^ 32)
    | none => s

/-- CREG_CTRL.GO (R73): one REQ with a new TAG; refused while one is outstanding, and ended at once where the port is not READY. In a
standby no REQ leaves (R494). GO written while BUSY changes nothing of the access; the RW field WRITE takes the value written with it
(DESIGN CHOICE, log 61). -/
def State.cregGo (s : State) (n : Nat) : State :=
  let c := Reg.CREG_CTRL n
  if s.flag c Fld.CREG_CTRL_BUSY then s.hwSet c 7
  else if s.lstate n ≠ 5 || s.standbyRole then (s.setFld c Fld.CREG_CTRL_STATUS 4).linkEvent n 7
  else
    let tag := ((s.link n).cregTag + 1) % 64
    let s := s.setFld c Fld.CREG_CTRL_BUSY 1
    let wr := s.flag c Fld.CREG_CTRL_WRITE
    let s := s.setLink n { s.link n with cregTag := tag, cregAt := some s.now, cregWrite := wr }
    s.sendReq n tag wr (s.num (Reg.CREG_ADDR n) % 2 ^ 16) (s.reg (Reg.CREG_WDATA n))

/-- A PRBS field written 3 keeps its value (R93). -/
def State.keepPrbs (s before : State) (a : Nat) : State :=
  let keep (s : State) (f : Bits) : State := if s.fld a f = 3 then s.setFld a f (before.fld a f) else s
  keep (keep s Fld.LANE_CTRL_PRBS_TX) Fld.LANE_CTRL_PRBS_RX

/-- A write to the registers of link `m` (R73, R78, R93); what a seam side's EN makes of the joint set is shown at once (R242). -/
def State.linkWrite (s before : State) (m a : Nat) (v : Word) : State :=
  let lanes := if m = 14 then 2 else 4
  if a = Reg.CAM_CTRL m then
    let s := (s.linkSettings m).showJoint
    if bit v.toNat 16 then s.linkRetrain m else s
  else if isLaneCtrl lanes (a % 0x10000) then (s.keepPrbs before a).linkSettings m
  else if m < 12 ∧ a = Reg.CREG_CTRL m then (if bit v.toNat 0 then s.cregGo m else s)
  else s

/-- A write to the STITCH or the CORR block: the control registers of table ports (R129, R130, R156), and the CD fields, which the joint set
compares (R242). -/
def State.tableWrite (s : State) (a : Nat) (v : Word) : State :=
  if a = Reg.CD_ORIGIN ∨ a = Reg.CD_PITCH ∨ a = Reg.CD_DIR then s.showJoint
  else if a = Reg.RMP_TCTL then s.rmpControl (bit v.toNat 8) (bit v.toNat 9)
  else if 0x200000 ≤ a ∧ a < 0x2C0000 ∧ a % 0x10000 = 0x10 then
    s.corrControl ((a - 0x200000) / 0x10000) (bit v.toNat 8) (bit v.toNat 9)
  else s

/-- A write to the STACKS block (R325, R329). -/
def State.stacksWrite (s : State) (a : Nat) (v : Word) : State :=
  match (List.range 4).find? fun r => decide (a = Reg.RP_CTRL r) with
  | some r =>
    let s := if bit v.toNat 0 then s.replayGo r else s
    if bit v.toNat 1 then s.replayAbort r else s
  | none => s

/-- A write to the MEMC block (R420, R435, R436): RATE 3 leaves RATE as it was. -/
def State.memcWrite (s before : State) (a : Nat) (v : Word) : State :=
  if a = Reg.MEMC_FREQ then
    let rate := s.fld a Fld.MEMC_FREQ_RATE
    if rate = 3 then s.setFld a Fld.MEMC_FREQ_RATE (before.fld a Fld.MEMC_FREQ_RATE)
    else if rate = before.fld a Fld.MEMC_FREQ_RATE then s else s.frequencyRequest rate
  else if a = Reg.MEMC_TRAIN then (if bit v.toNat 9 then s.retrainMemc else s)
  else s

/-- A write to HOST_CTRL (R368, R404): MODE 3 keeps MODE, FWD reads 0 in HOSTB, and sub-ports that are no longer there lose their
link. -/
def State.hostWrite (s before : State) (a : Nat) : State :=
  if a = Reg.HOST_CTRL 0 ∨ a = Reg.HOST_CTRL 1 then
    let s := if s.fld a Fld.HOST_CTRL_MODE = 3 then s.setFld a Fld.HOST_CTRL_MODE (before.fld a Fld.HOST_CTRL_MODE) else s
    let s := if a = Reg.HOST_CTRL 1 then s.setFld a Fld.HOST_CTRL_FWD 0 else s
    s.dropMissingLinks (if a = Reg.HOST_CTRL 1 then 1 else 0)
  else s

/-- What a write starts beside setting its fields; `before` is the state before the write. DEDUCED, log 25. -/
def State.writeActs (s before : State) (a : Nat) (v : Word) (prep hi : Nat) : State :=
  match blockAt a with
  | none => s
  | some (b, base) =>
    match b with
    | .sys =>
      if a = Reg.SYS_BOOTCTL && bit v.toNat 0 && s.pwr.bootWait.isSome && s.pwr.go.isNone then
        { s with pwr := { s.pwr with go := some s.now } }
      else s
    | .err => s.errWrite a v prep
    | .evr => s.evrWrite before a v
    | .pos => s.posWrite before a
    | .trg => s.trgWrite a v
    | .time => s.timeWrite before a v
    | .cal => s.calWrite a v
    | .red => s.redWrite before a v
    | .acc => s.accWrite a v
    | .prof => if a = Reg.PROF_SYNC && bit v.toNat 0 then s.profSyncWrite (s.flag a Fld.PROF_SYNC_ATEN) else s
    | .dma => s.dmaWrite before a v
    | .que => s.queWrite a v hi
    | .cam | .seam | .twin => s.linkWrite before ((base - 0x100000) / 0x10000) a v
    | .corr | .stitch => s.tableWrite a v
    | .stk => s.stacksWrite a v
    | .memc => s.memcWrite before a v
    | .host => s.hostWrite before a
    | _ => s

/-! ### Writes -/

/-- Is a write rejected for its own sake, beyond the state of the module: Q_WDATA of a queue without a write port (R356)? -/
def badPort (a : Nat) : Bool :=
  match queuePort a 0x34 with
  | some q => !portWrites q
  | none => false

/-- Does a write go to a descriptor register of a crop channel (R334)? -/
def isCropDescriptor (a : Nat) : Bool := isDescriptor a && decide (0xE0100 + 0x40 * 28 ≤ a)

/-- An answered write takes effect (R7, R9 to R12); `prep` is how long a preparation takes that it starts. DEDUCED, log 25. -/
def State.writeNow (s : State) (p : Path) (a : Nat) (v : Word) (prep : Nat) : State :=
  if inWindow a then { s with sram := writeBytes s.sram (s.windowOffset a) (leBytes 4 v.toNat) }
  else if inFolio a then s.folioMemWrite a v
  else if (kindAt a).isNone then s
  else if a = Reg.PWR_CTRL then s.powerWrite p v prep
  else if isCropDescriptor a then (s.bump Reg.DMA_REJ).notice 0x0602 (sourceOf a) a
  else match corrPort a with
    | some n => s.corrDataWrite n v
    | none =>
      if a = Reg.RMP_TDATA then s.rmpDataWrite v
      else if a = Reg.CAT_TDATA then s.catWrite v
      else if a = Reg.PROF_TDATA then s.profTableWrite v
      else
        let hi := ((Store.get (fun _ => none) (latchKey p (a + 4)) s.held).getD 0).toNat
        ((s.writeReg p a v).clearsBy a v).writeActs s a v prep hi

/-- The time that a preparation takes which a write starts: as stated, else a free value for the two registers that start one. DESIGN CHOICE, log 16. -/
def State.prepFor (s : State) (a : Nat) (prep : Option Nat) : Nat × State :=
  match prep with
  | some n => (n, s)
  | none => if a = Reg.PWR_CTRL ∨ a = Reg.ERR_CTRL then s.freePrep else (0, s)

/-- A write to the copied set joins the open epoch (R497): a _HI word is held for its path, and goes in with the path's next _LO write (R12). -/
def State.gatherIn (s : State) (p : Path) (a : Nat) (v : Word) : State :=
  match (kindAt a).map RegKind.tie with
  | some .hi => { s with held := Store.set (fun _ => none) (latchKey p a) (some (hiValue a v)) s.held }
  | some .lo =>
    match Store.get (fun _ => none) (latchKey p (a + 4)) s.held with
    | some h => ((s.endHold p a).gather (a + 4) h).gather a v
    | none => s.gather a v
  | _ => s.gather a v

/-- A write through a path (R6, R22, R492, R497): rejected with a Notice, rejected by a standby, gathered into the open epoch, or
performed. Answers whether it was rejected as in R6. DEDUCED, log 39. -/
def State.busWriteIn (s : State) (p : Path) (a : Nat) (v : Word) (prep : Option Nat) : Bool × State :=
  if a % 4 ≠ 0 || !s.answersWrite a v || badPort a then (true, (s.rejectAccess a).endHold p a)
  else if s.rejectsCopied && isCopied a then (false, s.rejectCopied.endHold p a)
  else if s.gathers && isCopied a then (false, s.gatherIn p a v)
  else
    let (n, s) := s.prepFor a prep
    (false, s.writeNow p a v n)

/-- A write whose preparation time, should it start an inspection, is not stated. -/
def State.busWrite (s : State) (p : Path) (a : Nat) (v : Word) : Bool × State := s.busWriteIn p a v none

/-! ### Commands -/

/-- A command at time `t`: time passes, then `f`, then what follows every command. DESIGN CHOICE, log 6. DESIGN CHOICE, log 10. -/
def State.during (s : State) (t : Nat) (f : State → State) : State := (f (s.advanceTo t)).settle s

/-- What the block does on an empty queue: the next item of the router arrives; with none it idles (log 33). -/
def State.idle (s : State) : State :=
  match earliest s.evrQ with
  | some w => ((s.passTime (max s.now w.due)).arrive w).settle s
  | none => s

/-- `f` where its precondition holds. DESIGN CHOICE, log 6. DESIGN CHOICE, log 36. -/
def State.when (s : State) (c : Bool) (f : State → State) : State := if c then f s else s

/-- The word with some bits set: a row that names a bit stands for a write with that bit 1. DESIGN CHOICE, log 15. -/
def withBits (v : Word) (m : Nat) : Word := v ||| BitVec.ofNat 32 m

/-- A write by itself at time `t` through a path that reaches the register space (R21). DESIGN CHOICE, log 15. -/
def State.writeAt (s : State) (t : Nat) (p : Path) (a : Nat) (v : Word) : State :=
  s.during t fun s => s.when (s.reaches p) fun s => (s.busWrite p a v).2

/-- The same with a stated preparation time, in ns. -/
def State.writeAtIn (s : State) (t : Nat) (p : Path) (a : Nat) (v : Word) (prep : Nat) : State :=
  s.during t fun s => s.when (s.reaches p) fun s => (s.busWriteIn p a v (some prep)).2

/-- A read by itself at time `t`. -/
def State.readAt (s : State) (t : Nat) (p : Path) (a : Nat) : State :=
  s.during t fun s => s.when (s.reaches p) fun s => s.readAlone p a

end Sys2Proof.Machine
end

