-- ==== Sys2Proof/Machine/CmdLink.lean ====
section
/-! DEFINITION. The meanings of the commands of the SerDes links and the camera ports (03_line_link.md; R163, R502). Links run in
Poised, Inspecting and Halted; in Frozen they keep what they hold. -/

namespace Sys2Proof.Machine

/-- A command of link `m` at time `t`, where the link is in one of some states. DESIGN CHOICE, log 36. -/
def State.onLink (s : State) (t m : Nat) (states : List Nat) (f : State → State) : State :=
  s.during t fun s => s.when (s.mode.active && states.contains (s.lstate m)) f

/-- Invalid sync headers among the rows of a packet are counted on their lanes (R65). -/
def State.countHeads (s : State) (n : Nat) (rx : PacketRows) : State :=
  (List.range 4).foldl (fun (s : State) k => if rx.badHeads k = 0 then s else s.bumpBy (Reg.LANE_SHERR n k) (rx.badHeads k)) s

/-- The rows of a packet that had come before a window closed; its last row comes now (R81). -/
def State.rowsOnTime (s : State) (n : Nat) (w : Window) (rx : PacketRows) : PacketRows :=
  let row := 66000000000 / s.laneRate n
  ⟨rx.before, (rx.rows.zipIdx.filter fun r =>
    decide ((s.now - (rx.rows.length - 1 - r.2) * row - w.at_) * w.lrmax ≤ 1000000000000)).map Prod.fst⟩

/-- A reassembled packet is joined to its trigger, and one that counts is corrected as it arrives (R82, R84). Of the first packet for a
window that has closed, the pixels that came before that were corrected too, and count (R125, log 133). -/
def State.packetDone (s : State) (n : Nat) (rx : PacketRows) (pk : LinePacket) : State :=
  let late := (s.port n).closed.find? fun w => named pk w && w.pk.isNone
  let s := s.takePacket n pk
  match (s.port n).windows.find? fun w => named pk w && decide (w.pk = some pk) && w.pixels.isEmpty with
  | some w => s.correctPacket n w pk
  | none => match (if hcrcOk pk then late else none) with
    | some w => match (s.rowsOnTime n w rx).packet with
      | some part => s.correctPacket n w part
      | none => s
    | none => s

/-- LINE_PACKET (R60, R61, R65, R81, R82, R84): the rows of a packet have come in on a READY port; they are descrambled, reassembled and
joined to a trigger. -/
def execLinePacket (t n : Nat) (rx : PacketRows) (s : State) : Host.Outcome State Fault Refusal :=
  .next (s.onLink t n [5] fun s =>
    let s := s.countHeads n rx
    match rx.packet with
    | some pk => s.packetDone n rx pk
    | none => s)

/-- A camera line whose window closes (R83 to R88, R135, R151): its outcome is decided and counted, a calibration run may take it,
and in an inspection the line of a bound camera goes to its line store. DEDUCED, log 60. -/
def State.closeWindow (s : State) (n : Nat) (w : Window) : State :=
  let h := s.port n
  let s := s.setPort n { h with
    windows := h.windows.erase w
    closed := if w.token then (w :: h.closed).take 4 else h.closed }
  let o := outcome w
  let s := ((s.countOutcome n o).countRuns n w.line o).calTake n w o
  s.when (s.inspects && s.camBound n) fun s => s.holdLine n ⟨w.line, o, lineContent w o, w.mark⟩

/-- ARRIVAL_WINDOW_CLOSE (R23, R83): Pmin, as it stood at the trigger, has passed since the trigger with this TSEQ. -/
def execArrivalWindowClose (t n tseq : Nat) (s : State) : Host.Outcome State Fault Refusal :=
  .next (s.during t fun s => s.when s.mode.active fun s =>
    match (s.port n).windows.find? fun w => decide (w.tseq = tseq) with
    | some w => s.when (decide (1000000000000 ≤ (s.now - w.at_) * w.lrmax)) fun s => s.closeWindow n w
    | none => s)

/-- Lanes lose block lock (R59, R93): each one that had it counts its loss, in every state but DISABLED and TEST, and its LOCK bit falls. -/
def State.loseLock (s : State) (m : Nat) (lanes : List Nat) : State :=
  lanes.foldl (fun (s : State) k =>
    if k < s.lanes m ∧ bit (s.fld (Reg.CAM_STATE m) Fld.CAM_STATE_LOCK) k then
      (s.bump (Reg.LANE_LOCKLOSS m k)).setFld (Reg.CAM_STATE m) ⟨4 + k, 1⟩ 0
    else s) s

/-- SIGNAL_LOSS (R78, R93): lanes lose their signal or clock and with it their block lock; from BLOCK_LOCK to READY the
attempt fails. -/
def execSignalLoss (t : Nat) (lost : LaneSet) (s : State) : Host.Outcome State Fault Refusal :=
  let m := lost.link
  .next (s.onLink t m [1, 2, 3, 4, 5, 6] fun s =>
    let ks := (List.range (s.lanes m)).filter fun k => bit lost.lanes k
    s.when (!ks.isEmpty) fun s =>
      let s := (s.setLink m { s.link m with recovered := false }).loseLock m ks
      let s := s.setFld (Reg.CAM_STATE m) Fld.CAM_STATE_ALIGNED 0
      s.when (decide (2 ≤ s.lstate m ∧ s.lstate m ≤ 5)) fun s => s.failAttempt m)

/-- BLOCK_LOCK passes to DESKEW once every active lane has block lock (R78). -/
def State.blocksLocked (s : State) (m : Nat) : State :=
  s.when (decide (s.lstate m = 2) && s.allLocked m) fun s =>
    (s.setLink m { s.link m with goodAm := 0 }).setFld (Reg.CAM_STATE m) Fld.CAM_STATE_LSTATE 3

/-- CLOCK_RECOVERED (R78): on every active lane. -/
def execClockRecovered (t m : Nat) (s : State) : Host.Outcome State Fault Refusal :=
  .next (s.onLink t m [1] fun s =>
    ((s.setLink m { s.link m with recovered := true }).setFld (Reg.CAM_STATE m) Fld.CAM_STATE_LSTATE 2).blocksLocked m)

/-- BLOCK_LOCK_GAINED (R59, R65, R78): the sync headers a lane has brought; invalid ones are counted, and 64 valid ones in a row give block
lock. -/
def execBlockLockGained (t m lane : Nat) (heads : List (BitVec 2)) (s : State) : Host.Outcome State Fault Refusal :=
  .next (s.onLink t m [1, 2, 3, 4, 5, 6] fun s => s.when (decide (lane < s.lanes m)) fun s =>
    let s := s.bumpBy (Reg.LANE_SHERR m lane) (badCount heads)
    s.when (gainsLock heads) fun s => (s.setFld (Reg.CAM_STATE m) ⟨4 + lane, 1⟩ 1).blocksLocked m)

/-- BLOCK_LOCK_LOST (R59, R65, R78, R93): the sync headers a lane has brought; invalid ones are counted, and 16 of them within 64 lose block
lock, with which from DESKEW on the attempt, or READY, fails. -/
def execBlockLockLost (t m lane : Nat) (heads : List (BitVec 2)) (s : State) : Host.Outcome State Fault Refusal :=
  .next (s.onLink t m [1, 2, 3, 4, 5, 6] fun s => s.when (decide (lane < s.lanes m)) fun s =>
    let had := bit (s.fld (Reg.CAM_STATE m) Fld.CAM_STATE_LOCK) lane
    let s := s.bumpBy (Reg.LANE_SHERR m lane) (badCount heads)
    s.when (losesLock heads && had) fun s =>
      let s := (s.loseLock m [lane]).setFld (Reg.CAM_STATE m) Fld.CAM_STATE_ALIGNED 0
      s.when (decide (3 ≤ s.lstate m ∧ s.lstate m ≤ 5)) fun s => s.failAttempt m)

/-- DATA of the SEAM_HELLO or TWIN_HELLO that link `m` sends (R163, R502). -/
def State.ownHello (s : State) (m : Nat) : BitVec 48 :=
  let side := if m = 14 then s.fld Reg.RED_STATUS Fld.RED_STATUS_ROLEIN else if m = 13 then 1 else 0
  BitVec.ofNat 48 (s.fld Reg.SYS_NODE Fld.SYS_NODE_NODE_ID + side * 2 ^ 14
    + (if s.live then s.num Reg.ACC_LIVEDIG else 0) * 2 ^ 16)

/-- Enter HANDSHAKE (R76 to R78, R163, R502): seam and twin links send their HELLO; a camera port waits for the camera's. -/
def State.enterHandshake (s : State) (m : Nat) : State :=
  let s := s.setFld (Reg.CAM_STATE m) Fld.CAM_STATE_ALIGNED 1
  let s := s.setFld (Reg.CAM_STATE m) Fld.CAM_STATE_LSTATE 4
  let s := s.setLink m { s.link m with badAm := 0, handshakeAt := s.now }
  if m < 12 then s else s.sendMgmt m 8 0 (s.ownHello m)

/-- A SEAM_HELLO or TWIN_HELLO arrives (R163, R502): its NODE and DIGEST are shown; equal SIDE on a seam, or another NODE on TWIN,
fails the link, and otherwise the ECHO measurement starts. -/
def State.takeHello (s : State) (m : Nat) (data : BitVec 48) : State :=
  let node := data.toNat % 2 ^ 14
  let side := bit data.toNat 14
  let s := if m = 14 then s.setNum Reg.TWIN_PEER (node + b2n side * 2 ^ 14 + 2 ^ 15)
    else (s.setNum (Reg.SEAM_PEER (m - 12)) (node + b2n side * 2 ^ 14 + 2 ^ 15)).setNum (Reg.SEAM_PEERDIG (m - 12)) (data.toNat / 2 ^ 16)
  let fits := if m = 14 then decide (node = s.fld Reg.SYS_NODE Fld.SYS_NODE_NODE_ID) else side != decide (m = 13)
  if !fits then s.linkFailed m
  else s.when (!(s.link m).helloOk) fun s => (s.setLink m { s.link m with helloOk := true, configAcked := true, echoes := 0, echo := none }).sendEcho m

/-- An AM row in DESKEW (R63, R78): two good ones in a row with a skew of at most 180 ns lead to HANDSHAKE, a greater skew fails the
attempt. -/
def State.deskewRow (s : State) (m : Nat) (good : Bool) (skew : Nat) : State :=
  let n := if good then (s.link m).goodAm + 1 else 0
  let s := s.setLink m { s.link m with goodAm := n }
  if 2 ≤ n then
    let s := s.setFld (Reg.CAM_STATE m) Fld.CAM_STATE_SKEW (min 255 skew)
    if skew ≤ 180 then s.enterHandshake m else s.failAttempt m
  else s

/-- An AM position after DESKEW (R63): the fourth bad one in a row loses alignment. -/
def State.alignedRow (s : State) (m : Nat) (good : Bool) : State :=
  let n := if good then 0 else (s.link m).badAm + 1
  let s := s.setLink m { s.link m with badAm := n }
  s.when (decide (4 ≤ n)) fun s => (s.setFld (Reg.CAM_STATE m) Fld.CAM_STATE_ALIGNED 0).failAttempt m

/-- ALIGNMENT_MARKER (R62, R63, R78): what the lanes show at an AM position; `skew` in ns. -/
def execAlignmentMarker (t m : Nat) (ams : List AmLane) (skew : Nat) (s : State) : Host.Outcome State Fault Refusal :=
  .next (s.onLink t m [3, 4, 5] fun s =>
    let good := amRowGood (s.lanes m) ams
    let s := s.countBip m ams
    if s.lstate m = 3 then s.deskewRow m good skew else s.alignedRow m good)

/-- UPSTREAM_AM_ROW (R58, R62, R71): 16,384 rows after the last one an AM row falls due on the transmitter; a token of the same row goes
first. -/
def execUpstreamAmRow (t m : Nat) (s : State) : Host.Outcome State Fault Refusal :=
  .next (s.onLink t m [1, 2, 3, 4, 5, 6] fun s =>
    s.when ((s.link m).up.startAt.isSome && decide (66 * ((s.link m).up.amRow + amPeriod) ≤ s.upUi m s.now)) fun s => s.sendAm m)

/-- HELLO (R75, R78, R92, R143): a camera's HELLO in HANDSHAKE; an inconsistent one fails the port, another is answered with CONFIG. A
standby's port waits for a port record instead (R494). A HELLO in any other state is not taken, and CAM_ID0 to CAM_CAPS2 keep the last one
that was (DESIGN CHOICE, log 61). -/
def execHello (t n : Nat) (parts : List (Nat × BitVec 48)) (s : State) : Host.Outcome State Fault Refusal :=
  .next (s.onLink t n [4] fun s => s.when (helloWhole parts && !s.standbyRole) fun s =>
    let s := (s.storeHello n parts).helloRestored n
    if s.helloFits n then
      let c := s.configWord n
      (s.setLink n { s.link n with helloOk := true, config := some (c, s.now), configAcked := false, echoes := 0, echo := none }).sendMgmt
        n 1 0 c
    else s.linkFailed n)

/-- CONFIG_ACK (R75, R78): a copy of CONFIG starts the ECHO measurement, anything else fails the attempt. -/
def execConfigAck (t n : Nat) (data : BitVec 48) (s : State) : Host.Outcome State Fault Refusal :=
  .next (s.onLink t n [4] fun s => s.when (!s.standbyRole) fun s =>
    if ((s.link n).config.map Prod.fst) = some data then
      s.when (!(s.link n).configAcked) fun s => (s.setLink n { s.link n with configAcked := true }).sendEcho n
    else s.failAttempt n)

/-- ECHO_REPLY comes (R76, R78): the greatest of eight round trips, rounded up to whole ns, and then READY. -/
def State.takeEchoReply (s : State) (m : Nat) (data : BitVec 48) : State :=
  match (s.link m).echo with
  | some (d, at_) => s.when (decide (d = data)) fun s =>
      let h := s.link m
      let rtt := min 65535 (ceilDiv (s.now - at_) 1000)
      let old := if h.echoes = 0 then 0 else s.fld (Reg.CAM_RTT m) Fld.CAM_RTT_RTT
      let s := s.setFld (Reg.CAM_RTT m) Fld.CAM_RTT_RTT (max old rtt)
      let s := s.setLink m { h with echoes := h.echoes + 1, echo := none }
      if h.echoes + 1 < 8 then s.sendEcho m
      else
        let s := if m < 12 && !s.handshakes.contains m then { s with handshakes := m :: s.handshakes } else s
        s.linkUp m
  | none => s

/-- ECHO_REPLY (R75, R76, R78, R163): a reply to the module's own ECHO; or, on a seam or twin link, the peer's ECHO, which the module
answers with a copy of its data. DESIGN CHOICE, log 62. -/
def execEchoReply (t m : Nat) (e : Echo) (s : State) : Host.Outcome State Fault Refusal :=
  .next (s.onLink t m (if e.reply then [4] else [4, 5]) fun s =>
    if e.reply then s.takeEchoReply m e.data else s.when (decide (12 ≤ m)) fun s => s.sendMgmt m 4 0 e.data)

/-- Has the attempt lasted 20 ms, or has a handshake deadline of R76 passed (R78)? -/
def State.attemptLate (s : State) (m : Nat) : Bool :=
  let h := s.link m
  let hand := decide (s.lstate m = 4)
  decide (h.attemptAt + 20000000000 ≤ s.now) || (hand && !h.helloOk && decide (h.handshakeAt + 5000000000 ≤ s.now))
    || (hand && !h.configAcked && (match h.config with
      | some (_, e) => decide (e + 1020000000 ≤ s.now)
      | none => false))
    || (hand && (match h.echo with
      | some (_, e) => decide (e + 10000000 ≤ s.now)
      | none => false))

/-- HANDSHAKE_TIMEOUT (R78); a standby's camera port that waits for its record does not time out (log 37). -/
def execHandshakeTimeout (t m : Nat) (s : State) : Host.Outcome State Fault Refusal :=
  .next (s.onLink t m [1, 2, 3, 4] fun s =>
    s.when (s.attemptLate m && !(s.standbyRole && decide (m < 12 ∧ s.lstate m = 4))) fun s => s.failAttempt m)

/-- TRIES_RESET (R79). -/
def execTriesReset (t m : Nat) (s : State) : Host.Outcome State Fault Refusal :=
  .next (s.onLink t m [5] fun s =>
    s.when (decide ((s.link m).readyAt + 1000000000000 ≤ s.now)) fun s => s.clearTries m)

/-- RETRAIN (R78): the link's control register is written with RETRAIN set. -/
def execRetrain (t : Nat) (p : Path) (m : Nat) (v : Word) (s : State) : Host.Outcome State Fault Refusal :=
  .next (s.writeAt t p (Reg.CAM_CTRL m) (withBits v 0x10000))

/-- CREG_GO (R73): CREG_CTRL is written with GO set. -/
def execCregGo (t : Nat) (p : Path) (n : Nat) (v : Word) (s : State) : Host.Outcome State Fault Refusal :=
  .next (s.writeAt t p (Reg.CREG_CTRL n) (withBits v 1))

/-- A camera register access ends (R73, R92). -/
def State.cregEnd (s : State) (n status : Nat) : State :=
  let c := Reg.CREG_CTRL n
  let s := (s.setFld c Fld.CREG_CTRL_BUSY 0).setFld c Fld.CREG_CTRL_STATUS status
  (s.setLink n { s.link n with cregAt := none }).linkEvent n 7

/-- RSP (R64, R73): a camera's answer with the TAG of the outstanding access; STATUS 3 is not used and such an answer is discarded. DEDUCED, log 61. -/
def execRsp (t n tag status : Nat) (data : Word) (s : State) : Host.Outcome State Fault Refusal :=
  .next (s.onLink t n [5] fun s =>
    let h := s.link n
    s.when (h.cregAt.isSome && decide (h.cregTag = tag) && decide (status < 3)) fun s =>
      let s := if status = 0 && !h.cregWrite then s.setReg (Reg.CREG_RDATA n) data else s
      s.cregEnd n status)

/-- CREG_TIMEOUT (R73). -/
def execCregTimeout (t n : Nat) (s : State) : Host.Outcome State Fault Refusal :=
  .next (s.during t fun s => s.when s.mode.active fun s =>
    match (s.link n).cregAt with
    | some e => s.when (decide (e + 100000000 ≤ s.now)) fun s => s.cregEnd n 3
    | none => s)

/-- PRBS_CHECKER_LOCK (R90): the raw bits that a lane in TEST brings. Its checker locks to the first 31 of them, and counts every bit
after them that its own pattern does not give. -/
def execPrbsCheckerLock (t m lane : Nat) (bits : List Bool) (s : State) : Host.Outcome State Fault Refusal :=
  .next (s.onLink t m [7] fun s =>
    let code := s.fld (Reg.LANE_CTRL m lane) Fld.LANE_CTRL_PRBS_RX
    let locked := s.flag (Reg.LANE_CTRL m lane) Fld.LANE_CTRL_PRBS_LOCK
    s.when (decide (lane < (if m = 14 then 2 else 4)) && decide (code ≠ 0) && (locked || decide (31 ≤ bits.length))) fun s =>
      let h := s.link m
      let start := if locked then Store.get (fun _ => 0) lane h.prbs else prbsSeed (bits.take 31)
      let (errs, reg) := prbsCheck code start (if locked then bits else bits.drop 31)
      let s := s.setLink m { h with prbs := Store.set (fun _ => 0) lane reg h.prbs }
      (s.setFld (Reg.LANE_CTRL m lane) Fld.LANE_CTRL_PRBS_LOCK 1).bumpBy (Reg.LANE_PRBSERR m lane) errs)

end Sys2Proof.Machine
end

