-- ==== Sys2Proof/Machine/CmdStitch.lean ====
section
/-! DEFINITION. The meanings of the commands of stitching, of the processing slots and of the seam links (06_stitching.md, R23, R178,
R262 to R275). Work of a line uses the registers as they stood at its reference trigger (R25). -/

namespace Sys2Proof.Machine

/-! ### The slot of a line -/

/-- Have so many Pmin of some registers, and `ps` more, passed since a time? -/
def State.pminsPast (s : State) (at_ pmins ps : Nat) : Bool :=
  decide (pmins * 1000000000000 ≤ (s.now - ps - at_) * s.fld Reg.ACC_LRMAX Fld.ACC_LRMAX_LRMAX)

/-- Has a slot lasted until so many Pmin of its own collection after its reference trigger, and `ps` more (R17, R23)? -/
def State.slotReached (s : State) (sl : Slot) (pmins ps : Nat) : Bool := (s.seenBy sl).pminsPast sl.at_ pmins ps

/-- The running camera pipelines (R172). -/
def State.cameraEngines (s : State) : List Nat := (List.range 12).filter s.engineRuns

/-- Does the slot deliver an output line (R191, R198)? -/
def State.delivers (s : State) : Bool := !s.cameraEngines.isEmpty && s.cameraEngines.all fun e => decide ((s.engine e).warm = 0)

/-- Have all running camera pipelines ended the line? -/
def State.foliosDone (s : State) : Bool := s.cameraEngines.all fun e => (s.engine e).done

/-- The row of the newest line, and of the output line, of the slot (R187). -/
def State.slotRow (s : State) (age : Nat) : Option RingRow := (s.cameraEngines.head?).bind fun e => rowOfAge (s.engine e).ring age

/-- The first slot under a new collection, for the engines (R191, R197, R198, R275): banks and registers change, rings are emptied or
the lag grows; what was open at an emptied ring is to close with CUTOFF, and a lacuna card waits. -/
def State.enginesLive (s : State) (empties : Bool) (raised : Nat) : State :=
  let s := s.cameraEngines.foldl (fun (s : State) e =>
    let s := s.engineLive e
    if empties then s.emptyRing e else s.setEngine e { s.engine e with warm := (s.engine e).warm + raised }) s
  if empties then
    let cut := (s.strip 0).map fun g => { g with ended := true, flags := Nat.lor g.flags flCutoff }
    let s := s.setStrip 0 cut
    match Store.get (fun _ => none) 0 s.seg.lastOut with
    | some l => { s with card := { s.card with lacuna := some ⟨1, l + 1, none, []⟩ } }
    | none => s
  else s

/-- What the status registers of the pipelines show of a slot that opens (R201, R528). -/
def State.showEngines (s : State) (sl : Slot) : State :=
  let w := s.seenBy sl
  w.cameraEngines.foldl (fun (s : State) e =>
    let st := Reg.FOLIO_STATUS e
    let s := s.setFld st Fld.FOLIO_STATUS_GROUPS (w.groups e)
    let s := s.setFld st Fld.FOLIO_STATUS_WARMUP (b2n (decide (0 < (s.engine e).warm)))
    (s.setEngine e { s.engine e with ready := false, done := false }).setRunning e true) s

/-- The LINE of the S-frames of a slot (R269, R275): its output line, the closing line of what an emptied ring cuts off, or the line
L_c before the slot's. DEDUCED, log 71. -/
def State.frameLineS (s : State) (sl : Slot) : Int :=
  let lag := s.lag 0
  if s.delivers then (if lag = 0 then sl.line else ((s.slotRow (lag - 1)).map RingRow.line).getD (sl.line - lag))
  else match s.card.lacuna, Store.get (fun _ => none) 0 s.seg.lastOut with
    | some _, some l => l + 1
    | _, _ => sl.line - lag

/-- The first slot under a new collection (R197, R305): the engines change, and the next line delivered is the profile's sync line. -/
def State.switchSlot (s : State) (sl : Slot) : State :=
  match s.acc.engineAt with
  | some (k, empties, raised) =>
    if k = sl.line then
      let s := s.enginesLive empties raised
      { s with acc := { s.acc with engineAt := none }, prof := { s.prof with atNext := true } }
    else s
  | none => s

/-- The trigger time of the output line of a slot that opens. -/
def State.outputAt (s : State) (sl : Slot) : Nat :=
  if s.lag 0 = 0 then sl.at_ else ((s.slotRow (s.lag 0 - 1)).map RingRow.at_).getD sl.at_

/-- Enter a slot that opens among the recent ones: its S-frames are those of line `j`, none of which has come (R167, R269). -/
def State.noteSlot (s : State) (sl : Slot) : State :=
  let j := s.frameLineS sl
  let t : SlotTime := ⟨j, sl.at_ + s.dtime, sl.at_, s.outputAt sl, sl.regs⟩
  { s with seg := { s.seg with
    times := (s.seg.times ++ [t]).drop (s.seg.times.length + 1 - 16), got := s.seg.got.filter fun g => decide (g.line ≠ j) } }

/-- S_j: the stitched line is built and its slot opens (R23, R151, R167, R321). DEDUCED, log 70. -/
def State.slotOpen (s : State) (sl : Slot) : State :=
  let s := s.inSlot sl fun s => ((((s.switchSlot sl).noteSlot sl).openLine sl.line).stacksSlotOpen sl.line)
  let s := s.showEngines sl
  let s := s.setFld Reg.PWR_GATE Fld.PWR_GATE_STITCH 1
  { s with slots := s.slots.map fun (x : Slot) => if x = sl then { x with stage := 1 } else x }

/-- The slot that is open, if one is. -/
def State.openSlot (s : State) : Option Slot := (s.slots.head?).filter fun sl => decide (sl.stage ≠ 0)

/-- PROCESSING_SLOT_OPEN (R23, R151): S_j of the oldest stitched line that waits has come. DEDUCED, log 48. -/
def execProcessingSlotOpen (t : Nat) (s : State) : Host.Outcome State Fault Refusal :=
  .next (s.during t fun s =>
    match s.slots.head? with
    | some sl => s.when (s.inspects && decide (sl.stage = 0) && s.slotReached sl 1 0) fun s => s.slotOpen sl
    | none => s)

/-- The outcome flags that a side's H-frame of a line carried (R165). -/
def State.haloFlags (s : State) (side : Nat) (j : Int) : Nat := ((s.seamRow side true j).map SeamRow.flags).getD 0

/-- The flags of the open line, as far as they have come, go to the segmentation and the profile engine (R87, R312). -/
def State.noteSlotFlags (s : State) (sl : Slot) : State :=
  match s.stitch.cur with
  | none => s
  | some o =>
    let f := flagWord o.rows
    let w := s.haloFlags 12 o.line
    let e := s.haloFlags 13 o.line
    (s.noteTaints sl.line f w e).noteFlagged sl.line (decide (f ≠ 0 ∨ w ≠ 0 ∨ e ≠ 0))

/-- A pipeline takes its territory of the open line (R54, R157 to R159, R183, R187). -/
def State.takeTerritory (s : State) (sl : Slot) (n : Nat) : State :=
  s.inSlot sl fun s =>
    match s.stitch.cur with
    | none => s
    | some o =>
      let md := s.mdOf sl.count
      let r : RingRow := ⟨sl.line, sl.phase, md, sl.count, sl.stamp, sl.at_, flagWord o.rows, s.haloFlags 12 o.line, s.haloFlags 13 o.line,
        s.cdOf 0, s.shelfmark md (s.cdOf 0) sl.count sl.stamp 31 sl.phase 1 sl.line, s.territory o n⟩
      let s := s.pushRow n r
      let params := (List.range 8).map fun i => s.num (Reg.FOLIO_PARAM n i)
      s.setEngine n { s.engine n with params := params, ready := true }

/-- TERRITORY_READY (R159, R179). -/
def execTerritoryReady (t n : Nat) (s : State) : Host.Outcome State Fault Refusal :=
  .next (s.during t fun s =>
    match s.openSlot with
    | some sl =>
      let w := s.seenBy sl
      s.when (s.inspects && w.engineRuns n && !(s.engine n).ready && s.slotReached sl 1 (1000 * w.readyNs n)) fun s =>
        s.takeTerritory sl n
    | none => s)

/-- What the end of the last folio of a line brings (R54, R87, R294, R312): the line's mark and flags, and with an output line the
profile engine's work. -/
def State.lineDone (s : State) (sl : Slot) : State :=
  match s.slotRow 0 with
  | none => s
  | some r =>
    let s := (s.noteSlotFlags sl).noteMark r.line ⟨r.md, r.count, r.stamp, r.cd⟩
    if s.delivers then
      match s.slotRow (s.lag 0) with
      | some x => s.profileLine x.line x.at_ ⟨x.md, x.count, x.stamp, x.cd⟩
      | none => s
    else s

/-- A pipeline's folio runs over its line and ends (R175, R178, R201). DESIGN CHOICE, log 21. -/
def State.folioLine (s : State) (n : Nat) : State :=
  let s := (s.runFolio n).snapshot n
  let s := (s.setFld (Reg.FOLIO_CYC n) ⟨0, 24⟩ (s.lineCycles n)).setFld (Reg.FOLIO_FEND n) ⟨0, 24⟩ (s.folioEndNs n (s.readyNs n))
  s.setEngine n { s.engine n with done := true }

/-- A camera pipeline's line ends (R178, R181). -/
def State.cameraFolioEnd (s : State) (n : Nat) : State :=
  match s.openSlot with
  | none => s
  | some sl =>
    let w := s.seenBy sl
    s.when (s.inspects && w.engineRuns n && (s.engine n).ready && !(s.engine n).done
        && s.slotReached sl 1 (1000 * w.folioEndNs n (w.readyNs n))) fun s =>
      let s := (s.inSlot sl fun s => s.folioLine n).setRunning n false
      let s := (s.setFld Reg.PWR_GATE Fld.PWR_GATE_SEG 1).setFld Reg.PWR_GATE Fld.PWR_GATE_PROF 1
      s.inSlot sl fun s => if s.foliosDone then s.lineDone sl else s

/-- A reading pipeline's line ends (R178, R326). -/
def State.replayFolioEnd (s : State) (n : Nat) : State :=
  match s.replay (n - 12) with
  | none => s
  | some h =>
    let opened := h.q0 + (h.tick - 1) * 1000000000000 / max 1 h.rate
    s.when (s.inspects && (s.engine n).ready && !(s.engine n).done) fun s =>
      let s := s.atTick h 1 fun s =>
        s.when (decide (opened + 1000 * s.folioEndNs n (s.readyNs n) ≤ s.now)) fun s => s.folioLine n
      s.when (s.engine n).done fun s => s.setRunning n false

/-- FOLIO_LINE_END (R178): the folio end time of a pipeline's line has come. DESIGN CHOICE, log 22. -/
def execFolioLineEnd (t n : Nat) (s : State) : Host.Outcome State Fault Refusal :=
  .next (s.during t fun s => if n < 12 then s.cameraFolioEnd n else s.replayFolioEnd n)

/-! ### Segments of a line -/

/-- The chunks of a line that have come from a side. -/
def State.chunksIn (s : State) (side : Nat) (j : Int) : List ChunkIn := s.seg.got.filter fun g => decide (g.side = side ∧ g.line = j)

/-- Are all chunks of a line in, up to one that ends it (R165), or that carries its contact (R272)? -/
def chunksWhole (l : List ChunkIn) (end_ : ChunkIn → Bool) : Bool :=
  l.any fun c => end_ c && (List.range c.index).all fun i => l.any fun g => decide (g.index = i)

/-- The merged segments of a line are decided (R270, R272) once the line is processed here and its frames have all come from the west. DEDUCED, log 24. -/
def State.seamDecide (s : State) (j : Int) : State :=
  let here := match s.slots.head?, s.seg.times.getLast? with
    | some sl, some x => !(decide (sl.stage = 1) && decide (x.line = j))
    | _, _ => true
  if s.hasWest && here && chunksWhole (s.chunksIn 12 j) ChunkIn.last then
    let (s, mine, forward) := s.decideMerged j
    (s.issueCards (sortBy closesBefore mine)).closeSeamLine j (sortBy closesBefore forward)
  else s

/-- What ends on a line goes its way (R268, R273): what touches a west seam waits, edge segments go east, the rest becomes cards. -/
def State.seamWork (s : State) (j : Int) (cs : List ClosedSeg) (merges : List (Nat × Nat)) : State :=
  let west := cs.filter s.waitsWest
  let rest := cs.filter fun c => !s.waitsWest c
  let edge := rest.filter s.goesEast
  let plain := rest.filter fun c => !s.goesEast c
  let s := { s with seg := { s.seg with held := s.seg.held ++ west } }
  let (s, kept) := s.sendSegments j edge merges
  ((s.issueCards (sortBy closesBefore (plain ++ kept))).ownContact j).seamDecide j

/-- The segments that an emptied ring cuts off (R275): all that were open close with CUTOFF. -/
def State.cutOff (s : State) (j : Int) (due : Nat) : State × List ClosedSeg :=
  let cut := (s.strip 0).filter fun g => decide (Nat.land g.flags flCutoff ≠ 0)
  let s := (s.setStrip 0 ((s.strip 0).filter fun g => decide (Nat.land g.flags flCutoff = 0))).bumpBy (Reg.SEG_CNT 0) cut.length
  let s := if s.card.lacuna.isSome then
    { s with seg := { s.seg with lastOut := Store.set (fun _ => none) 0 none s.seg.lastOut } } else s
  (s.showLive, sortBy closesBefore (cut.map fun g => g.close 0 j due 0))

/-- The segmentation engine's work for a slot (R257 to R275), then SEG_LIVE (R292). -/
def State.segmentSlot (s : State) (sl : Slot) : State :=
  match s.seg.times.getLast? with
  | none => s
  | some t =>
    let s := (s.noteSlotFlags sl).newBurst 0 t.line
    if s.delivers then
      match s.slotRow (s.lag 0) with
      | none => s
      | some x =>
        let s := s.lacunaCards x.line t.due
        let (s, cs, merges) := s.segmentLine 0 x.line t.due ⟨x.md, x.count, x.stamp, x.cd⟩ s.liveRuns
        ((s.seamWork x.line cs merges).forgetTaints (s.lag 0)).showLive
    else
      let (s, cs) := s.cutOff t.line t.due
      (s.seamWork t.line cs []).showLive

/-- SEGMENTATION_LINE_END (R262): the engine ends the line, once every folio has. -/
def execSegmentationLineEnd (t : Nat) (s : State) : Host.Outcome State Fault Refusal :=
  .next (s.during t fun s =>
    match s.openSlot with
    | some sl =>
      let w := s.seenBy sl
      s.when (s.inspects && decide (sl.stage = 1) && w.foliosDone) fun s =>
        let s := { s with slots := s.slots.map fun (x : Slot) => if x = sl then { x with stage := 2 } else x }
        (s.inSlot sl fun s => s.segmentSlot sl).setFld Reg.PWR_GATE Fld.PWR_GATE_SEG 0
    | none => s)

/-! ### The end of a slot -/

/-- The running pipeline with the latest folio end time (R254). -/
def State.latestFolio (s : State) : Nat :=
  (s.cameraEngines.foldl (fun (m : Nat × Nat) e =>
    let f := s.folioEndNs e (s.readyNs e)
    if m.2 < f then (e, f) else m) (0, 0)).1

/-- One slot less of those that deliver no output (R191, R198). DEDUCED, log 92. -/
def State.warmed (s : State) : State :=
  (List.range 12).foldl (fun (s : State) e =>
    let h := s.engine e
    if h.warm = 0 then s
    else (s.setEngine e { h with warm := h.warm - 1 }).setFld (Reg.FOLIO_STATUS e) Fld.FOLIO_STATUS_WARMUP (b2n (decide (1 < h.warm)))) s

/-- The work of a slot that is not done by E_j ends with the slot, which still completes (R253, R254, log 53). -/
def State.lateWork (s : State) (sl : Slot) : State :=
  let w := s.seenBy sl
  let waits := !w.foliosDone
  let s := w.cameraEngines.foldl (fun (s : State) e =>
    let s := if (s.engine e).ready then s else s.takeTerritory sl e
    if (s.engine e).done then s else s.inSlot sl fun s => s.folioLine e) s
  let s := if waits then s.inSlot sl fun s => s.lineDone sl else s
  s.inSlot sl fun s => s.segmentSlot sl

/-- E_j: the slot's work is checked and released (R23, R153, R154, R254, R279, R303, R321, R395, R503). DEDUCED, log 53. -/
def State.slotEnd (s : State) (sl : Slot) : State :=
  let s := if sl.stage = 2 then s else (s.inSlot sl fun s => s.breach 13 s.latestFolio none).lateWork sl
  let s := s.inSlot sl fun s =>
    let s := (s.countColumns s.ws).noteSlotFlags sl
    let (j, due) := ((s.seg.times.getLast?).map fun x => (x.line, x.due)).getD (sl.line, s.now)
    (((s.floodCards j due).taintSamples j).profileSlotEnd.stacksSlotEnd sl).relayLine sl
  let s := (s.joinSend sl.line).joinSlotEnd sl.line
  let s := ((s.warmed).setFld Reg.PWR_GATE Fld.PWR_GATE_STITCH 0).setFld Reg.PWR_GATE Fld.PWR_GATE_PROF 0
  let s := s.cameraEngines.foldl (fun (s : State) e => s.setRunning e false) s
  { s with
    slots := s.slots.drop 1
    stitch := { s.stitch with cur := none, frames := s.stitch.frames.filter fun r => decide (r.line ≠ sl.line) } }.finishIfDone

/-- PROCESSING_SLOT_END (R23): E_j of the open slot has come. -/
def execProcessingSlotEnd (t : Nat) (s : State) : Host.Outcome State Fault Refusal :=
  .next (s.during t fun s =>
    match s.openSlot with
    | some sl => s.when (s.inspects && s.slotReached sl 2 0) fun s => s.slotEnd sl
    | none => s)

/-! ### The remap table port -/

/-- RMP_TABLE_WRITE (R156): a write of RMP_TDATA. -/
def execRmpTableWrite (t : Nat) (p : Path) (v : Word) (s : State) : Host.Outcome State Fault Refusal :=
  .next (s.writeAt t p Reg.RMP_TDATA v)

/-- RMP_TABLE_READ (R156): a read of RMP_TDATA. -/
def execRmpTableRead (t : Nat) (p : Path) (s : State) : Host.Outcome State Fault Refusal :=
  .next (s.readAt t p Reg.RMP_TDATA)

/-- RMP_SEAL (R156, R566): RMP_TCTL is written with SEAL set. -/
def execRmpSeal (t : Nat) (p : Path) (v : Word) (s : State) : Host.Outcome State Fault Refusal :=
  .next (s.writeAt t p Reg.RMP_TCTL (withBits v 0x100))

/-- RMP_DISCARD (R156): RMP_TCTL is written with DISCARD set. -/
def execRmpDiscard (t : Nat) (p : Path) (v : Word) (s : State) : Host.Outcome State Fault Refusal :=
  .next (s.writeAt t p Reg.RMP_TCTL (withBits v 0x200))

/-- REMAP_BANK_CHANGE (R156, R566): the bank change that a reference trigger has made due; the lines from that trigger on are stitched
with the new bank. -/
def execRemapBankChange (t : Nat) (s : State) : Host.Outcome State Fault Refusal :=
  .next (s.during t fun s => s.when (s.mode.active && s.stitch.due.isSome) State.rmpBankChange)

/-! ### Seam links -/

/-- SEAM_HELLO (R163). -/
def execSeamHello (t side : Nat) (data : BitVec 48) (s : State) : Host.Outcome State Fault Refusal :=
  .next (s.onLink t side [4] fun s => s.takeHello side data)

/-- Take an export or halo frame of the slot's line. -/
def State.seamFrameIn (s : State) (side : Nat) (halo : Bool) (f : SeamFrame) : State :=
  match s.slots.head? with
  | some sl => s.inSlot sl fun s => s.takeFrame side halo f
  | none => s.takeFrame side halo f

/-- X_FRAME (R165, R166). -/
def execXFrame (t side : Nat) (f : SeamFrame) (s : State) : Host.Outcome State Fault Refusal :=
  .next (s.onLink t side [5] fun s => s.when s.inspects fun s => s.seamFrameIn side false f)

/-- H_FRAME (R165, R166). -/
def execHFrame (t side : Nat) (f : SeamFrame) (s : State) : Host.Outcome State Fault Refusal :=
  .next (s.onLink t side [5] fun s => s.when s.inspects fun s => s.seamFrameIn side true f)

/-- The place of a chunk among those of its line (R165): CHUNK counts modulo 16, and `next` is the place after the last one that came. -/
def chunkIndex (next chunk : Nat) : Nat :=
  let off := (chunk + 16 - next % 16) % 16
  if off ≤ 8 ∨ next + off < 16 then next + off else next + off - 16

/-- Do the records of a chunk carry the line's CONTACT (R269)? -/
def hasContact (blocks : List (BitVec 64)) : Bool :=
  (List.range 16).any fun i => decide (4 * i < blocks.length) && decide (recordKind (blocks.drop (4 * i)) = (1, 0))

/-- A chunk of records comes in from the west: it is taken, and merged segments are decided, as the slot of its line sees the registers
(R17, R284). -/
def State.takeChunk (s : State) (t : SlotTime) (f : SeamFrame) : State :=
  (s.withCfg t.regs fun s =>
    let s := s.takeRecords t.line 16 f.blocks
    if f.last then { s with seg := { s.seg with westLast := some t.line } }.seamDecide t.line else s.seamDecide t.line).showLive

/-- A copy of a segment frame (R166, R171, R269, R270, R272): the first valid copy of a chunk is used. -/
def State.takeSFrame (s : State) (side : Nat) (f : SeamFrame) : State :=
  match s.seg.times.reverse.find? fun x => frameOk f x.line && decide (f.nblk ≤ 64 ∧ f.nblk % 4 = 0) with
  | none => s.copyError side
  | some t =>
    let i := chunkIndex (((s.chunksIn side t.line).map fun g => g.index + 1).foldl max 0) f.chunk
    if (s.chunksIn side t.line).any fun g => decide (g.index = i) then s
    else
      let g : ChunkIn := ⟨side, t.line, i, f.last, hasContact f.blocks⟩
      let s := { s with seg := { s.seg with got := (s.seg.got ++ [g]).drop (s.seg.got.length + 1 - 1024) } }
      let s := (s.bump (Reg.SEAM_CNT (side - 12) 0)).bumpBy (Reg.SEAM_CNT (side - 12) 4) (f.nblk / 4)
      if side = 12 then s.takeChunk t f else s

/-- S_FRAME (R269, R270). -/
def execSFrame (t side : Nat) (f : SeamFrame) (s : State) : Host.Outcome State Fault Refusal :=
  .next (s.onLink t side [5] fun s => s.when s.inspects fun s => s.takeSFrame side f)

/-- Is the segment frame of a line and side missing past its deadline (R167, R272)? The chunks of the sender's own records end with its
CONTACT, or from the east with the only one; the chunk with LAST and all before it come by the deadline of the sender's place. -/
def State.sFrameMissing (s : State) (side : Nat) (j : Int) : Bool :=
  match s.slotTime j with
  | none => false
  | some t =>
    let i := if side = 12 then s.memberIndex - 1 else s.memberIndex + 1
    let past (ps : Nat) : Bool := (s.under t.regs).pminsPast t.at_ 2 ps
    let own (c : ChunkIn) : Bool := c.contact || decide (side = 13)
    (past 1600000 && !chunksWhole (s.chunksIn side j) own)
      || (past (1600000 + 2000000 * i) && !chunksWhole (s.chunksIn side j) ChunkIn.last)

/-- Is the export or halo frame of the open line missing past its deadline (R167, R168)? An export is due on a link with an XLEN. DEDUCED, log 70. -/
def State.frameMissing (s : State) (side : Nat) (halo : Bool) (j : Int) : Bool :=
  match s.openSlot with
  | none => false
  | some sl =>
    decide (sl.line = j) && s.slotReached sl 1 (if halo then 440000 else 260000) && (s.seamRow side halo j).isNone
      && (halo || decide ((s.seenBy sl).xlen side ≠ 0))

/-- SEAM_FRAME_DEADLINE (R167, R168, R272): a deadline of the X (0), H (1) or S (2) frame of a line. -/
def execSeamFrameDeadline (t side kind : Nat) (j : Int) (s : State) : Host.Outcome State Fault Refusal :=
  .next (s.during t fun s =>
    let lost := if kind = 2 then s.sFrameMissing side j else s.frameMissing side (decide (kind = 1)) j
    s.when (s.mode == .inspecting && s.seamSides.contains side && lost) fun s => s.frameLost side j)

end Sys2Proof.Machine
end

