-- ==== Sys2Proof/Machine/Oht.lean ====
section
/-! DEFINITION. The control channel of the Olunyx Host Transport (R377 to R386, R500, R532): sessions, the order of requests, what each
operation does and how it is answered. -/

namespace Sys2Proof.Machine

/-! ### Sessions -/

/-- Session `i` (R379). -/
def State.session (s : State) (i : Nat) : Option Session := Store.get (fun _ => none) i s.host.sessions

/-- Store session `i`; OHT_SESS shows it. -/
def State.setSession (s : State) (i : Nat) (e : Option Session) : State :=
  let s := { s with host := { s.host with sessions := Store.set (fun _ => none) i e s.host.sessions } }
  let s := s.setFld (Reg.OHT_SESS i) Fld.OHT_SESS_ACTIVE (b2n e.isSome)
  s.setFld (Reg.OHT_SESS i) Fld.OHT_SESS_HELD (min 15 ((e.map fun x => x.held.length).getD 0))

/-- The key of a session (R379): source IP address and UDP port. -/
def sameSource (a b : Peer) : Bool := a.v6 == b.v6 && decide (a.ip = b.ip ∧ a.udp = b.udp)

/-- The session of a source. -/
def State.sessionOf (s : State) (x : Peer) : Option Nat :=
  (List.range 4).find? fun i => match s.session i with
    | some e => sameSource e.peer x
    | none => false

/-- The session that has been idle longest, if for at least 1 s. -/
def State.idleSession (s : State) : Option Nat :=
  ((List.range 4).foldl (fun (b : Option (Nat × Nat)) i =>
    match s.session i with
    | some e =>
      if e.busy.isNone && decide (e.lastUsed + 1000000000000 ≤ s.now) then
        match b with
        | some (_, t) => if e.lastUsed < t then some (i, e.lastUsed) else b
        | none => some (i, e.lastUsed)
      else b
    | none => b) none).map Prod.fst

/-- OPEN (R379): the source's session opens or opens again; a replaced session's captures are forgotten. None where all four are in
use. DEDUCED, log 100. -/
def State.openSession (s : State) (x : Peer) (seq : Nat) : Option (Nat × State) :=
  match s.sessionOf x with
  | some i =>
    match s.session i with
    | some e => some (i, s.setSession i (some { e with expected := seq, cache := [], held := [] }))
    | none => none
  | none =>
    match (List.range 4).find? fun i => (s.session i).isNone with
    | some i => some (i, (s.forgetPath (.oht i)).setSession i (some ⟨x, seq, [], [], s.now, none⟩))
    | none => s.idleSession.map fun i => (i, (s.forgetPath (.oht i)).setSession i (some ⟨x, seq, [], [], s.now, none⟩))

/-! ### Answers -/

/-- OP and OPFLAGS of an operation (R381). -/
def OhtOp.code : OhtOp → Nat × Nat
  | .read fixed _ _ => (1, b2n fixed)
  | .write fixed _ _ _ => (2, b2n fixed)
  | .modify _ _ _ => (3, 0)
  | .blkread _ _ => (4, 0)
  | .blkwrite _ _ _ => (5, 0)
  | .commit => (6, 0)
  | .ident => (7, 0)
  | .unknown op flags => (op, flags)

/-- Bytes 0 to 3 of an answer's body, as in the request's. DEDUCED, log 99. -/
def OhtOp.head (op : OhtOp) : List Byte := [BitVec.ofNat 8 op.code.1, BitVec.ofNat 8 op.code.2, 0, 0]

/-- A RESPONSE (R377, R378). DEDUCED, log 99. -/
def State.response (s : State) (seq status : Nat) (op : OhtOp) (result : List Byte) : List Byte :=
  s.datagram 0x02 seq 0 0 status (op.head ++ result)

/-- A control datagram to a source, from the sub-port that received its request (R379); it waits for a frame boundary. -/
def State.answer (s : State) (ps mac : Nat) (x : Peer) (bytes : List Byte) : State :=
  let f := s.udpFrame ps { x with mac := mac } 0 48610 bytes
  { s with host := { s.host with control := Store.set (fun _ => []) ps (s.controlList ps ++ [f]) s.host.control } }

/-- An executed request is answered, and its answer kept among the last 64 (R380). -/
def State.completeWith (s : State) (i : Nat) (bytes : List Byte) : State :=
  match s.session i with
  | none => s
  | some e =>
    match e.busy with
    | none => s
    | some r =>
      let cache := (e.cache ++ [(r.seq, bytes)]).drop (e.cache.length + 1 - 64)
      let s := s.setSession i (some { e with cache := cache, busy := none, lastUsed := s.now })
      (s.bump (Reg.OHT_CNT 0)).answer r.ps r.mac e.peer bytes

/-- The request under way ends with a status and a result. DEDUCED, log 102. -/
def State.complete (s : State) (i status : Nat) (result : List Byte) : State :=
  match (s.session i).bind Session.busy with
  | some r => s.completeWith i (s.response r.seq status r.op result)
  | none => s

/-- STATUS of an access (R377, R383): ADDR with the index of the first rejected word. -/
def addrStatus : Option Nat → Nat
  | some k => 1 + k * 65536
  | none => 0

/-! ### Operations on registers -/

/-- A read of one word; an address outside the 24-bit register space is outside every assigned range (R32). -/
def State.ohtRead (s : State) (i a : Nat) : Option Word × State :=
  if a < 2 ^ 24 then s.busRead (.oht i) a else (none, s.rejectAccess a)

/-- A write of one word: was it rejected? -/
def State.ohtWrite (s : State) (i a : Nat) (v : Word) : Bool × State :=
  if a < 2 ^ 24 then s.busWrite (.oht i) a v else (true, s.rejectAccess a)

/-- The first of two indexes. -/
def firstIndex (a : Option Nat) (k : Nat) (bad : Bool) : Option Nat :=
  match a with
  | some x => some x
  | none => if bad then some k else none

/-- READ (R381): word by word; a rejected word reads 0 and does not stop those after it. -/
def State.readWords (s : State) (i : Nat) (as : List Nat) : State × List Byte × Option Nat :=
  as.zipIdx.foldl (fun (w : State × List Byte × Option Nat) a =>
    let (v, s) := w.1.ohtRead i a.1
    (s, w.2.1 ++ leBytes 4 (v.getD 0).toNat, firstIndex w.2.2 a.2 v.isNone)) (s, [], none)

/-- WRITE (R381): word by word, while the host transport that executes it runs. -/
def State.writeWords (s : State) (i : Nat) (ws : List (Nat × Word)) : State × Option Nat :=
  ws.zipIdx.foldl (fun (w : State × Option Nat) a =>
    if (w.1.session i).isNone then w
    else
      let (bad, s) := w.1.ohtWrite i a.1.1 a.1.2
      (s, firstIndex w.2 a.2 bad)) (s, none)

/-- The addresses of an access: ascending, or one address for every word with FIXED (R381). -/
def wordAddrs (fixed : Bool) (addr count : Nat) : List Nat := (List.range count).map fun k => if fixed then addr else addr + 4 * k

/-- An answer to a request whose writes have been performed, or gathered (R500): a gathered write's answer waits for its epoch. -/
def State.answerWrites (s before : State) (i status : Nat) (result : List Byte) : State :=
  match (s.session i).bind Session.busy with
  | none => s
  | some r =>
    let bytes := s.response r.seq status r.op result
    if before.red.writes.length < s.red.writes.length then
      let epoch := s.red.num + (s.red.writes.length - 1) / 4096
      { s with host := { s.host with answers := s.host.answers ++ [⟨i, r.seq, epoch, bytes⟩] } }
    else s.completeWith i bytes

/-- MODIFY (R381). DEDUCED, log 103. -/
def State.modifyWord (s : State) (i addr : Nat) (mask value : Word) : State :=
  match s.ohtRead i addr with
  | (none, s) => s.complete i (addrStatus (some 0)) (leBytes 4 0)
  | (some old, s) =>
    let (bad, t) := s.ohtWrite i addr ((old &&& ~~~mask) ||| (value &&& mask))
    t.answerWrites s i (if bad then addrStatus (some 0) else 0) (leBytes 4 old.toNat)

/-! ### Block transfers (R384) -/

/-- The chunk of a port (R384). -/
def State.chunk (s : State) (ps : Nat) : Nat := if s.mtuOf ps = 1500 then 1024 else 7168

/-- The BLKDATA datagrams of a block that starts at `off`. -/
def blkBodies (chunk : Nat) : Nat → Nat → List Byte → List (List Byte × Bool)
  | 0, _, _ => []
  | n + 1, off, bytes =>
    (leBytes 4 off ++ bytes.take chunk, decide (bytes.length ≤ chunk))
      :: (if bytes.length ≤ chunk then [] else blkBodies chunk n (off + chunk) (bytes.drop chunk))

/-- Is an address range inside GDDR6 or SRAM (R336, R384)? -/
def blockInSpace (addr len : Nat) : Bool := decide (addr / 2 ^ 36 < 2) && inSpace (addr / 2 ^ 36) (addr % 2 ^ 36 : Nat) len

/-- Start the block engine on a transfer of session `i`. DEDUCED, log 104. -/
def State.startBlock (s : State) (i seq : Nat) (write : Bool) (addr len : Nat) : State :=
  { s with host := { s.host with block := some ⟨i, seq, write, addr, len, 0⟩ } }

/-- BLKREAD (R381, R384). -/
def State.blkRead (s : State) (i : Nat) (r : HeldReq) (x : Peer) (addr len : Nat) : State :=
  if len = 0 ∨ 16777215 < len then s.complete i 6 []
  else if !blockInSpace addr len then s.complete i 1 []
  else
    let bytes := readBytes (s.memOf (addr / 2 ^ 36)) (addr % 2 ^ 36) len
    let s := (blkBodies (s.chunk r.ps) (len / s.chunk r.ps + 1) 0 bytes).foldl (fun (s : State) b =>
      s.answer r.ps r.mac x (s.datagram 0x04 r.seq 0 (if b.2 then 2 else 0) 0 b.1)) s
    s.startBlock i r.seq false addr len

/-- BLKWRITE (R381, R384). -/
def State.blkWrite (s : State) (i : Nat) (r : HeldReq) (addr len : Nat) (bytes : List Byte) : State :=
  if len = 0 ∨ s.chunk r.ps < len ∨ bytes.length ≠ len then s.complete i 6 []
  else if !blockInSpace addr len then s.complete i 1 []
  else if s.mode == .inspecting && s.protects (addr / 2 ^ 36) (addr % 2 ^ 36 : Nat) len then s.complete i 7 []
  else (s.memWrite (addr / 2 ^ 36) (addr % 2 ^ 36) bytes).startBlock i r.seq true addr len

/-! ### Performing a request -/

/-- COMMIT (R385): ACC_CTRL.COMMIT is written; a rejected one is answered with STATE, an accepted one when accession ends. DEDUCED, log 103. -/
def State.ohtCommit (s : State) (i seq : Nat) : State :=
  let t := (s.ohtWrite i Reg.ACC_CTRL (withBits (s.reg Reg.ACC_CTRL) 1)).2
  let queued := decide (s.red.writes.length < t.red.writes.length)
  let started := decide (s.fld Reg.ACC_STATUS Fld.ACC_STATUS_SSTATE ≠ 1) && decide (t.fld Reg.ACC_STATUS Fld.ACC_STATUS_SSTATE = 1)
  if queued || started then { t with host := { t.host with commit := some (i, seq) } }
  else t.complete i 2 []

/-- What the boot stage executes (R532). DEDUCED, log 106. -/
def bootAllows : OhtOp → Bool
  | .ident => true
  | .blkwrite addr len _ => decide (addr / 2 ^ 36 = 1) && inBootArea (addr % 2 ^ 36) len
  | .write fixed addr count _ => decide (addr = Reg.SYS_BOOTCTL) && (fixed || decide (count ≤ 1))
  | _ => false

/-- Perform the request under way of session `i` (R381 to R385, R532). DEDUCED, log 102. -/
def State.perform (s : State) (i : Nat) (x : Peer) (r : HeldReq) : State :=
  if !s.mode.active && !bootAllows r.op then s.complete i 2 []
  else match r.op with
    | .read fixed addr count =>
      if count = 0 ∨ 256 < count then s.complete i 6 []
      else
        let (s, bytes, bad) := s.readWords i (wordAddrs fixed addr count)
        s.complete i (addrStatus bad) bytes
    | .write fixed addr count words =>
      if count = 0 ∨ 256 < count ∨ words.length ≠ count then s.complete i 6 []
      else
        let (t, bad) := s.writeWords i ((wordAddrs fixed addr count).zip words)
        t.answerWrites s i (addrStatus bad) []
    | .modify addr mask value => s.modifyWord i addr mask value
    | .blkread addr len => s.blkRead i r x addr len
    | .blkwrite addr len bytes => s.blkWrite i r addr len bytes
    | .commit => s.ohtCommit i r.seq
    | .ident => s.complete i 0 (leBytes 4 (s.reg Reg.SYS_ID).toNat ++ leBytes 4 (s.fld Reg.SYS_NODE Fld.SYS_NODE_NODE_ID))
    | .unknown _ _ => s.complete i 6 []

/-- Can a request start now: a block transfer waits for the block engine? DEDUCED, log 104. -/
def State.canStart (s : State) (r : HeldReq) : Bool :=
  match r.op with
  | .blkread _ _ => s.host.block.isNone
  | .blkwrite _ _ _ => s.host.block.isNone
  | _ => true

/-- Execute what has come, in SEQ order, one at a time (R380). The number bounds the requests. -/
def State.runSession (i : Nat) : Nat → State → State
  | 0, s => s
  | n + 1, s =>
    match s.session i with
    | none => s
    | some e =>
      match e.busy, e.held.find? fun r => decide (r.seq = e.expected) with
      | none, some r =>
        if s.canStart r then
          let held := e.held.filter fun x => decide (x.seq ≠ r.seq)
          let s := s.setSession i (some { e with expected := (e.expected + 1) % 2 ^ 32, held := held, busy := some r, lastUsed := s.now })
          State.runSession i n (s.perform i e.peer r)
        else s
      | _, _ => s

/-- Go on with every session, after something has ended that one may wait for. -/
def State.runSessions (s : State) : State := (List.range 4).foldl (fun (s : State) i => State.runSession i 17 s) s

/-! ### Requests received -/

/-- A host datagram reaches the transport (R372, R373, R378): it is enabled, and while NODE_ID is locked the datagram names it. DEDUCED, log 107. -/
def State.ohtIn (s : State) (h : OhtRx) (f : State → State) : State :=
  let ps := 4 * h.port + h.sub
  s.receive ps h.frame [] fun s =>
    if !s.flag Reg.OHT_CTRL Fld.OHT_CTRL_EN then s.subCount ps 3
    else if s.flag Reg.SYS_NODE Fld.SYS_NODE_NLOCK && decide (h.node % 2 ^ 14 ≠ s.fld Reg.SYS_NODE Fld.SYS_NODE_NODE_ID) then
      s.bump (Reg.OHT_CNT 3)
    else f s

/-- A request has arrived in session `i` (R380): executed or held, answered from the cache, or STALE. DEDUCED, log 101. -/
def State.takeRequest (s : State) (i : Nat) (h : OhtRx) (op : OhtOp) : State :=
  match s.session i with
  | none => s
  | some e =>
    let ps := 4 * h.port + h.sub
    let s := s.setSession i (some { e with lastUsed := s.now })
    if (h.seq + 2 ^ 32 - e.expected) % 2 ^ 32 < 16 then
      let held := if e.held.any fun r => decide (r.seq = h.seq) then e.held else e.held ++ [⟨h.seq, s.now, ps, h.sender.mac, op⟩]
      State.runSession i 17 (s.setSession i (some { e with held := held, lastUsed := s.now }))
    else if e.busy.any fun r => decide (r.seq = h.seq) then s
    else match e.cache.find? fun c => decide (c.1 = h.seq) with
      | some c => (s.bump (Reg.OHT_CNT 1)).answer ps h.sender.mac h.sender c.2
      | none => (s.bump (Reg.OHT_CNT 2)).answer ps h.sender.mac h.sender (s.response h.seq 3 op [])

/-- A REQUEST arrives (R379): with OPEN its session opens, or BUSY answers; without a session NOSESSION answers. -/
def State.request (s : State) (h : OhtRx) (op : OhtOp) : State :=
  s.ohtIn h fun s =>
    let ps := 4 * h.port + h.sub
    if bit h.flags 0 then
      match s.openSession h.sender h.seq with
      | some (i, s) => s.takeRequest i h op
      | none => s.answer ps h.sender.mac h.sender (s.response h.seq 5 op [])
    else match s.sessionOf h.sender with
      | some i => s.takeRequest i h op
      | none => s.answer ps h.sender.mac h.sender (s.response h.seq 4 op [])

/-- Does a gap lie before a held request? -/
def Session.gapBefore (e : Session) (seq : Nat) : Bool :=
  (List.range ((seq + 2 ^ 32 - e.expected) % 2 ^ 32)).any fun k =>
    !(e.held.any fun r => decide (r.seq = (e.expected + k) % 2 ^ 32))

/-- Requests held for 100 ms are discarded (R380). DEDUCED, log 101. -/
def State.holdTimeout (s : State) (i : Nat) : State :=
  match s.session i with
  | some e =>
    let held := e.held.filter fun r => !(e.gapBefore r.seq && decide (r.at_ + 100000000000 ≤ s.now))
    s.setSession i (some { e with held := held })
  | none => s

/-! ### Answers that have waited -/

/-- The block transfer under way ends (R384); the next request may start. -/
def State.blockDone (s : State) : State :=
  match s.host.block with
  | some x => (({ s with host := { s.host with block := none } }).complete x.session x.status []).runSessions
  | none => s

/-- Accession has ended, or a COMMIT that an epoch held was rejected when it was applied (R385). DEDUCED, log 111. -/
def State.answerCommit (s : State) (rejected : Bool) : State :=
  match s.host.commit with
  | some (i, _) =>
    let s := { s with host := { s.host with commit := none } }
    (if rejected then s.complete i 2 [] else s.complete i 0 s.accessionBody).runSessions
  | none => s

/-- Is the epoch of an answer committed, or in SOLO applied (R500)? DEDUCED, log 105. -/
def State.answerDue (s : State) (a : EpochAnswer) : Bool :=
  let solo := s.flag Reg.RED_STATUS Fld.RED_STATUS_SOLO
  match s.red.closed.find? fun e => decide (e.num = a.epoch) with
  | some e => e.done && !solo
  | none => decide (a.epoch < s.red.num)

/-- Answers whose epochs are committed leave (R500). A member that gathers no more writes answers the rest never: what they wrote does not
take effect. DEDUCED, log 105. -/
def State.releaseAnswers (s : State) : State :=
  let due := s.host.answers.filter s.answerDue
  let rest := s.host.answers.filter fun a => !s.answerDue a
  let keep := if s.gathers then rest else []
  let lost := if s.gathers then [] else rest
  if due.isEmpty && lost.isEmpty then s
  else
    let s := { s with host := { s.host with answers := keep } }
    let s := due.foldl (fun (s : State) a => s.completeWith a.session a.bytes) s
    let s := lost.foldl (fun (s : State) a => match s.session a.session with
      | some e => s.setSession a.session (some { e with busy := none })
      | none => s) s
    s.runSessions

end Sys2Proof.Machine
end

