-- ==== Sys2Proof/Machine/CmdAcc.lean ====
section
/-! DEFINITION. The meanings of the commands of accession, of the seam chain's digests, of breaches and of the folio memory
(07_folio_engines.md R196, 09_accession.md). -/

namespace Sys2Proof.Machine

/-- FOLIO_MEMORY_WRITE (R196): a write to the folio memories. -/
def execFolioMemoryWrite (t : Nat) (p : Path) (a : Nat) (v : Word) (s : State) : Host.Outcome State Fault Refusal :=
  .next (s.writeAt t p a v)

/-- COMMIT (R233): ACC_CTRL is written with COMMIT set. -/
def execCommit (t : Nat) (p : Path) (v : Word) (s : State) : Host.Outcome State Fault Refusal :=
  .next (s.writeAt t p Reg.ACC_CTRL (withBits v 1))

/-- ACCESSION_COMPLETE (R234, R385): the accession that has begun ends, and a COMMIT request is answered. -/
def execAccessionComplete (t : Nat) (s : State) : Host.Outcome State Fault Refusal :=
  .next (s.during t fun s => s.when (s.mode.active && decide (s.fld Reg.ACC_STATUS Fld.ACC_STATUS_SSTATE = 1)) fun s =>
    s.accessionEnd.answerCommit false)

/-- UNSEAL (R233): ACC_CTRL is written with UNSEAL set. -/
def execUnseal (t : Nat) (p : Path) (v : Word) (s : State) : Host.Outcome State Fault Refusal :=
  .next (s.writeAt t p Reg.ACC_CTRL (withBits v 2))

/-- SWITCH_ARM (R238): ACC_CTRL is written with SWITCH_ARM set. -/
def execSwitchArm (t : Nat) (p : Path) (v : Word) (s : State) : Host.Outcome State Fault Refusal :=
  .next (s.writeAt t p Reg.ACC_CTRL (withBits v 4))

/-- SWITCH_CANCEL (R238): ACC_CTRL is written with SWITCH_CANCEL set. -/
def execSwitchCancel (t : Nat) (p : Path) (v : Word) (s : State) : Host.Outcome State Fault Refusal :=
  .next (s.writeAt t p Reg.ACC_CTRL (withBits v 8))

/-- Does a stop of the inspection stand at the boundary of line `j` or an earlier one (R239, R253)? -/
def State.boundaryBy (s : State) (j : Int) : Bool :=
  match s.err.boundary with
  | some b => decide (b ≤ j)
  | none => false

/-- A hand-over in a pair (R503): the switch of a join fixes the joining line in the active, and is checked in the joiner. -/
def State.handOverJoin (s : State) (j : Int) : State :=
  if s.joinActive then s.joinSwitch j
  else if s.joining then s.joinChecks j
  else s

/-- HAND_OVER (R236, R238, R239): the staged set becomes live at the reference trigger that a switch awaited, unless a breach takes effect at that
line's boundary or an earlier one. -/
def execHandOver (t : Nat) (s : State) : Host.Outcome State Fault Refusal :=
  .next (s.during t fun s =>
    match s.acc.due with
    | some j => s.when (s.mode == .inspecting && !s.boundaryBy j) fun s => s.handOver.handOverJoin j
    | none => s)

/-- DIGEST (R241, R242): both parts of a DIGEST message have arrived on a side. -/
def execDigest (t side : Nat) (d0 d1 : BitVec 48) (s : State) : Host.Outcome State Fault Refusal :=
  .next (s.onLink t side [5] fun s => s.takeDigest side d0 d1)

/-- DIGEST_PERIOD (R241): a millisecond has passed since the last DIGEST message. -/
def execDigestPeriod (t : Nat) (s : State) : Host.Outcome State Fault Refusal :=
  .next (s.during t fun s => s.when s.mode.active State.sendDigests)

/-- SEAM_DIGEST (R242): a side's live digests have differed for more than 2 ms. -/
def execSeamDigest (t side : Nat) (s : State) : Host.Outcome State Fault Refusal :=
  .next (s.during t fun s => s.when s.mode.active fun s => s.checkDigest side)

/-- BREACH (R253): the earliest line boundary at which a breach takes effect has come. -/
def execBreach (t : Nat) (s : State) : Host.Outcome State Fault Refusal :=
  .next (s.during t fun s => s.when (s.mode == .inspecting) State.takeBreach)

/-- CAT_TABLE_WRITE (R281): a write of CAT_TDATA. -/
def execCatTableWrite (t : Nat) (p : Path) (v : Word) (s : State) : Host.Outcome State Fault Refusal :=
  .next (s.writeAt t p Reg.CAT_TDATA v)

/-- CAT_TABLE_READ (R293): a read of CAT_TDATA. -/
def execCatTableRead (t : Nat) (p : Path) (s : State) : Host.Outcome State Fault Refusal :=
  .next (s.readAt t p Reg.CAT_TDATA)

end Sys2Proof.Machine
end

