-- ==== Sys2Proof/Machine/CmdCal.lean ====
section
/-! DEFINITION. The meanings of the commands of correction and calibration (05_correction_calibration.md). The units run in Poised,
Inspecting and Halted. -/

namespace Sys2Proof.Machine

/-- CORR_TABLE_WRITE (R128): a write of CORR_TDATA. -/
def execCorrTableWrite (t : Nat) (p : Path) (n : Nat) (v : Word) (s : State) : Host.Outcome State Fault Refusal :=
  .next (s.writeAt t p (Reg.CORR_TDATA n) v)

/-- CORR_TABLE_READ (R128): a read of CORR_TDATA. -/
def execCorrTableRead (t : Nat) (p : Path) (n : Nat) (s : State) : Host.Outcome State Fault Refusal :=
  .next (s.readAt t p (Reg.CORR_TDATA n))

/-- CORR_SEAL (R129): CORR_TCTL is written with SEAL set. -/
def execCorrSeal (t : Nat) (p : Path) (n : Nat) (v : Word) (s : State) : Host.Outcome State Fault Refusal :=
  .next (s.writeAt t p (Reg.CORR_TCTL n) (withBits v 0x100))

/-- CAL_SEAL (R129): the register CAL_SEAL is written. -/
def execCalSeal (t : Nat) (p : Path) (v : Word) (s : State) : Host.Outcome State Fault Refusal :=
  .next (s.writeAt t p Reg.CAL_SEAL v)

/-- CORR_DISCARD (R130): CORR_TCTL is written with DISCARD set. -/
def execCorrDiscard (t : Nat) (p : Path) (n : Nat) (v : Word) (s : State) : Host.Outcome State Fault Refusal :=
  .next (s.writeAt t p (Reg.CORR_TCTL n) (withBits v 0x200))

/-- CORR_BANK_CHANGE (R129): the bank change that a trigger has made due. -/
def execCorrBankChange (t n : Nat) (s : State) : Host.Outcome State Fault Refusal :=
  .next (s.during t fun s => s.when s.mode.active fun s =>
    s.when (s.corrOf n).due.isSome fun s => s.corrBankChange n)

/-- BANK_COPY_DONE (R130, R156): the copy into the shadow of a pipeline, or of the remap tables (12), ends. -/
def execBankCopyDone (t n : Nat) (s : State) : Host.Outcome State Fault Refusal :=
  .next (s.during t fun s => s.when s.mode.active fun s =>
    if n = 12 then s.when (s.flag Reg.RMP_TCTL Fld.RMP_TCTL_COPYING) State.rmpCopyDone
    else s.when (s.flag (Reg.CORR_STATUS n) Fld.CORR_STATUS_COPYING) fun s => s.corrCopyDone n)

/-- The word of CAL_CMD with GO set and a KIND. -/
def calWord (v : Word) (kind : Nat) : Word := setBits (withBits v 0x10000) Fld.CAL_CMD_KIND kind

/-- CAL_DARK (R133, R136). -/
def execCalDark (t : Nat) (p : Path) (v : Word) (s : State) : Host.Outcome State Fault Refusal :=
  .next (s.writeAt t p Reg.CAL_CMD (calWord v 1))

/-- CAL_FLAT (R133, R136). -/
def execCalFlat (t : Nat) (p : Path) (v : Word) (s : State) : Host.Outcome State Fault Refusal :=
  .next (s.writeAt t p Reg.CAL_CMD (calWord v 2))

/-- CAL_BADPIX (R133, R136). -/
def execCalBadpix (t : Nat) (p : Path) (v : Word) (s : State) : Host.Outcome State Fault Refusal :=
  .next (s.writeAt t p Reg.CAL_CMD (calWord v 3))

/-- CAL_LINKEQ (R133, R137). -/
def execCalLinkeq (t : Nat) (p : Path) (v : Word) (s : State) : Host.Outcome State Fault Refusal :=
  .next (s.writeAt t p Reg.CAL_CMD (calWord v 4))

/-- CAL_DESKEW (R133, R137). -/
def execCalDeskew (t : Nat) (p : Path) (v : Word) (s : State) : Host.Outcome State Fault Refusal :=
  .next (s.writeAt t p Reg.CAL_CMD (calWord v 5))

/-- CAL_TRIGDLY (R133, R138). -/
def execCalTrigdly (t : Nat) (p : Path) (v : Word) (s : State) : Host.Outcome State Fault Refusal :=
  .next (s.writeAt t p Reg.CAL_CMD (calWord v 6))

/-- CAL_ABORT (R135): CAL_CMD is written with ABORT set. -/
def execCalAbort (t : Nat) (p : Path) (v : Word) (s : State) : Host.Outcome State Fault Refusal :=
  .next (s.writeAt t p Reg.CAL_CMD (withBits v 0x20000))

/-- Has a run come to its end (R136 to R138): its lines taken, 3 ms of LINKEQ, what DESKEW measured of every active lane, or both
measurements of every output of the mask? -/
def State.calEnded (s : State) (r : CalRun) (lanes : List LaneMeas) (lats : List (Nat × Nat × Nat)) : Bool :=
  if r.kind ≤ 3 then decide (r.lines = calLines r)
  else if r.kind = 4 then decide (lanes.length = s.lanes r.target) && decide (r.startAt + 3000000000 ≤ s.now)
  else if r.kind = 5 then decide (lanes.length = s.lanes r.target)
  else decide (r.startAt + 128000000 ≤ s.now) && decide (lats.map Prod.fst = (List.range 16).filter fun k => bit (s.num Reg.CAL_TRMASK) k)

/-- The writes that carry a passed run of a paired active to both members (R496): the entries that differ from those before it through
the table port, the seal, and the port's own words again. DEDUCED, log 66. -/
def State.calWrites (s before : State) (n : Nat) : List (Nat × Word) :=
  let changed := (s.corrOf n).marks.map Prod.fst
  let one (k : Nat) : List (Nat × Word) :=
    [(Reg.CORR_TCTL n, BitVec.ofNat 32 (k / 2 ^ 17 + k / 2 ^ 15 % 4 * 4)), (Reg.CORR_TIDX n, BitVec.ofNat 32 (k % 2 ^ 15)),
      (Reg.CORR_TDATA n, BitVec.ofNat 32 (Store.get corrInit k (s.corrOf n).shadow))]
  changed.flatMap one ++ [(Reg.CORR_TIDX n, before.reg (Reg.CORR_TIDX n)),
    (Reg.CORR_TCTL n, withBits (before.reg (Reg.CORR_TCTL n)) 0x100)]

/-- A run of kinds 1 to 3 completes on a paired active in Inspecting (R496): its entries and its seal join the open epoch and not the
shadow. The seal is held back while the entries are read off. DEDUCED, log 66. -/
def State.calGathered (s : State) (r : CalRun) : State :=
  let c := Reg.CORR_STATUS r.target
  let e := (s.setFld c Fld.CORR_STATUS_COPYING 1).calComplete r [] []
  let e' := e.setFld c Fld.CORR_STATUS_COPYING (s.fld c Fld.CORR_STATUS_COPYING)
  if e.fld Reg.CAL_STATUS Fld.CAL_STATUS_RESULT = 0 then
    let k := (e'.setCorr r.target (s.corrOf r.target)).setReg c (setBits (s.reg c) Fld.CORR_STATUS_CALBUSY 0)
    (e.calWrites s r.target).foldl (fun (s : State) w => s.gather w.1 w.2) k
  else e'

/-- CAL_RUN_END (R136 to R139): the run completes, with what was measured of a link's lanes or of the outputs. DEDUCED, log 65. -/
def execCalRunEnd (t : Nat) (lanes : List LaneMeas) (lats : List (Nat × Nat × Nat)) (s : State) :
    Host.Outcome State Fault Refusal :=
  .next (s.during t fun s =>
    match s.calRun with
    | some r => s.when (s.mode.active && s.calEnded r lanes lats) fun s =>
        if s.gathers && r.kind ≤ 3 then s.calGathered r else s.calComplete r lanes lats
    | none => s)

/-- CAL_TIMEOUT (R135): the lines have not been taken within CAL_TMO. -/
def execCalTimeout (t : Nat) (s : State) : Host.Outcome State Fault Refusal :=
  .next (s.during t fun s =>
    match s.calRun with
    | some r =>
      let tmo := 1000000000 * max 1 (s.fld Reg.CAL_TMO Fld.CAL_TMO_TMO)
      s.when (s.mode.active && decide (r.kind ≤ 3 ∧ r.lines < calLines r ∧ r.startAt + tmo ≤ s.now)) fun s => s.calEnd 5 0
    | none => s)

/-- SNAP (R141): CAL_IMGCTL is written with SNAP set. -/
def execSnap (t : Nat) (p : Path) (v : Word) (s : State) : Host.Outcome State Fault Refusal :=
  .next (s.writeAt t p Reg.CAL_IMGCTL (withBits v 1))

/-- SNAP_COMPLETE (R141). -/
def execSnapComplete (t : Nat) (s : State) : Host.Outcome State Fault Refusal :=
  .next (s.during t fun s => s.when (s.mode.active && decide (s.imgOp = some false)) State.snapDone)

/-- APPLY (R142): CAL_IMGCTL is written with APPLY set. -/
def execApply (t : Nat) (p : Path) (v : Word) (s : State) : Host.Outcome State Fault Refusal :=
  .next (s.writeAt t p Reg.CAL_IMGCTL (withBits v 2))

/-- APPLY_COMPLETE (R142). -/
def execApplyComplete (t : Nat) (s : State) : Host.Outcome State Fault Refusal :=
  .next (s.during t fun s => s.when (s.mode.active && decide (s.imgOp = some true)) State.applyDone)

end Sys2Proof.Machine
end

