-- ==== Sys2Proof/Machine/CmdFolio.lean ====
section
/-! DEFINITION. The meanings of the folio instructions as commands (R210 to R227): one instruction alone in a bundle of an
engine, at the engine's present iteration. A whole line runs the program in folio memory (FOLIO_LINE_END). -/

namespace Sys2Proof.Machine

/-- CONV in the WIN slot of engine `e`, with the fields of its word (R210, R212; log 21). -/
def execConv (e d src slot str w hh stg arg : Nat) (s : State) : Host.Outcome State Fault Refusal :=
  .next (s.folioWrites e (s.winSlot e ⟨1, d, src, slot, str, w, hh, stg, arg⟩))

/-- BOX in the WIN slot of engine `e`, with the fields of its word (R210, R211; log 21). -/
def execBox (e d src slot str w hh stg arg : Nat) (s : State) : Host.Outcome State Fault Refusal :=
  .next (s.folioWrites e (s.winSlot e ⟨2, d, src, slot, str, w, hh, stg, arg⟩))

/-- RANK in the WIN slot of engine `e`, with the fields of its word (R210, R211; log 21). -/
def execRank (e d src slot str w hh stg arg : Nat) (s : State) : Host.Outcome State Fault Refusal :=
  .next (s.folioWrites e (s.winSlot e ⟨3, d, src, slot, str, w, hh, stg, arg⟩))

/-- WIN_MIN in the WIN slot of engine `e`, with the fields of its word (R210, R211; log 21). -/
def execWinMin (e d src slot str w hh stg arg : Nat) (s : State) : Host.Outcome State Fault Refusal :=
  .next (s.folioWrites e (s.winSlot e ⟨4, d, src, slot, str, w, hh, stg, arg⟩))

/-- WIN_MAX in the WIN slot of engine `e`, with the fields of its word (R210, R211; log 21). -/
def execWinMax (e d src slot str w hh stg arg : Nat) (s : State) : Host.Outcome State Fault Refusal :=
  .next (s.folioWrites e (s.winSlot e ⟨5, d, src, slot, str, w, hh, stg, arg⟩))

/-- ERODE in the WIN slot of engine `e`, with the fields of its word (R210, R213; log 21). -/
def execErode (e d src slot str w hh stg arg : Nat) (s : State) : Host.Outcome State Fault Refusal :=
  .next (s.folioWrites e (s.winSlot e ⟨6, d, src, slot, str, w, hh, stg, arg⟩))

/-- DILATE in the WIN slot of engine `e`, with the fields of its word (R210, R213; log 21). -/
def execDilate (e d src slot str w hh stg arg : Nat) (s : State) : Host.Outcome State Fault Refusal :=
  .next (s.folioWrites e (s.winSlot e ⟨7, d, src, slot, str, w, hh, stg, arg⟩))

/-- LVAR in the WIN slot of engine `e`, with the fields of its word (R210, R211; log 21). -/
def execLvar (e d src slot str w hh stg arg : Nat) (s : State) : Host.Outcome State Fault Refusal :=
  .next (s.folioWrites e (s.winSlot e ⟨8, d, src, slot, str, w, hh, stg, arg⟩))

/-- SRANK in the WIN slot of engine `e`, with the fields of its word (R210, R211; log 21). -/
def execSrank (e d src slot str w hh stg arg : Nat) (s : State) : Host.Outcome State Fault Refusal :=
  .next (s.folioWrites e (s.winSlot e ⟨9, d, src, slot, str, w, hh, stg, arg⟩))

/-- WIN_SMIN in the WIN slot of engine `e`, with the fields of its word (R210, R211; log 21). -/
def execWinSmin (e d src slot str w hh stg arg : Nat) (s : State) : Host.Outcome State Fault Refusal :=
  .next (s.folioWrites e (s.winSlot e ⟨10, d, src, slot, str, w, hh, stg, arg⟩))

/-- WIN_SMAX in the WIN slot of engine `e`, with the fields of its word (R210, R211; log 21). -/
def execWinSmax (e d src slot str w hh stg arg : Nat) (s : State) : Host.Outcome State Fault Refusal :=
  .next (s.folioWrites e (s.winSlot e ⟨11, d, src, slot, str, w, hh, stg, arg⟩))

/-- SBOX in the WIN slot of engine `e`, with the fields of its word (R210, R211; log 21). -/
def execSbox (e d src slot str w hh stg arg : Nat) (s : State) : Host.Outcome State Fault Refusal :=
  .next (s.folioWrites e (s.winSlot e ⟨12, d, src, slot, str, w, hh, stg, arg⟩))

/-- ADD in the ALU slot of engine `e`, with the fields of its word (R214, R216; log 21). -/
def execVAdd (e d a b c bk mode : Nat) (s : State) : Host.Outcome State Fault Refusal :=
  .next (s.folioWrites e (s.aluSlot e ⟨1, d, a, b, c, bk, mode, 0⟩))

/-- SUB in the ALU slot of engine `e`, with the fields of its word (R214, R216; log 21). -/
def execVSub (e d a b c bk mode : Nat) (s : State) : Host.Outcome State Fault Refusal :=
  .next (s.folioWrites e (s.aluSlot e ⟨2, d, a, b, c, bk, mode, 0⟩))

/-- MUL in the ALU slot of engine `e`, with the fields of its word (R214, R216; log 21). -/
def execVMul (e d a b c bk mode : Nat) (s : State) : Host.Outcome State Fault Refusal :=
  .next (s.folioWrites e (s.aluSlot e ⟨3, d, a, b, c, bk, mode, 0⟩))

/-- ABS in the ALU slot of engine `e`, with the fields of its word (R214, R216; log 21). -/
def execVAbs (e d a b c bk mode : Nat) (s : State) : Host.Outcome State Fault Refusal :=
  .next (s.folioWrites e (s.aluSlot e ⟨4, d, a, b, c, bk, mode, 0⟩))

/-- MIN in the ALU slot of engine `e`, with the fields of its word (R214, R216; log 21). -/
def execVMin (e d a b c bk mode : Nat) (s : State) : Host.Outcome State Fault Refusal :=
  .next (s.folioWrites e (s.aluSlot e ⟨5, d, a, b, c, bk, mode, 0⟩))

/-- MAX in the ALU slot of engine `e`, with the fields of its word (R214, R216; log 21). -/
def execVMax (e d a b c bk mode : Nat) (s : State) : Host.Outcome State Fault Refusal :=
  .next (s.folioWrites e (s.aluSlot e ⟨6, d, a, b, c, bk, mode, 0⟩))

/-- AVG in the ALU slot of engine `e`, with the fields of its word (R214, R216; log 21). -/
def execAvg (e d a b c bk mode : Nat) (s : State) : Host.Outcome State Fault Refusal :=
  .next (s.folioWrites e (s.aluSlot e ⟨7, d, a, b, c, bk, mode, 0⟩))

/-- SHR in the ALU slot of engine `e`, with the fields of its word (R214, R216; log 21). -/
def execShr (e d a b c bk mode : Nat) (s : State) : Host.Outcome State Fault Refusal :=
  .next (s.folioWrites e (s.aluSlot e ⟨8, d, a, b, c, bk, mode, 0⟩))

/-- SAR in the ALU slot of engine `e`, with the fields of its word (R214, R216; log 21). -/
def execSar (e d a b c bk mode : Nat) (s : State) : Host.Outcome State Fault Refusal :=
  .next (s.folioWrites e (s.aluSlot e ⟨9, d, a, b, c, bk, mode, 0⟩))

/-- SHL in the ALU slot of engine `e`, with the fields of its word (R214, R216; log 21). -/
def execShl (e d a b c bk mode : Nat) (s : State) : Host.Outcome State Fault Refusal :=
  .next (s.folioWrites e (s.aluSlot e ⟨10, d, a, b, c, bk, mode, 0⟩))

/-- AND in the ALU slot of engine `e`, with the fields of its word (R214, R216; log 21). -/
def execVAnd (e d a b c bk mode : Nat) (s : State) : Host.Outcome State Fault Refusal :=
  .next (s.folioWrites e (s.aluSlot e ⟨11, d, a, b, c, bk, mode, 0⟩))

/-- OR in the ALU slot of engine `e`, with the fields of its word (R214, R216; log 21). -/
def execVOr (e d a b c bk mode : Nat) (s : State) : Host.Outcome State Fault Refusal :=
  .next (s.folioWrites e (s.aluSlot e ⟨12, d, a, b, c, bk, mode, 0⟩))

/-- XOR in the ALU slot of engine `e`, with the fields of its word (R214, R216; log 21). -/
def execVXor (e d a b c bk mode : Nat) (s : State) : Host.Outcome State Fault Refusal :=
  .next (s.folioWrites e (s.aluSlot e ⟨13, d, a, b, c, bk, mode, 0⟩))

/-- ANDN in the ALU slot of engine `e`, with the fields of its word (R214, R216; log 21). -/
def execAndn (e d a b c bk mode : Nat) (s : State) : Host.Outcome State Fault Refusal :=
  .next (s.folioWrites e (s.aluSlot e ⟨14, d, a, b, c, bk, mode, 0⟩))

/-- MOV in the ALU slot of engine `e`, with the fields of its word (R214, R216; log 21). -/
def execMov (e d a b c bk mode : Nat) (s : State) : Host.Outcome State Fault Refusal :=
  .next (s.folioWrites e (s.aluSlot e ⟨15, d, a, b, c, bk, mode, 0⟩))

/-- CMPEQ in the ALU slot of engine `e`, with the fields of its word (R214, R216; log 21). -/
def execCmpeq (e d a b c bk mode : Nat) (s : State) : Host.Outcome State Fault Refusal :=
  .next (s.folioWrites e (s.aluSlot e ⟨16, d, a, b, c, bk, mode, 0⟩))

/-- CMPNE in the ALU slot of engine `e`, with the fields of its word (R214, R216; log 21). -/
def execCmpne (e d a b c bk mode : Nat) (s : State) : Host.Outcome State Fault Refusal :=
  .next (s.folioWrites e (s.aluSlot e ⟨17, d, a, b, c, bk, mode, 0⟩))

/-- CMPLT in the ALU slot of engine `e`, with the fields of its word (R214, R216; log 21). -/
def execCmplt (e d a b c bk mode : Nat) (s : State) : Host.Outcome State Fault Refusal :=
  .next (s.folioWrites e (s.aluSlot e ⟨18, d, a, b, c, bk, mode, 0⟩))

/-- CMPLE in the ALU slot of engine `e`, with the fields of its word (R214, R216; log 21). -/
def execCmple (e d a b c bk mode : Nat) (s : State) : Host.Outcome State Fault Refusal :=
  .next (s.folioWrites e (s.aluSlot e ⟨19, d, a, b, c, bk, mode, 0⟩))

/-- CMPGT in the ALU slot of engine `e`, with the fields of its word (R214, R216; log 21). -/
def execCmpgt (e d a b c bk mode : Nat) (s : State) : Host.Outcome State Fault Refusal :=
  .next (s.folioWrites e (s.aluSlot e ⟨20, d, a, b, c, bk, mode, 0⟩))

/-- CMPGE in the ALU slot of engine `e`, with the fields of its word (R214, R216; log 21). -/
def execCmpge (e d a b c bk mode : Nat) (s : State) : Host.Outcome State Fault Refusal :=
  .next (s.folioWrites e (s.aluSlot e ⟨21, d, a, b, c, bk, mode, 0⟩))

/-- SEL in the ALU slot of engine `e`, with the fields of its word (R214, R216; log 21). -/
def execVSel (e d a b c bk mode : Nat) (s : State) : Host.Outcome State Fault Refusal :=
  .next (s.folioWrites e (s.aluSlot e ⟨22, d, a, b, c, bk, mode, 0⟩))

/-- SADD in the ALU slot of engine `e`, with the fields of its word (R214, R217; log 21). -/
def execSadd (e d a b c bk mode : Nat) (s : State) : Host.Outcome State Fault Refusal :=
  .next (s.folioWrites e (s.aluSlot e ⟨32, d, a, b, c, bk, mode, 0⟩))

/-- SSUB in the ALU slot of engine `e`, with the fields of its word (R214, R217; log 21). -/
def execSsub (e d a b c bk mode : Nat) (s : State) : Host.Outcome State Fault Refusal :=
  .next (s.folioWrites e (s.aluSlot e ⟨33, d, a, b, c, bk, mode, 0⟩))

/-- SMUL in the ALU slot of engine `e`, with the fields of its word (R214, R217; log 21). -/
def execSmul (e d a b c bk mode : Nat) (s : State) : Host.Outcome State Fault Refusal :=
  .next (s.folioWrites e (s.aluSlot e ⟨34, d, a, b, c, bk, mode, 0⟩))

/-- SDIVU in the ALU slot of engine `e`, with the fields of its word (R214, R217; log 21). -/
def execSdivu (e d a b c bk mode : Nat) (s : State) : Host.Outcome State Fault Refusal :=
  .next (s.folioWrites e (s.aluSlot e ⟨35, d, a, b, c, bk, mode, 0⟩))

/-- SSHR in the ALU slot of engine `e`, with the fields of its word (R214, R217; log 21). -/
def execSshr (e d a b c bk mode : Nat) (s : State) : Host.Outcome State Fault Refusal :=
  .next (s.folioWrites e (s.aluSlot e ⟨36, d, a, b, c, bk, mode, 0⟩))

/-- SSAR in the ALU slot of engine `e`, with the fields of its word (R214, R217; log 21). -/
def execSsar (e d a b c bk mode : Nat) (s : State) : Host.Outcome State Fault Refusal :=
  .next (s.folioWrites e (s.aluSlot e ⟨37, d, a, b, c, bk, mode, 0⟩))

/-- SSHL in the ALU slot of engine `e`, with the fields of its word (R214, R217; log 21). -/
def execSshl (e d a b c bk mode : Nat) (s : State) : Host.Outcome State Fault Refusal :=
  .next (s.folioWrites e (s.aluSlot e ⟨38, d, a, b, c, bk, mode, 0⟩))

/-- SAND in the ALU slot of engine `e`, with the fields of its word (R214, R217; log 21). -/
def execSand (e d a b c bk mode : Nat) (s : State) : Host.Outcome State Fault Refusal :=
  .next (s.folioWrites e (s.aluSlot e ⟨39, d, a, b, c, bk, mode, 0⟩))

/-- SOR in the ALU slot of engine `e`, with the fields of its word (R214, R217; log 21). -/
def execSor (e d a b c bk mode : Nat) (s : State) : Host.Outcome State Fault Refusal :=
  .next (s.folioWrites e (s.aluSlot e ⟨40, d, a, b, c, bk, mode, 0⟩))

/-- SXOR in the ALU slot of engine `e`, with the fields of its word (R214, R217; log 21). -/
def execSxor (e d a b c bk mode : Nat) (s : State) : Host.Outcome State Fault Refusal :=
  .next (s.folioWrites e (s.aluSlot e ⟨41, d, a, b, c, bk, mode, 0⟩))

/-- SMIN in the ALU slot of engine `e`, with the fields of its word (R214, R217; log 21). -/
def execSmin (e d a b c bk mode : Nat) (s : State) : Host.Outcome State Fault Refusal :=
  .next (s.folioWrites e (s.aluSlot e ⟨42, d, a, b, c, bk, mode, 0⟩))

/-- SMAX in the ALU slot of engine `e`, with the fields of its word (R214, R217; log 21). -/
def execSmax (e d a b c bk mode : Nat) (s : State) : Host.Outcome State Fault Refusal :=
  .next (s.folioWrites e (s.aluSlot e ⟨43, d, a, b, c, bk, mode, 0⟩))

/-- SMOV in the ALU slot of engine `e`, with the fields of its word (R214, R217; log 21). -/
def execSmov (e d a b c bk mode : Nat) (s : State) : Host.Outcome State Fault Refusal :=
  .next (s.folioWrites e (s.aluSlot e ⟨44, d, a, b, c, bk, mode, 0⟩))

/-- SMOVI in the ALU slot of engine `e` (R214, R217; log 21). -/
def execSmovi (e d imm : Nat) (s : State) : Host.Outcome State Fault Refusal :=
  .next (s.folioWrites e (s.aluSlot e ⟨45, d, 0, 0, 0, 0, 0, imm⟩))

/-- SORHI in the ALU slot of engine `e` (R214, R217; log 21). -/
def execSorhi (e d imm : Nat) (s : State) : Host.Outcome State Fault Refusal :=
  .next (s.folioWrites e (s.aluSlot e ⟨46, d, 0, 0, 0, 0, 0, imm⟩))

/-- SSEL in the ALU slot of engine `e`, with the fields of its word (R214, R217; log 21). -/
def execSsel (e d a b c bk mode : Nat) (s : State) : Host.Outcome State Fault Refusal :=
  .next (s.folioWrites e (s.aluSlot e ⟨47, d, a, b, c, bk, mode, 0⟩))

/-- SCMPEQ in the ALU slot of engine `e`, with the fields of its word (R214, R217; log 21). -/
def execScmpeq (e d a b c bk mode : Nat) (s : State) : Host.Outcome State Fault Refusal :=
  .next (s.folioWrites e (s.aluSlot e ⟨48, d, a, b, c, bk, mode, 0⟩))

/-- SCMPLT in the ALU slot of engine `e`, with the fields of its word (R214, R217; log 21). -/
def execScmplt (e d a b c bk mode : Nat) (s : State) : Host.Outcome State Fault Refusal :=
  .next (s.folioWrites e (s.aluSlot e ⟨49, d, a, b, c, bk, mode, 0⟩))

/-- SABS in the ALU slot of engine `e`, with the fields of its word (R214, R217; log 21). -/
def execSabs (e d a b c bk mode : Nat) (s : State) : Host.Outcome State Fault Refusal :=
  .next (s.folioWrites e (s.aluSlot e ⟨50, d, a, b, c, bk, mode, 0⟩))

/-- LUT in the LUT slot of engine `e` (R219, R220; log 21). -/
def execLut (e d a base lg sh : Nat) (s : State) : Host.Outcome State Fault Refusal :=
  .next (s.folioWrites e (s.lutSlot e ⟨1, d, a, 0, base, lg, sh, 0, 0⟩))

/-- LUTS in the LUT slot of engine `e` (R219, R220; log 21). -/
def execLuts (e d a base lg sh : Nat) (s : State) : Host.Outcome State Fault Refusal :=
  .next (s.folioWrites e (s.lutSlot e ⟨2, d, a, 0, base, lg, sh, 0, 0⟩))

/-- LUTI in the LUT slot of engine `e` (R219, R220; log 21). -/
def execLuti (e d a base lg sh : Nat) (s : State) : Host.Outcome State Fault Refusal :=
  .next (s.folioWrites e (s.lutSlot e ⟨3, d, a, 0, base, lg, sh, 0, 0⟩))

/-- LUT2 in the LUT slot of engine `e` (R219, R220; log 21). -/
def execLut2 (e d a b base na nb : Nat) (s : State) : Host.Outcome State Fault Refusal :=
  .next (s.folioWrites e (s.lutSlot e ⟨4, d, a, b, base, 0, 0, na, nb⟩))

/-- SLUT in the LUT slot of engine `e` (R219, R220; log 21). -/
def execSlut (e d a base lg sh : Nat) (s : State) : Host.Outcome State Fault Refusal :=
  .next (s.folioWrites e (s.lutSlot e ⟨5, d, a, 0, base, lg, sh, 0, 0⟩))

/-- RROW in the XFER slot of engine `e`; `x` is the operation field, bits [31:15] of its word (R221, R222; log 21). -/
def execRrow (e d a stg x : Nat) (s : State) : Host.Outcome State Fault Refusal :=
  .next (s.folioWrites e (s.xferSlot e ⟨1, d, a, stg, x⟩))

/-- PLD in the XFER slot of engine `e`; `x` is the operation field, bits [31:15] of its word (R221, R222; log 21). -/
def execPld (e d a stg x : Nat) (s : State) : Host.Outcome State Fault Refusal :=
  .next (s.folioWrites e (s.xferSlot e ⟨2, d, a, stg, x⟩))

/-- PST in the XFER slot of engine `e`; `x` is the operation field, bits [31:15] of its word (R221, R222; log 21). -/
def execPst (e d a stg x : Nat) (s : State) : Host.Outcome State Fault Refusal :=
  .next (s.folioWrites e (s.xferSlot e ⟨3, d, a, stg, x⟩))

/-- OMASK in the XFER slot of engine `e`; `x` is the operation field, bits [31:15] of its word (R221, R222, R224; log 21). -/
def execOmask (e d a stg x : Nat) (s : State) : Host.Outcome State Fault Refusal :=
  .next (s.folioWrites e (s.xferSlot e ⟨4, d, a, stg, x⟩))

/-- OVAL in the XFER slot of engine `e`; `x` is the operation field, bits [31:15] of its word (R221, R222, R224; log 21). -/
def execOval (e d a stg x : Nat) (s : State) : Host.Outcome State Fault Refusal :=
  .next (s.folioWrites e (s.xferSlot e ⟨5, d, a, stg, x⟩))

/-- OTAP in the XFER slot of engine `e`; `x` is the operation field, bits [31:15] of its word (R221, R222, R224; log 21). -/
def execOtap (e d a stg x : Nat) (s : State) : Host.Outcome State Fault Refusal :=
  .next (s.folioWrites e (s.xferSlot e ⟨6, d, a, stg, x⟩))

/-- RSUM in the XFER slot of engine `e` (R222, R226; log 21). -/
def execRsum (e d a stg : Nat) (s : State) : Host.Outcome State Fault Refusal :=
  .next (s.folioWrites e (s.xferSlot e ⟨7, d, a, stg, 0⟩))

/-- RSUMS in the XFER slot of engine `e` (R222, R226; log 21). -/
def execRsums (e d a stg : Nat) (s : State) : Host.Outcome State Fault Refusal :=
  .next (s.folioWrites e (s.xferSlot e ⟨7, d, a, stg, 1⟩))

/-- RSUMSQ in the XFER slot of engine `e` (R222, R226; log 21). -/
def execRsumsq (e d a stg : Nat) (s : State) : Host.Outcome State Fault Refusal :=
  .next (s.folioWrites e (s.xferSlot e ⟨7, d, a, stg, 2⟩))

/-- RMIN in the XFER slot of engine `e` (R222, R226; log 21). -/
def execRmin (e d a stg : Nat) (s : State) : Host.Outcome State Fault Refusal :=
  .next (s.folioWrites e (s.xferSlot e ⟨7, d, a, stg, 3⟩))

/-- RMAX in the XFER slot of engine `e` (R222, R226; log 21). -/
def execRmax (e d a stg : Nat) (s : State) : Host.Outcome State Fault Refusal :=
  .next (s.folioWrites e (s.xferSlot e ⟨7, d, a, stg, 4⟩))

/-- RSMIN in the XFER slot of engine `e` (R222, R226; log 21). -/
def execRsmin (e d a stg : Nat) (s : State) : Host.Outcome State Fault Refusal :=
  .next (s.folioWrites e (s.xferSlot e ⟨7, d, a, stg, 5⟩))

/-- RSMAX in the XFER slot of engine `e` (R222, R226; log 21). -/
def execRsmax (e d a stg : Nat) (s : State) : Host.Outcome State Fault Refusal :=
  .next (s.folioWrites e (s.xferSlot e ⟨7, d, a, stg, 6⟩))

/-- RCNT in the XFER slot of engine `e` (R222, R226; log 21). -/
def execRcnt (e d a stg : Nat) (s : State) : Host.Outcome State Fault Refusal :=
  .next (s.folioWrites e (s.xferSlot e ⟨7, d, a, stg, 7⟩))

/-- LCOL in the XFER slot of engine `e`; `x` is the operation field, bits [31:15] of its word (R221, R222; log 21). -/
def execLcol (e d a stg x : Nat) (s : State) : Host.Outcome State Fault Refusal :=
  .next (s.folioWrites e (s.xferSlot e ⟨8, d, a, stg, x⟩))

/-- VMOV in the XFER slot of engine `e`; `x` is the operation field, bits [31:15] of its word (R221, R222; log 21). -/
def execVmov (e d a stg x : Nat) (s : State) : Host.Outcome State Fault Refusal :=
  .next (s.folioWrites e (s.xferSlot e ⟨9, d, a, stg, x⟩))

/-- VBC in the XFER slot of engine `e`; `x` is the operation field, bits [31:15] of its word (R221, R222; log 21). -/
def execVbc (e d a stg x : Nat) (s : State) : Host.Outcome State Fault Refusal :=
  .next (s.folioWrites e (s.xferSlot e ⟨10, d, a, stg, x⟩))

/-- CTX in the XFER slot of engine `e`; `x` is the operation field, bits [31:15] of its word (R221, R222, R227; log 21). -/
def execCtx (e d a stg x : Nat) (s : State) : Host.Outcome State Fault Refusal :=
  .next (s.folioWrites e (s.xferSlot e ⟨11, d, a, stg, x⟩))

/-- SMOVX in the XFER slot of engine `e`; `x` is the operation field, bits [31:15] of its word (R221, R222; log 21). -/
def execSmovx (e d a stg x : Nat) (s : State) : Host.Outcome State Fault Refusal :=
  .next (s.folioWrites e (s.xferSlot e ⟨12, d, a, stg, x⟩))

end Sys2Proof.Machine
end

