-- ==== Sys2Proof/Machine/CmdProfile.lean ====
section
/-! DEFINITION. The meanings of the commands of the profile engine (11_profile_engine.md). -/

namespace Sys2Proof.Machine

/-- PROF_SYNC (R305): the register is written with SYNC set. -/
def execProfSync (t : Nat) (p : Path) (v : Word) (s : State) : Host.Outcome State Fault Refusal :=
  .next (s.writeAt t p Reg.PROF_SYNC (withBits v 1))

/-- An active edge of PROFSYNC (R305, R307, R308): it requests a sync, unless the previous active edge is less than 1 µs old. DEDUCED, log 81. -/
def State.profEdge (s : State) : State :=
  let soon := match s.prof.edgeAt with
    | some a => decide (s.now < a + 1000000)
    | none => false
  let s := { s with prof := { s.prof with edgeAt := some s.now } }
  if soon then s.syncRejected
  else if s.flag Reg.PROF_CTRL Fld.PROF_CTRL_PINEN then s.requestSyncNext
  else s

/-- PROFSYNC_EDGE (R308): the pin PROFSYNC changes to a level. -/
def execProfsyncEdge (t : Nat) (level : Bool) (s : State) : Host.Outcome State Fault Refusal :=
  .next (s.during t fun s =>
    let was := s.pins.profSync
    let s := { s with pins := { s.pins with profSync := level } }
    s.when (s.mode.active && was != level && level != s.flag Reg.PROF_CTRL Fld.PROF_CTRL_PINPOL) State.profEdge)

/-- PROFSYNC_MESSAGE (R307): the message has arrived on SEAMW. -/
def execProfsyncMessage (t : Nat) (data : BitVec 48) (s : State) : Host.Outcome State Fault Refusal :=
  .next (s.onLink t 12 [5] fun s => s.profSyncMessage data)

/-- PROFILE_SYNC_APPLY (R304 to R306): the output line of the open slot is the sync line, or the first delivered one after it; its
filters have not begun. -/
def execProfileSyncApply (t : Nat) (s : State) : Host.Outcome State Fault Refusal :=
  .next (s.during t fun s =>
    match s.openSlot, s.seg.times.getLast? with
    | some sl, some x =>
      let w := s.seenBy sl
      s.when (s.inspects && decide (sl.stage = 1) && w.delivers && !w.foliosDone && w.syncDue x.line x.outAt) fun s =>
        s.inSlot sl fun s => s.applySync x.line x.outAt
    | _, _ => s)

/-- PROF_TABLE_WRITE (R315): a write of PROF_TDATA. -/
def execProfTableWrite (t : Nat) (p : Path) (v : Word) (s : State) : Host.Outcome State Fault Refusal :=
  .next (s.writeAt t p Reg.PROF_TDATA v)

/-- PROF_TABLE_READ (R315): a read of PROF_TDATA. -/
def execProfTableRead (t : Nat) (p : Path) (s : State) : Host.Outcome State Fault Refusal :=
  .next (s.readAt t p Reg.PROF_TDATA)

end Sys2Proof.Machine
end

