-- ==== Sys2Proof/Machine/CmdStacks.lean ====
section
/-! DEFINITION. The meanings of the commands of the stacks, of crops, of replays and of the DMA engine (12_stacks_dma.md). -/

namespace Sys2Proof.Machine

/-! ### The stacks -/

/-- STACKS_ROW_COMMIT (R322): the oldest row has been written. -/
def execStacksRowCommit (t : Nat) (s : State) : Host.Outcome State Fault Refusal :=
  .next (s.during t fun s => s.when s.mode.active State.stacksCommit)

/-- CROP_RECORD_COMPLETE (R331 to R333): crop channel 28 + `q` has cut the crop at the head of its list. -/
def execCropRecordComplete (t q : Nat) (s : State) : Host.Outcome State Fault Refusal :=
  .next (s.during t fun s => s.when (s.mode.active && s.flag Reg.DMA_CTRL Fld.DMA_CTRL_EN) fun s => s.cropDone q)

/-- RP_GO (R325): RP_CTRL is written with GO set. -/
def execRpGo (t : Nat) (p : Path) (r : Nat) (v : Word) (s : State) : Host.Outcome State Fault Refusal :=
  .next (s.writeAt t p (Reg.RP_CTRL r) (withBits v 1))

/-- RP_ABORT (R329): RP_CTRL is written with ABORT set. -/
def execRpAbort (t : Nat) (p : Path) (r : Nat) (v : Word) (s : State) : Host.Outcome State Fault Refusal :=
  .next (s.writeAt t p (Reg.RP_CTRL r) (withBits v 2))

/-- Has the next tick of a replay come (R326)? -/
def State.tickDue (s : State) (r : Nat) : Bool :=
  match s.replay r with
  | some h => decide (h.q0 + h.tick * 1000000000000 / max 1 h.rate ≤ s.now)
  | none => false

/-- REPLAY_TICK (R326). -/
def execReplayTick (t r : Nat) (s : State) : Host.Outcome State Fault Refusal :=
  .next (s.during t fun s => s.when (s.mode.active && s.tickDue r) fun s => s.replayTick r)

/-- REPLAY_FETCH_DONE (R324). -/
def execReplayFetchDone (t r : Nat) (s : State) : Host.Outcome State Fault Refusal :=
  .next (s.during t fun s => s.when s.mode.active fun s => s.replayFetched r)

/-- UNRESERVED_RELAY_READ (R395): the relay reads the next committed row. -/
def execUnreservedRelayRead (t : Nat) (s : State) : Host.Outcome State Fault Refusal :=
  .next (s.during t fun s => s.when s.mode.active State.relayRead)

/-! ### DMA -/

/-- LOAD (R340): CH_CTRL is written with LOAD set. -/
def execLoad (t : Nat) (p : Path) (c : Nat) (v : Word) (s : State) : Host.Outcome State Fault Refusal :=
  .next (s.writeAt t p (Reg.CH_CTRL c) (withBits v 1))

/-- DMA_STOP (R342): CH_CTRL is written with STOP set. -/
def execDmaStop (t : Nat) (p : Path) (c : Nat) (v : Word) (s : State) : Host.Outcome State Fault Refusal :=
  .next (s.writeAt t p (Reg.CH_CTRL c) (withBits v 2))

/-- DMA_ABORT (R342): CH_CTRL is written with ABORT set. -/
def execDmaAbort (t : Nat) (p : Path) (c : Nat) (v : Word) (s : State) : Host.Outcome State Fault Refusal :=
  .next (s.writeAt t p (Reg.CH_CTRL c) (withBits v 4))

/-- COPY (R338): the channel's descriptor in force, of OP 1, runs. -/
def execCopy (t c : Nat) (s : State) : Host.Outcome State Fault Refusal :=
  .next (s.during t fun s => s.when s.mode.active fun s => s.dmaRun c 1)

/-- GATHER (R338): the channel's descriptor in force, of OP 2, runs. -/
def execGather (t c : Nat) (s : State) : Host.Outcome State Fault Refusal :=
  .next (s.during t fun s => s.when s.mode.active fun s => s.dmaRun c 2)

/-- FILL (R338): the channel's descriptor in force, of OP 3, runs. -/
def execFill (t c : Nat) (s : State) : Host.Outcome State Fault Refusal :=
  .next (s.during t fun s => s.when s.mode.active fun s => s.dmaRun c 3)

/-- COMPARE (R338): the channel's descriptor in force, of OP 4, runs. -/
def execCompare (t c : Nat) (s : State) : Host.Outcome State Fault Refusal :=
  .next (s.during t fun s => s.when s.mode.active fun s => s.dmaRun c 4)

/-- BUFFER_GRANT (R335): the next waiting channel in rotating order is granted a burst. DESIGN CHOICE, log 22. -/
def execBufferGrant (t : Nat) (s : State) : Host.Outcome State Fault Refusal :=
  .next (s.during t fun s => s.when (s.mode.active && s.flag Reg.DMA_CTRL Fld.DMA_CTRL_EN) State.bufferGrant)

/-- DMA_DESCRIPTOR_COMPLETE (R341 to R344). -/
def execDmaDescriptorComplete (t c : Nat) (s : State) : Host.Outcome State Fault Refusal :=
  .next (s.during t fun s => s.when s.mode.active fun s => s.dmaComplete c)

/-- DMA_DISABLE (R345): DMA_CTRL is written with EN clear. -/
def execDmaDisable (t : Nat) (p : Path) (v : Word) (s : State) : Host.Outcome State Fault Refusal :=
  .next (s.writeAt t p Reg.DMA_CTRL (setBits v Fld.DMA_CTRL_EN 0))

/-- QUEUE_ROOM (R354): units are free for a descriptor that waits for them. -/
def execQueueRoom (t c : Nat) (s : State) : Host.Outcome State Fault Refusal :=
  .next (s.during t fun s => s.when s.mode.active fun s => s.queueRoom c)

end Sys2Proof.Machine
end

