-- ==== Sys2Proof/Machine/CmdQueues.lean ====
section
/-! DEFINITION. The meanings of the commands of the queues (13_queues.md). -/

namespace Sys2Proof.Machine

/-- Q_RDATA_READ (R355). -/
def execQRdataRead (t : Nat) (p : Path) (q : Nat) (s : State) : Host.Outcome State Fault Refusal :=
  .next (s.readAt t p (Reg.Q_RDATA q))

/-- Q_WDATA_WRITE (R356). -/
def execQWdataWrite (t : Nat) (p : Path) (q : Nat) (v : Word) (s : State) : Host.Outcome State Fault Refusal :=
  .next (s.writeAt t p (Reg.Q_WDATA q) v)

/-- WEOP (R356): Q_CMD is written with WEOP set. -/
def execWeop (t : Nat) (p : Path) (q : Nat) (v : Word) (s : State) : Host.Outcome State Fault Refusal :=
  .next (s.writeAt t p (Reg.Q_CMD q) (withBits v 32))

/-- FLUSH (R357): Q_CMD is written with FLUSH set. -/
def execFlush (t : Nat) (p : Path) (q : Nat) (v : Word) (s : State) : Host.Outcome State Fault Refusal :=
  .next (s.writeAt t p (Reg.Q_CMD q) (withBits v 1))

/-- May a pending flush take effect (R357): no producer holds an uncommitted packet, no hardware consumer is inside one? -/
def State.flushMay (s : State) (q : Nat) : Bool :=
  let h := s.queue q
  s.flag (Reg.Q_STATUS q) Fld.Q_STATUS_FLUSHPEND && h.port.isEmpty && decide (h.resv = 0) && !s.qInside q

/-- FLUSH_APPLY (R357). -/
def execFlushApply (t q : Nat) (s : State) : Host.Outcome State Fault Refusal :=
  .next (s.during t fun s => s.when (s.mode.active && s.flushMay q) fun s => s.qFlushApply q)

/-- BOOKMARK (R361): Q_CMD is written with BOOKMARK set. -/
def execBookmark (t : Nat) (p : Path) (q : Nat) (v : Word) (s : State) : Host.Outcome State Fault Refusal :=
  .next (s.writeAt t p (Reg.Q_CMD q) (withBits v 2))

/-- REWIND (R361): Q_CMD is written with REWIND set. -/
def execRewind (t : Nat) (p : Path) (q : Nat) (v : Word) (s : State) : Host.Outcome State Fault Refusal :=
  .next (s.writeAt t p (Reg.Q_CMD q) (withBits v 4))

/-- REWFREE (R361): Q_CMD is written with REWFREE set. -/
def execRewfree (t : Nat) (p : Path) (q : Nat) (v : Word) (s : State) : Host.Outcome State Fault Refusal :=
  .next (s.writeAt t p (Reg.Q_CMD q) (withBits v 8))

/-- REWIND_APPLY (R361): the consumer of a queue with a requested rewind is at a packet boundary. -/
def execRewindApply (t q : Nat) (s : State) : Host.Outcome State Fault Refusal :=
  .next (s.during t fun s =>
    match (s.queue q).rewind with
    | some free => s.when (s.mode.active && decide ((s.queue q).part = 0)) fun s => s.qRewind q free
    | none => s)

/-- PEAKCLR (R366): Q_CMD is written with PEAKCLR set. -/
def execPeakclr (t : Nat) (p : Path) (q : Nat) (v : Word) (s : State) : Host.Outcome State Fault Refusal :=
  .next (s.writeAt t p (Reg.Q_CMD q) (withBits v 16))

/-- PQ_RELEASE (R11, R360): PQ_RELEASE_HI, then PQ_RELEASE_LO of a privileged queue are written; the second write releases. -/
def execPqRelease (t : Nat) (p : Path) (q : Nat) (lo hi : Word) (s : State) : Host.Outcome State Fault Refusal :=
  .next (s.during t fun s => s.when (s.reaches p) fun s =>
    ((s.busWrite p (Reg.PQ_RELEASE_HI (q - 59)) hi).2.busWrite p (Reg.PQ_RELEASE_LO (q - 59)) lo).2)

end Sys2Proof.Machine
end

