-- ==== Sys2Proof/Machine/CmdHost.lean ====
section
/-! DEFINITION. The meanings of the commands of the host ports and of the Olunyx Host Transport (14_host_ports.md). A sub-port `ps` is
numbered 4 × port + sub. -/

namespace Sys2Proof.Machine

/-! ### Links and frames -/

/-- SUBPORT_LINK_UP (R369): the sub-port has link, where the port has it. -/
def execSubportLinkUp (t ps : Nat) (s : State) : Host.Outcome State Fault Refusal :=
  .next (s.during t fun s => s.when (s.hostRuns ps && s.hasSub ps) fun s => s.setLinkOf ps true false)

/-- SUBPORT_LINK_DOWN (R369): alignment is lost, or the FEC reports a high symbol error rate (`hser`). -/
def execSubportLinkDown (t ps : Nat) (hser : Bool) (s : State) : Host.Outcome State Fault Refusal :=
  .next (s.during t fun s => s.when (s.hostRuns ps && s.hasSub ps) fun s => s.setLinkOf ps false hser)

/-- ARP_REQUEST (R373). -/
def execArpRequest (t ps : Nat) (f : RxFrame) (mac ip target : Nat) (s : State) : Host.Outcome State Fault Refusal :=
  .next (s.during t fun s => s.arpRequest ps f mac ip target)

/-- ICMP_ECHO_REQUEST (R373). -/
def execIcmpEchoRequest (t ps : Nat) (f : RxFrame) (mac src dst ident : Nat) (data : List (BitVec 8)) (s : State) :
    Host.Outcome State Fault Refusal :=
  .next (s.during t fun s => s.icmpEcho ps f mac src dst ident data)

/-- ICMPV6_ECHO_REQUEST (R373). -/
def execIcmpv6EchoRequest (t ps : Nat) (f : RxFrame) (mac src dst ident : Nat) (data : List (BitVec 8)) (s : State) :
    Host.Outcome State Fault Refusal :=
  .next (s.during t fun s => s.icmp6Echo ps f mac src dst ident data)

/-- NEIGHBOUR_SOLICITATION (R373). -/
def execNeighbourSolicitation (t ps : Nat) (f : RxFrame) (mac src target : Nat) (s : State) : Host.Outcome State Fault Refusal :=
  .next (s.during t fun s => s.neighbour ps f mac src target)

/-- FRAME_DISCARD (R369, R370, R373, R378, R381, R383): a frame that is discarded and counted; a request with an OP that is not used is
answered with FORMAT. -/
def execFrameDiscard (t ps : Nat) (f : RxFrame) (why : Discard) (s : State) : Host.Outcome State Fault Refusal :=
  .next (s.during t fun s =>
    match why with
    | .badOp h op flags => s.request h (.unknown op flags)
    | w => s.discardFrame ps f w)

/-- FRAME_FORWARD (R375): a frame arrives on a port to leave by the other. -/
def execFrameForward (t port : Nat) (f : FwdFrame) (s : State) : Host.Outcome State Fault Refusal :=
  .next (s.during t fun s => s.forwardFrame port f)

/-! ### The control channel -/

/-- READ (R379 to R381). -/
def execRead (t : Nat) (h : OhtRx) (fixed : Bool) (addr count : Nat) (s : State) : Host.Outcome State Fault Refusal :=
  .next (s.during t fun s => s.request h (.read fixed addr count))

/-- WRITE (R379 to R382). -/
def execWrite (t : Nat) (h : OhtRx) (fixed : Bool) (addr count : Nat) (words : List Word) (s : State) : Host.Outcome State Fault Refusal :=
  .next (s.during t fun s => s.request h (.write fixed addr count words))

/-- MODIFY (R379 to R382). -/
def execModify (t : Nat) (h : OhtRx) (addr : Nat) (mask value : Word) (s : State) : Host.Outcome State Fault Refusal :=
  .next (s.during t fun s => s.request h (.modify addr mask value))

/-- BLKREAD (R384). -/
def execBlkread (t : Nat) (h : OhtRx) (addr len : Nat) (s : State) : Host.Outcome State Fault Refusal :=
  .next (s.during t fun s => s.request h (.blkread addr len))

/-- BLKWRITE (R384). -/
def execBlkwrite (t : Nat) (h : OhtRx) (addr len : Nat) (bytes : List (BitVec 8)) (s : State) : Host.Outcome State Fault Refusal :=
  .next (s.during t fun s => s.request h (.blkwrite addr len bytes))

/-- OHT_COMMIT (R385). -/
def execOhtCommit (t : Nat) (h : OhtRx) (s : State) : Host.Outcome State Fault Refusal :=
  .next (s.during t fun s => s.request h .commit)

/-- IDENT (R381). -/
def execIdent (t : Nat) (h : OhtRx) (s : State) : Host.Outcome State Fault Refusal :=
  .next (s.during t fun s => s.request h .ident)

/-- REQUEST_HOLD_TIMEOUT (R380): requests that session `i` has held for 100 ms go. -/
def execRequestHoldTimeout (t i : Nat) (s : State) : Host.Outcome State Fault Refusal :=
  .next (s.during t fun s => s.holdTimeout i)

/-- BLOCK_TRANSFER_COMPLETE (R384). -/
def execBlockTransferComplete (t : Nat) (s : State) : Host.Outcome State Fault Refusal :=
  .next (s.during t State.blockDone)

/-! ### Returns -/

/-- RETURN (R390). -/
def execCardReturn (t : Nat) (h : OhtRx) (q key : Nat) (resend : Bool) (s : State) : Host.Outcome State Fault Refusal :=
  .next (s.during t fun s => s.when s.mode.active fun s => s.ohtIn h fun s => s.applyReturn q key resend)

/-- AUTOMATIC_REWIND (R391). -/
def execAutomaticRewind (t q : Nat) (s : State) : Host.Outcome State Fault Refusal :=
  .next (s.during t fun s => s.when s.mode.active fun s => s.automaticRewind q)

/-- RETURN_LATE (R254). -/
def execReturnLate (t q : Nat) (s : State) : Host.Outcome State Fault Refusal :=
  .next (s.during t fun s => s.when (s.mode == .inspecting) fun s => s.returnLate q)

/-! ### Frames sent -/

/-- PORT_ARBITRATION (R397): a frame boundary of a sub-port. -/
def execPortArbitration (t ps : Nat) (s : State) : Host.Outcome State Fault Refusal :=
  .next (s.during t fun s => s.arbitrate ps)

/-- TIMED_LAUNCH (R398). -/
def execTimedLaunch (t ps : Nat) (s : State) : Host.Outcome State Fault Refusal :=
  .next (s.during t fun s => s.timedLaunch ps)

end Sys2Proof.Machine
end

