-- ==== Sys2Proof/Machine/CmdTime.lean ====
section
/-! DEFINITION. The meanings of the commands of time (15_time.md): PTP messages arrive on sub-port `ps` = 4 × port + sub. -/

namespace Sys2Proof.Machine

/-- TIME_SET (R410): TIME_CMD is written with SET set. -/
def execTimeSet (t : Nat) (p : Path) (v : Word) (s : State) : Host.Outcome State Fault Refusal :=
  .next (s.writeAt t p Reg.TIME_CMD (withBits v 1))

/-- TIME_STEP (R410): TIME_CMD is written with STEP set. -/
def execTimeStep (t : Nat) (p : Path) (v : Word) (s : State) : Host.Outcome State Fault Refusal :=
  .next (s.writeAt t p Reg.TIME_CMD (withBits v 2))

/-- A PTP message arrives on a sub-port that has link. -/
def State.ptpIn (s : State) (t ps : Nat) (f : State → State) : State :=
  s.during t fun s => s.when (s.mode.active && s.hasSub ps && s.subLink ps) f

/-- SYNC (R411, R412). -/
def execSync (t ps : Nat) (m : PtpMsg) (s : State) : Host.Outcome State Fault Refusal :=
  .next (s.ptpIn t ps fun s => s.takeSync ps m)

/-- FOLLOW_UP (R411, R412). -/
def execFollowUp (t ps : Nat) (m : PtpMsg) (s : State) : Host.Outcome State Fault Refusal :=
  .next (s.ptpIn t ps fun s => s.takeFollowUp ps m)

/-- DELAY_REQ (R412). -/
def execDelayReq (t ps : Nat) (m : PtpMsg) (s : State) : Host.Outcome State Fault Refusal :=
  .next (s.ptpIn t ps fun s => s.takeDelayReq ps m)

/-- DELAY_RESP (R411). -/
def execDelayResp (t ps : Nat) (m : PtpMsg) (s : State) : Host.Outcome State Fault Refusal :=
  .next (s.ptpIn t ps fun s => s.takeDelayResp ps m)

/-- PDELAY_REQ (R412, R415). -/
def execPdelayReq (t ps : Nat) (m : PtpMsg) (s : State) : Host.Outcome State Fault Refusal :=
  .next (s.ptpIn t ps fun s => s.takePdelayReq ps m)

/-- PDELAY_RESP (R411, R412). -/
def execPdelayResp (t ps : Nat) (m : PtpMsg) (s : State) : Host.Outcome State Fault Refusal :=
  .next (s.ptpIn t ps fun s => s.takePdelayResp ps m)

/-- PDELAY_RESP_FOLLOW_UP (R411, R412). -/
def execPdelayRespFollowUp (t ps : Nat) (m : PtpMsg) (s : State) : Host.Outcome State Fault Refusal :=
  .next (s.ptpIn t ps fun s => s.takePdelayFollowUp ps m)

/-- ANNOUNCE (R412, R414). -/
def execAnnounce (t ps : Nat) (m : PtpMsg) (d : PtpSet) (s : State) : Host.Outcome State Fault Refusal :=
  .next (s.ptpIn t ps fun s => s.takeAnnounce ps m d)

/-- PTP_MESSAGE_INTERVAL (R412): the interval timer of Sync (0), Announce (1) or Delay_Req and Pdelay_Req (2) expires. -/
def execPtpMessageInterval (t which : Nat) (s : State) : Host.Outcome State Fault Refusal :=
  .next (s.during t fun s => s.ptpInterval which)

/-- ANNOUNCE_RECEIPT_TIMEOUT (R414). -/
def execAnnounceReceiptTimeout (t : Nat) (s : State) : Host.Outcome State Fault Refusal :=
  .next (s.during t fun s => s.when s.mode.active State.announceLost)

/-- TIME_HOLDOVER (R409): the source has stopped delivering. -/
def execTimeHoldover (t : Nat) (s : State) : Host.Outcome State Fault Refusal :=
  .next (s.during t fun s => s.when s.mode.allOn State.enterHoldover)

/-- AORATE_UPDATE (R408): `rate` is what the timekeeper has measured of AOCLK. -/
def execAorateUpdate (t : Nat) (rate : Word) (s : State) : Host.Outcome State Fault Refusal :=
  .next (s.during t fun s => s.aorateUpdate rate)

/-- SECOND_BOUNDARY (R419): the time has passed a second boundary. -/
def execSecondBoundary (t : Nat) (s : State) : Host.Outcome State Fault Refusal :=
  .next (s.during t fun s => s.when s.mode.powered State.secondBoundary)

/-- SEAM_TIME_EXCHANGE (R417). -/
def execSeamTimeExchange (t m : Nat) (s : State) : Host.Outcome State Fault Refusal :=
  .next (s.onLink t m [5] fun s => s.exchangeStart m)

/-- TSYNC (R417): both parts have arrived. -/
def execTsync (t m : Nat) (d0 d1 : BitVec 48) (s : State) : Host.Outcome State Fault Refusal :=
  .next (s.onLink t m [5] fun s => s.takeTsync m d0 d1)

/-- TREQ (R417). -/
def execTreq (t m : Nat) (s : State) : Host.Outcome State Fault Refusal :=
  .next (s.onLink t m [5] fun s => s.takeTreq m)

/-- TRESP (R417): both parts have arrived. -/
def execTresp (t m : Nat) (d0 d1 : BitVec 48) (s : State) : Host.Outcome State Fault Refusal :=
  .next (s.onLink t m [5] fun s => s.takeTresp m d0 d1)

/-- TRESP_TIMEOUT (R417). -/
def execTrespTimeout (t : Nat) (s : State) : Host.Outcome State Fault Refusal :=
  .next (s.during t fun s => s.when s.mode.active State.trespTimeout)

end Sys2Proof.Machine
end

