-- ==== Sys2Proof/Machine/CmdMemc.lean ====
section
/-! DEFINITION. The meanings of the commands of the GDDR6 controller and of the event router (16_gddr6.md, 17_event_router.md). -/

namespace Sys2Proof.Machine

/-! ### GDDR6 -/

/-- REFRESH_DUE (R427, R428): a refresh of channel `k` falls due. -/
def execRefreshDue (t k : Nat) (traffic : List MemOp) (s : State) : Host.Outcome State Fault Refusal :=
  .next (s.during t fun s => (s.memWork traffic).refreshDue k)

/-- FORCED_REFRESH_DONE (R428). -/
def execForcedRefreshDone (t k : Nat) (s : State) : Host.Outcome State Fault Refusal :=
  .next (s.during t fun s => s.forcedDone k)

/-- REALTIME_WRITE_REQUEST (R429): a source writes `len` bytes; `waits` tells that other requests go first. -/
def execRealtimeWriteRequest (t : Nat) (traffic : List MemOp) (at_ : MemTarget) (len : Nat) (waits : Bool) (s : State) :
    Host.Outcome State Fault Refusal :=
  .next (s.during t fun s => (s.memWork traffic).realTimeWrite at_.a len at_.source waits)

/-- GDDR6_READ_RETURN (R430, R431). -/
def execGddr6ReadReturn (t : Nat) (traffic : List MemOp) (at_ : MemTarget) (fails bits : Nat) (s : State) : Host.Outcome State Fault Refusal :=
  .next (s.during t fun s => (s.memWork traffic).readReturn at_.a at_.source fails bits)

/-- WRITE_EDC_REPORT (R430). -/
def execWriteEdcReport (t a source fails : Nat) (parity : Bool) (s : State) : Host.Outcome State Fault Refusal :=
  .next (s.during t fun s => s.writeReport a source fails parity)

/-- TRAINING_COMPLETE (R434): the channels that failed the quick check, and the values now in force. -/
def execTrainingComplete (t fails : Nat) (ws : List Word) (s : State) : Host.Outcome State Fault Refusal :=
  .next (s.during t fun s => s.trainingComplete fails ws)

/-- MEMC_RETRAIN (R435): MEMC_TRAIN is written with RETRAIN set. -/
def execMemcRetrain (t : Nat) (p : Path) (v : Word) (s : State) : Host.Outcome State Fault Refusal :=
  .next (s.writeAt t p Reg.MEMC_TRAIN (withBits v 0x200))

/-- FREQUENCY_REQUEST (R436): MEMC_FREQ is written. -/
def execFrequencyRequest (t : Nat) (p : Path) (v : Word) (s : State) : Host.Outcome State Fault Refusal :=
  .next (s.writeAt t p Reg.MEMC_FREQ v)

/-- SELF_REFRESH_ENTRY (R433). -/
def execSelfRefreshEntry (t : Nat) (s : State) : Host.Outcome State Fault Refusal :=
  .next (s.during t State.selfRefresh)

/-! ### Event router -/

/-- EVR_FIRE (R439): EVR_FIRE_LO or EVR_FIRE_HI is written. -/
def execEvrFire (t : Nat) (p : Path) (high : Bool) (v : Word) (s : State) : Host.Outcome State Fault Refusal :=
  .next (s.writeAt t p (if high then Reg.EVR_FIRE_HI else Reg.EVR_FIRE_LO) v)

/-- EVIN `k` changes to a level (R448): an active edge emits an event. -/
def State.evinEdge (s : State) (k : Nat) (level : Bool) : State :=
  let was := bit s.pins.evin k
  let s := { s with pins := { s.pins with evin := s.pins.evin - b2n was * 2 ^ k + b2n level * 2 ^ k } }
  let edge := s.fld (Reg.EVIN_CFG k) Fld.EVIN_CFG_EDGE
  let active := was != level && (edge = 3 || edge = if level then 1 else 2)
  if active && s.mode.powered then s.producerEvent (32 + k) else s

/-- EVIN_EDGE (R448). -/
def execEvinEdge (t k : Nat) (level : Bool) (s : State) : Host.Outcome State Fault Refusal :=
  .next (s.during t fun s => s.evinEdge k level)

/-- SPACING_END (R444). -/
def execSpacingEnd (t c : Nat) (s : State) : Host.Outcome State Fault Refusal :=
  .next (s.during t fun s => s.when s.mode.powered fun s => s.spacingEnd c)

/-- EVOUT_PULSE_END (R449). -/
def execEvoutPulseEnd (t k : Nat) (s : State) : Host.Outcome State Fault Refusal :=
  .next (s.during t fun s => s.when s.mode.powered fun s => s.evoutPulseEnd k)

end Sys2Proof.Machine
end

