-- ==== Sys2Proof/Machine/CmdPower.lean ====
section
/-! DEFINITION. The meanings of the commands of errors, power, clocks and starting (19_errors.md, 21_power_start.md, R544). -/

namespace Sys2Proof.Machine

/-! ### Errors and recovery -/

/-- ERR_ACK (R473): the register is written with a serial number. -/
def execErrAck (t : Nat) (p : Path) (v : Word) (s : State) : Host.Outcome State Fault Refusal :=
  .next (s.writeAt t p Reg.ERR_ACK v)

/-- RESTART (R480): ERR_CTRL is written with RESTART set; the checks take `prep` ns. -/
def execRestart (t : Nat) (p : Path) (v : Word) (prep : Nat) (s : State) : Host.Outcome State Fault Refusal :=
  .next (s.writeAtIn t p Reg.ERR_CTRL (withBits v 1) prep)

/-- INSPECT_ENTRY (R480, R522): the first reference trigger has come. -/
def execInspectEntry (t : Nat) (s : State) : Host.Outcome State Fault Refusal :=
  .next (s.during t State.inspectEntry)

/-- WATCHDOG (R486): core `core` of the control cluster has not been serviced. -/
def execWatchdog (t core : Nat) (s : State) : Host.Outcome State Fault Refusal :=
  .next (s.during t fun s => s.watchdog core)

/-- SRAM_ECC_ERROR (R486): at an SRAM offset. -/
def execSramEccError (t off : Nat) (corrected : Bool) (s : State) : Host.Outcome State Fault Refusal :=
  .next (s.during t fun s => s.sramError off corrected)

/-- FW_FAULT (R486). -/
def execFwFault (t : Nat) (code : Word) (halts : Bool) (s : State) : Host.Outcome State Fault Refusal :=
  .next (s.during t fun s => s.firmwareFault code halts)

/-! ### Starting -/

/-- COLD_START (R516, R529): EN rises or RESET_N is released; from Standby, the stages of a requested start. -/
def execColdStart (t boot twAddr : Nat) (run : StartRun) (s : State) : Host.Outcome State Fault Refusal :=
  .next (s.during t fun s => s.coldStart boot twAddr run)

/-- BOOT_GO (R532, R534): SYS_BOOTCTL is written with GO set in the boot stage, and the start goes on. -/
def execBootGo (t : Nat) (p : Path) (v : Word) (digest : List Word) (signed_ : Bool) (run : StartRun) (s : State) :
    Host.Outcome State Fault Refusal :=
  .next (s.during t fun s => s.when s.pwr.bootWait.isSome fun s =>
    ((s.busWrite p Reg.SYS_BOOTCTL (withBits v 1)).2).bootGo digest signed_ run)

/-- HOSTTMO (R532). -/
def execHosttmo (t : Nat) (s : State) : Host.Outcome State Fault Refusal :=
  .next (s.during t State.hostTimeout)

/-! ### Pins, rails and clocks -/

/-- EN_FALL (R516). -/
def execEnFall (t : Nat) (s : State) : Host.Outcome State Fault Refusal :=
  .next (s.during t State.enFall)

/-- RESET_ASSERT (R516). -/
def execResetAssert (t : Nat) (s : State) : Host.Outcome State Fault Refusal :=
  .next (s.during t State.resetAssert)

/-- POWER_FAULT (R515): a needed rail or VIN has been out of its window for 10 µs. DESIGN CHOICE, log 125. -/
def execPowerFault (t : Nat) (s : State) : Host.Outcome State Fault Refusal :=
  .next (s.during t State.powerFault)

/-- VIO_FAULT (R544): VIO has been out of its range for 10 µs. DESIGN CHOICE, log 125. -/
def execVioFault (t : Nat) (s : State) : Host.Outcome State Fault Refusal :=
  .next (s.during t State.powerFault)

/-- RAIL_WINDOW_EXIT (R515). -/
def execRailWindowExit (t rail : Nat) (s : State) : Host.Outcome State Fault Refusal :=
  .next (s.during t fun s => s.railExit rail)

/-- RAIL_WINDOW_RETURN (R515). -/
def execRailWindowReturn (t rail : Nat) (s : State) : Host.Outcome State Fault Refusal :=
  .next (s.during t fun s => s.railReturn rail)

/-- REFCLK_LOSS (R519): REFCLK is lost, or with `pll` a PLL is out of lock. -/
def execRefclkLoss (t : Nat) (pll : Bool) (s : State) : Host.Outcome State Fault Refusal :=
  .next (s.during t fun s => s.refclkLoss pll)

/-- REFCLK_RETURN (R519). -/
def execRefclkReturn (t : Nat) (s : State) : Host.Outcome State Fault Refusal :=
  .next (s.during t State.refclkReturn)

/-- AOCLK_LOSS (R518). -/
def execAoclkLoss (t : Nat) (s : State) : Host.Outcome State Fault Refusal :=
  .next (s.during t State.aoclkLoss)

/-- AOCLK_RECOVERY (R518). -/
def execAoclkRecovery (t : Nat) (s : State) : Host.Outcome State Fault Refusal :=
  .next (s.during t State.aoclkReturn)

/-- TEMP_MEASURE (R539, R541): the junction temperature in °C and what is measured of the input. -/
def execTempMeasure (t : Nat) (tj : Int) (vin power : Nat) (s : State) : Host.Outcome State Fault Refusal :=
  .next (s.during t fun s => s.measureTemp tj vin power)

/-! ### Requests -/

/-- PWR_CTRL with a request. -/
def reqWord (v : Word) (req : Nat) : Word := setBits v Fld.PWR_CTRL_REQ req

/-- REQ_STANDBY (R524). -/
def execReqStandby (t : Nat) (p : Path) (v : Word) (s : State) : Host.Outcome State Fault Refusal :=
  .next (s.writeAt t p Reg.PWR_CTRL (reqWord v 1))

/-- REQ_POISED (R521, R523, R525, R535): from Standby the stages of the start follow, unless the request was refused. -/
def execReqPoised (t : Nat) (p : Path) (v : Word) (run : StartRun) (s : State) : Host.Outcome State Fault Refusal :=
  .next (s.during t fun s => s.when (s.reaches p) fun s =>
    let busy := s.flag Reg.PWR_STATUS Fld.PWR_STATUS_BUSY
    let was := s.mode
    let s := (s.busWrite p Reg.PWR_CTRL (reqWord v 2)).2
    s.when (was == .standby && !busy && s.flag Reg.PWR_STATUS Fld.PWR_STATUS_BUSY) fun s =>
      s.coldStart s.pins.boot s.pins.twAddr run)

/-- INSPECTION_STOP (R525): the line boundary at which a requested stop takes effect has come. -/
def execInspectionStop (t : Nat) (s : State) : Host.Outcome State Fault Refusal :=
  .next (s.during t State.inspectionStop)

/-- REQ_INSPECT (R522): checks and preparation take `prep` ns. -/
def execReqInspect (t : Nat) (p : Path) (v : Word) (prep : Nat) (s : State) : Host.Outcome State Fault Refusal :=
  .next (s.writeAtIn t p Reg.PWR_CTRL (reqWord v 3) prep)

/-- REQ_OFF (R521, R524). -/
def execReqOff (t : Nat) (p : Path) (v : Word) (s : State) : Host.Outcome State Fault Refusal :=
  .next (s.writeAt t p Reg.PWR_CTRL (reqWord v 4))

/-- CLRFAIL (R538): PWR_CTRL is written with CLRFAIL set. -/
def execClrfail (t : Nat) (p : Path) (v : Word) (s : State) : Host.Outcome State Fault Refusal :=
  .next (s.writeAt t p Reg.PWR_CTRL (withBits v (1 <<< Fld.PWR_CTRL_CLRFAIL.lo)))

end Sys2Proof.Machine
end

