-- ==== Sys2Proof/Machine/Pair.lean ====
section
/-! DEFINITION. The active/standby pair where it writes registers (20_redundancy.md): frames of TWIN, applying epochs, the tables of a
join, and answers that have waited for an epoch. -/

namespace Sys2Proof.Machine

/-! ### Frames on TWIN (R166, R501, R502) -/

/-- Is a copy of a TWIN frame valid: its CRC and length, and LINE = EPOCH bits [31:0]? -/
def twinFrameOk (f : SeamFrame) : Bool :=
  decide (crc32 (f.blocks.flatMap fun b => bitsOf 64 b.toNat) = f.crc) && decide (f.nblk = f.blocks.length)
    && decide (f.line = pktField f.blocks 4 4)

/-- A copy of a TWIN frame that holds a packet of some TYPE: the first valid copy is used. DEDUCED, log 121. -/
def State.twinIn (s : State) (f : SeamFrame) (type : Nat) (g : State → State) : State :=
  if !twinFrameOk f then (s.bump (Reg.SEAM_CNT 2 1)).linkEvent 14 3
  else if f.copy = 1 && decide (s.red.lastFrame = f.blocks) then { s with red := { s.red with lastFrame := [] } }
  else
    let s := ({ s with red := { s.red with lastFrame := f.blocks } }).bump (Reg.SEAM_CNT 2 0)
    if pktField f.blocks 0 1 = type then g s else s

/-- A pair message with an OP (R502). -/
def State.pairIn (s : State) (data : BitVec 48) (op : Nat) (g : State → State) : State :=
  if s.flag Reg.RED_CTRL Fld.RED_CTRL_EN && decide (data.toNat % 16 = op) then g s else s

/-- Epoch bits [27:0] of a pair message. -/
def pairEpoch (data : BitVec 48) : Nat := data.toNat / 2 ^ 20

/-! ### Applying writes (R498, R499, R503) -/

/-- One copied write takes effect through firmware's path; a COMMIT that a request asked for and that is rejected is answered. DEDUCED, log 111. -/
def State.applyWrite (s : State) (w : Nat × Word) : State :=
  let busy := decide (s.fld Reg.ACC_STATUS Fld.ACC_STATUS_SSTATE = 1)
  let s := (s.busWrite .fw w.1 w.2).2
  let rejected := busy || decide (s.fld Reg.ACC_STATUS Fld.ACC_STATUS_SSTATE ≠ 1)
  if w.1 = Reg.ACC_CTRL ∧ bit w.2.toNat 0 ∧ rejected then s.answerCommit true else s

/-- Writes take effect in write order; a swap is no register write (R509). They neither use nor change what firmware itself holds (R12). -/
def State.applyWrites (s : State) (ws : List (Nat × Word)) : State :=
  let own (e : Nat × Option Word) : Bool := decide (e.1 / 2 ^ 24 = pathKey .fw)
  let mine := s.held.filter own
  let s := { s with red := { s.red with applying := true }, held := s.held.filter fun e => !own e }
  let s := (ws.filter fun w => decide (w.1 ≠ Reg.RED_CTRL)).foldl State.applyWrite s
  { s with red := { s.red with applying := false }, held := (s.held.filter fun e => !own e) ++ mine }

/-- The oldest closed epoch whose effect line is the next line or has come (R498, R499): a committed one, or one of SOLO, is applied, and
in SOLO its TQ packet is released; an uncommitted one is dropped by a standby, and waits in an active. DEDUCED, log 112. -/
def State.epochApply (s : State) : State :=
  match s.red.closed with
  | [] => s
  | e :: rest =>
    if decide (s.newestLine + 1 < e.effect) then s
    else if e.done then
      let s := ({ s with red := { s.red with closed := rest } }).applyWrites e.writes
      if s.flag Reg.RED_STATUS Fld.RED_STATUS_SOLO && !s.standbyRole then s.qRelease 59 e.num else s
    else if s.standbyRole then ({ s with red := { s.red with closed := rest } }).bump (Reg.RED_CNT 3)
    else s

/-- A JOINTAB packet (R503): a joiner performs its writes. -/
def State.takeJoinTab (s : State) (bs : List (BitVec 64)) : State :=
  if s.joining then s.applyWrites (readRecords bs 16 (pktField bs 12 2)) else s

end Sys2Proof.Machine
end

