-- ==== Sys2Proof/Machine/CmdPair.lean ====
section
/-! DEFINITION. The meanings of the commands of the active/standby pair (20_redundancy.md). -/

namespace Sys2Proof.Machine

/-! ### Roles -/

/-- RED_ENABLE (R491): RED_CTRL is written with EN set. -/
def execRedEnable (t : Nat) (p : Path) (v : Word) (s : State) : Host.Outcome State Fault Refusal :=
  .next (s.writeAt t p Reg.RED_CTRL (withBits v 1))

/-- ROLE_EDGE (R491, R506, R507): ROLE has been at a level for 1 µs. -/
def execRoleEdge (t : Nat) (level : Bool) (s : State) : Host.Outcome State Fault Refusal :=
  .next (s.during t fun s => (s.roleEdge level).releaseAnswers)

/-- TAKEOVER_WINDOW_END (R495). -/
def execTakeoverWindowEnd (t : Nat) (s : State) : Host.Outcome State Fault Refusal :=
  .next (s.during t State.takeoverEnd)

/-- SWAP (R509): RED_CTRL is written with SWAP set. -/
def execSwap (t : Nat) (p : Path) (v : Word) (s : State) : Host.Outcome State Fault Refusal :=
  .next (s.writeAt t p Reg.RED_CTRL (withBits v 4))

/-- SWAP_LINE (R509): the swap line's reference trigger has come. -/
def execSwapLine (t : Nat) (s : State) : Host.Outcome State Fault Refusal :=
  .next (s.during t fun s => s.when s.mode.active fun s => s.swapLine.releaseAnswers)

/-- PINMIS_TIMEOUT (R510). -/
def execPinmisTimeout (t : Nat) (s : State) : Host.Outcome State Fault Refusal :=
  .next (s.during t State.pinmisTimeout)

/-- HB_TOGGLE (R504). -/
def execHbToggle (t : Nat) (s : State) : Host.Outcome State Fault Refusal :=
  .next (s.during t State.hbToggle)

/-! ### Epochs -/

/-- EPOCH_CLOSE (R497, R498). -/
def execEpochClose (t : Nat) (s : State) : Host.Outcome State Fault Refusal :=
  .next (s.during t State.epochClose)

/-- EPOCH (R498, R499, R502): the packet has arrived; `report` is the accession result that the active reports with it, if any. -/
def execEpoch (t : Nat) (f : SeamFrame) (report : Option Nat) (s : State) : Host.Outcome State Fault Refusal :=
  .next (s.onLink t 14 [5] fun s => s.when (s.flag Reg.RED_CTRL Fld.RED_CTRL_EN) fun s =>
    s.twinIn f 1 fun s => s.takeEpoch f.blocks report)

/-- EPACK (R498). -/
def execEpack (t : Nat) (data : BitVec 48) (s : State) : Host.Outcome State Fault Refusal :=
  .next (s.onLink t 14 [5] fun s => s.pairIn data 1 fun s => (s.takeEpack (pairEpoch data)).releaseAnswers)

/-- EPCOMMIT (R498). -/
def execEpcommit (t : Nat) (data : BitVec 48) (s : State) : Host.Outcome State Fault Refusal :=
  .next (s.onLink t 14 [5] fun s => s.pairIn data 2 fun s => s.takeEpcommit (pairEpoch data))

/-- EPOCH_COMMIT_DEADLINE (R499): T(X_n) − 2 µs of epoch `n` has come. -/
def execEpochCommitDeadline (t n : Nat) (s : State) : Host.Outcome State Fault Refusal :=
  .next (s.during t fun s => s.when (s.mode == .inspecting) fun s => (s.epochMissed n).releaseAnswers)

/-- EPOCH_APPLY (R498, R499): immediately before the reference trigger of an effect line. -/
def execEpochApply (t : Nat) (s : State) : Host.Outcome State Fault Refusal :=
  .next (s.during t fun s => s.when (s.mode == .inspecting) fun s => s.epochApply.releaseAnswers)

/-! ### Packets and messages on TWIN -/

/-- PORTREC (R494). -/
def execPortrec (t : Nat) (f : SeamFrame) (s : State) : Host.Outcome State Fault Refusal :=
  .next (s.onLink t 14 [5] fun s => s.when (s.flag Reg.RED_CTRL Fld.RED_CTRL_EN) fun s =>
    s.twinIn f 2 fun s => s.takeRecord f.blocks)

/-- STATUS (R495, R502). -/
def execStatus (t : Nat) (data : BitVec 48) (s : State) : Host.Outcome State Fault Refusal :=
  .next (s.onLink t 14 [5] fun s => s.pairIn data 3 fun s => s.takeStatus data)

/-- STATUS_PERIOD (R502): 10 µs have passed since the last STATUS. -/
def execStatusPeriod (t : Nat) (s : State) : Host.Outcome State Fault Refusal :=
  .next (s.during t State.sendStatus)

/-- SYNCED_TIMEOUT (R499): 250 µs since TWIN left READY. -/
def execSyncedTimeout (t : Nat) (s : State) : Host.Outcome State Fault Refusal :=
  .next (s.during t fun s => s.when s.mode.active State.syncedTimeout)

/-- TWIN_HELLO (R502). -/
def execTwinHello (t : Nat) (data : BitVec 48) (s : State) : Host.Outcome State Fault Refusal :=
  .next (s.onLink t 14 [4] fun s => s.takeHello 14 data)

/-! ### Joining -/

/-- JOIN (R503): RED_CTRL is written with JOIN set. -/
def execJoin (t : Nat) (p : Path) (v : Word) (s : State) : Host.Outcome State Fault Refusal :=
  .next (s.writeAt t p Reg.RED_CTRL (withBits v 2))

/-- JOINTAB (R503). -/
def execJointab (t : Nat) (f : SeamFrame) (s : State) : Host.Outcome State Fault Refusal :=
  .next (s.onLink t 14 [5] fun s => s.twinIn f 3 fun s => s.takeJoinTab f.blocks)

/-- JOINCQ (R503): a packet of `len` bytes of a circulation queue. -/
def execJoincq (t : Nat) (f : SeamFrame) (len : Nat) (s : State) : Host.Outcome State Fault Refusal :=
  .next (s.onLink t 14 [5] fun s => s.twinIn f 4 fun s => s.takeJoinCq f.blocks len)

/-- JOINSTATE (R503): `digest` is the active's live digest. DESIGN CHOICE, log 19. -/
def execJoinstate (t : Nat) (f : SeamFrame) (digest : Nat) (s : State) : Host.Outcome State Fault Refusal :=
  .next (s.onLink t 14 [5] fun s => s.twinIn f 5 fun s => s.takeJoinState f.blocks digest)

end Sys2Proof.Machine
end

