-- ==== Sys2Proof/Machine/CmdPosition.lean ====
section
/-! DEFINITION. The meanings of the register commands (R9, R12, R91) and of the commands of position feedback and triggering
(04_position_triggers.md). A command whose precondition does not hold when it comes only lets its time pass (log 36). -/

namespace Sys2Proof.Machine

/-- REGISTER_WRITE (R9, R12, R34): a write through a path. -/
def execRegisterWrite (t : Nat) (p : Path) (a : Nat) (v : Word) (s : State) : Host.Outcome State Fault Refusal :=
  .next (s.writeAt t p a v)

/-- CAPTURE_READ (R12): a read through a path, with its captures. -/
def execCaptureRead (t : Nat) (p : Path) (a : Nat) (s : State) : Host.Outcome State Fault Refusal :=
  .next (s.readAt t p a)

/-- COUNTER_CLEAR (R91, R93): a write to a counter-clear register. -/
def execCounterClear (t : Nat) (p : Path) (a : Nat) (v : Word) (s : State) : Host.Outcome State Fault Refusal :=
  .next (s.writeAt t p a v)

/-- The time in ps from an edge to its decision (R95). -/
def decideTime : Nat := 2000

/-- Is an edge of the other signal of input `k` still undecided: did it come less than 2 ns ago (R95)? -/
def State.otherEdge (s : State) (k : Nat) (onB : Bool) : Option EvrWait :=
  s.evrQ.find? fun w => match w.item with
    | .edge j x _ _ at_ => decide (j = k) && x != onB && decide (s.now < at_ + decideTime ∧ at_ < s.now + decideTime)
    | _ => false

/-- One edge of input `k` at time now + `gap` (R95): less than 2 ns after an edge of the other signal both are an illegal transition;
any other is decided 2 ns later. -/
def State.oneEdge (s : State) (k : Nat) (onB level other : Bool) (gap : Nat) : State :=
  match (if gap = 0 then s.otherEdge k onB else none) with
  | some w => ({ s with evrQ := s.evrQ.erase w } : State).illegalEdges k
  | none => s.route (gap + decideTime) (.edge k onB level other (s.now + gap))

/-- The levels of A and B of input `k` are now `a` and `b` (R95): one edge, or two `gap` ps apart with B first or second. A pair less
than 2 ns apart is illegal; one less than 20 ns apart is counted or illegal, a free value. A disabled input keeps its count. DEDUCED, log 54. -/
def State.quadrature (s : State) (k : Nat) (a b : Bool) (gap : Nat) (bFirst : Bool) : State :=
  let p := s.posIn k
  let s := s.setPosIn k { p with a := a, b := b }
  if !(s.mode.powered && s.inputEnabled k) then s
  else if p.a != a && p.b != b then
    let (x, s) := if 2000 ≤ gap ∧ gap < 20000 then s.freeValue else (0, s)
    if gap < 2000 ∨ bit x.toNat 0 then s.illegalEdges k
    else if bFirst then (s.oneEdge k true b p.a 0).oneEdge k false a b gap
    else (s.oneEdge k false a p.b 0).oneEdge k true b a gap
  else if p.a != a then s.oneEdge k false a b 0
  else if p.b != b then s.oneEdge k true b a 0
  else s

/-- QUADRATURE_EDGE (R95): the step and what it triggers (R100, R103 to R113, R117) come with the decision, 2 ns later. DEDUCED, log 54. -/
def execQuadratureEdge (t k : Nat) (a b : Bool) (gap : Nat) (bFirst : Bool) (s : State) : Host.Outcome State Fault Refusal :=
  .next (s.during t fun s => s.quadrature k a b gap bFirst)

/-- TRIG_PULSE_END (R114): the pulse's width has expired. -/
def execTrigPulseEnd (t k : Nat) (s : State) : Host.Outcome State Fault Refusal :=
  .next (s.during t fun s =>
    match Store.get (fun _ => none) k s.outPins.trigEnd with
    | some (_, e) => s.when (decide (e ≤ s.now)) fun s =>
        { s with outPins := { s.outPins with trigEnd := Store.set (fun _ => none) k none s.outPins.trigEnd } }.emit (.trigEnd k)
    | none => s)

/-- INDEX_EDGE (R101, R102, R117): Z of input `k` is now at a level; an active edge acts after the steps of its time, decided like them 2 ns
later (log 54). -/
def execIndexEdge (t k : Nat) (level : Bool) (s : State) : Host.Outcome State Fault Refusal :=
  .next (s.during t fun s => s.when ((s.posIn k).z != level) fun s =>
    let s := s.setPosIn k { s.posIn k with z := level }
    s.when (s.mode.powered && s.inputEnabled k && level != s.flag (Reg.IN_CFG k) Fld.IN_CFG_ZPOL) fun s => s.route decideTime (.index k))

/-- SPOS_POLL (R96): the port opens a frame with its latch pulse. -/
def execSposPoll (t k : Nat) (s : State) : Host.Outcome State Fault Refusal :=
  .next (s.during t fun s => s.when (s.mode.powered && s.inputEnabled k && (s.posIn k).frameAt.isNone) fun s =>
    (s.setPosIn k { s.posIn k with frameAt := some s.now }).emit
      (.sposClk (k - 4) (s.latchTime k)))

/-- SPOS_FRAME (R97 to R99, R117): a whole frame has been sampled; it is applied before a register write of its time, 2 ns later (log 54). -/
def execSposFrame (t k : Nat) (status : Bool) (pos check : Nat) (s : State) : Host.Outcome State Fault Refusal :=
  .next (s.during t fun s => s.when (s.mode.powered && s.inputEnabled k && (s.posIn k).frameAt.isSome) fun s =>
    (s.setPosIn k { s.posIn k with frameAt := none }).route decideTime (.frame k status pos check s.now))

/-- LEADIN_TIMEOUT (R98): TMO has passed since the latch pulse without a lead-in. -/
def execLeadinTimeout (t k : Nat) (s : State) : Host.Outcome State Fault Refusal :=
  .next (s.during t fun s =>
    match (s.posIn k).frameAt with
    | some e =>
      let tmo := 1000 * s.latchTime k + 1000000 * s.fld (Reg.SPOS_TIM (k - 4)) Fld.SPOS_TIM_TMO
      s.when (s.mode.powered && s.inputEnabled k && decide (e + tmo ≤ s.now)) fun s =>
        (s.setPosIn k { s.posIn k with frameAt := none }).frameFails k (Reg.IN_TMOCNT k)
    | none => s)

/-- STALL (R105): no step of input `k` for STALL µs since its last one, whether or not a load came in between. -/
def execStall (t k : Nat) (s : State) : Host.Outcome State Fault Refusal :=
  .next (s.during t fun s =>
    match (s.posIn k).moved with
    | some e =>
      s.when (s.mode.powered && decide (e + 1000000 * s.stallTime k ≤ s.now)) fun s =>
        let s := s.clearSpeed k
        (s.setPosIn k { s.posIn k with moved := none }).posEvent k 6
    | none => s)

/-- SOFT_LIMIT_WRITE (R12, R100): the _HI and then the _LO register of a soft limit of input `k` is written. -/
def execSoftLimitWrite (t : Nat) (p : Path) (k : Nat) (high : Bool) (lo hi : Word) (s : State) :
    Host.Outcome State Fault Refusal :=
  let a := if high then Reg.IN_SOFTHI_LO k else Reg.IN_SOFTLO_LO k
  .next (s.during t fun s => s.when (s.reaches p) fun s => ((s.busWrite p (a + 4) hi).2.busWrite p a lo).2)

/-- HOME (R101): IN_CFG is written with HOME set. -/
def execHome (t : Nat) (p : Path) (k : Nat) (v : Word) (s : State) : Host.Outcome State Fault Refusal :=
  .next (s.writeAt t p (Reg.IN_CFG k) (withBits v 0x10))

/-- TRIGGER_ENABLE (R107): TRG_CTRL is written with EN = 1. -/
def execTriggerEnable (t : Nat) (p : Path) (v : Word) (s : State) : Host.Outcome State Fault Refusal :=
  .next (s.writeAt t p Reg.TRG_CTRL (withBits v 1))

/-- ARM (R113): TRIG_CMPCTL is written with ARM set. -/
def execArm (t : Nat) (p : Path) (k : Nat) (v : Word) (s : State) : Host.Outcome State Fault Refusal :=
  .next (s.writeAt t p (Reg.TRIG_CMPCTL k) (withBits v 1))

end Sys2Proof.Machine
end

