-- ==== Sys2Proof/Machine/TwoWire.lean ====
section
/-! DEFINITION. The two-wire management port (18_two_wire.md): transactions, words, and the in-band request. -/

namespace Sys2Proof.Machine

/-- One bit of CRC-8 with polynomial x^8 + x^2 + x + 1, most significant bit first (R457). -/
def crc8Bit (c : Nat) (b : Bool) : Nat :=
  let x := if (bit c 7) != b then 7 else 0
  Nat.xor (c * 2 % 256) x

/-- The PEC of bytes (R457). -/
def pecOf (bytes : List Nat) : Nat :=
  (bytes.flatMap fun v => (bitsOf 8 v).reverse).foldl crc8Bit 0

/-- The module's address byte, less R/W (R452). -/
def State.twiOwn (s : State) : Nat := 2 * (0x38 + s.pins.twAddr)

/-- Does the port follow the bus: powered, and TW_RST_N high (R453, R462)? -/
def State.twiHears (s : State) : Bool := s.reaches .twi && s.pins.twRstN

/-- Store the target. -/
def State.setTwi (s : State) (h : TwiHid) : State := { s with twi := h }

/-- The bytes AW, A2, A1 and A0 of a register address. -/
def State.twiHead (s : State) (a : Nat) : List Nat := [s.twiOwn, a / 2 ^ 16 % 256, a / 2 ^ 8 % 256, a % 256]

/-- A transaction ends, or the bus belongs to others until P (R455): a word that is not whole is discarded. -/
def State.twiEnd (s : State) (busy : Bool) : State := s.setTwi { s.twi with open_ := false, read := false, words := 0, deaf := busy }

/-- The target has lost arbitration to the controller that makes the condition (R461). DESIGN CHOICE, log 123. -/
def State.twiLost (s : State) : State := ((s.bump (Reg.TWI_CNT 3)).notice 0x0605 (sourceOf Reg.TWI_CTRL) 0).twiEnd true

/-- A START or Sr with its address byte (R454, R457): a write names its register; a read goes on from it after an Sr. PEC is taken at a
START. DEDUCED, log 122. -/
def State.twiStart (s : State) (repeated : Bool) (byte : Nat) (reg : Option Nat) : State :=
  let h := s.twi
  let pec := if repeated then h.pec else s.flag Reg.TWI_CTRL Fld.TWI_CTRL_PEC
  if byte = s.twiOwn then
    match reg with
    | some a => s.setTwi { h with open_ := true, read := false, addr := a, words := 0, pec := pec, deaf := false }
    | none => s.twiEnd true
  else if byte = s.twiOwn + 1 && repeated && h.open_ && !h.read && decide (h.words = 0) then s.setTwi { h with read := true, pec := pec }
  else s.twiEnd true

/-- A P: the bus is free, and an in-band request may follow 100 µs later (R455, R465). -/
def State.twiStop (s : State) : State :=
  let s := s.twiEnd false
  s.setTwi { s.twi with notBefore := max s.twi.notBefore (s.now + 100000000) }

/-- Is a further word of the transaction taken (R457): with PEC a transfer carries one? -/
def State.twiTakes (s : State) (read : Bool) : Bool :=
  s.twi.open_ && (s.twi.read == read) && !s.twi.deaf && !(s.twi.pec && decide (0 < s.twi.words))

/-- A write word (R455 to R457), with the PEC byte that follows it. DEDUCED, log 122. -/
def State.twiWord (s : State) (v : Word) (pec : Nat) : State :=
  let h := s.twi
  if h.pec && decide (pec ≠ pecOf (s.twiHead h.addr ++ (leBytes 4 v.toNat).map BitVec.toNat)) then
    ((s.bump (Reg.TWI_CNT 2)).notice 0x0604 (sourceOf Reg.TWI_CTRL) h.addr).setTwi { h with deaf := true }
  else
    let s := (s.busWrite .twi h.addr v).2
    (s.setTwi { s.twi with addr := (h.addr + 4) % 2 ^ 24, words := s.twi.words + 1 }).bump (Reg.TWI_CNT 1)

/-- A read word (R455 to R457): performed, and put on the bus where the controller takes it. -/
def State.twiReadOne (s : State) (delivered : Bool) : State :=
  let h := s.twi
  let (w, s) := s.busRead .twi h.addr
  let bytes := (leBytes 4 (w.getD 0).toNat).map BitVec.toNat
  let pec := if h.pec then [pecOf (s.twiHead h.addr ++ [s.twiOwn + 1] ++ bytes)] else []
  let s := if delivered then (bytes ++ pec).foldl (fun (s : State) b => s.emit (.twiByte b)) s else s
  (s.setTwi { s.twi with addr := (h.addr + 4) % 2 ^ 24, words := s.twi.words + 1 }).bump (Reg.TWI_CNT 0)

/-- TW_RST_N changes (R462). -/
def State.twiResetPin (s : State) (level : Bool) : State :=
  if s.pins.twRstN == level then s
  else
    let s := { s with pins := { s.pins with twRstN := level } }
    if level then s.twiStop
    else ((s.twiEnd true).setTwi { (s.twiEnd true).twi with request := none }).bump (Reg.TWI_CNT 7)

/-- May a request begin, or one that has begun go on (R465)? -/
def State.ibrMay (s : State) : Bool :=
  match s.twi.request with
  | some e => decide (s.now ≤ e + 10000000000)
  | none => s.ibrDue && !s.twi.open_ && !s.twi.deaf && decide (s.twi.notBefore ≤ s.now)

/-- An in-band request runs (R465, R466). -/
def State.ibr (s : State) (run : IbrRun) : State :=
  let finish (s : State) : State := s.setTwi { s.twi with request := none }
  match run with
  | .delivered =>
    let b := s.statusByte
    let s := ((s.emit (.twiByte (s.twiOwn + 1))).emit (.twiByte b)).bump (Reg.TWI_CNT 4)
    let s := finish s
    (s.setTwi { s.twi with last := b }).twiStop
  | .lost => ((finish s).twiEnd true).bump (Reg.TWI_CNT 5)
  | .nack => ((finish s).twiEnd true).bump (Reg.TWI_CNT 6)
  | .noClock => s.setTwi { s.twi with request := some (s.twi.request.getD s.now) }

/-- No clock within 10 ms of a request's START (R466). -/
def State.ibrTimeout (s : State) : State :=
  match s.twi.request with
  | some e =>
    if e + 10000000000 ≤ s.now then
      let s := (s.setTwi { s.twi with request := none }).bump (Reg.TWI_CNT 6)
      let s := s.twiStop
      s.setTwi { s.twi with notBefore := s.now + 100000000000 }
    else s
  | none => s

end Sys2Proof.Machine
end

