-- ==== Sys2Proof/Machine/CmdTwi.lean ====
section
/-! DEFINITION. The meanings of the commands of the two-wire port (18_two_wire.md). -/

namespace Sys2Proof.Machine

/-- TWI_WRITE_WORD (R455 to R457). DESIGN CHOICE, log 123. -/
def execTwiWriteWord (t : Nat) (v : Word) (pec : Nat) (s : State) : Host.Outcome State Fault Refusal :=
  .next (s.during t fun s => s.when (s.twiHears && s.twiTakes false) fun s => s.twiWord v pec)

/-- TWI_READ_WORD (R455 to R457). -/
def execTwiReadWord (t : Nat) (delivered : Bool) (s : State) : Host.Outcome State Fault Refusal :=
  .next (s.during t fun s => s.when (s.twiHears && s.twiTakes true) fun s => s.twiReadOne delivered)

/-- TWI_RESET (R462): TW_RST_N is now at a level. -/
def execTwiReset (t : Nat) (level : Bool) (s : State) : Host.Outcome State Fault Refusal :=
  .next (s.during t fun s =>
    if s.reaches .twi then s.twiResetPin level else { s with pins := { s.pins with twRstN := level } })

/-- IN_BAND_REQUEST (R464 to R466). -/
def execInBandRequest (t : Nat) (run : IbrRun) (s : State) : Host.Outcome State Fault Refusal :=
  .next (s.during t fun s => s.when (s.twiHears && s.ibrMay) fun s => s.ibr run)

/-- IBR_CLOCK_TIMEOUT (R466). -/
def execIbrClockTimeout (t : Nat) (s : State) : Host.Outcome State Fault Refusal :=
  .next (s.during t fun s => s.when s.twiHears State.ibrTimeout)

/-- TWI_BUS_CONDITION (R454, R455, R461): a START, Sr or P; `lost` where the target was driving SDA, or a byte was not whole. -/
def execTwiBusCondition (t : Nat) (c : TwiCond) (lost : Bool) (s : State) : Host.Outcome State Fault Refusal :=
  .next (s.during t fun s => s.when s.twiHears fun s =>
    let s := s.when (lost && s.twi.open_) State.twiLost
    match c with
    | .start repeated byte reg => s.twiStart (repeated && !lost) byte reg
    | .stop => s.twiStop)

end Sys2Proof.Machine
end

