-- ==== Sys2Proof/Machine/Jtag.lean ====
section
/-! DEFINITION. The JTAG port (R556): the IEEE 1149.1 TAP controller, its registers, and JTAG_TAP_CLOCK. -/

namespace Sys2Proof.Machine

/-- The next state of the TAP controller on a rising edge of TCK (IEEE 1149.1). -/
def Tap.next (x : Tap) (tms : Bool) : Tap :=
  match x with
  | .testLogicReset => if tms then .testLogicReset else .runTestIdle
  | .runTestIdle => if tms then .selectDr else .runTestIdle
  | .selectDr => if tms then .selectIr else .captureDr
  | .captureDr => if tms then .exit1Dr else .shiftDr
  | .shiftDr => if tms then .exit1Dr else .shiftDr
  | .exit1Dr => if tms then .updateDr else .pauseDr
  | .pauseDr => if tms then .exit2Dr else .pauseDr
  | .exit2Dr => if tms then .updateDr else .shiftDr
  | .updateDr => if tms then .selectDr else .runTestIdle
  | .selectIr => if tms then .testLogicReset else .captureIr
  | .captureIr => if tms then .exit1Ir else .shiftIr
  | .shiftIr => if tms then .exit1Ir else .shiftIr
  | .exit1Ir => if tms then .updateIr else .pauseIr
  | .pauseIr => if tms then .exit2Ir else .pauseIr
  | .exit2Ir => if tms then .updateIr else .shiftIr
  | .updateIr => if tms then .selectDr else .runTestIdle

/-- The length of the instruction register. -/
def irLength : Nat := Config.irMore.toNat + 2

/-- The word that IDCODE shifts out (R556). DESIGN CHOICE, log 5. -/
def idcode : Nat := 0x1 * 2 ^ 28 + 0x1248 * 2 ^ 12 + Config.idcodeLow.toNat

/-- The data register an instruction selects: IDCODE (also where none has been loaded since Test-Logic-Reset), BYPASS, or another. -/
inductive JtagDr where
  | idcode
  | bypass
  | other
  deriving DecidableEq, Repr

/-- Are instructions other than IDCODE and BYPASS accepted (R556): in Standby, and in Poised with no collection live? DEDUCED, log 124. -/
def State.jtagOpen (s : State) : Bool := s.mode == .standby || s.mode == .starting || (s.mode == .poised && !s.live)

/-- The data register in use (R556). DEDUCED, log 124. -/
def State.jtagDr (s : State) : JtagDr :=
  if s.jtag.ir.isEmpty || Config.isIdcode s.jtag.ir then .idcode
  else if s.jtag.ir.all (fun b => b) || !s.jtagOpen then .bypass
  else .other

/-- `n` free bits. -/
def State.freeBits (s : State) (n : Nat) : List Bool × State :=
  (List.range n).foldl (fun (w : List Bool × State) _ => let (x, s) := w.2.freeValue; (w.1 ++ [bit x.toNat 0], s)) ([], s)

/-- A rising edge: the present TAP state's action, then the next state. What a register other than BYPASS and IDCODE captures is the
pins' or the chip's, a free value here; so are the upper bits of a captured instruction register. -/
def State.tapRise (s : State) (tms tdi : Bool) : State :=
  let s := match s.jtag.tap with
    | .captureIr =>
      let (b, s) := s.freeBits (irLength - 2)
      { s with jtag := { s.jtag with irShift := [true, false] ++ b } }
    | .shiftIr => { s with jtag := { s.jtag with irShift := s.jtag.irShift.drop 1 ++ [tdi] } }
    | .captureDr =>
      match s.jtagDr with
      | .idcode => { s with jtag := { s.jtag with drShift := bitsOf 32 idcode } }
      | .bypass => { s with jtag := { s.jtag with drShift := [false] } }
      | .other =>
        let (b, s) := s.freeBits ((Config.drMore s.jtag.ir).toNat + 1)
        { s with jtag := { s.jtag with drShift := b } }
    | .shiftDr => { s with jtag := { s.jtag with drShift := s.jtag.drShift.drop 1 ++ [tdi] } }
    | _ => s
  { s with jtag := { s.jtag with tap := s.jtag.tap.next tms } }

/-- A falling edge: an instruction or a data register is updated, TDO is driven in the shift states. -/
def State.tapFall (s : State) : State :=
  let j := s.jtag
  let out := fun (o : Option Bool) (h : JtagHid) => { h with tdo := o }
  match j.tap with
  | .testLogicReset => { s with jtag := out none { j with ir := [] } }
  | .updateIr => { s with jtag := out none { j with ir := j.irShift } }
  | .updateDr =>
    let s := { s with jtag := out none j }
    if s.jtagDr = .other then s.emit (.boundary j.ir j.drShift) else s
  | .shiftIr => { s with jtag := out j.irShift.head? j }
  | .shiftDr => { s with jtag := out j.drShift.head? j }
  | _ => { s with jtag := out none j }

/-- JTAG_TAP_CLOCK (R556): an edge of TCK. -/
def execJtagTapClock (t : Nat) (rising tms tdi : Bool) (s : State) : Host.Outcome State Fault Refusal :=
  .next (s.during t fun s => s.when s.mode.powered fun s => if rising then s.tapRise tms tdi else s.tapFall)

end Sys2Proof.Machine
end

