-- ==== Sys2Proof/Machine/Dispatch.lean ====
section
/-! DEFINITION. The one dispatch from a command to its meaning: one arm per constructor of `Instr`. -/

namespace Sys2Proof.Machine

def exec (i : Instr) (s : State) : Host.Outcome State Fault Refusal :=
  match i with
  | .registerWrite t p a v => Sys2Proof.Machine.execRegisterWrite t p a v s
  | .captureRead t p a => Sys2Proof.Machine.execCaptureRead t p a s
  | .counterClear t p a v => Sys2Proof.Machine.execCounterClear t p a v s
  | .quadratureEdge t k a b gap bFirst => Sys2Proof.Machine.execQuadratureEdge t k a b gap bFirst s
  | .trigPulseEnd t k => Sys2Proof.Machine.execTrigPulseEnd t k s
  | .indexEdge t k level => Sys2Proof.Machine.execIndexEdge t k level s
  | .sposPoll t k => Sys2Proof.Machine.execSposPoll t k s
  | .sposFrame t k status pos check => Sys2Proof.Machine.execSposFrame t k status pos check s
  | .leadinTimeout t k => Sys2Proof.Machine.execLeadinTimeout t k s
  | .stall t k => Sys2Proof.Machine.execStall t k s
  | .softLimitWrite t p k high lo hi => Sys2Proof.Machine.execSoftLimitWrite t p k high lo hi s
  | .home t p k v => Sys2Proof.Machine.execHome t p k v s
  | .triggerEnable t p v => Sys2Proof.Machine.execTriggerEnable t p v s
  | .arm t p k v => Sys2Proof.Machine.execArm t p k v s
  | .linePacket t n rx => Sys2Proof.Machine.execLinePacket t n rx s
  | .arrivalWindowClose t n tseq => Sys2Proof.Machine.execArrivalWindowClose t n tseq s
  | .clockRecovered t m => Sys2Proof.Machine.execClockRecovered t m s
  | .signalLoss t lost => Sys2Proof.Machine.execSignalLoss t lost s
  | .blockLockGained t m lane heads => Sys2Proof.Machine.execBlockLockGained t m lane heads s
  | .blockLockLost t m lane heads => Sys2Proof.Machine.execBlockLockLost t m lane heads s
  | .alignmentMarker t m ams skew => Sys2Proof.Machine.execAlignmentMarker t m ams skew s
  | .upstreamAmRow t m => Sys2Proof.Machine.execUpstreamAmRow t m s
  | .hello t n parts => Sys2Proof.Machine.execHello t n parts s
  | .configAck t n data => Sys2Proof.Machine.execConfigAck t n data s
  | .echoReply t m e => Sys2Proof.Machine.execEchoReply t m e s
  | .handshakeTimeout t m => Sys2Proof.Machine.execHandshakeTimeout t m s
  | .triesReset t m => Sys2Proof.Machine.execTriesReset t m s
  | .retrain t p m v => Sys2Proof.Machine.execRetrain t p m v s
  | .cregGo t p n v => Sys2Proof.Machine.execCregGo t p n v s
  | .rsp t n tag status data => Sys2Proof.Machine.execRsp t n tag status data s
  | .cregTimeout t n => Sys2Proof.Machine.execCregTimeout t n s
  | .corrTableWrite t p n v => Sys2Proof.Machine.execCorrTableWrite t p n v s
  | .corrTableRead t p n => Sys2Proof.Machine.execCorrTableRead t p n s
  | .corrSeal t p n v => Sys2Proof.Machine.execCorrSeal t p n v s
  | .calSeal t p v => Sys2Proof.Machine.execCalSeal t p v s
  | .corrDiscard t p n v => Sys2Proof.Machine.execCorrDiscard t p n v s
  | .corrBankChange t n => Sys2Proof.Machine.execCorrBankChange t n s
  | .bankCopyDone t n => Sys2Proof.Machine.execBankCopyDone t n s
  | .calDark t p v => Sys2Proof.Machine.execCalDark t p v s
  | .calFlat t p v => Sys2Proof.Machine.execCalFlat t p v s
  | .calBadpix t p v => Sys2Proof.Machine.execCalBadpix t p v s
  | .calLinkeq t p v => Sys2Proof.Machine.execCalLinkeq t p v s
  | .calDeskew t p v => Sys2Proof.Machine.execCalDeskew t p v s
  | .calTrigdly t p v => Sys2Proof.Machine.execCalTrigdly t p v s
  | .calAbort t p v => Sys2Proof.Machine.execCalAbort t p v s
  | .calRunEnd t lanes lats => Sys2Proof.Machine.execCalRunEnd t lanes lats s
  | .calTimeout t => Sys2Proof.Machine.execCalTimeout t s
  | .snap t p v => Sys2Proof.Machine.execSnap t p v s
  | .snapComplete t => Sys2Proof.Machine.execSnapComplete t s
  | .apply t p v => Sys2Proof.Machine.execApply t p v s
  | .applyComplete t => Sys2Proof.Machine.execApplyComplete t s
  | .processingSlotOpen t => Sys2Proof.Machine.execProcessingSlotOpen t s
  | .territoryReady t n => Sys2Proof.Machine.execTerritoryReady t n s
  | .folioLineEnd t n => Sys2Proof.Machine.execFolioLineEnd t n s
  | .segmentationLineEnd t => Sys2Proof.Machine.execSegmentationLineEnd t s
  | .processingSlotEnd t => Sys2Proof.Machine.execProcessingSlotEnd t s
  | .rmpTableWrite t p v => Sys2Proof.Machine.execRmpTableWrite t p v s
  | .rmpTableRead t p => Sys2Proof.Machine.execRmpTableRead t p s
  | .rmpSeal t p v => Sys2Proof.Machine.execRmpSeal t p v s
  | .rmpDiscard t p v => Sys2Proof.Machine.execRmpDiscard t p v s
  | .remapBankChange t => Sys2Proof.Machine.execRemapBankChange t s
  | .seamHello t side data => Sys2Proof.Machine.execSeamHello t side data s
  | .xFrame t side f => Sys2Proof.Machine.execXFrame t side f s
  | .hFrame t side f => Sys2Proof.Machine.execHFrame t side f s
  | .sFrame t side f => Sys2Proof.Machine.execSFrame t side f s
  | .seamFrameDeadline t side kind j => Sys2Proof.Machine.execSeamFrameDeadline t side kind j s
  | .folioMemoryWrite t p a v => Sys2Proof.Machine.execFolioMemoryWrite t p a v s
  | .conv e d src slot str w hh stg arg => Sys2Proof.Machine.execConv e d src slot str w hh stg arg s
  | .box e d src slot str w hh stg arg => Sys2Proof.Machine.execBox e d src slot str w hh stg arg s
  | .rank e d src slot str w hh stg arg => Sys2Proof.Machine.execRank e d src slot str w hh stg arg s
  | .winMin e d src slot str w hh stg arg => Sys2Proof.Machine.execWinMin e d src slot str w hh stg arg s
  | .winMax e d src slot str w hh stg arg => Sys2Proof.Machine.execWinMax e d src slot str w hh stg arg s
  | .erode e d src slot str w hh stg arg => Sys2Proof.Machine.execErode e d src slot str w hh stg arg s
  | .dilate e d src slot str w hh stg arg => Sys2Proof.Machine.execDilate e d src slot str w hh stg arg s
  | .lvar e d src slot str w hh stg arg => Sys2Proof.Machine.execLvar e d src slot str w hh stg arg s
  | .srank e d src slot str w hh stg arg => Sys2Proof.Machine.execSrank e d src slot str w hh stg arg s
  | .winSmin e d src slot str w hh stg arg => Sys2Proof.Machine.execWinSmin e d src slot str w hh stg arg s
  | .winSmax e d src slot str w hh stg arg => Sys2Proof.Machine.execWinSmax e d src slot str w hh stg arg s
  | .sbox e d src slot str w hh stg arg => Sys2Proof.Machine.execSbox e d src slot str w hh stg arg s
  | .vAdd e d a b c bk mode => Sys2Proof.Machine.execVAdd e d a b c bk mode s
  | .vSub e d a b c bk mode => Sys2Proof.Machine.execVSub e d a b c bk mode s
  | .vMul e d a b c bk mode => Sys2Proof.Machine.execVMul e d a b c bk mode s
  | .vAbs e d a b c bk mode => Sys2Proof.Machine.execVAbs e d a b c bk mode s
  | .vMin e d a b c bk mode => Sys2Proof.Machine.execVMin e d a b c bk mode s
  | .vMax e d a b c bk mode => Sys2Proof.Machine.execVMax e d a b c bk mode s
  | .avg e d a b c bk mode => Sys2Proof.Machine.execAvg e d a b c bk mode s
  | .shr e d a b c bk mode => Sys2Proof.Machine.execShr e d a b c bk mode s
  | .sar e d a b c bk mode => Sys2Proof.Machine.execSar e d a b c bk mode s
  | .shl e d a b c bk mode => Sys2Proof.Machine.execShl e d a b c bk mode s
  | .vAnd e d a b c bk mode => Sys2Proof.Machine.execVAnd e d a b c bk mode s
  | .vOr e d a b c bk mode => Sys2Proof.Machine.execVOr e d a b c bk mode s
  | .vXor e d a b c bk mode => Sys2Proof.Machine.execVXor e d a b c bk mode s
  | .andn e d a b c bk mode => Sys2Proof.Machine.execAndn e d a b c bk mode s
  | .mov e d a b c bk mode => Sys2Proof.Machine.execMov e d a b c bk mode s
  | .cmpeq e d a b c bk mode => Sys2Proof.Machine.execCmpeq e d a b c bk mode s
  | .cmpne e d a b c bk mode => Sys2Proof.Machine.execCmpne e d a b c bk mode s
  | .cmplt e d a b c bk mode => Sys2Proof.Machine.execCmplt e d a b c bk mode s
  | .cmple e d a b c bk mode => Sys2Proof.Machine.execCmple e d a b c bk mode s
  | .cmpgt e d a b c bk mode => Sys2Proof.Machine.execCmpgt e d a b c bk mode s
  | .cmpge e d a b c bk mode => Sys2Proof.Machine.execCmpge e d a b c bk mode s
  | .vSel e d a b c bk mode => Sys2Proof.Machine.execVSel e d a b c bk mode s
  | .sadd e d a b c bk mode => Sys2Proof.Machine.execSadd e d a b c bk mode s
  | .ssub e d a b c bk mode => Sys2Proof.Machine.execSsub e d a b c bk mode s
  | .smul e d a b c bk mode => Sys2Proof.Machine.execSmul e d a b c bk mode s
  | .sdivu e d a b c bk mode => Sys2Proof.Machine.execSdivu e d a b c bk mode s
  | .sshr e d a b c bk mode => Sys2Proof.Machine.execSshr e d a b c bk mode s
  | .ssar e d a b c bk mode => Sys2Proof.Machine.execSsar e d a b c bk mode s
  | .sshl e d a b c bk mode => Sys2Proof.Machine.execSshl e d a b c bk mode s
  | .sand e d a b c bk mode => Sys2Proof.Machine.execSand e d a b c bk mode s
  | .sor e d a b c bk mode => Sys2Proof.Machine.execSor e d a b c bk mode s
  | .sxor e d a b c bk mode => Sys2Proof.Machine.execSxor e d a b c bk mode s
  | .smin e d a b c bk mode => Sys2Proof.Machine.execSmin e d a b c bk mode s
  | .smax e d a b c bk mode => Sys2Proof.Machine.execSmax e d a b c bk mode s
  | .smov e d a b c bk mode => Sys2Proof.Machine.execSmov e d a b c bk mode s
  | .smovi e d imm => Sys2Proof.Machine.execSmovi e d imm s
  | .sorhi e d imm => Sys2Proof.Machine.execSorhi e d imm s
  | .ssel e d a b c bk mode => Sys2Proof.Machine.execSsel e d a b c bk mode s
  | .scmpeq e d a b c bk mode => Sys2Proof.Machine.execScmpeq e d a b c bk mode s
  | .scmplt e d a b c bk mode => Sys2Proof.Machine.execScmplt e d a b c bk mode s
  | .sabs e d a b c bk mode => Sys2Proof.Machine.execSabs e d a b c bk mode s
  | .lut e d a base lg sh => Sys2Proof.Machine.execLut e d a base lg sh s
  | .luts e d a base lg sh => Sys2Proof.Machine.execLuts e d a base lg sh s
  | .luti e d a base lg sh => Sys2Proof.Machine.execLuti e d a base lg sh s
  | .lut2 e d a b base na nb => Sys2Proof.Machine.execLut2 e d a b base na nb s
  | .slut e d a base lg sh => Sys2Proof.Machine.execSlut e d a base lg sh s
  | .rrow e d a stg x => Sys2Proof.Machine.execRrow e d a stg x s
  | .pld e d a stg x => Sys2Proof.Machine.execPld e d a stg x s
  | .pst e d a stg x => Sys2Proof.Machine.execPst e d a stg x s
  | .omask e d a stg x => Sys2Proof.Machine.execOmask e d a stg x s
  | .oval e d a stg x => Sys2Proof.Machine.execOval e d a stg x s
  | .otap e d a stg x => Sys2Proof.Machine.execOtap e d a stg x s
  | .rsum e d a stg => Sys2Proof.Machine.execRsum e d a stg s
  | .rsums e d a stg => Sys2Proof.Machine.execRsums e d a stg s
  | .rsumsq e d a stg => Sys2Proof.Machine.execRsumsq e d a stg s
  | .rmin e d a stg => Sys2Proof.Machine.execRmin e d a stg s
  | .rmax e d a stg => Sys2Proof.Machine.execRmax e d a stg s
  | .rsmin e d a stg => Sys2Proof.Machine.execRsmin e d a stg s
  | .rsmax e d a stg => Sys2Proof.Machine.execRsmax e d a stg s
  | .rcnt e d a stg => Sys2Proof.Machine.execRcnt e d a stg s
  | .lcol e d a stg x => Sys2Proof.Machine.execLcol e d a stg x s
  | .vmov e d a stg x => Sys2Proof.Machine.execVmov e d a stg x s
  | .vbc e d a stg x => Sys2Proof.Machine.execVbc e d a stg x s
  | .ctx e d a stg x => Sys2Proof.Machine.execCtx e d a stg x s
  | .smovx e d a stg x => Sys2Proof.Machine.execSmovx e d a stg x s
  | .commit t p v => Sys2Proof.Machine.execCommit t p v s
  | .accessionComplete t => Sys2Proof.Machine.execAccessionComplete t s
  | .unseal t p v => Sys2Proof.Machine.execUnseal t p v s
  | .switchArm t p v => Sys2Proof.Machine.execSwitchArm t p v s
  | .switchCancel t p v => Sys2Proof.Machine.execSwitchCancel t p v s
  | .handOver t => Sys2Proof.Machine.execHandOver t s
  | .digest t side d0 d1 => Sys2Proof.Machine.execDigest t side d0 d1 s
  | .digestPeriod t => Sys2Proof.Machine.execDigestPeriod t s
  | .seamDigest t side => Sys2Proof.Machine.execSeamDigest t side s
  | .breach t => Sys2Proof.Machine.execBreach t s
  | .catTableWrite t p v => Sys2Proof.Machine.execCatTableWrite t p v s
  | .catTableRead t p => Sys2Proof.Machine.execCatTableRead t p s
  | .profSync t p v => Sys2Proof.Machine.execProfSync t p v s
  | .profsyncEdge t level => Sys2Proof.Machine.execProfsyncEdge t level s
  | .profsyncMessage t data => Sys2Proof.Machine.execProfsyncMessage t data s
  | .profileSyncApply t => Sys2Proof.Machine.execProfileSyncApply t s
  | .profTableWrite t p v => Sys2Proof.Machine.execProfTableWrite t p v s
  | .profTableRead t p => Sys2Proof.Machine.execProfTableRead t p s
  | .stacksRowCommit t => Sys2Proof.Machine.execStacksRowCommit t s
  | .cropRecordComplete t q => Sys2Proof.Machine.execCropRecordComplete t q s
  | .rpGo t p r v => Sys2Proof.Machine.execRpGo t p r v s
  | .rpAbort t p r v => Sys2Proof.Machine.execRpAbort t p r v s
  | .replayTick t r => Sys2Proof.Machine.execReplayTick t r s
  | .replayFetchDone t r => Sys2Proof.Machine.execReplayFetchDone t r s
  | .load t p c v => Sys2Proof.Machine.execLoad t p c v s
  | .dmaStop t p c v => Sys2Proof.Machine.execDmaStop t p c v s
  | .dmaAbort t p c v => Sys2Proof.Machine.execDmaAbort t p c v s
  | .copy t c => Sys2Proof.Machine.execCopy t c s
  | .gather t c => Sys2Proof.Machine.execGather t c s
  | .fill t c => Sys2Proof.Machine.execFill t c s
  | .compare t c => Sys2Proof.Machine.execCompare t c s
  | .bufferGrant t => Sys2Proof.Machine.execBufferGrant t s
  | .dmaDescriptorComplete t c => Sys2Proof.Machine.execDmaDescriptorComplete t c s
  | .dmaDisable t p v => Sys2Proof.Machine.execDmaDisable t p v s
  | .queueRoom t c => Sys2Proof.Machine.execQueueRoom t c s
  | .qRdataRead t p q => Sys2Proof.Machine.execQRdataRead t p q s
  | .qWdataWrite t p q v => Sys2Proof.Machine.execQWdataWrite t p q v s
  | .weop t p q v => Sys2Proof.Machine.execWeop t p q v s
  | .flush t p q v => Sys2Proof.Machine.execFlush t p q v s
  | .flushApply t q => Sys2Proof.Machine.execFlushApply t q s
  | .bookmark t p q v => Sys2Proof.Machine.execBookmark t p q v s
  | .rewind t p q v => Sys2Proof.Machine.execRewind t p q v s
  | .rewfree t p q v => Sys2Proof.Machine.execRewfree t p q v s
  | .rewindApply t q => Sys2Proof.Machine.execRewindApply t q s
  | .peakclr t p q v => Sys2Proof.Machine.execPeakclr t p q v s
  | .pqRelease t p q lo hi => Sys2Proof.Machine.execPqRelease t p q lo hi s
  | .subportLinkUp t ps => Sys2Proof.Machine.execSubportLinkUp t ps s
  | .subportLinkDown t ps hser => Sys2Proof.Machine.execSubportLinkDown t ps hser s
  | .arpRequest t ps f mac ip target => Sys2Proof.Machine.execArpRequest t ps f mac ip target s
  | .icmpEchoRequest t ps f mac src dst ident data => Sys2Proof.Machine.execIcmpEchoRequest t ps f mac src dst ident data s
  | .icmpv6EchoRequest t ps f mac src dst ident data => Sys2Proof.Machine.execIcmpv6EchoRequest t ps f mac src dst ident data s
  | .neighbourSolicitation t ps f mac src target => Sys2Proof.Machine.execNeighbourSolicitation t ps f mac src target s
  | .frameDiscard t ps f why => Sys2Proof.Machine.execFrameDiscard t ps f why s
  | .frameForward t port f => Sys2Proof.Machine.execFrameForward t port f s
  | .read t h fixed addr count => Sys2Proof.Machine.execRead t h fixed addr count s
  | .write t h fixed addr count words => Sys2Proof.Machine.execWrite t h fixed addr count words s
  | .modify t h addr mask value => Sys2Proof.Machine.execModify t h addr mask value s
  | .blkread t h addr len => Sys2Proof.Machine.execBlkread t h addr len s
  | .blkwrite t h addr len bytes => Sys2Proof.Machine.execBlkwrite t h addr len bytes s
  | .ohtCommit t h => Sys2Proof.Machine.execOhtCommit t h s
  | .ident t h => Sys2Proof.Machine.execIdent t h s
  | .requestHoldTimeout t n => Sys2Proof.Machine.execRequestHoldTimeout t n s
  | .blockTransferComplete t => Sys2Proof.Machine.execBlockTransferComplete t s
  | .cardReturn t h q key resend => Sys2Proof.Machine.execCardReturn t h q key resend s
  | .automaticRewind t q => Sys2Proof.Machine.execAutomaticRewind t q s
  | .returnLate t q => Sys2Proof.Machine.execReturnLate t q s
  | .portArbitration t ps => Sys2Proof.Machine.execPortArbitration t ps s
  | .timedLaunch t ps => Sys2Proof.Machine.execTimedLaunch t ps s
  | .timeSet t p v => Sys2Proof.Machine.execTimeSet t p v s
  | .timeStep t p v => Sys2Proof.Machine.execTimeStep t p v s
  | .sync t ps m => Sys2Proof.Machine.execSync t ps m s
  | .followUp t ps m => Sys2Proof.Machine.execFollowUp t ps m s
  | .delayReq t ps m => Sys2Proof.Machine.execDelayReq t ps m s
  | .delayResp t ps m => Sys2Proof.Machine.execDelayResp t ps m s
  | .pdelayReq t ps m => Sys2Proof.Machine.execPdelayReq t ps m s
  | .pdelayResp t ps m => Sys2Proof.Machine.execPdelayResp t ps m s
  | .pdelayRespFollowUp t ps m => Sys2Proof.Machine.execPdelayRespFollowUp t ps m s
  | .announce t ps m d => Sys2Proof.Machine.execAnnounce t ps m d s
  | .timeHoldover t => Sys2Proof.Machine.execTimeHoldover t s
  | .aorateUpdate t rate => Sys2Proof.Machine.execAorateUpdate t rate s
  | .secondBoundary t => Sys2Proof.Machine.execSecondBoundary t s
  | .seamTimeExchange t m => Sys2Proof.Machine.execSeamTimeExchange t m s
  | .tsync t m d0 d1 => Sys2Proof.Machine.execTsync t m d0 d1 s
  | .treq t m => Sys2Proof.Machine.execTreq t m s
  | .tresp t m d0 d1 => Sys2Proof.Machine.execTresp t m d0 d1 s
  | .trespTimeout t => Sys2Proof.Machine.execTrespTimeout t s
  | .refreshDue t k traffic => Sys2Proof.Machine.execRefreshDue t k traffic s
  | .forcedRefreshDone t k => Sys2Proof.Machine.execForcedRefreshDone t k s
  | .realtimeWriteRequest t traffic at_ len waits => Sys2Proof.Machine.execRealtimeWriteRequest t traffic at_ len waits s
  | .gddr6ReadReturn t traffic at_ fails bits => Sys2Proof.Machine.execGddr6ReadReturn t traffic at_ fails bits s
  | .trainingComplete t fails ws => Sys2Proof.Machine.execTrainingComplete t fails ws s
  | .memcRetrain t p v => Sys2Proof.Machine.execMemcRetrain t p v s
  | .frequencyRequest t p v => Sys2Proof.Machine.execFrequencyRequest t p v s
  | .selfRefreshEntry t => Sys2Proof.Machine.execSelfRefreshEntry t s
  | .evrFire t p high v => Sys2Proof.Machine.execEvrFire t p high v s
  | .evinEdge t k level => Sys2Proof.Machine.execEvinEdge t k level s
  | .spacingEnd t c => Sys2Proof.Machine.execSpacingEnd t c s
  | .evoutPulseEnd t k => Sys2Proof.Machine.execEvoutPulseEnd t k s
  | .twiWriteWord t v pec => Sys2Proof.Machine.execTwiWriteWord t v pec s
  | .twiReadWord t delivered => Sys2Proof.Machine.execTwiReadWord t delivered s
  | .twiReset t level => Sys2Proof.Machine.execTwiReset t level s
  | .inBandRequest t run => Sys2Proof.Machine.execInBandRequest t run s
  | .ibrClockTimeout t => Sys2Proof.Machine.execIbrClockTimeout t s
  | .errAck t p v => Sys2Proof.Machine.execErrAck t p v s
  | .restart t p v prep => Sys2Proof.Machine.execRestart t p v prep s
  | .inspectEntry t => Sys2Proof.Machine.execInspectEntry t s
  | .watchdog t core => Sys2Proof.Machine.execWatchdog t core s
  | .sramEccError t off corrected => Sys2Proof.Machine.execSramEccError t off corrected s
  | .fwFault t code halts => Sys2Proof.Machine.execFwFault t code halts s
  | .redEnable t p v => Sys2Proof.Machine.execRedEnable t p v s
  | .roleEdge t level => Sys2Proof.Machine.execRoleEdge t level s
  | .takeoverWindowEnd t => Sys2Proof.Machine.execTakeoverWindowEnd t s
  | .epochClose t => Sys2Proof.Machine.execEpochClose t s
  | .epoch t f report => Sys2Proof.Machine.execEpoch t f report s
  | .epack t data => Sys2Proof.Machine.execEpack t data s
  | .epcommit t data => Sys2Proof.Machine.execEpcommit t data s
  | .epochCommitDeadline t n => Sys2Proof.Machine.execEpochCommitDeadline t n s
  | .epochApply t => Sys2Proof.Machine.execEpochApply t s
  | .portrec t f => Sys2Proof.Machine.execPortrec t f s
  | .status t data => Sys2Proof.Machine.execStatus t data s
  | .statusPeriod t => Sys2Proof.Machine.execStatusPeriod t s
  | .syncedTimeout t => Sys2Proof.Machine.execSyncedTimeout t s
  | .twinHello t data => Sys2Proof.Machine.execTwinHello t data s
  | .join t p v => Sys2Proof.Machine.execJoin t p v s
  | .jointab t f => Sys2Proof.Machine.execJointab t f s
  | .joincq t f len => Sys2Proof.Machine.execJoincq t f len s
  | .joinstate t f digest => Sys2Proof.Machine.execJoinstate t f digest s
  | .swap t p v => Sys2Proof.Machine.execSwap t p v s
  | .swapLine t => Sys2Proof.Machine.execSwapLine t s
  | .pinmisTimeout t => Sys2Proof.Machine.execPinmisTimeout t s
  | .hbToggle t => Sys2Proof.Machine.execHbToggle t s
  | .coldStart t boot twAddr run => Sys2Proof.Machine.execColdStart t boot twAddr run s
  | .bootGo t p v digest signed_ run => Sys2Proof.Machine.execBootGo t p v digest signed_ run s
  | .hosttmo t => Sys2Proof.Machine.execHosttmo t s
  | .enFall t => Sys2Proof.Machine.execEnFall t s
  | .resetAssert t => Sys2Proof.Machine.execResetAssert t s
  | .powerFault t => Sys2Proof.Machine.execPowerFault t s
  | .vioFault t => Sys2Proof.Machine.execVioFault t s
  | .refclkLoss t pll => Sys2Proof.Machine.execRefclkLoss t pll s
  | .aoclkLoss t => Sys2Proof.Machine.execAoclkLoss t s
  | .aoclkRecovery t => Sys2Proof.Machine.execAoclkRecovery t s
  | .reqStandby t p v => Sys2Proof.Machine.execReqStandby t p v s
  | .reqPoised t p v run => Sys2Proof.Machine.execReqPoised t p v run s
  | .inspectionStop t => Sys2Proof.Machine.execInspectionStop t s
  | .reqInspect t p v prep => Sys2Proof.Machine.execReqInspect t p v prep s
  | .reqOff t p v => Sys2Proof.Machine.execReqOff t p v s
  | .clrfail t p v => Sys2Proof.Machine.execClrfail t p v s
  | .tempMeasure t tj vin power => Sys2Proof.Machine.execTempMeasure t tj vin power s
  | .prbsCheckerLock t m lane bits => Sys2Proof.Machine.execPrbsCheckerLock t m lane bits s
  | .unreservedRelayRead t => Sys2Proof.Machine.execUnreservedRelayRead t s
  | .ptpMessageInterval t which => Sys2Proof.Machine.execPtpMessageInterval t which s
  | .announceReceiptTimeout t => Sys2Proof.Machine.execAnnounceReceiptTimeout t s
  | .writeEdcReport t a source fails parity => Sys2Proof.Machine.execWriteEdcReport t a source fails parity s
  | .twiBusCondition t c lost => Sys2Proof.Machine.execTwiBusCondition t c lost s
  | .refclkReturn t => Sys2Proof.Machine.execRefclkReturn t s
  | .railWindowExit t rail => Sys2Proof.Machine.execRailWindowExit t rail s
  | .railWindowReturn t rail => Sys2Proof.Machine.execRailWindowReturn t rail s
  | .jtagTapClock t rising tms tdi => Sys2Proof.Machine.execJtagTapClock t rising tms tdi s

end Sys2Proof.Machine
end

