-- ==== Sys2Proof/Machine/Step.lean ====
section
/-! DEFINITION. One step of the block: the command at the front of the queue, or, with none waiting, what time alone brings. -/

namespace Sys2Proof.Machine

/-- One step: the command at the front acts on the state with the rest of the queue. On an empty queue the next item of the event router
arrives, and with none the block idles (log 33). -/
def step (s : State) : Host.Outcome State Fault Refusal :=
  match s.pending with
  | [] => .next s.idle
  | c :: rest => exec c { s with pending := rest }

/-- The state with the command that a word spells at the front of the queue; the same state where the word spells none. DESIGN CHOICE, log 14. -/
def State.withFetchWord (s : State) (nbits w : Nat) : State :=
  match decodeTableWord nbits w with
  | some c => { s with pending := c :: s.pending }
  | none => s

end Sys2Proof.Machine
end

