-- ==== Sys2Proof/WellFormed.lean ====
section
/-! DEFINITION. Which commands are well formed: their operands lie in the ranges the rules give them. -/

namespace Sys2Proof

/-- A path names one of the four OHT sessions, the two-wire port or firmware (R12, R379). -/
def Path.ok : Path → Bool
  | .oht i => decide (i < 4)
  | _ => true

/-- A register address is 24 bits (R5). -/
def addrOk (a : Nat) : Bool := decide (a < 2 ^ 24)


/-- Fields of an ALU word (R214). -/
def aluOk (a b c bk mode : Nat) : Bool := decide (a < 16 ∧ b < 16 ∧ c < 16 ∧ bk < 4 ∧ mode < 8)

/-- An engine and a destination register of a folio instruction. -/
def folioOk (e d : Nat) : Bool := decide (e < 16 ∧ d < 16)

/-- A received frame: a 48-bit destination, a 12-bit VID, a length of 16 bits. -/
def RxFrame.ok (f : RxFrame) : Bool :=
  decide (f.dst < 2 ^ 48) && decide (f.len < 2 ^ 16) && (match f.vid with
    | some v => decide (v < 4096)
    | none => true)

/-- A far end: 48-bit MAC address, an IP address of its kind, a 16-bit port. -/
def Peer.ok (x : Peer) : Bool := decide (x.mac < 2 ^ 48) && decide (x.ip < (if x.v6 then 2 ^ 128 else 2 ^ 32)) && decide (x.udp < 2 ^ 16)

/-- A host datagram: a port with a sub-port, and header fields in their widths (R377). -/
def OhtRx.ok (h : OhtRx) : Bool :=
  decide (h.port < 2 ∧ h.sub < 4) && h.frame.ok && h.sender.ok && decide (h.node < 2 ^ 16 ∧ h.seq < 2 ^ 32 ∧ h.flags < 2 ^ 8)

/-- A discarded frame; a request with an OP that is not used carries its header (R381). -/
def Discard.ok : Discard → Bool
  | .badOp h op opflags => h.ok && decide (op < 2 ^ 8 ∧ opflags < 2 ^ 8)
  | _ => true

/-- A PTP message: fields in their widths (R411, R412). -/
def PtpMsg.ok (m : PtpMsg) : Bool :=
  decide (m.domain < 2 ^ 8 ∧ m.seq < 2 ^ 16 ∧ m.sec < 2 ^ 48 ∧ m.ns < 10 ^ 9 ∧ m.src < 2 ^ 64 ∧ m.srcPort < 2 ^ 16 ∧ m.reqClock < 2 ^ 64)
    && decide (m.reqPort < 2 ^ 16 ∧ m.transport < 3 ∧ -2 ^ 63 ≤ m.corr ∧ m.corr < 2 ^ 63)

/-- What an Announce tells (R412, R419). -/
def PtpSet.ok (d : PtpSet) : Bool :=
  decide (d.prio1 < 2 ^ 8 ∧ d.cls < 2 ^ 8 ∧ d.accuracy < 2 ^ 8 ∧ d.variance < 2 ^ 16 ∧ d.prio2 < 2 ^ 8 ∧ d.gm < 2 ^ 64)
    && decide (d.steps < 2 ^ 16 ∧ d.utcOffset < 2 ^ 16)

/-- A bus condition: a byte of eight bits, a register address of 24. -/
def TwiCond.ok : TwiCond → Bool
  | .start _ b r => decide (b < 256) && (match r with
    | some a => decide (a < 2 ^ 24)
    | none => true)
  | .stop => true


/-- A happening in the GDDR6 controller: an address of the usable space, a source, a channel, 16 banks (R421, R438). -/
def MemOp.ok : MemOp → Bool
  | .request a source _ => decide (a < 0x3C0000000 ∧ source < 63)
  | .turn k blocked _ => decide (k < 8 ∧ blocked < 2 ^ 16)

/-- Is a command well formed: every operand in the range its rule gives it? -/
def wellFormed (i : Instr) : Bool :=
  match i with
  | .registerWrite _ p a _ => p.ok && addrOk a
  | .captureRead _ p a => p.ok && addrOk a
  | .counterClear _ p a _ => p.ok && addrOk a
  | .quadratureEdge _ k _ _ _ _ => decide (k < 4)
  | .trigPulseEnd _ k => decide (k < 16)
  | .indexEdge _ k _ => decide (k < 4)
  | .sposPoll _ k => decide (k = 4 ∨ k = 5)
  | .sposFrame _ k _ pos check => decide (k = 4 ∨ k = 5) && decide (pos < 2 ^ 48) && decide (check < 2 ^ 16)
  | .leadinTimeout _ k => decide (k = 4 ∨ k = 5)
  | .stall _ k => decide (k < 6)
  | .softLimitWrite _ p k _ _ _ => p.ok && decide (k < 6)
  | .home _ p k _ => p.ok && decide (k < 6)
  | .triggerEnable _ p _ => p.ok
  | .arm _ p k _ => p.ok && decide (k < 16)
  | .linePacket _ n rx => decide (n < 12) && decide (rx.before.length ≤ 4) && rx.rows.all fun r => decide (r.length ≤ 4) && r.all fun b => decide (b.1 < 4)
  | .arrivalWindowClose _ n tseq => decide (n < 12) && decide (tseq < 65536)
  | .clockRecovered _ m => decide (m < 15)
  | .signalLoss _ lost => decide (lost.link < 15) && decide (0 < lost.lanes ∧ lost.lanes < 16)
  | .blockLockGained _ m lane _ => decide (m < 15) && decide (lane < 4)
  | .blockLockLost _ m lane _ => decide (m < 15) && decide (lane < 4)
  | .alignmentMarker _ m ams _ => decide (m < 15) && decide (ams.length ≤ 4) && ams.all fun a => decide (a.head < 4)
  | .upstreamAmRow _ m => decide (m < 15)
  | .hello _ n _ => decide (n < 12)
  | .configAck _ n _ => decide (n < 12)
  | .echoReply _ m e => decide (m < 15) && (e.reply || decide (12 ≤ m))
  | .handshakeTimeout _ m => decide (m < 15)
  | .triesReset _ m => decide (m < 15)
  | .retrain _ p m _ => p.ok && decide (m < 15)
  | .cregGo _ p n _ => p.ok && decide (n < 12)
  | .rsp _ n tag status _ => decide (n < 12) && decide (tag < 64) && decide (status < 4)
  | .cregTimeout _ n => decide (n < 12)
  | .corrTableWrite _ p n _ => p.ok && decide (n < 12)
  | .corrTableRead _ p n => p.ok && decide (n < 12)
  | .corrSeal _ p n _ => p.ok && decide (n < 12)
  | .calSeal _ p _ => p.ok
  | .corrDiscard _ p n _ => p.ok && decide (n < 12)
  | .corrBankChange _ n => decide (n < 12)
  | .bankCopyDone _ n => decide (n < 13)
  | .calDark _ p _ => p.ok
  | .calFlat _ p _ => p.ok
  | .calBadpix _ p _ => p.ok
  | .calLinkeq _ p _ => p.ok
  | .calDeskew _ p _ => p.ok
  | .calTrigdly _ p _ => p.ok
  | .calAbort _ p _ => p.ok
  | .calRunEnd _ lanes lats => decide (lanes.length ≤ 4) && lats.all (fun l => decide (l.1 < 16))
  | .calTimeout _ => true
  | .snap _ p _ => p.ok
  | .snapComplete _ => true
  | .apply _ p _ => p.ok
  | .applyComplete _ => true
  | .processingSlotOpen _ => true
  | .territoryReady _ n => decide (n < 12)
  | .folioLineEnd _ n => decide (n < 16)
  | .segmentationLineEnd _ => true
  | .processingSlotEnd _ => true
  | .rmpTableWrite _ p _ => p.ok
  | .rmpTableRead _ p => p.ok
  | .rmpSeal _ p _ => p.ok
  | .rmpDiscard _ p _ => p.ok
  | .remapBankChange _ => true
  | .seamHello _ side _ => decide (side = 12 ∨ side = 13)
  | .xFrame _ side _ => decide (side = 12 ∨ side = 13)
  | .hFrame _ side _ => decide (side = 12 ∨ side = 13)
  | .sFrame _ side f => decide (side = 12 ∨ side = 13) && decide (f.chunk < 16)
  | .seamFrameDeadline _ side kind _ => decide (side = 12 ∨ side = 13) && decide (kind < 3)
  | .folioMemoryWrite _ p a _ => p.ok && decide (0x400000 ≤ a ∧ a < 0x800000)
  | .conv e d src slot str w hh stg arg => folioOk e d && decide (src < 4 ∧ slot < 16 ∧ str < 2 ∧ w < 8 ∧ hh < 8 ∧ stg < 4 ∧ arg < 512)
  | .box e d src slot str w hh stg arg => folioOk e d && decide (src < 4 ∧ slot < 16 ∧ str < 2 ∧ w < 8 ∧ hh < 8 ∧ stg < 4 ∧ arg < 512)
  | .rank e d src slot str w hh stg arg => folioOk e d && decide (src < 4 ∧ slot < 16 ∧ str < 2 ∧ w < 8 ∧ hh < 8 ∧ stg < 4 ∧ arg < 512)
  | .winMin e d src slot str w hh stg arg => folioOk e d && decide (src < 4 ∧ slot < 16 ∧ str < 2 ∧ w < 8 ∧ hh < 8 ∧ stg < 4 ∧ arg < 512)
  | .winMax e d src slot str w hh stg arg => folioOk e d && decide (src < 4 ∧ slot < 16 ∧ str < 2 ∧ w < 8 ∧ hh < 8 ∧ stg < 4 ∧ arg < 512)
  | .erode e d src slot str w hh stg arg => folioOk e d && decide (src < 4 ∧ slot < 16 ∧ str < 2 ∧ w < 8 ∧ hh < 8 ∧ stg < 4 ∧ arg < 512)
  | .dilate e d src slot str w hh stg arg => folioOk e d && decide (src < 4 ∧ slot < 16 ∧ str < 2 ∧ w < 8 ∧ hh < 8 ∧ stg < 4 ∧ arg < 512)
  | .lvar e d src slot str w hh stg arg => folioOk e d && decide (src < 4 ∧ slot < 16 ∧ str < 2 ∧ w < 8 ∧ hh < 8 ∧ stg < 4 ∧ arg < 512)
  | .srank e d src slot str w hh stg arg => folioOk e d && decide (src < 4 ∧ slot < 16 ∧ str < 2 ∧ w < 8 ∧ hh < 8 ∧ stg < 4 ∧ arg < 512)
  | .winSmin e d src slot str w hh stg arg => folioOk e d && decide (src < 4 ∧ slot < 16 ∧ str < 2 ∧ w < 8 ∧ hh < 8 ∧ stg < 4 ∧ arg < 512)
  | .winSmax e d src slot str w hh stg arg => folioOk e d && decide (src < 4 ∧ slot < 16 ∧ str < 2 ∧ w < 8 ∧ hh < 8 ∧ stg < 4 ∧ arg < 512)
  | .sbox e d src slot str w hh stg arg => folioOk e d && decide (src < 4 ∧ slot < 16 ∧ str < 2 ∧ w < 8 ∧ hh < 8 ∧ stg < 4 ∧ arg < 512)
  | .vAdd e d a b c bk mode => folioOk e d && aluOk a b c bk mode
  | .vSub e d a b c bk mode => folioOk e d && aluOk a b c bk mode
  | .vMul e d a b c bk mode => folioOk e d && aluOk a b c bk mode
  | .vAbs e d a b c bk mode => folioOk e d && aluOk a b c bk mode
  | .vMin e d a b c bk mode => folioOk e d && aluOk a b c bk mode
  | .vMax e d a b c bk mode => folioOk e d && aluOk a b c bk mode
  | .avg e d a b c bk mode => folioOk e d && aluOk a b c bk mode
  | .shr e d a b c bk mode => folioOk e d && aluOk a b c bk mode
  | .sar e d a b c bk mode => folioOk e d && aluOk a b c bk mode
  | .shl e d a b c bk mode => folioOk e d && aluOk a b c bk mode
  | .vAnd e d a b c bk mode => folioOk e d && aluOk a b c bk mode
  | .vOr e d a b c bk mode => folioOk e d && aluOk a b c bk mode
  | .vXor e d a b c bk mode => folioOk e d && aluOk a b c bk mode
  | .andn e d a b c bk mode => folioOk e d && aluOk a b c bk mode
  | .mov e d a b c bk mode => folioOk e d && aluOk a b c bk mode
  | .cmpeq e d a b c bk mode => folioOk e d && aluOk a b c bk mode
  | .cmpne e d a b c bk mode => folioOk e d && aluOk a b c bk mode
  | .cmplt e d a b c bk mode => folioOk e d && aluOk a b c bk mode
  | .cmple e d a b c bk mode => folioOk e d && aluOk a b c bk mode
  | .cmpgt e d a b c bk mode => folioOk e d && aluOk a b c bk mode
  | .cmpge e d a b c bk mode => folioOk e d && aluOk a b c bk mode
  | .vSel e d a b c bk mode => folioOk e d && aluOk a b c bk mode
  | .sadd e d a b c bk mode => folioOk e d && aluOk a b c bk mode
  | .ssub e d a b c bk mode => folioOk e d && aluOk a b c bk mode
  | .smul e d a b c bk mode => folioOk e d && aluOk a b c bk mode
  | .sdivu e d a b c bk mode => folioOk e d && aluOk a b c bk mode
  | .sshr e d a b c bk mode => folioOk e d && aluOk a b c bk mode
  | .ssar e d a b c bk mode => folioOk e d && aluOk a b c bk mode
  | .sshl e d a b c bk mode => folioOk e d && aluOk a b c bk mode
  | .sand e d a b c bk mode => folioOk e d && aluOk a b c bk mode
  | .sor e d a b c bk mode => folioOk e d && aluOk a b c bk mode
  | .sxor e d a b c bk mode => folioOk e d && aluOk a b c bk mode
  | .smin e d a b c bk mode => folioOk e d && aluOk a b c bk mode
  | .smax e d a b c bk mode => folioOk e d && aluOk a b c bk mode
  | .smov e d a b c bk mode => folioOk e d && aluOk a b c bk mode
  | .smovi e d imm => folioOk e d && decide (imm < 2 ^ 22)
  | .sorhi e d imm => folioOk e d && decide (imm < 2 ^ 22)
  | .ssel e d a b c bk mode => folioOk e d && aluOk a b c bk mode
  | .scmpeq e d a b c bk mode => folioOk e d && aluOk a b c bk mode
  | .scmplt e d a b c bk mode => folioOk e d && aluOk a b c bk mode
  | .sabs e d a b c bk mode => folioOk e d && aluOk a b c bk mode
  | .lut e d a base lg sh => folioOk e d && decide (a < 16 ∧ base < 512 ∧ lg < 16 ∧ sh < 16)
  | .luts e d a base lg sh => folioOk e d && decide (a < 16 ∧ base < 512 ∧ lg < 16 ∧ sh < 16)
  | .luti e d a base lg sh => folioOk e d && decide (a < 16 ∧ base < 512 ∧ lg < 16 ∧ sh < 16)
  | .lut2 e d a b base na nb => folioOk e d && decide (a < 16 ∧ b < 16 ∧ base < 512 ∧ 1 ≤ na ∧ na ≤ 8 ∧ 1 ≤ nb ∧ nb ≤ 8)
  | .slut e d a base lg sh => folioOk e d && decide (a < 16 ∧ base < 512 ∧ lg < 16 ∧ sh < 16)
  | .rrow e d a stg x => folioOk e d && decide (a < 16 ∧ stg < 4 ∧ x < 2 ^ 17)
  | .pld e d a stg x => folioOk e d && decide (a < 16 ∧ stg < 4 ∧ x < 2 ^ 17)
  | .pst e d a stg x => folioOk e d && decide (a < 16 ∧ stg < 4 ∧ x < 2 ^ 17)
  | .omask e d a stg x => folioOk e d && decide (a < 16 ∧ stg < 4 ∧ x < 2 ^ 17)
  | .oval e d a stg x => folioOk e d && decide (a < 16 ∧ stg < 4 ∧ x < 2 ^ 17)
  | .otap e d a stg x => folioOk e d && decide (a < 16 ∧ stg < 4 ∧ x < 2 ^ 17)
  | .rsum e d a stg => folioOk e d && decide (a < 16 ∧ stg < 4)
  | .rsums e d a stg => folioOk e d && decide (a < 16 ∧ stg < 4)
  | .rsumsq e d a stg => folioOk e d && decide (a < 16 ∧ stg < 4)
  | .rmin e d a stg => folioOk e d && decide (a < 16 ∧ stg < 4)
  | .rmax e d a stg => folioOk e d && decide (a < 16 ∧ stg < 4)
  | .rsmin e d a stg => folioOk e d && decide (a < 16 ∧ stg < 4)
  | .rsmax e d a stg => folioOk e d && decide (a < 16 ∧ stg < 4)
  | .rcnt e d a stg => folioOk e d && decide (a < 16 ∧ stg < 4)
  | .lcol e d a stg x => folioOk e d && decide (a < 16 ∧ stg < 4 ∧ x < 2 ^ 17)
  | .vmov e d a stg x => folioOk e d && decide (a < 16 ∧ stg < 4 ∧ x < 2 ^ 17)
  | .vbc e d a stg x => folioOk e d && decide (a < 16 ∧ stg < 4 ∧ x < 2 ^ 17)
  | .ctx e d a stg x => folioOk e d && decide (a < 16 ∧ stg < 4 ∧ x < 2 ^ 17)
  | .smovx e d a stg x => folioOk e d && decide (a < 16 ∧ stg < 4 ∧ x < 2 ^ 17)
  | .commit _ p _ => p.ok
  | .accessionComplete _ => true
  | .unseal _ p _ => p.ok
  | .switchArm _ p _ => p.ok
  | .switchCancel _ p _ => p.ok
  | .handOver _ => true
  | .digest _ side _ _ => decide (side = 12 ∨ side = 13)
  | .digestPeriod _ => true
  | .seamDigest _ side => decide (side = 12 ∨ side = 13)
  | .breach _ => true
  | .catTableWrite _ p _ => p.ok
  | .catTableRead _ p => p.ok
  | .profSync _ p _ => p.ok
  | .profsyncEdge _ _ => true
  | .profsyncMessage _ _ => true
  | .profileSyncApply _ => true
  | .profTableWrite _ p _ => p.ok
  | .profTableRead _ p => p.ok
  | .stacksRowCommit _ => true
  | .cropRecordComplete _ q => decide (q < 4)
  | .rpGo _ p r _ => p.ok && decide (r < 4)
  | .rpAbort _ p r _ => p.ok && decide (r < 4)
  | .replayTick _ r => decide (r < 4)
  | .replayFetchDone _ r => decide (r < 4)
  | .load _ p c _ => p.ok && decide (c < 32)
  | .dmaStop _ p c _ => p.ok && decide (c < 32)
  | .dmaAbort _ p c _ => p.ok && decide (c < 32)
  | .copy _ c => decide (c < 28)
  | .gather _ c => decide (c < 28)
  | .fill _ c => decide (c < 28)
  | .compare _ c => decide (c < 28)
  | .bufferGrant _ => true
  | .dmaDescriptorComplete _ c => decide (c < 28)
  | .dmaDisable _ p _ => p.ok
  | .queueRoom _ c => decide (c < 28)
  | .qRdataRead _ p q => p.ok && decide (q < 64)
  | .qWdataWrite _ p q _ => p.ok && decide (q < 64)
  | .weop _ p q _ => p.ok && decide (q < 64)
  | .flush _ p q _ => p.ok && decide (q < 64)
  | .flushApply _ q => decide (q < 64)
  | .bookmark _ p q _ => p.ok && decide (q < 64)
  | .rewind _ p q _ => p.ok && decide (q < 64)
  | .rewfree _ p q _ => p.ok && decide (q < 64)
  | .rewindApply _ q => decide (q < 64)
  | .peakclr _ p q _ => p.ok && decide (q < 64)
  | .pqRelease _ p q _ _ => p.ok && decide (59 ≤ q ∧ q < 64)
  | .subportLinkUp _ ps => decide (ps < 8)
  | .subportLinkDown _ ps _ => decide (ps < 8)
  | .arpRequest _ ps f mac ip target => decide (ps < 8) && f.ok && decide (mac < 2 ^ 48 ∧ ip < 2 ^ 32 ∧ target < 2 ^ 32)
  | .icmpEchoRequest _ ps f mac src dst ident _ => decide (ps < 8) && f.ok && decide (mac < 2 ^ 48 ∧ src < 2 ^ 32 ∧ dst < 2 ^ 32 ∧ ident < 2 ^ 32)
  | .icmpv6EchoRequest _ ps f mac src dst ident _ => decide (ps < 8) && f.ok && decide (mac < 2 ^ 48 ∧ src < 2 ^ 128 ∧ dst < 2 ^ 128 ∧ ident < 2 ^ 32)
  | .neighbourSolicitation _ ps f mac src target => decide (ps < 8) && f.ok && decide (mac < 2 ^ 48 ∧ src < 2 ^ 128 ∧ target < 2 ^ 128)
  | .frameDiscard _ ps f why => decide (ps < 8) && f.ok && why.ok
  | .frameForward _ port f => decide (port < 2) && decide (f.dst < 2 ^ 48)
  | .read _ h _ addr count => h.ok && decide (addr < 2 ^ 32 ∧ count < 2 ^ 32)
  | .write _ h _ addr count _ => h.ok && decide (addr < 2 ^ 32 ∧ count < 2 ^ 32)
  | .modify _ h addr _ _ => h.ok && decide (addr < 2 ^ 32)
  | .blkread _ h addr len => h.ok && decide (addr < 2 ^ 40 ∧ len < 2 ^ 32)
  | .blkwrite _ h addr len _ => h.ok && decide (addr < 2 ^ 40 ∧ len < 2 ^ 32)
  | .ohtCommit _ h => h.ok
  | .ident _ h => h.ok
  | .requestHoldTimeout _ i => decide (i < 4)
  | .blockTransferComplete _ => true
  | .cardReturn _ h q key _ => h.ok && decide (q < 4 ∧ key < 2 ^ 48)
  | .automaticRewind _ q => decide (q < 4)
  | .returnLate _ q => decide (q < 4)
  | .portArbitration _ ps => decide (ps < 8)
  | .timedLaunch _ ps => decide (ps < 8)
  | .timeSet _ p _ => p.ok
  | .timeStep _ p _ => p.ok
  | .sync _ ps m => decide (ps < 8) && m.ok
  | .followUp _ ps m => decide (ps < 8) && m.ok
  | .delayReq _ ps m => decide (ps < 8) && m.ok
  | .delayResp _ ps m => decide (ps < 8) && m.ok
  | .pdelayReq _ ps m => decide (ps < 8) && m.ok
  | .pdelayResp _ ps m => decide (ps < 8) && m.ok
  | .pdelayRespFollowUp _ ps m => decide (ps < 8) && m.ok
  | .announce _ ps m d => decide (ps < 8) && m.ok && d.ok
  | .timeHoldover _ => true
  | .aorateUpdate _ _ => true
  | .secondBoundary _ => true
  | .seamTimeExchange _ m => decide (m = 13 ∨ m = 14)
  | .tsync _ m _ _ => decide (12 ≤ m ∧ m < 15)
  | .treq _ m => decide (12 ≤ m ∧ m < 15)
  | .tresp _ m _ _ => decide (12 ≤ m ∧ m < 15)
  | .trespTimeout _ => true
  | .refreshDue _ k traffic => decide (k < 8) && traffic.all MemOp.ok
  | .forcedRefreshDone _ k => decide (k < 8)
  | .realtimeWriteRequest _ traffic at_ _ _ => traffic.all MemOp.ok && decide (at_.a < 0x3C0000000) && decide (at_.source < 20)
  | .gddr6ReadReturn _ traffic at_ fails bits => traffic.all MemOp.ok && decide (at_.a < 0x3C0000000)
      && decide (at_.source < 63 ∧ fails ≤ 9 ∧ bits < 4)
  | .trainingComplete _ fails _ => decide (fails < 256)
  | .memcRetrain _ p _ => p.ok
  | .frequencyRequest _ p _ => p.ok
  | .selfRefreshEntry _ => true
  | .evrFire _ p _ _ => p.ok
  | .evinEdge _ k _ => decide (k < 8)
  | .spacingEnd _ c => decide (c < 64)
  | .evoutPulseEnd _ k => decide (k < 8)
  | .twiWriteWord _ _ pec => decide (pec < 256)
  | .twiReadWord _ _ => true
  | .twiReset _ _ => true
  | .inBandRequest _ _ => true
  | .ibrClockTimeout _ => true
  | .errAck _ p _ => p.ok
  | .restart _ p _ _ => p.ok
  | .inspectEntry _ => true
  | .watchdog _ core => decide (core < 4)
  | .sramEccError _ off _ => decide (off < 0x3000000)
  | .fwFault _ _ _ => true
  | .redEnable _ p _ => p.ok
  | .roleEdge _ _ => true
  | .takeoverWindowEnd _ => true
  | .epochClose _ => true
  | .epoch _ _ _ => true
  | .epack _ _ => true
  | .epcommit _ _ => true
  | .epochCommitDeadline _ _ => true
  | .epochApply _ => true
  | .portrec _ _ => true
  | .status _ _ => true
  | .statusPeriod _ => true
  | .syncedTimeout _ => true
  | .twinHello _ _ => true
  | .join _ p _ => p.ok
  | .jointab _ _ => true
  | .joincq _ _ _ => true
  | .joinstate _ _ digest => decide (digest < 2 ^ 32)
  | .swap _ p _ => p.ok
  | .swapLine _ => true
  | .pinmisTimeout _ => true
  | .hbToggle _ => true
  | .coldStart _ boot twAddr _ => decide (boot < 4 ∧ twAddr < 8)
  | .bootGo _ p _ digest _ _ => p.ok && decide (digest.length = 12)
  | .hosttmo _ => true
  | .enFall _ => true
  | .resetAssert _ => true
  | .powerFault _ => true
  | .vioFault _ => true
  | .refclkLoss _ _ => true
  | .aoclkLoss _ => true
  | .aoclkRecovery _ => true
  | .reqStandby _ p _ => p.ok
  | .reqPoised _ p _ _ => p.ok
  | .inspectionStop _ => true
  | .reqInspect _ p _ _ => p.ok
  | .reqOff _ p _ => p.ok
  | .clrfail _ p _ => p.ok
  | .tempMeasure _ _ vin power => decide (vin < 65536 ∧ power < 65536)
  | .prbsCheckerLock _ m lane _ => decide (m < 15) && decide (lane < 4)
  | .unreservedRelayRead _ => true
  | .ptpMessageInterval _ which => decide (which < 3)
  | .announceReceiptTimeout _ => true
  | .writeEdcReport _ a source fails _ => decide (a < 0x3C0000000) && decide (source < 63 ∧ fails ≤ 9)
  | .twiBusCondition _ c _ => c.ok
  | .refclkReturn _ => true
  | .railWindowExit _ rail => decide (rail < 7)
  | .railWindowReturn _ rail => decide (rail < 7)
  | .jtagTapClock _ _ _ _ => true

end Sys2Proof
end

