-- ==== Sys2Proof/Safety.lean ====
section
/-! DEFINITION. The terms that statements use: what counts as a safe run, a state whose tables are in their canonical form, and what a
command leaves as it was. -/

namespace Sys2Proof.Machine

/-- The canonical form of a byte table: addresses strictly rising, and no entry equal to what an unlisted address reads as. -/
abbrev Memory.wf (m : Store Byte) : Prop := Store.Wf (fun _ => (0 : Byte)) m

/-- The tables that hold memory and registers are in their canonical form, so that equal contents are equal data. -/
def State.Canonical (s : State) : Prop := Memory.wf s.ram ∧ Memory.wf s.sram ∧ Store.Wf resetWord s.regs

/-- HB runs exactly while its condition holds (R504): RED_STATUS.HBRUN shows it. -/
def State.HbRule (s : State) : Prop := s.flag Reg.RED_STATUS Fld.RED_STATUS_HBRUN = s.hbCondition

/-- A step answers a next state: neither a fault nor a refusal. -/
def State.Runs (s : State) : Prop := ∃ t, step s = .next t

/-! ### Frames -/

/-- The parts of the state, one for each field but `raised`, the bookkeeping of R10 (see `State.Keeps`). -/
inductive Part where
  | pending | now | mode | regs | shadow | captured | held | pins | outPins | out | fresh | evrQ | evr | err | t40 | notices | pos | trgCam | trg | slots | ports | runsWaiting | links | sram | ram | corr | calRun | imgOp | joinActive | handshakes | training | trainPending | stitch | folio | queues | seg | card | cropReqs | prof | stk | dma | acc | time_ | memc | host | red | pwr | twi | jtag
  deriving DecidableEq, Repr

/-- Do two states agree on a part? -/
def State.agree (u v : State) : Part → Prop
  | .pending => v.pending = u.pending
  | .now => v.now = u.now
  | .mode => v.mode = u.mode
  | .regs => v.regs = u.regs
  | .shadow => v.shadow = u.shadow
  | .captured => v.captured = u.captured
  | .held => v.held = u.held
  | .pins => v.pins = u.pins
  | .outPins => v.outPins = u.outPins
  | .out => v.out = u.out
  | .fresh => v.fresh = u.fresh
  | .evrQ => v.evrQ = u.evrQ
  | .evr => v.evr = u.evr
  | .err => v.err = u.err
  | .t40 => v.t40 = u.t40
  | .notices => v.notices = u.notices
  | .pos => v.pos = u.pos
  | .trgCam => v.trgCam = u.trgCam
  | .trg => v.trg = u.trg
  | .slots => v.slots = u.slots
  | .ports => v.ports = u.ports
  | .runsWaiting => v.runsWaiting = u.runsWaiting
  | .links => v.links = u.links
  | .sram => v.sram = u.sram
  | .ram => v.ram = u.ram
  | .corr => v.corr = u.corr
  | .calRun => v.calRun = u.calRun
  | .imgOp => v.imgOp = u.imgOp
  | .joinActive => v.joinActive = u.joinActive
  | .handshakes => v.handshakes = u.handshakes
  | .training => v.training = u.training
  | .trainPending => v.trainPending = u.trainPending
  | .stitch => v.stitch = u.stitch
  | .folio => v.folio = u.folio
  | .queues => v.queues = u.queues
  | .seg => v.seg = u.seg
  | .card => v.card = u.card
  | .cropReqs => v.cropReqs = u.cropReqs
  | .prof => v.prof = u.prof
  | .stk => v.stk = u.stk
  | .dma => v.dma = u.dma
  | .acc => v.acc = u.acc
  | .time_ => v.time = u.time
  | .memc => v.memc = u.memc
  | .host => v.host = u.host
  | .red => v.red = u.red
  | .pwr => v.pwr = u.pwr
  | .twi => v.twi = u.twi
  | .jtag => v.jtag = u.jtag

/-- `v` keeps everything of `u` but some parts, and of the registers all but those that `r` names: every other register, memory byte,
queue, counter, latch and pin is as it was. `raised`, which bits hardware has set at this moment (R10), is no part: every event of a
register named in `r` enters it, and nothing but a write at the same moment reads it. -/
def State.Keeps (u : State) (parts : List Part) (r : Nat → Bool) (v : State) : Prop :=
  (∀ p, p ≠ .regs → p ∉ parts → u.agree v p) ∧ ∀ a, r a = false → v.reg a = u.reg a

/-- No register. -/
def noReg (_ : Nat) : Bool := false

/-- Every register. -/
abbrev anyReg (_ : Nat) : Bool := true

/-- The registers of a list. -/
def theRegs (l : List Nat) (a : Nat) : Bool := l.contains a

/-- The registers of the 64 KiB window at a base (R31). -/
def blockRegs (base a : Nat) : Bool := decide (base ≤ a ∧ a < base + 0x10000)

/-- The registers that the error ledger and its attention bits use: the ERR block, OHT_ATTN and TWI_ATTN. -/
def ledgerReg (a : Nat) : Bool := decide (0x20000 ≤ a ∧ a < 0x30000) || a == Reg.OHT_ATTN || a == Reg.TWI_ATTN

/-- The parts that recording a ledger entry uses. -/
def ledgerParts : List Part := [.err, .notices, .evrQ]

/-- Everything the module held is lost, and its outputs are released (R516): what stays is its pins, its time and what it has sent. -/
def State.allLost (u v : State) : Prop :=
  v.regs = [] ∧ v.shadow = [] ∧ v.captured = [] ∧ v.held = [] ∧ v.ram = [] ∧ v.sram = [] ∧ v.queues = [] ∧ v.slots = [] ∧ v.evrQ = [] ∧
    v.links = [] ∧ v.folio = [] ∧ v.training = [] ∧ v.err = State.reset.err ∧ v.outPins = State.reset.outPins ∧ v.t40 = 0 ∧
    v.out = .released :: u.out ∧ v.now = u.now ∧ v.pending = u.pending

/-! ### Accesses -/

/-- Is a write answered, not rejected, and neither turned away nor gathered by a paired member (R6, R492, R497)? -/
def State.performs (s : State) (a : Nat) (w : Word) : Bool :=
  decide (a % 4 = 0) && s.answersWrite a w && !badPort a && !(isCopied a && (s.rejectsCopied || s.gathers))

/-- Blocks in which a write to a field starts nothing beside setting it, but for PWR_CTRL and CAT_TDATA. -/
def plainBlock : Blk → Bool
  | .pwr | .twi | .seg | .card | .oht | .folio => true
  | _ => false

/-- Does a read of the address step a table or take a unit of a queue? -/
def stepsOnRead (a : Nat) : Bool :=
  (queuePort a 0x30).isSome || (corrPort a).isSome || decide (a = Reg.RMP_TDATA ∨ a = Reg.CAT_TDATA ∨ a = Reg.PROF_TDATA)

/-! ### Folio instructions -/

/-- Is an engine of `v` as it was in `u` but for its vector and scalar registers, its plane slots and its outputs? -/
def State.engineFixed (u : State) (e : Nat) (v : State) : Prop :=
  { v.engine e with v := [], sc := [], planes := [], outs := [] } = { u.engine e with v := [], sc := [], planes := [], outs := [] } ∧
    (∀ f, f ≠ e → v.engine f = u.engine f)

/-- `v` is `u` with the lanes of vector register `d` of engine `e` at the low 16 bits of `f`, and nothing else changed. -/
def State.VecResult (u : State) (e d : Nat) (f : Nat → Nat) (v : State) : Prop :=
  (∀ l, l < 32 → v.vreg e d l = f l % 65536) ∧ (∀ r l, l < 32 → r ≠ d → v.vreg e r l = u.vreg e r l) ∧
    (v.engine e).sc = (u.engine e).sc ∧ (v.engine e).planes = (u.engine e).planes ∧ (v.engine e).outs = (u.engine e).outs ∧
    u.engineFixed e v ∧ u.Keeps [.folio] noReg v

/-- `v` is `u` with scalar register `d` of engine `e` at the low 32 bits of `n`, and nothing else changed. -/
def State.ScalResult (u : State) (e d n : Nat) (v : State) : Prop :=
  v.sreg e d = n % 2 ^ 32 ∧ (∀ r, r ≠ d → v.sreg e r = u.sreg e r) ∧
    (v.engine e).v = (u.engine e).v ∧ (v.engine e).planes = (u.engine e).planes ∧ (v.engine e).outs = (u.engine e).outs ∧
    u.engineFixed e v ∧ u.Keeps [.folio] noReg v

/-- The value of an output of an engine at a sweep column. -/
def State.folioOut (s : State) (e out x : Nat) : Nat := Store.get (fun _ => 0) (out * 2 ^ 16 + x) (s.engine e).outs

/-- `v` is `u` with output `out` of engine `e` at `f` in the lanes of the sweep at stage `k`, and nothing else changed. -/
def State.OutResult (u : State) (e k out : Nat) (f : Nat → Nat) (v : State) : Prop :=
  (∀ l, l < 32 → u.laneReal e k l = true → v.folioOut e out (u.laneCol e k l).toNat = f l) ∧
    (∀ o x, (o ≠ out ∨ ∀ l, l < 32 → u.laneReal e k l = true → (u.laneCol e k l).toNat ≠ x) → o < 6 → x < 2 ^ 16 → v.folioOut e o x = u.folioOut e o x) ∧
    (v.engine e).v = (u.engine e).v ∧ (v.engine e).sc = (u.engine e).sc ∧ (v.engine e).planes = (u.engine e).planes ∧
    u.engineFixed e v ∧ u.Keeps [.folio] noReg v

end Sys2Proof.Machine
end

