-- ==== Sys2Proof/Certificates/Slice0/Obligations.lean ====
section
/-! DEFINITION. The statements for the provers, from the spec's numbered rules. In each, `u` is the state once the command's time has come
(`s.advanceTo t`) and `v` what the command makes of it, before what follows every command (`State.settle`). -/

open Sys2Proof Sys2Proof.Machine

/-! ### The machine -/

/-- A step takes the command at the front of the queue and runs it on the state with the queue's rest (the row's cut); and every command, of each of the
302 rows, with whatever operands and in whatever state, completes: exec answers a next state, and none ends in a fault or a refusal. -/
def Obligations.StepTakesTheFrontCommand : Prop :=
  ∀ (c : Instr) (s : State), step { s with pending := c :: s.pending } = exec c s ∧ ∃ v : State, exec c s = .next v

/-- Right after RESET_N is released with EN high the module starts (R516): nothing waits, no memory byte is listed, no entry is held (R470),
no collection is live, HB is low, and the tables are canonical. -/
def Obligations.ResetState : Prop :=
  State.reset.mode = .starting ∧ State.reset.pending = [] ∧ State.reset.now = 0 ∧ State.reset.heldSlots = [] ∧
  State.reset.freeSlot = some 0 ∧ State.reset.num Reg.ERR_NEXT = 0 ∧ State.reset.live = false ∧ State.reset.outPins.hb = false ∧
  State.reset.slots = [] ∧ State.reset.ram = [] ∧ State.reset.sram = [] ∧ State.reset.Canonical

/-- HB's rule holds after reset. -/
def Obligations.HbRuleAtReset : Prop := State.reset.HbRule

/-- HB runs exactly while the module is Inspecting and not halting and its role condition holds (R504), whatever the module is told. -/
def Obligations.HbRuleIsKept : Prop := ∀ s t : State, s.HbRule → step s = .next t → t.HbRule

/-- On an empty queue the next item of the event router arrives, and with none the block idles (the model's choice, log 33). Time passes and never runs back: the state of a command at `t` is that of the later of `t` and the present; the timekeeper stands at its
time (R406) where no item of the router is due before, and with nothing waiting only the card buckets fill (R278). -/
def Obligations.TimePasses : Prop :=
  ∀ (s : State) (t : Nat),
    (s.pending = [] → (s.evrQ = [] → step s = .next s) ∧
      ∀ w, earliest s.evrQ = some w → step s = .next (((s.passTime (max s.now w.due)).arrive w).settle s)) ∧
    (s.advanceTo t).now = max s.now t ∧
    ((∀ w ∈ s.evrQ, max s.now t < w.due) → s.notices = [] → s.pwr.prep = none →
      (s.advanceTo t).t40 = s.timeAt (max s.now t) ∧
      s.Keeps [.now, .t40, .card] (theRegs [Reg.CARD_BUCKET 0, Reg.CARD_BUCKET 1, Reg.CARD_BUCKET 2, Reg.CARD_BUCKET 3]) (s.advanceTo t))

/-- What follows every command changes neither the module's state, nor its time, nor a pin, nor GDDR6, nor the position, the triggers, the
slots, the segments, the cards or the folio engines; and where no link has reached or left READY, no calibration runs, the member is
no standby, the relay stands as it should and HB follows its rule, it changes nothing. -/
def Obligations.WhatFollowsACommand : Prop :=
  ∀ v s : State,
    v.Keeps [.out, .queues, .sram, .err, .notices, .evrQ, .links, .ports, .calRun, .corr, .stk, .outPins] (fun _ => true) (v.settle s) ∧
    ((∀ m, v.linkReady m = s.linkReady m) → v.standbyRole = false → v.calRun = none →
      v.relayOn = v.stk.relay.isSome →
      v.HbRule → v.settle s = v)

/-! ### Accession -/

/-- The staged set (R196, R233, R234, R281, R293): a write to folio memory of the bank that is not live, or to the catalogue, is staged while the set is open and turned away, with a count,
once it is sealed, and a write to a live bank always; COMMIT starts accession of an open set, which ends accepted, with its bounds and digest, or
refused with its reason; UNSEAL opens it again unless a switch is armed. -/
def Obligations.StagedSet : Prop :=
  ∀ (s : State) (t : Nat) (p : Path) (w : Word), let u := s.advanceTo t
    let st := u.fld Reg.ACC_STATUS Fld.ACC_STATUS_SSTATE
    let shut (v : State) : Prop := v.num Reg.ACC_SHREJ = min 0xFFFFFFFF (u.num Reg.ACC_SHREJ + 1)
    (∀ e off, e < 14 → off < 0x40000 → u.reaches p = true → u.performs (0x400000 + 0x40000 * e + off) w = true → let a := 0x400000 + 0x40000 * e + off
      (folioBankOf off = u.folioBank e → ∃ v : State, exec (.folioMemoryWrite t p a w) s = .next (v.settle s) ∧ v.folio = u.folio ∧
        v.num (Reg.FOLIO_MEMREJ e) = min 0xFFFFFFFF (u.num (Reg.FOLIO_MEMREJ e) + 1)) ∧
      (folioBankOf off ≠ u.folioBank e → st ≠ 0 → ∃ v : State, exec (.folioMemoryWrite t p a w) s = .next (v.settle s) ∧ v.folio = u.folio ∧ shut v) ∧
      (folioBankOf off ≠ u.folioBank e → st = 0 → ∃ v : State, exec (.folioMemoryWrite t p a w) s = .next (v.settle s) ∧ v.folioMemRead a = w ∧
        (∀ b, 0x400000 ≤ b → b % 4 = 0 → b ≠ a → v.folioMemRead b = u.folioMemRead b) ∧ u.Keeps [.folio] noReg v)) ∧
    (u.reaches p = true → u.performs Reg.ACC_CTRL (withBits w 1) = true → w.toNat / 2 % 8 = 0 →
      (st = 0 → u.mode.active = true → ∃ v : State, exec (.commit t p w) s = .next (v.settle s) ∧ v.fld Reg.ACC_STATUS Fld.ACC_STATUS_SSTATE = 1 ∧
        v.acc = { u.acc with ready := (List.range 14).filter u.linkReady } ∧ u.Keeps [.acc, .shadow] (theRegs [Reg.ACC_CTRL, Reg.ACC_STATUS]) v) ∧
      (st ≠ 0 ∨ u.mode.active = false → ∃ v : State, exec (.commit t p w) s = .next (v.settle s) ∧ v.fld Reg.ACC_STATUS Fld.ACC_STATUS_SSTATE = st ∧ shut v)) ∧
    (u.mode.active = true → st = 1 → let n := u.wouldBe false
      (∀ code d0 d1, accessionFault u n = some (code, some d0, some d1) → ∃ x : State, exec (.accessionComplete t) s = .next ((x.answerCommit false).settle s) ∧
        x.fld Reg.ACC_STATUS Fld.ACC_STATUS_SSTATE = 0 ∧ x.num Reg.ACC_REASON = code % 2 ^ 32 ∧ x.num Reg.ACC_DETAIL0 = d0 % 2 ^ 32 ∧ x.num Reg.ACC_DETAIL1 = d1 % 2 ^ 32) ∧
      (accessionFault u n = none → ∃ x : State, exec (.accessionComplete t) s = .next ((x.answerCommit false).settle s) ∧
        x.fld Reg.ACC_STATUS Fld.ACC_STATUS_SSTATE = 2 ∧ x.num Reg.ACC_REASON = 0 ∧
        (∀ i, i < 16 → x.num (Reg.ACC_SBOUND i) = ((n.boundWords (n.lag 0))[i]?).getD 0 % 2 ^ 32) ∧ x.num Reg.ACC_STAGEDDIG = n.digest (n.lag 0) n.commonPhases % 2 ^ 32 ∧
        x.acc.stagedPhases = n.commonPhases ∧ x.acc.retention = n.fld Reg.STACKS_NROWS Fld.STACKS_NROWS_NROWS - 1)) ∧
    (u.reaches p = true → u.performs Reg.ACC_CTRL (withBits w 2) = true → w.toNat % 2 = 0 → w.toNat / 4 % 4 = 0 →
      (st = 2 → u.flag Reg.ACC_STATUS Fld.ACC_STATUS_ARMED = false → ∃ v : State, exec (.unseal t p w) s = .next (v.settle s) ∧
        v.fld Reg.ACC_STATUS Fld.ACC_STATUS_SSTATE = 0 ∧ v.flag Reg.ACC_STATUS Fld.ACC_STATUS_JOINT = false ∧
        u.Keeps [.shadow] (theRegs [Reg.ACC_CTRL, Reg.ACC_STATUS]) v) ∧
      (st ≠ 2 ∨ u.flag Reg.ACC_STATUS Fld.ACC_STATUS_ARMED = true → ∃ v : State, exec (.unseal t p w) s = .next (v.settle s) ∧
        v.fld Reg.ACC_STATUS Fld.ACC_STATUS_SSTATE = st ∧ shut v)) ∧
    (let i := u.fld Reg.CAT_TIDX Fld.CAT_TIDX_IDX
     let i' := if u.flag Reg.CAT_TCTL Fld.CAT_TCTL_AUTOINC = true then (i + 1) % 8192 else i
     (u.reaches p = true → u.performs Reg.CAT_TDATA w = true → ∃ v : State, exec (.catTableWrite t p w) s = .next (v.settle s) ∧
        v.fld Reg.CAT_TIDX Fld.CAT_TIDX_IDX = i' ∧
        (st = 0 → (∀ k, Store.get (fun _ => 0) k v.card.cat = if k = (1 - u.catBank) * 8192 + i then w else Store.get (fun _ => 0) k u.card.cat) ∧
          u.Keeps [.card] (theRegs [Reg.CAT_TIDX]) v) ∧
        (st ≠ 0 → v.card.cat = u.card.cat ∧ shut v)) ∧
     (u.reaches p = true → u.readable Reg.CAT_TDATA = true → ∃ v : State, exec (.catTableRead t p) s = .next (v.settle s) ∧
        v.out = .readWord Reg.CAT_TDATA (Store.get (fun _ => 0)
          ((if u.flag Reg.CAT_TCTL Fld.CAT_TCTL_RBANK = true then 1 - u.catBank else u.catBank) * 8192 + i) u.card.cat) :: u.out ∧
        v.fld Reg.CAT_TIDX Fld.CAT_TIDX_IDX = i' ∧ u.Keeps [.out] (theRegs [Reg.CAT_TIDX]) v))

/-- Switching and breaches (R236, R238, R239, R241, R242, R253): SWITCH_ARM is refused outside Inspecting, for a set that is not accepted, for a line already triggered and for a chain that is
not joint, and else arms; at the awaited trigger the set becomes live, unless a breach takes effect at that boundary or an earlier one; a DIGEST message is noted by its kind and sent every millisecond on the READY
seam links; a live digest that differs for more than 2 ms is the breach SEAM_DIGEST; and a breach at its boundary halts the inspection. -/
def Obligations.SwitchesAndBreaches : Prop :=
  ∀ (s : State) (t : Nat) (p : Path) (w : Word), let u := s.advanceTo t
    let st := u.fld Reg.ACC_STATUS Fld.ACC_STATUS_SSTATE
    (u.reaches p = true → u.performs Reg.ACC_CTRL (withBits w 4) = true → w.toNat % 4 = 0 → w.toNat / 8 % 2 = 0 →
      let x := u.writeReg p Reg.ACC_CTRL (withBits w 4)
      let aten := getBits w Fld.ACC_CTRL_ATEN = 1
      let line := u.getS64 Reg.ACC_SWITCH_LO
      let bad := u.mode ≠ .inspecting ∨ st ≠ 2 ∨ (aten ∧ u.refCame line = true)
      let alone := 1 < (x.wouldBe false).members ∧ u.flag Reg.ACC_STATUS Fld.ACC_STATUS_JOINT = false
      (bad → ∃ v : State, exec (.switchArm t p w) s = .next (v.settle s) ∧ v.acc = u.acc ∧ v.reg Reg.ACC_STATUS = u.reg Reg.ACC_STATUS) ∧
      (¬ bad → alone → ∃ v : State, exec (.switchArm t p w) s = .next (v.settle s) ∧ v.acc = u.acc ∧ v.num Reg.ACC_REASON = 0x0401) ∧
      (¬ bad → ¬ alone → ∃ v : State, exec (.switchArm t p w) s = .next (v.settle s) ∧ v.flag Reg.ACC_STATUS Fld.ACC_STATUS_ARMED = true ∧
        v.acc.arm = some (if getBits w Fld.ACC_CTRL_ATEN = 1 then some line else none) ∧ v.acc.due = none ∧
        u.Keeps [.acc, .shadow] (theRegs [Reg.ACC_CTRL, Reg.ACC_STATUS]) v)) ∧
    (u.reaches p = true → u.performs Reg.ACC_CTRL (withBits w 8) = true → w.toNat % 8 = 0 → ∃ v : State, exec (.switchCancel t p w) s = .next (v.settle s) ∧
      v.flag Reg.ACC_STATUS Fld.ACC_STATUS_ARMED = false ∧ v.acc.arm = none ∧ v.acc.due = none ∧
      u.Keeps [.acc, .shadow] (theRegs [Reg.ACC_CTRL, Reg.ACC_STATUS]) v) ∧
    (∀ j, u.mode = .inspecting → u.acc.due = some j → u.boundaryBy j = true → exec (.handOver t) s = .next (u.settle s)) ∧
    (∀ j, u.mode = .inspecting → u.acc.due = some j → u.boundaryBy j = false → exec (.handOver t) s = .next ((u.handOver.handOverJoin j).settle s) ∧
      u.handOver.flag Reg.ACC_STATUS Fld.ACC_STATUS_LIVE = true ∧ u.handOver.flag Reg.ACC_STATUS Fld.ACC_STATUS_ARMED = false ∧
      u.handOver.fld Reg.ACC_STATUS Fld.ACC_STATUS_SSTATE = 0 ∧ u.handOver.acc.arm = none ∧ u.handOver.acc.due = none ∧
      (u.handOver.acc.engineAt.map Prod.fst) = some j ∧ ∀ i, 0 < i → i < 16 → u.handOver.num (Reg.ACC_BOUND i) = u.num (Reg.ACC_SBOUND i)) ∧
    (∀ m (d0 d1 : BitVec 48), m = 12 ∨ m = 13 → u.mode.active = true → u.lstate m = 5 →
      (bit d0.toNat 32 = true → ∃ v : State, exec (.digest t m d0 d1) s = .next (v.settle s) ∧
        Store.get (fun _ => none) m v.acc.livePeers = some (d0.toNat % 2 ^ 32) ∧ u.Keeps [.acc] noReg v) ∧
      (bit d0.toNat 32 = false → ∃ v : State, exec (.digest t m d0 d1) s = .next (v.settle s) ∧
        Store.get (fun _ => (0, 0, 0)) m v.acc.peers = (d0.toNat % 2 ^ 32, d0.toNat / 2 ^ 33 % 16, signed 32 (d1.toNat % 2 ^ 32)) ∧
        v.acc.livePeers = u.acc.livePeers ∧ u.Keeps [.acc] (theRegs [Reg.ACC_STATUS]) v)) ∧
    (u.mode.active = true → exec (.digestPeriod t) s = .next (u.sendDigests.settle s) ∧ u.Keeps [.links, .out] noReg u.sendDigests ∧
      (u.linkReady 12 = false → u.linkReady 13 = false → u.sendDigests = u) ∧
      (u.linkReady 12 = true → u.linkReady 13 = false → let i := (u.wouldBe false).memberIndex
        let dig := if st = 2 then u.num Reg.ACC_STAGEDDIG else 0
        u.sendDigests.out = [.mgmt 12 9 1 0, .mgmt 12 9 0 (BitVec.ofNat 48 (u.num Reg.ACC_LIVEDIG + 1 * 2 ^ 32 + u.memberIndex * 2 ^ 33)),
          .mgmt 12 9 1 0, .mgmt 12 9 0 (BitVec.ofNat 48 (dig + 0 * 2 ^ 32 + i * 2 ^ 33))] ++ u.out)) ∧
    (∀ m t0, u.mode = .inspecting → Store.get (fun _ => none) m u.acc.differ = some t0 →
      (t0 + 2 * 10 ^ 9 < u.now → ∃ v : State, exec (.seamDigest t m) s = .next (v.settle s) ∧
        v.err.breaches = u.err.breaches ++ [⟨8, m, none, true, u.now⟩] ∧ u.Keeps [.err] noReg v) ∧
      (u.now ≤ t0 + 2 * 10 ^ 9 → exec (.seamDigest t m) s = .next (u.settle s))) ∧
    (∀ k, u.mode = .inspecting → u.err.boundary = some k →
      (u.dueBreaches k ≠ [] → ∃ v : State, exec (.breach t) s = .next (v.settle s) ∧ v = u.takeBreach ∧ v.mode = .halted ∧ v.err.breaches = [] ∧ v.err.haltLine = some k ∧
        v.flag Reg.ERR_STATUS Fld.ERR_STATUS_FROMINSP = true ∧
        (∀ b, u.dueBreaches k = [b] → b.own = true → b.code < 16 → b.unit < 256 → v.fld Reg.ACC_BREACH Fld.ACC_BREACH_CODE = b.code)) ∧
      (u.dueBreaches k = [] → exec (.breach t) s = .next (u.settle s)))
/-! ### Profile engine, stacks and DMA -/

/-- Syncs and tables of the profile engine (R304 to R308, R315): a request with ATEN names its line, refused if that has been triggered, one without waits for the next
reference trigger and only the first member of a chain acts on it; an edge of the pin within 1 µs of another is refused; a message from the west is taken and forwarded; at the
first line that is not below it and was triggered after the request, a sync clears the filters; and the table port stages words in the other bank and reads the bank it names. -/
def Obligations.ProfileSyncs : Prop :=
  ∀ (s : State) (t : Nat) (p : Path) (w : Word), let u := s.advanceTo t
    let refused (v : State) : Prop := v.num (Reg.PROF_CNT 3) = min 0xFFFFFFFF (u.num (Reg.PROF_CNT 3) + 1) ∧ v.prof.pend = u.prof.pend ∧ v.prof.waitRef = u.prof.waitRef
    let first := u.fld Reg.ACC_CHAIN Fld.ACC_CHAIN_INDEX = 0
    (u.reaches p = true → u.performs Reg.PROF_SYNC (withBits w 1) = true → let j := u.getS64 Reg.PROF_SYNCAT_LO
      (bit w.toNat 1 = true → u.refCame j = true → ∃ v : State, exec (.profSync t p w) s = .next (v.settle s) ∧ refused v) ∧
      (bit w.toNat 1 = true → u.refCame j = false → ∃ v : State, exec (.profSync t p w) s = .next (v.settle s) ∧ v.prof.pend = some (j, u.now) ∧ v.prof.waitRef = false ∧
        v.flag Reg.PROF_SYNC Fld.PROF_SYNC_PENDING = true ∧ u.Keeps [.prof, .shadow] (theRegs [Reg.PROF_SYNC]) v) ∧
      (bit w.toNat 1 = false → first → ∃ v : State, exec (.profSync t p w) s = .next (v.settle s) ∧ v.prof.pend = none ∧ v.prof.waitRef = true ∧
        v.flag Reg.PROF_SYNC Fld.PROF_SYNC_PENDING = true ∧ u.Keeps [.prof, .shadow] (theRegs [Reg.PROF_SYNC]) v) ∧
      (bit w.toNat 1 = false → ¬ first → ∃ v : State, exec (.profSync t p w) s = .next (v.settle s) ∧ refused v)) ∧
    (∀ level, u.mode.active = true → u.pins.profSync ≠ level → level ≠ u.flag Reg.PROF_CTRL Fld.PROF_CTRL_PINPOL →
      (∀ a, u.prof.edgeAt = some a → u.now < a + 10 ^ 6 → ∃ v : State, exec (.profsyncEdge t level) s = .next (v.settle s) ∧ refused v ∧ v.prof.edgeAt = some u.now) ∧
      ((∀ a, u.prof.edgeAt = some a → a + 10 ^ 6 ≤ u.now) → u.flag Reg.PROF_CTRL Fld.PROF_CTRL_PINEN = true → first →
        ∃ v : State, exec (.profsyncEdge t level) s = .next (v.settle s) ∧ v.prof.waitRef = true ∧ v.prof.pend = none ∧ v.prof.edgeAt = some u.now ∧ v.pins.profSync = level ∧
          u.Keeps [.prof, .pins] (theRegs [Reg.PROF_SYNC]) v) ∧
      ((∀ a, u.prof.edgeAt = some a → a + 10 ^ 6 ≤ u.now) → u.flag Reg.PROF_CTRL Fld.PROF_CTRL_PINEN = false →
        ∃ v : State, exec (.profsyncEdge t level) s = .next (v.settle s) ∧ v.prof = { u.prof with edgeAt := some u.now } ∧ u.Keeps [.prof, .pins] noReg v)) ∧
    (∀ data : BitVec 48, u.mode.active = true → u.lstate 12 = 5 → let j := u.lineOf48 data.toNat
      (u.refCame j = true → ∃ v : State, exec (.profsyncMessage t data) s = .next (v.settle s) ∧ refused v) ∧
      (u.refCame j = false → ∃ v : State, exec (.profsyncMessage t data) s = .next (v.settle s) ∧ v.prof.pend = some (j, u.now) ∧
        v.out = (if u.flag (Reg.CAM_CTRL 13) Fld.CAM_CTRL_EN && u.linkReady 13 then [.mgmt 13 10 0 data] else []) ++ u.out ∧
        u.Keeps [.prof, .links, .out] (theRegs [Reg.PROF_SYNC]) v)) ∧
    (∀ sl j due at_ outAt cfg, u.inspects = true → u.openSlot = some sl → u.seg.times.getLast? = some ⟨j, due, at_, outAt, cfg⟩ → sl.stage = 1 →
      let x := u.seenBy sl
      x.delivers = true → x.foliosDone = false → (u.syncDue j outAt = true ↔ u.prof.atNext = true ∨ ∃ l a, u.prof.pend = some (l, a) ∧ l ≤ j ∧ a ≤ outAt) ∧
      (u.syncDue j outAt = true → ∃ v : State, exec (.profileSyncApply t) s = .next (v.settle s) ∧ v.prof.bins = [] ∧
        v.prof.inputs = 0 ∧ v.prof.atNext = false ∧ v.getS64 Reg.PROF_SYNCLINE_LO = signed 64 (unsignedOf 64 j) ∧ v.flag Reg.PROF_EVT ⟨1, 1⟩ = true ∧
        u.Keeps [.prof, .evrQ] (theRegs [Reg.PROF_SYNC, Reg.PROF_SYNCLINE_LO, Reg.PROF_SYNCLINE_HI, Reg.PROF_EVT]) v)) ∧
    (let i := u.fld Reg.PROF_TIDX Fld.PROF_TIDX_IDX
     let sel := u.fld Reg.PROF_TCTL Fld.PROF_TCTL_TSEL
     let last := if sel = 0 then 49151 else if sel = 1 then 31 else 255
     let i' := if u.flag Reg.PROF_TCTL Fld.PROF_TCTL_AUTOINC = true ∧ sel < 3 then (if i < last then i + 1 else 0) else i
     let key (bank : Nat) : Nat := bank * 2 ^ 18 + sel * 2 ^ 16 + i
     (u.reaches p = true → u.performs Reg.PROF_TDATA w = true → ∃ v : State, exec (.profTableWrite t p w) s = .next (v.settle s) ∧
        v.fld Reg.PROF_TIDX Fld.PROF_TIDX_IDX = i' ∧
        (u.fld Reg.ACC_STATUS Fld.ACC_STATUS_SSTATE = 0 → sel < 3 → i ≤ last →
          (∀ k, Store.get profInit k v.prof.tables = if k = key (1 - u.profBank) then w else Store.get profInit k u.prof.tables) ∧
          u.Keeps [.prof] (theRegs [Reg.PROF_TIDX]) v) ∧
        (sel = 3 ∨ (u.fld Reg.ACC_STATUS Fld.ACC_STATUS_SSTATE = 0 ∧ last < i) → u.Keeps [] (theRegs [Reg.PROF_TIDX]) v) ∧
        (u.fld Reg.ACC_STATUS Fld.ACC_STATUS_SSTATE ≠ 0 → sel < 3 → v.prof = u.prof ∧ v.num Reg.ACC_SHREJ = min 0xFFFFFFFF (u.num Reg.ACC_SHREJ + 1))) ∧
     (u.reaches p = true → u.readable Reg.PROF_TDATA = true → ∃ v : State, exec (.profTableRead t p) s = .next (v.settle s) ∧
        v.out = .readWord Reg.PROF_TDATA (if sel < 3 ∧ i ≤ last then Store.get profInit
          (key (if u.flag Reg.PROF_TCTL Fld.PROF_TCTL_RBANK = true then 1 - u.profBank else u.profBank)) u.prof.tables else 0) :: u.out ∧
        v.fld Reg.PROF_TIDX Fld.PROF_TIDX_IDX = i' ∧ u.Keeps [.out] (theRegs [Reg.PROF_TIDX]) v))

/-- Rows and crops of the stacks (R322, R323, R331 to R333, R395): the oldest finished row is written at its place and committed, with the head row and line, the count and
the crops that its line makes ready; the first ready crop of a list is cut and its record enters its queue; and an unreserved relay takes the next committed row. -/
def Obligations.RowsAndCrops : Prop :=
  ∀ (s : State) (t : Nat), let u := s.advanceTo t
    u.mode.active = true →
    (∀ r rest bytes, u.stk.pending = r :: rest → r.bytes = some bytes → r.row < 2 ^ 64 → ∃ v : State, exec (.stacksRowCommit t) s = .next (v.settle s) ∧
      v.ram = writeBytes u.ram (u.rowAddr r.row) bytes ∧ v.stk.pending = rest ∧ v.stk.empty = false ∧ v.get64 Reg.STACKS_HEADROW_LO = r.row ∧
      v.getS64 Reg.STACKS_HEADLINE_LO = signed 64 (unsignedOf 64 r.line) ∧ v.num (Reg.STACKS_CNT 0) = min 0xFFFFFFFF (u.num (Reg.STACKS_CNT 0) + 1) ∧
      (u.stk.empty = true → v.get64 Reg.STACKS_OLDROW_LO = r.row) ∧ (u.stk.empty = false → v.get64 Reg.STACKS_OLDROW_LO = u.get64 Reg.STACKS_OLDROW_LO) ∧
      v.cropReqs = u.cropReqs.map (fun e => (e.1, e.2.map fun (c : CropReq) => { c with ready := c.ready || decide (c.last ≤ r.line) })) ∧
      u.Keeps [.ram, .stk, .cropReqs] (theRegs [Reg.STACKS_HEADROW_LO, Reg.STACKS_HEADROW_HI, Reg.STACKS_HEADLINE_LO, Reg.STACKS_HEADLINE_HI,
        Reg.STACKS_OLDROW_LO, Reg.STACKS_OLDROW_HI, Reg.STACKS_CNT 0]) v) ∧
    (u.stk.pending = [] → exec (.stacksRowCommit t) s = .next (u.settle s)) ∧
    (∀ q c rest, q < 4 → u.flag Reg.DMA_CTRL Fld.DMA_CTRL_EN = true → Store.get (fun _ => []) q u.cropReqs = c :: rest → c.ready = true → c.stream = false →
      let rec_ := ((u.cropDescriptor q).cropRecord c).1
      (u.qFits (60 + q) rec_.1.length = true → u.shadowTakes = false → ∃ v : State, exec (.cropRecordComplete t q) s = .next (v.settle s) ∧
        (v.queue (60 + q)).packets = (u.queue (60 + q)).packets ++ [⟨rec_.1.length, u.nextSeq q, 2, none, none, false⟩] ∧
        Store.get (fun _ => []) q v.cropReqs = rest ∧
        (rec_.2.1 = 0 → v.num (Reg.STACKS_CNT 1) = min 0xFFFFFFFF (u.num (Reg.STACKS_CNT 1) + 1)) ∧
        (rec_.2.2 = true → v.num (Reg.STACKS_CNT 2) = min 0xFFFFFFFF (u.num (Reg.STACKS_CNT 2) + 1)) ∧
        (rec_.2.1 = 1 → v.num (Reg.STACKS_CNT 3) = min 0xFFFFFFFF (u.num (Reg.STACKS_CNT 3) + 1) ∧ v.flag Reg.STACKS_EVT ⟨1, 1⟩ = true)) ∧
      (u.qFits (60 + q) rec_.1.length = false → ∃ v : State, exec (.cropRecordComplete t q) s = .next (v.settle s) ∧
        (v.queue (60 + q)).packets = (u.queue (60 + q)).packets ∧ (v.queue (60 + q)).refused = true ∧
        (u.mode = .inspecting → v.err.breaches = u.err.breaches ++ [⟨9, q, none, true, u.now⟩]))) ∧
    (∀ i row, u.relayChan = some (i, false) → i < 8 → u.stk.relay = some row → u.stk.empty = false → row ≤ u.get64 Reg.STACKS_HEADROW_LO →
      let due := decide (u.headerRow row = row) && decide (u.headerLine row % (u.relayEvery : Int) = 0)
      (due = false → ∃ v : State, exec (.unreservedRelayRead t) s = .next (v.settle s) ∧ v.stk.relay = some (row + 1) ∧ u.Keeps [.stk] noReg v) ∧
      (due = true → u.shadowTakes = false → u.qFits (48 + i) (u.relayRecord row).length = true → ∃ v : State, exec (.unreservedRelayRead t) s = .next (v.settle s) ∧
        v.stk.relay = some (row + 1) ∧ (v.queue (48 + i)).packets = (u.queue (48 + i)).packets ++ [⟨(u.relayRecord row).length, 0, 0, none, none, false⟩]) ∧
      (due = true → u.qFits (48 + i) (u.relayRecord row).length = false → ∃ v : State, exec (.unreservedRelayRead t) s = .next (v.settle s) ∧
        v.stk.relay = some (row + 1) ∧ v.num (Reg.Q_DROP (48 + i)) = min 0xFFFFFFFF (u.num (Reg.Q_DROP (48 + i)) + 1)))

/-- Replays (R324 to R329): GO starts a replay 10 µs from now where its conditions hold and is REFUSED otherwise; its ticks fetch row after row; a fetch takes the row whose header names it, and a
row overtaken before the first ends it OVERRUN, later cuts the range short; ABORT ends it with the slot in progress, or at once. -/
def Obligations.Replays : Prop :=
  ∀ (s : State) (t r : Nat) (p : Path) (w : Word), r < 4 → let u := s.advanceTo t
    let status (v : State) : Nat := v.fld (Reg.RP_CTRL r) Fld.RP_CTRL_STATUS
    (u.reaches p = true → u.performs (Reg.RP_CTRL r) (withBits w 1) = true → bit w.toNat 1 = false →
      (u.replayAllowed r = true → ∃ v : State, exec (.rpGo t p r w) s = .next (v.settle s) ∧ status v = 1 ∧ v.flag (Reg.RP_CTRL r) Fld.RP_CTRL_RUNNING = true ∧
        v.num (Reg.RP_TICK r) = 0 ∧ (v.engine (12 + r)).ring = [] ∧ ∃ h, v.replay r = some h ∧ h.first = u.get64 (Reg.RP_FIRST_LO r) ∧ h.count = u.num (Reg.RP_COUNT r) ∧
          h.q0 = u.now + 10 ^ 7 ∧ h.rate = u.fld (Reg.ACC_REPLAY r) Fld.ACC_REPLAY_RATE ∧ h.tick = 0) ∧
      (u.replayAllowed r = false → ∃ v : State, exec (.rpGo t p r w) s = .next (v.settle s) ∧ status v = 7 ∧ v.stk = u.stk ∧
        u.Keeps [.shadow] (theRegs [Reg.RP_CTRL r]) v)) ∧
    (u.reaches p = true → u.performs (Reg.RP_CTRL r) (withBits w 2) = true → bit w.toNat 0 = false →
      (u.replay r = none → ∃ v : State, exec (.rpAbort t p r w) s = .next (v.settle s) ∧ v.stk = u.stk ∧ u.Keeps [.shadow] (theRegs [Reg.RP_CTRL r]) v) ∧
      (∀ h, u.replay r = some h → 2 ≤ h.tick → ∃ v : State, exec (.rpAbort t p r w) s = .next (v.settle s) ∧ v.replay r = some { h with stop := some 4 } ∧
        u.Keeps [.stk, .shadow] (theRegs [Reg.RP_CTRL r]) v) ∧
      (∀ h, u.replay r = some h → h.tick < 2 → ∃ v : State, exec (.rpAbort t p r w) s = .next (v.settle s) ∧ v.replay r = none ∧ status v = 4 ∧
        v.flag (Reg.RP_CTRL r) Fld.RP_CTRL_RUNNING = false ∧ v.flag Reg.STACKS_EVT ⟨3, 1⟩ = true)) ∧
    (u.mode.active = true → ∀ h, u.replay r = some h →
      (u.now < h.q0 + h.tick * 10 ^ 12 / max 1 h.rate → exec (.replayTick t r) s = .next (u.settle s)) ∧
      (h.q0 + h.tick * 10 ^ 12 / max 1 h.rate ≤ u.now → exec (.replayTick t r) s = .next ((u.replayTick r).settle s) ∧
        (h.tick = 0 → h.fetching = none → h.stop = none → 0 < h.count → (u.replayTick r).num (Reg.RP_TICK r) = 1 ∧
          (u.replayTick r).replay r = some { h with tick := 1, cfgs := (u.setNum (Reg.RP_TICK r) 1).regs :: h.cfgs.take 2, fetching := some h.first }) ∧
        (h.fetching = none → h.stop = none → 2 ≤ h.tick → h.count + h.lag + 1 < h.tick → status (u.replayTick r) = 2 ∧ (u.replayTick r).replay r = none)) ∧
      (∀ row, h.fetching = some row →
        (u.headerRow row = row → row < 2 ^ 64 → ∃ v : State, exec (.replayFetchDone t r) s = .next (v.settle s) ∧ v.get64 (Reg.RP_ROW_LO r) = row ∧
          (∃ h', v.replay r = some h' ∧ h'.last = some (row, u.readRow r row) ∧ h'.fetching = none ∧ h'.tick = h.tick) ∧
          u.Keeps [.stk] (theRegs [Reg.RP_ROW_LO r, Reg.RP_ROW_HI r]) v) ∧
        (u.headerRow row ≠ row → h.last = none → ∃ v : State, exec (.replayFetchDone t r) s = .next (v.settle s) ∧ v.replay r = none ∧ status v = 3 ∧
          v.num (Reg.STACKS_CNT 5) = min 0xFFFFFFFF (u.num (Reg.STACKS_CNT 5) + 1) ∧ v.flag Reg.STACKS_EVT ⟨3, 1⟩ = true) ∧
        (u.headerRow row ≠ row → h.last ≠ none → ∃ v : State, exec (.replayFetchDone t r) s = .next (v.settle s) ∧
          v.replay r = some { h with fetching := none, count := row - h.first, stop := some 3 } ∧ u.Keeps [.stk] noReg v)) ∧
      (h.fetching = none → exec (.replayFetchDone t r) s = .next (u.settle s)))

/-- The control of a DMA channel (R334, R335, R340 to R345, R354): LOAD seals the shadow and an idle channel takes it, while a crop channel refuses it; STOP and ABORT mark a busy
channel; a grant goes to the next channel in rotating order that wants one; a descriptor that has ended sets its bits and results and ends the chain or
takes the next descriptor; a disable drops every channel; and a channel that waits for units takes them when they are free. -/
def Obligations.DmaControl : Prop :=
  ∀ (s : State) (t c : Nat) (p : Path) (w : Word), c < 32 → let u := s.advanceTo t
    let st := Reg.CH_STATUS c
    let busy (v : State) : Bool := v.flag st Fld.CH_STATUS_BUSY
    let isSealed (v : State) : Bool := v.flag st Fld.CH_STATUS_SEALED
    let result (v : State) : Nat := v.fld st Fld.CH_STATUS_RESULT
    (u.reaches p = true → u.performs (Reg.CH_CTRL c) (withBits w 1) = true → w.toNat / 2 % 4 = 0 →
      (28 ≤ c → ∃ v : State, exec (.load t p c w) s = .next (v.settle s) ∧ v.num Reg.DMA_REJ = min 0xFFFFFFFF (u.num Reg.DMA_REJ + 1) ∧ isSealed v = isSealed u ∧ busy v = busy u) ∧
      (c < 28 → busy u = true → ∃ v : State, exec (.load t p c w) s = .next (v.settle s) ∧ isSealed v = true ∧ busy v = true ∧ u.Keeps [.shadow] (theRegs [Reg.CH_CTRL c, st]) v) ∧
      (c < 28 → busy u = false → ∃ v : State, exec (.load t p c w) s = .next (v.settle s) ∧ isSealed v = false ∧ busy v = true ∧ v.num (Reg.CH_CURDESC c) = 0xFFFFFFFF ∧
        v.fld st Fld.CH_STATUS_DESCS = 0 ∧ v.num (Reg.CH_DONEB c) = 0 ∧ (∀ i, i < 10 → v.reg (dscReg c i) = u.stagedWord (dscReg c i)) ∧ (v.chan c).pos = 0)) ∧
    (u.reaches p = true → u.performs (Reg.CH_CTRL c) (withBits w 2) = true → w.toNat % 2 = 0 → bit w.toNat 2 = false →
      ∃ v : State, exec (.dmaStop t p c w) s = .next (v.settle s) ∧ v.chan c = (if busy u then { u.chan c with stop := true } else u.chan c) ∧
        u.Keeps [.dma, .shadow] (theRegs [Reg.CH_CTRL c, Reg.DMA_BUF]) v) ∧
    (u.reaches p = true → u.performs (Reg.CH_CTRL c) (withBits w 4) = true → w.toNat % 4 = 0 →
      ∃ v : State, exec (.dmaAbort t p c w) s = .next (v.settle s) ∧ u.Keeps [.dma, .shadow] (theRegs [Reg.CH_CTRL c, Reg.DMA_BUF]) v ∧
        (busy u = true → (u.chan c).fin = none → (v.chan c).abort = true ∧ (v.chan c).waiting = false ∧
          (v.chan c).fin = (if (u.chan c).bursts = [] then some 5 else none)) ∧
        (busy u = false ∨ (u.chan c).fin ≠ none → v.chan c = u.chan c)) ∧
    (u.mode.active = true →
      (u.flag Reg.DMA_CTRL Fld.DMA_CTRL_EN = true → (((List.range 28).map fun i => (u.dma.turn + 1 + i) % 28).find? u.wantsBurst) = some c →
        (∀ b, u.readBurst c (u.chan c).pos = some b → ∃ v : State, exec (.bufferGrant t) s = .next (v.settle s) ∧ v.dma.turn = c ∧
          v.chan c = { u.chan c with pos := (u.chan c).pos + b.length, bursts := (u.chan c).bursts ++ [((u.chan c).pos, u.burstBytes c, b)] } ∧
          u.Keeps [.dma] (theRegs [Reg.DMA_BUF]) v) ∧
        (u.readBurst c (u.chan c).pos = none → (u.chan c).bursts = [] → ∃ v : State, exec (.bufferGrant t) s = .next (v.settle s) ∧ (v.chan c).fin = some 2)) ∧
      (c < 28 → (u.chan c).waiting = true → let q := u.dscDst c % 2 ^ 36
        let n := unitsOf (u.dscTotal c)
        (n ≤ u.qFree q → ∃ v : State, exec (.queueRoom t c) s = .next (v.settle s) ∧ (v.queue q).resv = (u.queue q).resv + n ∧ (v.chan c).waiting = false ∧ (v.chan c).units = n) ∧
        (u.qFree q < n → ∃ v : State, exec (.queueRoom t c) s = .next (v.settle s) ∧ v.chan c = u.chan c ∧ v.queues = u.queues)) ∧
      (∀ r, c < 28 → (u.chan c).fin = some r → spaceOf (u.dscDst c) < 2 → r < 16 → isSealed u = false →
        let descs := min 65535 (u.fld st Fld.CH_STATUS_DESCS + 1)
        let maxd := u.fld (Reg.CH_CTRL c) Fld.CH_CTRL_MAXDESC
        let done (v : State) (x : Nat) : Prop := busy v = false ∧ result v = x ∧ bit (v.num Reg.DMA_DONE) c = true ∧ v.chan c = dma0 c
        (r ≠ 0 → ∃ v : State, exec (.dmaDescriptorComplete t c) s = .next (v.settle s) ∧ done v r ∧ bit (v.num Reg.DMA_ERR) c = true) ∧
        (r = 0 → (u.chan c).stop = true → ∃ v : State, exec (.dmaDescriptorComplete t c) s = .next (v.settle s) ∧ done v 7 ∧ v.fld st Fld.CH_STATUS_DESCS = descs) ∧
        (r = 0 → (u.chan c).stop = false → u.dscLast c = true → ∃ v : State, exec (.dmaDescriptorComplete t c) s = .next (v.settle s) ∧ done v 0 ∧
          v.fld st Fld.CH_STATUS_DESCS = descs ∧ v.reg Reg.DMA_ERR = u.reg Reg.DMA_ERR) ∧
        (r = 0 → (u.chan c).stop = false → u.dscLast c = false → maxd ≠ 0 → maxd ≤ u.fld st Fld.CH_STATUS_DESCS + 1 →
          ∃ v : State, exec (.dmaDescriptorComplete t c) s = .next (v.settle s) ∧ done v 4) ∧
        (r = 0 → (u.chan c).stop = false → u.dscLast c = false → (maxd = 0 ∨ u.fld st Fld.CH_STATUS_DESCS + 1 < maxd) → let off := u.dsc c 8
          (off % 16 ≠ 0 ∨ 0x3000000 ≤ off → ∃ v : State, exec (.dmaDescriptorComplete t c) s = .next (v.settle s) ∧ done v 6) ∧
          (off % 16 = 0 → off < 0x3000000 → descOk (u.sramDesc off) = true → ∃ v : State, exec (.dmaDescriptorComplete t c) s = .next (v.settle s) ∧ busy v = true ∧
            v.num (Reg.CH_CURDESC c) = off ∧ v.fld st Fld.CH_STATUS_DESCS = descs ∧ ∀ i, i < 10 → v.dsc c i = ofLeBytes (readBytes u.sram (off + 4 * i) 4)))) ∧
      (c < 28 → (u.chan c).fin = some 0 → spaceOf (u.dscDst c) < 2 → (u.chan c).stop = false → isSealed u = true → ∃ v : State,
        exec (.dmaDescriptorComplete t c) s = .next (v.settle s) ∧ busy v = true ∧ isSealed v = false ∧ v.num (Reg.CH_CURDESC c) = 0xFFFFFFFF ∧
        (u.dscLast c = false → v.flag st Fld.CH_STATUS_CHAINCUT = true) ∧ ∀ i, i < 10 → v.reg (dscReg c i) = u.stagedWord (dscReg c i))) ∧
    (u.reaches p = true → u.flag Reg.DMA_CTRL Fld.DMA_CTRL_EN = true → let x := setBits w Fld.DMA_CTRL_EN 0
      u.performs Reg.DMA_CTRL x = true → ∃ v : State, exec (.dmaDisable t p w) s = .next (v.settle s) ∧ busy v = false ∧ isSealed v = false ∧ result v = 8 ∧
        v.cropReqs = [] ∧ v.flag Reg.DMA_CTRL Fld.DMA_CTRL_EN = false)

/-- What the DMA operations do to memory (R335, R338, R339): run from its start on memory spaces, with room for a burst in the buffer, COPY and GATHER leave every destination byte equal to its source byte and FILL equal to its place
in the pattern, and nothing else in memory changes; COMPARE changes none and ends EQUAL, or DIFFERENT at the first difference. -/
def Obligations.DmaMovesBytes : Prop :=
  ∀ (s : State) (t c : Nat), c < 28 → let u := s.advanceTo t
    let h := u.chan c
    let n := u.dscTotal c
    let ss := spaceOf (u.dscSrc c)
    let ds := spaceOf (u.dscDst c)
    let src (i : Nat) : Byte := Store.get (fun _ => 0) (u.srcAt c i).toNat (u.memOf ss)
    let dst (v : State) (i : Nat) : Byte := Store.get (fun _ => 0) (u.dstAt c i).toNat (v.memOf ds)
    let runs := u.mode.active && u.flag (Reg.CH_STATUS c) Fld.CH_STATUS_BUSY && u.flag Reg.DMA_CTRL Fld.DMA_CTRL_EN
    let fresh := h.pos = 0 ∧ h.bursts = [] ∧ h.waiting = false ∧ h.fin = none ∧ h.abort = false
    let dstIn := ds < 2 ∧ ∀ i, i < n → 0 ≤ u.dstAt c i ∧ u.dstAt c i < spaceEnd ds
    let srcIn := ss < 2 ∧ ∀ i, i < n → 0 ≤ u.srcAt c i ∧ u.srcAt c i < spaceEnd ss
    let apart := ∀ i j, i < n → j < n → (u.dstAt c i = u.dstAt c j → i = j) ∧ (ss = ds → u.srcAt c i ≠ u.dstAt c j)
    let elsewhere (v : State) : Prop := ∀ sp a : Nat, sp < 2 → (∀ i, i < n → sp = ds → u.dstAt c i ≠ (a : Int)) →
      Store.get (fun _ => 0) a (v.memOf sp) = Store.get (fun _ => 0) a (u.memOf sp)
    let ended (v : State) : Prop := (v.chan c).fin = some 0 ∧ (0 < n → v.num (Reg.CH_DONEB c) = n % 2 ^ 32) ∧ elsewhere v
    let room := ((List.range 28).flatMap fun i => (u.chan i).bursts.map fun b => b.2.1).sum + u.burstBytes c ≤ 0x40000
    runs = true → fresh → dstIn → u.hasSpace c = true → room →
    (u.dscOp c = 1 → srcIn → apart → ∃ v : State, exec (.copy t c) s = .next (v.settle s) ∧ ended v ∧ ∀ i, i < n → dst v i = src i) ∧
    (u.dscOp c = 2 → srcIn → apart → ∃ v : State, exec (.gather t c) s = .next (v.settle s) ∧ ended v ∧ ∀ i, i < n → dst v i = src i) ∧
    (u.dscOp c = 3 → (∀ i j, i < n → j < n → u.dstAt c i = u.dstAt c j → i = j) → ∃ v : State, exec (.fill t c) s = .next (v.settle s) ∧ ended v ∧
      ∀ i, i < n → dst v i = BitVec.ofNat 8 (u.dsc c 9 / 256 ^ (i % u.dscLen c % 4))) ∧
    (u.dscOp c = 4 → srcIn → ∃ v : State, exec (.compare t c) s = .next (v.settle s) ∧ v.ram = u.ram ∧ v.sram = u.sram ∧
      ((∀ i, i < n → src i = dst u i) → (v.chan c).fin = some 0) ∧
      (∀ k, k < n → src k ≠ dst u k → (∀ i, i < k → src i = dst u i) →
        (v.chan c).fin = some 1 ∧ v.num (Reg.CH_MISS c) = k % 2 ^ 32 ∧ v.num (Reg.CH_DONEB c) = k % 2 ^ 32))
/-! ### Queues -/

/-- The register port of a queue and its commands (R353 to R357, R366): a read takes the packet at S word by word and the last word takes the packet; a write joins the open
packet, or discards it where no unit is free; WEOP commits it at W; a flush of an ordinary queue is pending and, when it may, discards all packets and counts them, and a
privileged queue refuses it; and PEAKCLR starts the peak and the drop count afresh. -/
def Obligations.QueuePorts : Prop :=
  ∀ (s : State) (t q : Nat) (p : Path) (w : Word), q < 64 → let u := s.advanceTo t
    let h := u.queue q
    let dropped (v : State) : Prop := v.num (Reg.Q_DROP q) = min 0xFFFFFFFF (u.num (Reg.Q_DROP q) + 1)
    let cmd (b : Nat) : Bool := u.reaches p && u.performs (Reg.Q_CMD q) (withBits w b)
    (u.reaches p = true → u.readable (Reg.Q_RDATA q) = true → u.mode ≠ .frozen → q < 48 →
      (u.qHead q = none → ∃ v : State, exec (.qRdataRead t p q) s = .next (v.settle s) ∧ v.out = .readWord (Reg.Q_RDATA q) h.lastRead :: u.out ∧
        v.flag (Reg.Q_STATUS q) Fld.Q_STATUS_UNDERRUN = true ∧ u.Keeps [.out] (theRegs [Reg.Q_STATUS q]) v) ∧
      (∀ k, u.qHead q = some k → let x : Word := BitVec.ofNat 32 (ofLeBytes (((u.qHeadBytes q).drop h.part).take 4))
        ∃ v : State, exec (.qRdataRead t p q) s = .next (v.settle s) ∧ v.out = .readWord (Reg.Q_RDATA q) x :: u.out ∧ (v.queue q).lastRead = x ∧
          (h.part + 4 < k.len → (v.queue q).part = h.part + 4 ∧ (v.queue q).packets = h.packets ∧ v.reg (Reg.Q_RPTR q) = u.reg (Reg.Q_RPTR q)) ∧
          (k.len ≤ h.part + 4 → (v.queue q).part = 0 ∧ (v.queue q).packets = h.packets.eraseIdx h.sent ∧
            v.num (Reg.Q_RPTR q) = advance (u.qSize q) (u.num (Reg.Q_RPTR q)) (unitsOf k.len)))) ∧
    (u.reaches p = true → u.readable (Reg.Q_RDATA q) = true → 48 ≤ q ∨ u.mode = .frozen → ∃ v : State, exec (.qRdataRead t p q) s = .next (v.settle s) ∧
      v.out = .readWord (Reg.Q_RDATA q) 0 :: u.out ∧ u.Keeps [.out] noReg v) ∧
    (u.reaches p = true → u.performs (Reg.Q_WDATA q) w = true → let x := h.port ++ leBytes 4 w.toNat
      (unitsOf x.length ≤ u.qFree q + unitsOf h.port.length → ∃ v : State, exec (.qWdataWrite t p q w) s = .next (v.settle s) ∧ v.queue q = { h with port := x } ∧
        u.Keeps [.queues, .shadow] (theRegs [Reg.Q_WDATA q]) v) ∧
      (u.qFree q + unitsOf h.port.length < unitsOf x.length → ∃ v : State, exec (.qWdataWrite t p q w) s = .next (v.settle s) ∧ v.queue q = { h with port := [] } ∧ dropped v)) ∧
    (cmd 32 = true → w.toNat % 32 = 0 → portWrites q = true →
      (h.port = [] → ∃ v : State, exec (.weop t p q w) s = .next (v.settle s) ∧ v.queues = u.queues ∧ v.sram = u.sram) ∧
      (h.port ≠ [] → ∃ v : State, exec (.weop t p q w) s = .next (v.settle s) ∧ (v.queue q).packets = h.packets ++ [⟨h.port.length, 0, 0, none, none, false⟩] ∧
        (v.queue q).port = [] ∧ v.sram = (u.ringWrite q (ptrIndex (u.num (Reg.Q_WPTR q))) h.port).sram ∧
        v.num (Reg.Q_WPTR q) = advance (u.qSize q) (u.num (Reg.Q_WPTR q)) (unitsOf h.port.length) ∧ v.qOcc q = u.qOcc q + unitsOf h.port.length)) ∧
    (cmd 32 = true → w.toNat % 32 = 0 → portWrites q = false → ∃ v : State, exec (.weop t p q w) s = .next (v.settle s) ∧ v.queues = u.queues ∧ v.sram = u.sram) ∧
    (cmd 1 = true → w.toNat / 2 % 32 = 0 →
      (isPriv q = false → ∃ v : State, exec (.flush t p q w) s = .next (v.settle s) ∧ v.flag (Reg.Q_STATUS q) Fld.Q_STATUS_FLUSHPEND = true ∧ v.queues = u.queues) ∧
      (isPriv q = true → ∃ v : State, exec (.flush t p q w) s = .next (v.settle s) ∧ dropped v ∧ v.queues = u.queues)) ∧
    (u.mode.active = true → u.flushMay q = true → ∃ v : State, exec (.flushApply t q) s = .next (v.settle s) ∧ (v.queue q).packets = [] ∧ (v.queue q).sent = 0 ∧
      v.reg (Reg.Q_RPTR q) = u.reg (Reg.Q_WPTR q) ∧ v.reg (Reg.Q_FPTR q) = u.reg (Reg.Q_WPTR q) ∧ v.flag (Reg.Q_STATUS q) Fld.Q_STATUS_FLUSHPEND = false ∧
      v.num (Reg.Q_DROP q) = min 0xFFFFFFFF (u.num (Reg.Q_DROP q) + h.packets.length)) ∧
    (u.flushMay q = false → exec (.flushApply t q) s = .next (u.settle s)) ∧
    (cmd 16 = true → w.toNat % 16 = 0 → bit w.toNat 5 = false → ∃ v : State, exec (.peakclr t p q w) s = .next (v.settle s) ∧ v.num (Reg.Q_DROP q) = 0 ∧
      v.fld (Reg.Q_PEAK q) Fld.Q_PEAK_V = u.qOcc q % 2 ^ 20 ∧ v.queues = u.queues)

/-- Privileged queues (R359 to R361): BOOKMARK marks S; REWIND and REWFREE take effect at a packet boundary, moving S back to the bookmark, or to F, so that the
packets from there on are taken again; and a release takes off the sent packets up to its key, moves F past them, and counts a key beyond the last taken. -/
def Obligations.PrivilegedQueues : Prop :=
  ∀ (s : State) (t q : Nat) (p : Path) (w lo hi : Word), 59 ≤ q → q < 64 → let u := s.advanceTo t
    let h := u.queue q
    let cmd (b : Nat) : Bool := u.reaches p && u.performs (Reg.Q_CMD q) (withBits w b)
    (cmd 2 = true → w.toNat % 2 = 0 → w.toNat / 4 % 16 = 0 → ∃ v : State, exec (.bookmark t p q w) s = .next (v.settle s) ∧ v.queue q = { h with bm := some h.sent } ∧
      v.fld (Reg.Q_BMPTR q) Fld.Q_BMPTR_PTR = u.num (Reg.Q_RPTR q) % 2 ^ 20 ∧ v.flag (Reg.Q_BMPTR q) Fld.Q_BMPTR_BMVALID = true) ∧
    (cmd 4 = true → w.toNat % 4 = 0 → w.toNat / 8 % 8 = 0 → ∃ v : State, exec (.rewind t p q w) s = .next (v.settle s) ∧
      v.queue q = { h with rewind := some (decide (h.rewind = some true)) }) ∧
    (cmd 8 = true → w.toNat % 8 = 0 → w.toNat / 16 % 4 = 0 → ∃ v : State, exec (.rewfree t p q w) s = .next (v.settle s) ∧ v.queue q = { h with rewind := some true }) ∧
    (∀ free, u.mode.active = true → h.rewind = some free → h.part = 0 → let back := if free = true ∨ h.bm = none then 0 else min (h.bm.getD 0) h.sent
      ∃ v : State, exec (.rewindApply t q) s = .next (v.settle s) ∧ (v.queue q).sent = back ∧ (v.queue q).bm = none ∧ (v.queue q).rewind = none ∧
        (v.queue q).packets.map QPacket.len = h.packets.map QPacket.len ∧
        (∀ i k, back ≤ i → i < h.sent → h.packets[i]? = some k → (v.queue q).packets[i]? = some { k with again := true }) ∧
        (∀ i, i < back ∨ h.sent ≤ i → (v.queue q).packets[i]? = h.packets[i]?) ∧
        v.num (Reg.Q_RPTR q) = (if free = true ∨ h.bm = none then u.num (Reg.Q_FPTR q) else u.fld (Reg.Q_BMPTR q) Fld.Q_BMPTR_PTR) ∧
        v.flag (Reg.Q_BMPTR q) Fld.Q_BMPTR_BMVALID = false ∧ v.num (Reg.PQ_REWINDS (q - 59)) = min 0xFFFFFFFF (u.num (Reg.PQ_REWINDS (q - 59)) + 1)) ∧
    (u.reaches p = true → u.performs (Reg.PQ_RELEASE_HI (q - 59)) hi = true → u.performs (Reg.PQ_RELEASE_LO (q - 59)) lo = true →
      let n := lo.toNat + hi.toNat % 2 ^ 16 * 2 ^ 32
      let r := (h.packets.take h.sent).takeWhile fun k => decide (k.key ≤ n)
      (n ≤ u.get64 (Reg.PQ_RELKEY_LO (q - 59)) → ∃ v : State, exec (.pqRelease t p q lo hi) s = .next (v.settle s) ∧ v.queues = u.queues ∧
        v.get64 (Reg.PQ_RELKEY_LO (q - 59)) = u.get64 (Reg.PQ_RELKEY_LO (q - 59))) ∧
      (u.get64 (Reg.PQ_RELKEY_LO (q - 59)) < n → ∃ v : State, exec (.pqRelease t p q lo hi) s = .next (v.settle s) ∧ (v.queue q).packets = h.packets.drop r.length ∧
        (v.queue q).sent = h.sent - r.length ∧ v.get64 (Reg.PQ_RELKEY_LO (q - 59)) = n ∧
        v.num (Reg.Q_FPTR q) = advance (u.qSize q) (u.num (Reg.Q_FPTR q)) (unitsOfAll r) ∧
        v.num (Reg.PQ_BEYOND (q - 59)) = (if h.lastTaken < n then min 0xFFFFFFFF (u.num (Reg.PQ_BEYOND (q - 59)) + 1) else u.num (Reg.PQ_BEYOND (q - 59))) ∧
        (∀ b, h.bm = some b → (v.queue q).bm = if r.length ≤ b then some (b - r.length) else none)))
/-! ### Host ports -/

/-- Sub-port links and the frames the module answers or passes (R369, R370, R372, R373, R375, R413): a link that comes up or goes is shown, noted and, where the sub-port carries a
guaranteed queue, a breach when it goes; ARP, echo and neighbour requests for one of its addresses are answered and any others counted; a discarded frame counts by its reason; and a frame to
be forwarded waits for the other port within 256 KiB, unless it is a Pdelay message. -/
def Obligations.HostLinks : Prop :=
  ∀ (s : State) (t ps : Nat), ps < 8 → let u := s.advanceTo t
    let port := ps / 4
    let sub := ps % 4
    let cnt (i : Nat) : Nat := Reg.SP_CNT port i sub
    let counted (v : State) (i : Nat) : Prop := v.num (cnt i) = min 0xFFFFFFFF (u.num (cnt i) + 1)
    let replied (v : State) (b : List Byte) : Prop := v.replyList ps = u.replyList ps ++ [b] ∧ counted v 0 ∧ u.Keeps [.host] (theRegs [cnt 0]) v
    let ignored (v : State) : Prop := v.replyList ps = u.replyList ps ∧ counted v 0 ∧ counted v 3 ∧ u.Keeps [] (theRegs [cnt 0, cnt 3]) v
    u.mode.active = true → u.hasSub ps = true →
    (u.subLink ps = false → ∃ v : State, exec (.subportLinkUp t ps) s = .next (v.settle s) ∧ v.subLink ps = true ∧ v.flag (Reg.HOST_STATUS port) ⟨4 + sub, 1⟩ = false ∧
      v.flag (Reg.HOST_EVT port) ⟨sub, 1⟩ = true ∧ v.flag Reg.TWI_SUM Fld.TWI_SUM_LINKUP = true ∧ v.flag Reg.OHT_ATTN ⟨5, 1⟩ = true ∧ v.err = u.err) ∧
    (∀ hser, u.subLink ps = true → ∃ v : State, exec (.subportLinkDown t ps hser) s = .next (v.settle s) ∧ v.subLink ps = false ∧
      v.flag (Reg.HOST_STATUS port) ⟨4 + sub, 1⟩ = hser ∧ v.flag (Reg.HOST_EVT port) ⟨sub + 4, 1⟩ = true ∧ v.flag Reg.OHT_ATTN ⟨5, 1⟩ = true ∧
      v.err.breaches = (if u.carries ps && !u.standbyRole && u.mode == .inspecting then u.err.breaches ++ [⟨11, ps, none, true, u.now⟩] else u.err.breaches)) ∧
    (∀ (f : RxFrame) (mac ip target : Nat), u.accepts ps f [broadcastMac] = true → f.len ≤ u.mtuOf ps →
      (target = u.ip4Of ps → target ≠ 0 → ∃ v : State, exec (.arpRequest t ps f mac ip target) s = .next (v.settle s) ∧
        replied v (u.ethFrame ps mac 0x0806 (beBytes 2 1 ++ beBytes 2 0x0800 ++ [6, 4] ++ beBytes 2 2
          ++ leBytes 6 (u.macOf ps) ++ leBytes 4 target ++ leBytes 6 mac ++ leBytes 4 ip))) ∧
      (target ≠ u.ip4Of ps ∨ target = 0 → ∃ v : State, exec (.arpRequest t ps f mac ip target) s = .next (v.settle s) ∧ ignored v)) ∧
    (∀ (f : RxFrame) (mac src dst ident : Nat) (data : List Byte), u.accepts ps f [] = true → f.len ≤ u.mtuOf ps →
      (dst = u.ip4Of ps → dst ≠ 0 → data.length ≤ 1472 → let msg (c : Nat) : List Byte := [0, 0] ++ beBytes 2 c ++ beBytes 4 ident ++ data
        ∃ v : State, exec (.icmpEchoRequest t ps f mac src dst ident data) s = .next (v.settle s) ∧
          replied v (u.ethFrame ps mac 0x0800 (ip4Header 0 (28 + data.length) (u.hopOf ps) 1 dst src ++ msg (inetSum (msg 0))))) ∧
      (dst ≠ u.ip4Of ps → ∃ v : State, exec (.icmpEchoRequest t ps f mac src dst ident data) s = .next (v.settle s) ∧ ignored v) ∧
      (dst ∈ u.ip6All ps → data.length ≤ 1452 → let msg (c : Nat) : List Byte := [129, 0] ++ beBytes 2 c ++ beBytes 4 ident ++ data
        let pseudo := leBytes 16 dst ++ leBytes 16 src ++ beBytes 4 (8 + data.length) ++ beBytes 4 58
        ∃ v : State, exec (.icmpv6EchoRequest t ps f mac src dst ident data) s = .next (v.settle s) ∧
          replied v (u.ethFrame ps mac 0x86DD (ip6Header 0 (8 + data.length) (u.hopOf ps) 58 dst src ++ msg (inetSum (pseudo ++ msg 0))))) ∧
      (dst ∉ u.ip6All ps → ∃ v : State, exec (.icmpv6EchoRequest t ps f mac src dst ident data) s = .next (v.settle s) ∧ ignored v)) ∧
    (∀ (f : RxFrame) (mac src target : Nat), u.accepts ps f (u.solicitedMacs ps) = true → f.len ≤ u.mtuOf ps →
      (target ∈ u.ip6All ps → let msg (c : Nat) : List Byte := [136, 0] ++ beBytes 2 c ++ beBytes 4 0x60000000 ++ leBytes 16 target ++ [2, 1] ++ leBytes 6 (u.macOf ps)
        let pseudo := leBytes 16 target ++ leBytes 16 src ++ beBytes 4 32 ++ beBytes 4 58
        ∃ v : State, exec (.neighbourSolicitation t ps f mac src target) s = .next (v.settle s) ∧
          replied v (u.ethFrame ps mac 0x86DD (ip6Header 0 32 (u.hopOf ps) 58 target src ++ msg (inetSum (pseudo ++ msg 0))))) ∧
      (target ∉ u.ip6All ps → ∃ v : State, exec (.neighbourSolicitation t ps f mac src target) s = .next (v.settle s) ∧ ignored v)) ∧
    (∀ f : RxFrame, u.subLink ps = true → let others := broadcastMac :: u.solicitedMacs ps ++ ptpMacs
      (∃ v : State, exec (.frameDiscard t ps f .fcs) s = .next (v.settle s) ∧ counted v 2 ∧ u.Keeps [] (theRegs [cnt 2]) v) ∧
      (∃ v : State, exec (.frameDiscard t ps f .macControl) s = .next (v.settle s) ∧ counted v 4 ∧ u.Keeps [] (theRegs [cnt 4]) v) ∧
      (u.accepts ps f others = false → exec (.frameDiscard t ps f .other) s = .next (u.settle s)) ∧
      (u.accepts ps f others = true → u.mtuOf ps < f.len → ∃ v : State, exec (.frameDiscard t ps f .other) s = .next (v.settle s) ∧ counted v 3 ∧ u.Keeps [] (theRegs [cnt 3]) v) ∧
      (u.accepts ps f others = true → f.len ≤ u.mtuOf ps → ∃ v : State, exec (.frameDiscard t ps f .other) s = .next (v.settle s) ∧ ignored v) ∧
      (u.accepts ps f ptpMacs = true → f.len ≤ u.mtuOf ps → ∃ v : State, exec (.frameDiscard t ps f .ptp) s = .next (v.settle s) ∧ counted v 0 ∧
        v.num (Reg.TIME_CNT 2) = min 0xFFFFFFFF (u.num (Reg.TIME_CNT 2) + 1) ∧ u.Keeps [] (theRegs [cnt 0, Reg.TIME_CNT 2]) v) ∧
      (u.accepts ps f [] = true → f.len ≤ u.mtuOf ps → ∃ v : State, exec (.frameDiscard t ps f .badDatagram) s = .next (v.settle s) ∧
        (u.flag Reg.OHT_CTRL Fld.OHT_CTRL_EN = true → counted v 0 ∧ v.num (Reg.OHT_CNT 3) = min 0xFFFFFFFF (u.num (Reg.OHT_CNT 3) + 1)) ∧
        (u.flag Reg.OHT_CTRL Fld.OHT_CTRL_EN = false → ignored v)) ∧
      (∀ h op flags, exec (.frameDiscard t ps f (.badOp h op flags)) s = .next ((u.request h (.unknown op flags)).settle s))) ∧
    (∀ f : FwdFrame, sub = 0 → u.forwards = true → u.subLink ps = true → isGroup f.dst = true ∨ f.dst ≠ u.macOf ps →
      let other := 4 * (1 - port)
      (isPdelay f = true → exec (.frameForward t port f) s = .next (u.settle s)) ∧
      (isPdelay f = false →
            (((u.forwardList other).map fun x => x.1.bytes.length).sum + f.bytes.length ≤ 2 ^ 18 → ∃ v : State, exec (.frameForward t port f) s = .next (v.settle s) ∧
        v.forwardList other = u.forwardList other ++ [(f, u.ingress ps, u.now + (f.bytes.length + 4) * u.bytePs ps)] ∧ u.Keeps [.host] noReg v) ∧
      (2 ^ 18 < ((u.forwardList other).map fun x => x.1.bytes.length).sum + f.bytes.length → ∃ v : State, exec (.frameForward t port f) s = .next (v.settle s) ∧
        counted v 5 ∧ u.Keeps [] (theRegs [cnt 5]) v)))

/-- Requests of the control channel (R379 to R385): without a session NOSESSION answers; a request outside the window is answered from the cache, or STALE; the expected request of
an idle session is performed; a read answers the word, or 0 with ADDR; a write performs its words; IDENT names the module; a block write fills memory and a block
read sends its chunks; and COMMIT starts accession or is answered with STATE. -/
def Obligations.ControlRequests : Prop :=
  ∀ (s : State) (t : Nat) (h : OhtRx), let u := s.advanceTo t
    let ps := 4 * h.port + h.sub
    let x := u.subCount ps 0
    let node := u.flag Reg.SYS_NODE Fld.SYS_NODE_NLOCK = true → h.node % 2 ^ 14 = u.fld Reg.SYS_NODE Fld.SYS_NODE_NODE_ID
    u.accepts ps h.frame [] = true → h.frame.len ≤ u.mtuOf ps → u.flag Reg.OHT_CTRL Fld.OHT_CTRL_EN = true → node → h.port < 2 → h.sub < 4 →
    (∀ fixed addr count words mask value len bytes, ∀ row ∈ ([(.read t h fixed addr count, .read fixed addr count), (.write t h fixed addr count words, .write fixed addr count words),
        (.modify t h addr mask value, .modify addr mask value), (.blkread t h addr len, .blkread addr len), (.blkwrite t h addr len bytes, .blkwrite addr len bytes),
        (.ohtCommit t h, .commit), (.ident t h, .ident)] : List (Instr × OhtOp)),
      (bit h.flags 0 = false → u.sessionOf h.sender = none → ∃ v : State, exec row.1 s = .next (v.settle s) ∧
        v.controlList ps = u.controlList ps ++ [u.udpFrame ps h.sender 0 48610 (u.response h.seq 4 row.2 [])] ∧ x.Keeps [.host] noReg v) ∧
      (∀ i e, bit h.flags 0 = false → i < 4 → u.sessionOf h.sender = some i → u.session i = some e → h.seq < 2 ^ 32 → e.expected < 2 ^ 32 →
        (e.busy = none → e.held = [] → h.seq = e.expected → u.host.block = none → let r : HeldReq := ⟨h.seq, u.now, ps, h.sender.mac, row.2⟩
          ∃ y : State, exec row.1 s = .next ((State.runSession i 16 (y.perform i e.peer r)).settle s) ∧
            y.session i = some { e with expected := (e.expected + 1) % 2 ^ 32, busy := some r, lastUsed := u.now } ∧ x.Keeps [.host] (theRegs [Reg.OHT_SESS i]) y) ∧
        ((∀ r, e.busy = some r → r.seq ≠ h.seq) → 16 ≤ (h.seq + 2 ^ 32 - e.expected) % 2 ^ 32 → (∀ k ∈ e.cache, k.1 ≠ h.seq) → ∃ v : State, exec row.1 s = .next (v.settle s) ∧
          v.controlList ps = u.controlList ps ++ [u.udpFrame ps h.sender 0 48610 (u.response h.seq 3 row.2 [])] ∧
          v.num (Reg.OHT_CNT 2) = min 0xFFFFFFFF (u.num (Reg.OHT_CNT 2) + 1)) ∧
        (∀ b, e.busy = none → 16 ≤ (h.seq + 2 ^ 32 - e.expected) % 2 ^ 32 → e.cache.find? (fun k => decide (k.1 = h.seq)) = some (h.seq, b) →
          ∃ v : State, exec row.1 s = .next (v.settle s) ∧ v.controlList ps = u.controlList ps ++ [u.udpFrame ps h.sender 0 48610 b] ∧
            v.num (Reg.OHT_CNT 1) = min 0xFFFFFFFF (u.num (Reg.OHT_CNT 1) + 1)))) ∧
    -- what a request does when it is performed
    (∀ (y : State) (i : Nat) (e : Session) (r : HeldReq), i < 4 → y.session i = some e → e.busy = some r → y.mode.active = true →
      let sends (v : State) (status : Nat) (b : List Byte) : Prop :=
        v.controlList r.ps = y.controlList r.ps ++ [y.udpFrame r.ps { e.peer with mac := r.mac } 0 48610 (y.response r.seq status r.op b)] ∧
          (v.session i).map Session.busy = some none ∧ v.num (Reg.OHT_CNT 0) = min 0xFFFFFFFF (y.num (Reg.OHT_CNT 0) + 1)
      (∀ fixed a, r.op = .read fixed a 1 → a < 2 ^ 24 → y.readable a = true → stepsOnRead a = false →
        sends (y.perform i e.peer r) 0 (leBytes 4 (y.readNow (.oht i) a).1.toNat)) ∧
      (∀ fixed a, r.op = .read fixed a 1 → a < 2 ^ 24 → y.readable a = false → sends (y.perform i e.peer r) 1 [0, 0, 0, 0]) ∧
      (∀ fixed a w, r.op = .write fixed a 1 [w] → a < 2 ^ 24 → let z := y.busWrite (.oht i) a w
        y.perform i e.peer r = z.2.answerWrites y i (if z.1 then 1 else 0) []) ∧
      (∀ a mask value, r.op = .modify a mask value → a < 2 ^ 24 → y.readable a = false → sends (y.perform i e.peer r) 1 [0, 0, 0, 0]) ∧
      (∀ a mask value, r.op = .modify a mask value → a < 2 ^ 24 → y.readable a = true → let old := y.readNow (.oht i) a
        let z := old.2.busWrite (.oht i) a ((old.1 &&& ~~~mask) ||| (value &&& mask))
        y.perform i e.peer r = z.2.answerWrites old.2 i (if z.1 then 1 else 0) (leBytes 4 old.1.toNat)) ∧
      (r.op = .ident → sends (y.perform i e.peer r) 0 (leBytes 4 (y.num Reg.SYS_ID) ++ leBytes 4 (y.fld Reg.SYS_NODE Fld.SYS_NODE_NODE_ID))) ∧
      (∀ addr len bytes, r.op = .blkwrite addr len bytes → 1 ≤ len → len ≤ y.chunk r.ps → bytes.length = len → blockInSpace addr len = true →
        (y.mode = .inspecting → y.protects (addr / 2 ^ 36) (addr % 2 ^ 36 : Nat) len = false) →
        let v := y.perform i e.peer r
        v.memOf (addr / 2 ^ 36) = writeBytes (y.memOf (addr / 2 ^ 36)) (addr % 2 ^ 36) bytes ∧ v.memOf (1 - addr / 2 ^ 36) = y.memOf (1 - addr / 2 ^ 36) ∧
          v.host.block = some ⟨i, r.seq, true, addr, len, 0⟩ ∧ y.Keeps [.ram, .sram, .host] noReg v) ∧
      (∀ addr len, r.op = .blkread addr len → 1 ≤ len → len < 2 ^ 24 → blockInSpace addr len = true → let v := y.perform i e.peer r
        (v.controlList r.ps).length = (y.controlList r.ps).length + (len + y.chunk r.ps - 1) / y.chunk r.ps ∧
          v.host.block = some ⟨i, r.seq, false, addr, len, 0⟩ ∧ y.Keeps [.host] noReg v) ∧
      (r.op = .commit → y.performs Reg.ACC_CTRL (withBits (y.reg Reg.ACC_CTRL) 1) = true → y.num Reg.ACC_CTRL / 2 % 8 = 0 → y.gathers = false →
        (y.fld Reg.ACC_STATUS Fld.ACC_STATUS_SSTATE = 0 → (y.perform i e.peer r).host.commit = some (i, r.seq) ∧
          (y.perform i e.peer r).fld Reg.ACC_STATUS Fld.ACC_STATUS_SSTATE = 1) ∧
        (2 ≤ y.fld Reg.ACC_STATUS Fld.ACC_STATUS_SSTATE → sends (y.perform i e.peer r) 2 [])))

/-- Holds, returns and what a sub-port sends (R361, R380, R384, R390, R391, R397, R398): requests held for 100 ms behind a gap go; a block transfer that ends is answered; a RETURN
releases through its key; a queue that nothing has released within RETX rewinds; an unreturned card older than ACC_RET is a breach; and at a frame boundary the first class that has a frame
ready sends one. -/
def Obligations.ReturnsAndArbitration : Prop :=
  ∀ (s : State) (t : Nat), let u := s.advanceTo t
    (∀ i e, i < 4 → u.session i = some e → ∃ v : State, exec (.requestHoldTimeout t i) s = .next (v.settle s) ∧
      v.session i = some { e with held := e.held.filter fun r => !(e.gapBefore r.seq && decide (r.at_ + 10 ^ 11 ≤ u.now)) } ∧
      u.Keeps [.host] (theRegs [Reg.OHT_SESS i]) v) ∧
    (∀ b : BlockXfer, u.host.block = some b → let z := { u with host := { u.host with block := none } }
      exec (.blockTransferComplete t) s = .next ((z.complete b.session b.status []).runSessions.settle s)) ∧
    (u.host.block = none → exec (.blockTransferComplete t) s = .next (u.settle s)) ∧
    (∀ (h : OhtRx) q key resend, q < 4 → h.port < 2 → h.sub < 4 → u.mode.active = true → u.accepts (4 * h.port + h.sub) h.frame [] = true → h.frame.len ≤ u.mtuOf (4 * h.port + h.sub) →
      u.flag Reg.OHT_CTRL Fld.OHT_CTRL_EN = true → (u.flag Reg.SYS_NODE Fld.SYS_NODE_NLOCK = true → h.node % 2 ^ 14 = u.fld Reg.SYS_NODE Fld.SYS_NODE_NODE_ID) →
      let k := u.queue (60 + q)
      let n := ((k.packets.take k.sent).takeWhile fun x => decide (x.key ≤ key)).length
      ∃ v : State, exec (.cardReturn t h q key resend) s = .next (v.settle s) ∧ v = (u.subCount (4 * h.port + h.sub) 0).applyReturn q key resend ∧
        v.num (Reg.OHT_CNT 4) = min 0xFFFFFFFF (u.num (Reg.OHT_CNT 4) + 1) ∧
        (u.get64 (Reg.PQ_RELKEY_LO (1 + q)) < key → key < 2 ^ 48 → v.get64 (Reg.PQ_RELKEY_LO (1 + q)) = key ∧
          (resend = false → (v.queue (60 + q)).packets = k.packets.drop n ∧ (v.queue (60 + q)).sent = k.sent - n)) ∧
        (key ≤ u.get64 (Reg.PQ_RELKEY_LO (1 + q)) → resend = false → v.queues = u.queues) ∧
        (resend = true → u.qInside (60 + q) = false → (v.queue (60 + q)).sent = 0)) ∧
    (∀ q k t0, q < 4 → u.mode.active = true → u.firstSent (60 + q) = some (k, t0) → let retx := u.fld (Reg.CQ_CFG q) Fld.CQ_CFG_RETX * 10 ^ 6
      (retx ≠ 0 → t0 + retx ≤ u.now → (u.queue (60 + q)).rewoundAt + retx ≤ u.now → u.qInside (60 + q) = false → ∃ v : State,
        exec (.automaticRewind t q) s = .next (v.settle s) ∧ (v.queue (60 + q)).sent = 0 ∧ (v.queue (60 + q)).rewoundAt = u.now ∧
        v.num (Reg.OHT_CNT 5) = min 0xFFFFFFFF (u.num (Reg.OHT_CNT 5) + 1)) ∧
      (retx = 0 ∨ u.now < t0 + retx ∨ u.now < (u.queue (60 + q)).rewoundAt + retx → exec (.automaticRewind t q) s = .next (u.settle s))) ∧
    (∀ q k t0, u.mode = .inspecting → let h := u.queue (60 + q)
      (h.packets.take h.sent).find? (fun p => decide (p.kind = 1)) = some k → k.sentAt = some t0 →
      (t0 + u.fld Reg.ACC_RET Fld.ACC_RET_RET * 10 ^ 6 < u.now → u.standbyRole = false → ∃ v : State, exec (.returnLate t q) s = .next (v.settle s) ∧
        v.err.breaches = u.err.breaches ++ [⟨10, q, none, true, u.now⟩] ∧ u.Keeps [.err] noReg v) ∧
      (u.now ≤ t0 + u.fld Reg.ACC_RET Fld.ACC_RET_RET * 10 ^ 6 → exec (.returnLate t q) s = .next (u.settle s))) ∧
    (∀ ps, u.hostRuns ps = true → u.hasSub ps = true → u.subLink ps = true → Store.get (fun _ => 0) ps u.host.busyUntil ≤ u.now →
      ((∀ c, 1 ≤ c → c ≤ 5 → u.readySources ps c = []) → exec (.portArbitration t ps) s = .next (u.settle s)) ∧
      (∀ c x, 1 ≤ c → c ≤ 5 → (∀ d, 1 ≤ d → d < c → u.chooseSource ps d = none) → u.chooseSource ps c = some x →
        exec (.portArbitration t ps) s = .next ((if c = 1 ∨ u.keepsLaunches (u.serve ps c x) ps = true then u.serve ps c x else u).settle s)) ∧
      (∀ x, u.chooseSource ps 1 = some x → exec (.timedLaunch t ps) s = .next ((u.serve ps 1 x).settle s)) ∧
      (u.chooseSource ps 1 = none → exec (.timedLaunch t ps) s = .next (u.settle s)) ∧
      (∀ c x, 2 ≤ c → u.chooseSource ps c = some x → x ∈ u.readySources ps c ∧
        (∀ y ∈ u.readySources ps c, Store.get (fun _ => 0) (8 * ps + c) u.host.turns ≤ y → Store.get (fun _ => 0) (8 * ps + c) u.host.turns ≤ x)) ∧
      (∀ b r, u.replyList ps = b :: r → ∃ v : State, v = u.serve ps 5 11 ∧ v.out = .frame (ps / 4) (ps % 4) u.now b :: u.out ∧ v.replyList ps = r ∧
        v.num (Reg.SP_CNT (ps / 4) 1 (ps % 4)) = min 0xFFFFFFFF (u.num (Reg.SP_CNT (ps / 4) 1 (ps % 4)) + 1) ∧
        Store.get (fun _ => 0) ps v.host.busyUntil = u.now + u.framePs ps b.length))
/-! ### Time -/

/-- The timekeeper (R407 to R410, R417, R419): SET and STEP wait for the end of the cycle in which they complete, take the new time outside Inspecting and are refused inside it or out of range; a source that stops delivering leads to HOLDOVER; a
second boundary and the rate of AOCLK are shown; and a seam exchange sends the time, is stamped, and ends in an offset and a delay, or is missed. A
delivered offset sets STATE by the lock condition, and the servo, whose law is not stated, keeps RATE within the slew limit. -/
def Obligations.Timekeeper : Prop :=
  ∀ (s : State) (t : Nat) (p : Path) (w : Word), let u := s.advanceTo t
    let queued (v : State) (i : EvrItem) : Prop := v.evrQ = u.evrQ ++ [⟨(u.now / 1000 + 1) * 1000, i⟩] ∧ u.Keeps [.evrQ, .shadow] (theRegs [Reg.TIME_CMD]) v
    (u.reaches p = true → u.performs Reg.TIME_CMD (withBits w 1) = true → bit w.toNat 1 = false → ∃ v : State, exec (.timeSet t p w) s = .next (v.settle s) ∧
      queued v (.setTime (u.get64 Reg.TIME_SET_SEC_LO % 2 ^ 48) (u.num Reg.TIME_SET_NS))) ∧
    (u.reaches p = true → u.performs Reg.TIME_CMD (withBits w 2) = true → bit w.toNat 0 = false → ∃ v : State, exec (.timeStep t p w) s = .next (v.settle s) ∧
      queued v (.stepTime (u.getS64 Reg.TIME_STEP_LO))) ∧
    -- the end of its cycle
    (∀ i, s.pending = [] → earliest s.evrQ = some i → let y := s.passTime (max s.now i.due)
      let refused (v : State) : Prop := v.num (Reg.TIME_CNT 6) = min 0xFFFFFFFF (y.num (Reg.TIME_CNT 6) + 1) ∧ v.t40 = y.t40 ∧ v.time = y.time
      let taken (v : State) (x : Nat) : Prop := v.t40 = x ∧ v.time = { y.time with second := secOf x } ∧ v.flag Reg.TIME_EVT ⟨3, 1⟩ = true ∧
        y.Keeps [.t40, .time_, .evrQ] (theRegs [Reg.TIME_EVT]) v
      (∀ sec ns, i.item = .setTime sec ns →
        (y.mode = .inspecting ∨ 10 ^ 9 ≤ ns → ∃ v : State, step s = .next (v.settle s) ∧ refused v) ∧
        (y.mode ≠ .inspecting → ns < 10 ^ 9 → ∃ v : State, step s = .next (v.settle s) ∧ taken v (sec * secondUnits + ns * 2 ^ 40))) ∧
      (∀ d : Int, i.item = .stepTime d → let new : Int := (y.t40 : Int) + d * (2 ^ 40 : Nat)
        let out := new < 0 ∨ ((2 ^ 48 * secondUnits : Nat) : Int) ≤ new
        (y.mode = .inspecting ∨ out → ∃ v : State, step s = .next (v.settle s) ∧ refused v) ∧
        (y.mode ≠ .inspecting → ¬ out → ∃ v : State, step s = .next (v.settle s) ∧ taken v new.toNat))) ∧
    (let st := u.fld Reg.TIME_STATUS Fld.TIME_STATUS_STATE
     u.mode.allOn = true →
      (u.timeSrc ≠ 0 → st = 1 ∨ st = 2 → u.sourceGone = true → ∃ v : State, exec (.timeHoldover t) s = .next (v.settle s) ∧
        v.fld Reg.TIME_STATUS Fld.TIME_STATUS_STATE = 3 ∧ v.time.lock = 0 ∧ v.flag Reg.TIME_EVT ⟨2, 1⟩ = true ∧ v.reg Reg.TIME_RATE = u.reg Reg.TIME_RATE) ∧
      (u.timeSrc = 0 ∨ u.sourceGone = false ∨ st = 0 ∨ st = 3 → exec (.timeHoldover t) s = .next (u.settle s)) ∧
      (∀ rate, u.pwr.refclk = true → u.flag Reg.PWR_CAUSE Fld.PWR_CAUSE_AOFALLBACK = false → ∃ v : State, exec (.aorateUpdate t rate) s = .next (v.settle s) ∧
        v.reg Reg.TIME_AORATE = rate ∧ u.Keeps [] (theRegs [Reg.TIME_AORATE]) v) ∧
      (∀ rate, u.pwr.refclk = false ∨ u.flag Reg.PWR_CAUSE Fld.PWR_CAUSE_AOFALLBACK = true → exec (.aorateUpdate t rate) s = .next (u.settle s))) ∧
    (u.mode.powered = true → (u.time.second < secOf u.t40 → ∃ v : State, exec (.secondBoundary t) s = .next (v.settle s) ∧
        v.time = { u.time with second := secOf u.t40 } ∧ v.flag Reg.TIME_EVT ⟨4, 1⟩ = true ∧ u.Keeps [.time_, .evrQ] (theRegs [Reg.TIME_EVT]) v) ∧
      (secOf u.t40 ≤ u.time.second → exec (.secondBoundary t) s = .next (u.settle s))) ∧
    (∀ m (d0 d1 : BitVec 48), u.mode.active = true → u.lstate m = 5 → u.linkReady m = true →
      let sent (x : Nat) : List Output := [.mgmt m x 1 (BitVec.ofNat 48 (nsOf u.t40 + u.t40 / 2 ^ 24 % 65536 * 2 ^ 32)), .mgmt m x 0 (BitVec.ofNat 48 (secOf u.t40))]
      (u.exchanges m = true → (∃ v : State, exec (.seamTimeExchange t m) s = .next (v.settle s) ∧ v.out = sent 11 ++ u.out ∧ u.Keeps [.links, .out] noReg v) ∧
        ∃ v : State, exec (.treq t m) s = .next (v.settle s) ∧ v.out = sent 13 ++ u.out ∧ u.Keeps [.links, .out] noReg v) ∧
      (u.exchanges m = false → exec (.seamTimeExchange t m) s = .next (u.settle s) ∧ exec (.treq t m) s = .next (u.settle s)) ∧
      (u.follows m = true → ∃ v : State, exec (.tsync t m d0 d1) s = .next (v.settle s) ∧ v.out = .mgmt m 12 0 0 :: u.out ∧
        v.time = { u.time with exch := some (partsTime d0 d1, u.stamp, u.stamp, u.now) } ∧ u.Keeps [.time_, .links, .out] noReg v) ∧
      (u.follows m = false → exec (.tsync t m d0 d1) s = .next (u.settle s)) ∧
      (∀ t1 t2 t3 at_, u.follows m = true → u.time.exch = some (t1, t2, t3, at_) → u.now ≤ at_ + 2 * 10 ^ 7 →
        let mean := Int.fdiv ((t2 - t1) + (partsTime d0 d1 - t3)) 2
        let offset := t2 - t1 - mean - signed 32 (u.num Reg.SEAMT_ASYM)
        let old := if u.fld Reg.TIME_STATUS Fld.TIME_STATUS_STATE = 3 then 0 else u.time.lock
        let lock := if offset.natAbs ≤ u.fld Reg.TIME_LOCK Fld.TIME_LOCK_LOCKTHR * 65536 then min 16 (old + 1) else 0
        ∃ v : State, exec (.tresp t m d0 d1) s = .next (v.settle s) ∧ v.time.exch = none ∧ v.num Reg.TIME_OFFSET = unsignedOf 32 (sat32 offset) ∧
          v.num Reg.TIME_PATHDLY = unsignedOf 32 (sat32 mean) ∧ v.time.lock = lock ∧ v.time.missed = 0 ∧
          v.fld Reg.TIME_STATUS Fld.TIME_STATUS_STATE = (if lock = 16 then 2 else 1) ∧ (signed 32 (v.num Reg.TIME_RATE)).natAbs ≤ u.num Reg.TIME_SLEWMAX) ∧
      (u.follows m = false ∨ u.time.exch = none → exec (.tresp t m d0 d1) s = .next (u.settle s))) ∧
    (∀ t1 t2 t3 at_, u.mode.active = true → u.time.exch = some (t1, t2, t3, at_) →
      (at_ + 2 * 10 ^ 7 ≤ u.now → ∃ v : State, exec (.trespTimeout t) s = .next (v.settle s) ∧ v.time = { u.time with exch := none, missed := u.time.missed + 1 } ∧
        v.num (Reg.TIME_CNT 3) = min 0xFFFFFFFF (u.num (Reg.TIME_CNT 3) + 1) ∧ u.Keeps [.time_] (theRegs [Reg.TIME_CNT 3]) v) ∧
      (u.now < at_ + 2 * 10 ^ 7 → exec (.trespTimeout t) s = .next (u.settle s)))

/-- The PTP port (R411 to R415): its messages count only on its sub-port, domain and transport; a Sync of the parent with its Follow_Up, and a Delay_Resp, measure offset and delay; a
master answers Delay_Req and every port Pdelay_Req; an Announce is noted and the port's state decided by the BMCA, which the model takes from IEEE 1588 (log 68); an interval sends
its message; and a master that is no longer heard is given up. -/
def Obligations.PtpPort : Prop :=
  ∀ (s : State) (t ps : Nat) (m : PtpMsg), let u := s.advanceTo t
    let t1 := ptpTime m
    let t2 := u.ingress ps
    let counted (v : State) (i : Nat) : Prop := v.num (Reg.TIME_CNT i) = min 0xFFFFFFFF (u.num (Reg.TIME_CNT i) + 1)
    let follower := u.time.parent = some (m.src, m.srcPort) ∧ (u.portState = 8 ∨ u.portState = 9)
    let mine := m.reqClock = u.clockId
    let p2p := u.flag Reg.PTP_CTRL Fld.PTP_CTRL_P2P
    let measured (v : State) (offset mean : Int) : Prop := v.portState = 9 ∧ v.num Reg.TIME_OFFSET = unsignedOf 32 (sat32 offset) ∧
      v.num Reg.TIME_PATHDLY = unsignedOf 32 (sat32 mean) ∧ (signed 32 (v.num Reg.TIME_RATE)).natAbs ≤ u.num Reg.TIME_SLEWMAX
    let queued (v : State) (x : PtpTx) : Prop := v.ptpList u.ptpPort = u.ptpList u.ptpPort ++ [x]
    u.mode.active = true →
    (u.hasSub ps = true → u.subLink ps = true →
      (u.ptpTakes ps m = false → ∀ d, ∀ c ∈ [Instr.sync t ps m, .followUp t ps m, .delayReq t ps m, .delayResp t ps m, .pdelayReq t ps m, .pdelayResp t ps m,
        .pdelayRespFollowUp t ps m, .announce t ps m d], exec c s = .next (u.settle s)) ∧
      (u.ptpTakes ps m = true →
        (¬ follower → ∃ v : State, exec (.sync t ps m) s = .next (v.settle s) ∧ counted v 0 ∧ u.Keeps [] (theRegs [Reg.TIME_CNT 0]) v) ∧
        (follower → m.twoStep = true → ∃ v : State, exec (.sync t ps m) s = .next (v.settle s) ∧ counted v 0 ∧
          v.time = { u.time with syncHalf := some (m.seq, t2, m.corr) } ∧ u.Keeps [.time_] (theRegs [Reg.TIME_CNT 0]) v) ∧
        (follower → m.twoStep = false → u.time.mean = none → ∃ v : State, exec (.sync t ps m) s = .next (v.settle s) ∧ counted v 0 ∧
          v.time = { u.time with sync := some (m.seq, t1, t2, m.corr), syncHalf := none, updateAt := some u.now } ∧ u.Keeps [.time_] (theRegs [Reg.TIME_CNT 0]) v) ∧
        (∀ mean, follower → m.twoStep = false → u.time.mean = some mean → ∃ v : State, exec (.sync t ps m) s = .next (v.settle s) ∧ counted v 0 ∧
          measured v (t2 - t1 - m.corr - mean - u.asym) mean) ∧
        (∀ k c mean, follower → u.time.syncHalf = some (m.seq, k, c) → u.time.mean = some mean → ∃ v : State, exec (.followUp t ps m) s = .next (v.settle s) ∧
          v.time.sync = some (m.seq, t1, k, c + m.corr) ∧ v.time.syncHalf = none ∧ measured v (k - t1 - (c + m.corr) - mean - u.asym) mean) ∧
        (∀ k c, follower → u.time.syncHalf = some (m.seq, k, c) → u.time.mean = none → ∃ v : State, exec (.followUp t ps m) s = .next (v.settle s) ∧
          v.time = { u.time with sync := some (m.seq, t1, k, c + m.corr), syncHalf := none, updateAt := some u.now } ∧ u.Keeps [.time_] noReg v) ∧
        (u.portState = 6 → ∃ v : State, exec (.delayReq t ps m) s = .next (v.settle s) ∧ queued v ⟨9, m.seq, t2, m.corr, m.src, m.srcPort⟩ ∧ u.Keeps [.host] noReg v) ∧
        (u.portState ≠ 6 → exec (.delayReq t ps m) s = .next (u.settle s)) ∧
        (∃ v : State, exec (.pdelayReq t ps m) s = .next (v.settle s) ∧ queued v ⟨3, m.seq, t2, m.corr, m.src, m.srcPort⟩ ∧ u.Keeps [.host] noReg v) ∧
        (∀ t3 k a b c, follower → mine → p2p = false → u.time.dreq = some (m.seq, t3) → u.time.sync = some (k, a, b, c) →
          let mean := Int.fdiv ((b - a - c) + (t1 - t3 - m.corr)) 2
          ∃ v : State, exec (.delayResp t ps m) s = .next (v.settle s) ∧ counted v 1 ∧ v.time.mean = some mean ∧ v.time.dreq = none ∧ measured v (b - a - c - mean - u.asym) mean) ∧
        (u.time.dreq = none → ∃ v : State, exec (.delayResp t ps m) s = .next (v.settle s) ∧ counted v 1 ∧ u.Keeps [] (theRegs [Reg.TIME_CNT 1]) v) ∧
        (∀ k, mine → p2p = true → u.time.dreq = some (m.seq, k) →
          (m.twoStep = true → ∃ v : State, exec (.pdelayResp t ps m) s = .next (v.settle s) ∧ counted v 1 ∧
            v.time = { u.time with pdelayHalf := some (m.seq, t1, t2, m.corr) } ∧ u.Keeps [.time_] (theRegs [Reg.TIME_CNT 1]) v) ∧
          (m.twoStep = false → ∃ v : State, exec (.pdelayResp t ps m) s = .next (v.settle s) ∧ counted v 1 ∧
            v.time = { u.time with mean := some (Int.fdiv (t2 - k - m.corr) 2), dreq := none, pdelayHalf := none } ∧ u.Keeps [.time_] (theRegs [Reg.TIME_CNT 1]) v)) ∧
        (∀ q k a b c, mine → u.time.dreq = some (q, k) → u.time.pdelayHalf = some (m.seq, a, b, c) → ∃ v : State, exec (.pdelayRespFollowUp t ps m) s = .next (v.settle s) ∧
          v.time = { u.time with mean := some (Int.fdiv ((b - k) - (t1 - a) - c - m.corr) 2), dreq := none, pdelayHalf := none } ∧ u.Keeps [.time_] noReg v) ∧
        (∀ d : PtpSet, m.src ≠ u.clockId → (∀ x ∈ u.time.masters, ¬(x.clock = m.src ∧ x.port = m.srcPort)) → ∃ x : State,
          exec (.announce t ps m d) s = .next (x.decidePort.settle s) ∧ x.time.masters = ⟨m.src, m.srcPort, d, u.now, 1⟩ :: u.time.masters ∧
          x.flag Reg.TIME_STATUS Fld.TIME_STATUS_UTCVALID = d.utcValid ∧ u.Keeps [.time_] (theRegs [Reg.TIME_STATUS]) x) ∧
        (∀ d : PtpSet, m.src = u.clockId → exec (.announce t ps m d) s = .next (u.settle s)))) ∧
    (∀ b, u.portState ≠ 3 → u.portState ≠ 0 → bestMaster u.qualified = some b → let role := u.fld Reg.PTP_CTRL Fld.PTP_CTRL_ROLE
      (ptpBetter u.ownSet b.set_ = true → u.decidePort.portState = (if role = 2 then 4 else 6) ∧ u.decidePort.time.parent = none) ∧
      (ptpBetter u.ownSet b.set_ = false → u.ownSet.cls ≤ 127 ∨ role = 1 ∨ u.timeSrc ≠ 1 → u.decidePort.portState = 7 ∧ u.decidePort.time.parent = none) ∧
      (ptpBetter u.ownSet b.set_ = false → 127 < u.ownSet.cls → role ≠ 1 → u.timeSrc = 1 → u.decidePort.time.parent = some (b.clock, b.port) ∧
        (u.time.parent ≠ some (b.clock, b.port) → u.decidePort.portState = 8 ∧ u.decidePort.time.mean = none))) ∧
    (∀ which, which < 3 → let kind := if which = 0 then 0 else if which = 1 then 0xB else if p2p then 2 else 1
      let due := if which < 2 then u.portState = 6 else if p2p then 4 ≤ u.portState else u.portState = 8 ∨ u.portState = 9
      let n := Store.get (fun _ => 0) kind u.time.seqs
      (due → ∃ v : State, exec (.ptpMessageInterval t which) s = .next (v.settle s) ∧ queued v ⟨kind, n, 0, 0, u.clockId, 1⟩ ∧
        Store.get (fun _ => 0) kind v.time.seqs = (n + 1) % 65536 ∧ u.Keeps [.host, .time_] noReg v) ∧
      (¬ due → exec (.ptpMessageInterval t which) s = .next (u.settle s))) ∧
    (let lost := (∀ x ∈ u.time.masters, x.at_ + u.announceTimeout ≤ u.now) ∧ 4 ≤ u.portState ∧ u.portState ≠ 6
     (lost → ∃ v : State, exec (.announceReceiptTimeout t) s = .next (v.settle s) ∧ v.time.masters = [] ∧ v.time.parent = none ∧
        v.portState = (if u.fld Reg.PTP_CTRL Fld.PTP_CTRL_ROLE = 2 then 4 else 6)) ∧
      (¬ lost → exec (.announceReceiptTimeout t) s = .next (u.settle s)))
/-! ### GDDR6 -/

/-- Bank queues, refresh, real-time writes, errors, training and frequency of the GDDR6 controller (R426 to R438): a request waits in the queue of its bank, and in its turn a
channel serves, in rotation after the bank last served, the first head that is real-time and may be issued, else the first that may; an owed refresh is issued where no real-time
request waits, or postponed, the ninth is forced, in one channel at a time, and closes the rows; a real-time write that cannot be issued waits in the buffer, or is the breach
GDDR_RT; EDC replays are counted, a corrected burst is noted, and an uncorrectable error is shown and freezes the module; a training or a frequency change begins and ends; and 100 µs without a
request in Poised lead to self-refresh. That the requests and turns between two commands come with the later one is the model's choice (log 94). -/
def Obligations.Gddr6 : Prop :=
  ∀ (s : State) (t : Nat), let u := s.advanceTo t
    let st := u.fld Reg.MEMC_STATUS Fld.MEMC_STATUS_STATE
    let grew (x v : State) (i n : Nat) : Prop := v.num (Reg.MEMC_CNT i) = min 0xFFFFFFFF (x.num (Reg.MEMC_CNT i) + n)
    let counted (v : State) (i n : Nat) : Prop := grew u v i n
    let closed (x v : State) (k : Nat) : Prop := ∀ i, Store.get (fun _ => none) i v.memc.rows = if i / 16 = k then none else Store.get (fun _ => none) i x.memc.rows
    -- requests and turns of a channel
    (∀ (x : State) a source write, let k := memChannel a
      let b := memBank a
      let y := x.memOp (.request a source write)
      let st := x.fld Reg.MEMC_STATUS Fld.MEMC_STATUS_STATE
      (st = 0 ∨ st = 3 → y = x) ∧
      (st ≠ 0 → st ≠ 3 → y.bankQueue k b = x.bankQueue k b ++ [⟨a, source, 0, write⟩] ∧
        (∀ i, i ≠ k * 16 + b → Store.get (fun _ => []) i y.memc.queues = Store.get (fun _ => []) i x.memc.queues) ∧
        y.fld (Reg.MEMC_CHST k) Fld.MEMC_CHST_QDEPTH = min 255 ((x.queued k).length + 1) ∧ (st = 2 → y.flag Reg.MEMC_STATUS Fld.MEMC_STATUS_SELFREF = false) ∧
        x.Keeps [.memc] (theRegs [Reg.MEMC_STATUS, Reg.MEMC_CHST k]) y)) ∧
    (∀ (x : State) k blocked window, k < 8 → x.fld Reg.MEMC_STATUS Fld.MEMC_STATUS_STATE = 2 → x.memc.forced ≠ some k →
      let y := x.memOp (.turn k blocked window)
      let order (i : Nat) : Nat := (Store.get (fun _ => 15) k x.memc.served + 1 + i) % 16
      let can (i : Nat) : Prop := ∃ r, x.issuable k blocked window (order i) = some r
      let first (i : Nat) : Prop := ∃ r, x.issuable k blocked window (order i) = some r ∧ r.source < 20
      let served (c : Nat) : Prop := ∃ r rest, x.bankQueue k c = r :: rest ∧ y.bankQueue k c = rest ∧ y.memc.fill = x.memc.fill - r.held ∧
        Store.get (fun _ => none) (memChannel r.a * 16 + memBank r.a) y.memc.rows = some (r.a / 2 ^ 18) ∧ Store.get (fun _ => 15) (memChannel r.a) y.memc.served = memBank r.a ∧
        x.Keeps [.memc] (theRegs [Reg.MEMC_CHST k]) y
      (x.fld (Reg.MEMC_CHST k) Fld.MEMC_CHST_OWED ≠ 0 → x.realTimeWaits k = false → y.fld (Reg.MEMC_CHST k) Fld.MEMC_CHST_OWED = 0 ∧ closed x y k ∧
        x.Keeps [.memc] (theRegs [Reg.MEMC_CHST k]) y) ∧
      (x.fld (Reg.MEMC_CHST k) Fld.MEMC_CHST_OWED = 0 ∨ x.realTimeWaits k = true →
        (∀ i, i < 16 → first i → (∀ j, j < i → ¬ first j) → served (order i)) ∧
        (∀ i, i < 16 → can i → (∀ j, j < 16 → ¬ first j) → (∀ j, j < i → ¬ can j) → served (order i)) ∧
        ((∀ j, j < 16 → ¬ can j) → y = x))) ∧
    (∀ k traffic, k < 8 → let z := u.memWork traffic
      let owed (v : State) : Nat := v.fld (Reg.MEMC_CHST k) Fld.MEMC_CHST_OWED
      let peak (v : State) : Nat := v.fld (Reg.MEMC_CHST k) Fld.MEMC_CHST_MAXOWED
      let busy := z.memc.forced = some k ∨ k ∈ z.memc.forcedWait
      let still := z.fld Reg.MEMC_STATUS Fld.MEMC_STATUS_STATE ≠ 2 ∨ z.flag Reg.MEMC_STATUS Fld.MEMC_STATUS_SELFREF = true ∨ busy
      (still → exec (.refreshDue t k traffic) s = .next (z.settle s)) ∧
      (¬ still →
        (z.realTimeWaits k = false → ∃ v : State, exec (.refreshDue t k traffic) s = .next (v.settle s) ∧ owed v = 0 ∧ closed z v k ∧
          v.memc = { z.memc with rows := v.memc.rows } ∧ z.Keeps [.memc] (theRegs [Reg.MEMC_CHST k]) v) ∧
        (z.realTimeWaits k = true → owed z < 8 → ∃ v : State, exec (.refreshDue t k traffic) s = .next (v.settle s) ∧ owed v = owed z + 1 ∧ peak v = max (owed z + 1) (peak z) ∧
          z.Keeps [] (theRegs [Reg.MEMC_CHST k]) v) ∧
        (z.realTimeWaits k = true → owed z = 8 → z.memc.forced = none → ∃ v : State, exec (.refreshDue t k traffic) s = .next (v.settle s) ∧ owed v = 9 ∧ closed z v k ∧
          v.memc = { z.memc with forced := some k, rows := v.memc.rows } ∧ grew z v 2 1 ∧ v.flag Reg.MEMC_EVT ⟨1, 1⟩ = true ∧
          z.Keeps [.memc, .evrQ] (theRegs [Reg.MEMC_CHST k, Reg.MEMC_CNT 2, Reg.MEMC_EVT]) v) ∧
        (∀ j, z.realTimeWaits k = true → owed z = 8 → z.memc.forced = some j → ∃ v : State, exec (.refreshDue t k traffic) s = .next (v.settle s) ∧ owed v = 9 ∧
          v.memc = { z.memc with forcedWait := z.memc.forcedWait ++ [k] } ∧ z.Keeps [.memc] (theRegs [Reg.MEMC_CHST k]) v)) ∧
      (u.memc.forced ≠ some k → exec (.forcedRefreshDone t k) s = .next (u.settle s)) ∧
      (u.memc.forced = some k → u.memc.forcedWait = [] → ∃ v : State, exec (.forcedRefreshDone t k) s = .next (v.settle s) ∧ owed v = 0 ∧ peak v = peak u ∧
        v.memc = { u.memc with forced := none } ∧ u.Keeps [.memc] (theRegs [Reg.MEMC_CHST k]) v) ∧
      (∀ j r, u.memc.forced = some k → u.memc.forcedWait = j :: r → ∃ v : State, exec (.forcedRefreshDone t k) s = .next (v.settle s) ∧ owed v = 0 ∧ closed u v j ∧
        v.memc = { u.memc with forced := some j, forcedWait := r, rows := v.memc.rows } ∧ counted v 2 1 ∧ v.flag Reg.MEMC_EVT ⟨1, 1⟩ = true)) ∧
    (∀ traffic a len source waits, let z := u.memWork traffic
      let k := memChannel a
      let b := memBank a
      let stz := z.fld Reg.MEMC_STATUS Fld.MEMC_STATUS_STATE
      let held := stz ≠ 2 ∨ waits = true ∨ z.memc.forced = some k
      let c := exec (.realtimeWriteRequest t traffic ⟨a, source⟩ len waits) s
      (stz = 0 ∨ stz = 3 → c = .next (z.settle s)) ∧
      (stz = 2 → ¬ held → ∃ v : State, c = .next (v.settle s) ∧ v.memc = { z.memc with lastReq := u.now, rows := v.memc.rows, served := v.memc.served } ∧
        Store.get (fun _ => none) (k * 16 + b) v.memc.rows = some (a / 2 ^ 18) ∧ Store.get (fun _ => 15) k v.memc.served = b ∧
        v.flag Reg.MEMC_STATUS Fld.MEMC_STATUS_SELFREF = false ∧ z.Keeps [.memc] (theRegs [Reg.MEMC_STATUS]) v) ∧
      (stz ≠ 0 → stz ≠ 3 → held → z.memc.fill + len ≤ z.wbuf → z.memc.fill + len < 2 ^ 24 → ∃ v : State, c = .next (v.settle s) ∧
        v.memc.fill = z.memc.fill + len ∧ v.bankQueue k b = z.bankQueue k b ++ [⟨a, source, len, true⟩] ∧
        v.fld Reg.MEMC_WBPEAK Fld.MEMC_WBPEAK_PEAK = max (z.memc.fill + len) (z.fld Reg.MEMC_WBPEAK Fld.MEMC_WBPEAK_PEAK) ∧
        z.Keeps [.memc] (theRegs [Reg.MEMC_STATUS, Reg.MEMC_WBPEAK, Reg.MEMC_CHST k]) v) ∧
      (stz ≠ 0 → stz ≠ 3 → held → z.wbuf < z.memc.fill + len → ∃ v : State, c = .next (v.settle s) ∧ v.memc = { z.memc with lastReq := v.memc.lastReq } ∧
        z.Keeps [.memc, .err] (theRegs [Reg.MEMC_STATUS]) v ∧
        v.err = if u.mode = .inspecting then { z.err with breaches := z.err.breaches ++ [⟨12, 0, none, true, u.now⟩] } else z.err)) ∧
    (∀ traffic a source fails bits, a < 2 ^ 34 → source < 256 → bits < 4 → let z := u.memWork traffic
      let dead := 9 ≤ fails
      let stz := z.fld Reg.MEMC_STATUS Fld.MEMC_STATUS_STATE
      let shown (x v : State) (kind attempts write : Nat) : Prop := v.mode = .frozen ∧ grew x v 1 (min 8 fails) ∧ v.flag Reg.MEMC_EVT ⟨3, 1⟩ = true ∧
        v.fld Reg.MEMC_ERRINFO Fld.MEMC_ERRINFO_KIND = kind ∧ v.fld Reg.MEMC_ERRINFO Fld.MEMC_ERRINFO_CHAN = Nat.xor (a / 2 ^ 8 % 8) (a / 2 ^ 18 % 8) ∧
        v.fld Reg.MEMC_ERRINFO Fld.MEMC_ERRINFO_BANK = Nat.xor (a / 2 ^ 11 % 16) (a / 2 ^ 21 % 16) ∧ v.fld Reg.MEMC_ERRINFO Fld.MEMC_ERRINFO_SOURCE = source ∧
        v.fld Reg.MEMC_ERRINFO Fld.MEMC_ERRINFO_REPLAYS = attempts ∧ v.fld Reg.MEMC_ERRINFO Fld.MEMC_ERRINFO_WRITE = write ∧ v.get64 Reg.MEMC_ERRADDR_LO = a ∧
        v.ram = x.ram ∧ v.sram = x.sram ∧ v.queues = x.queues ∧ (x.mode.allOn = true → v.fld Reg.MEMC_STATUS Fld.MEMC_STATUS_STATE = 3 ∧
          v.flag Reg.MEMC_STATUS Fld.MEMC_STATUS_SELFREF = true)
      let cont (x v : State) : Prop := grew x v 1 fails ∧ v.memc = { x.memc with lastReq := u.now } ∧ v.flag Reg.MEMC_STATUS Fld.MEMC_STATUS_SELFREF = false
      (stz ≠ 2 → exec (.gddr6ReadReturn t traffic ⟨a, source⟩ fails bits) s = .next (z.settle s)) ∧
      (∀ parity, st ≠ 2 → exec (.writeEdcReport t a source fails parity) s = .next (u.settle s)) ∧
      (stz = 2 → ¬ dead → bits = 0 → ∃ v : State, exec (.gddr6ReadReturn t traffic ⟨a, source⟩ fails bits) s = .next (v.settle s) ∧ cont z v ∧
        z.Keeps [.memc] (theRegs [Reg.MEMC_STATUS, Reg.MEMC_CNT 1]) v) ∧
      (stz = 2 → ¬ dead → bits = 1 → ∃ v : State, exec (.gddr6ReadReturn t traffic ⟨a, source⟩ fails bits) s = .next (v.settle s) ∧ cont z v ∧ grew z v 0 1 ∧
        v.flag Reg.MEMC_EVT ⟨0, 1⟩ = true ∧
        z.Keeps (.memc :: ledgerParts) (fun r => ledgerReg r || theRegs [Reg.MEMC_STATUS, Reg.MEMC_CNT 0, Reg.MEMC_CNT 1, Reg.MEMC_EVT] r) v) ∧
      (stz = 2 → z.mode.powered = true → z.mode ≠ .frozen → dead ∨ 2 ≤ bits → ∃ v : State, exec (.gddr6ReadReturn t traffic ⟨a, source⟩ fails bits) s = .next (v.settle s) ∧
        shown z v (if dead then 3 else bits - 1) (if dead then 9 else fails + 1) 0) ∧
      (st = 2 → ¬ dead → ∃ v : State, exec (.writeEdcReport t a source fails false) s = .next (v.settle s) ∧ cont u v ∧
        u.Keeps [.memc] (theRegs [Reg.MEMC_STATUS, Reg.MEMC_CNT 1]) v) ∧
      (∀ parity, st = 2 → u.mode.powered = true → u.mode ≠ .frozen → dead ∨ parity = true → ∃ v : State,
        exec (.writeEdcReport t a source fails parity) s = .next (v.settle s) ∧ shown u v 3 (min 9 (max 1 fails)) 1)) ∧
    (∀ fails ws, fails < 256 →
      (u.memc.train = 0 ∨ (st ≠ 1 ∧ st ≠ 4) → exec (.trainingComplete t fails ws) s = .next (u.settle s)) ∧
      (u.memc.train ≠ 0 → st = 1 ∨ st = 4 → ∃ v : State, exec (.trainingComplete t fails ws) s = .next (v.settle s) ∧
        v.training = ws ∧ v.flag Reg.MEMC_EVT ⟨2, 1⟩ = true ∧ counted v 4 (if u.memc.freq then 1 else 0) ∧
        (u.memc.train = 2 → v.fld Reg.MEMC_TRAIN Fld.MEMC_TRAIN_QFAIL = fails ∧ counted v 3 (((List.range 8).filter fun k => bit fails k).length) ∧
          v.trainPending = [] ∧ v.flag Reg.MEMC_STATUS Fld.MEMC_STATUS_IMGPEND = false) ∧
        (u.memc.train ≠ 2 → v.reg Reg.MEMC_TRAIN = u.reg Reg.MEMC_TRAIN ∧ counted v 3 0) ∧
        (u.memc.pend = none → v.memc.train = 0 ∧ v.fld Reg.MEMC_STATUS Fld.MEMC_STATUS_STATE = 2 ∧ v.flag Reg.MEMC_STATUS Fld.MEMC_STATUS_SELFREF = false) ∧
        (∀ r, u.memc.pend = some r → v.memc.train ≠ 0 ∧ v.memc.rate = r ∧ v.memc.pend = none ∧ v.fld Reg.MEMC_STATUS Fld.MEMC_STATUS_STATE = 4 ∧
          v.flag Reg.MEMC_STATUS Fld.MEMC_STATUS_SELFREF = true))) ∧
    (∀ p w, u.reaches p = true →
      (u.performs Reg.MEMC_TRAIN (withBits w 0x200) = true →
        (u.mode = .poised → u.memc.train = 0 → st = 2 → ∃ v : State, exec (.memcRetrain t p w) s = .next (v.settle s) ∧ v.fld Reg.MEMC_STATUS Fld.MEMC_STATUS_STATE = 1 ∧
          v.memc = { u.memc with freq := false, train := if v.flag Reg.MEMC_TRAIN Fld.MEMC_TRAIN_USEIMG && !u.trainPending.isEmpty then 2 else 1 }) ∧
        (u.mode ≠ .poised ∨ u.memc.train ≠ 0 ∨ st ≠ 2 → ∃ v : State, exec (.memcRetrain t p w) s = .next (v.settle s) ∧ v.memc = u.memc ∧
          v.reg Reg.MEMC_STATUS = u.reg Reg.MEMC_STATUS)) ∧
      (u.performs Reg.MEMC_FREQ w = true → u.mode ≠ .inspecting → let rate := w.toNat % 4
        (rate = 3 ∨ rate = u.fld Reg.MEMC_FREQ Fld.MEMC_FREQ_RATE → ∃ v : State, exec (.frequencyRequest t p w) s = .next (v.settle s) ∧ v.memc = u.memc ∧
          v.fld Reg.MEMC_FREQ Fld.MEMC_FREQ_RATE = u.fld Reg.MEMC_FREQ Fld.MEMC_FREQ_RATE) ∧
        (rate ≠ 3 → rate ≠ u.fld Reg.MEMC_FREQ Fld.MEMC_FREQ_RATE → u.memc.train ≠ 0 → ∃ v : State, exec (.frequencyRequest t p w) s = .next (v.settle s) ∧
          v.fld Reg.MEMC_FREQ Fld.MEMC_FREQ_RATE = rate ∧ v.memc = { u.memc with pend := if rate = u.memc.rate then none else some rate } ∧
          v.flag Reg.MEMC_STATUS Fld.MEMC_STATUS_FPEND = decide (rate ≠ u.memc.rate)) ∧
        (rate ≠ 3 → rate ≠ u.fld Reg.MEMC_FREQ Fld.MEMC_FREQ_RATE → rate ≠ u.memc.rate → u.memc.train = 0 → ∃ v : State,
          exec (.frequencyRequest t p w) s = .next (v.settle s) ∧ v.fld Reg.MEMC_FREQ Fld.MEMC_FREQ_RATE = rate ∧ v.memc.rate = rate ∧ v.memc.freq = true ∧
          v.memc.train ≠ 0 ∧ v.memc.forced = none ∧ v.memc.forcedWait = [] ∧ v.fld Reg.MEMC_STATUS Fld.MEMC_STATUS_STATE = 4 ∧
          v.flag Reg.MEMC_STATUS Fld.MEMC_STATUS_SELFREF = true ∧ ∀ k, k < 8 → v.fld (Reg.MEMC_CHST k) Fld.MEMC_CHST_OWED = 0))) ∧
    (let idle := u.mode = .poised ∧ st = 2 ∧ u.memc.lastReq + 10 ^ 8 ≤ u.now
     (idle → exec (.selfRefreshEntry t) s = .next ((u.setFld Reg.MEMC_STATUS Fld.MEMC_STATUS_SELFREF 1).settle s)) ∧
     (¬ idle → exec (.selfRefreshEntry t) s = .next (u.settle s)))

/-! ### Event router -/

/-- Channels, spacing, pins (R439 to R449): a request to a disabled channel is lost, a shut gate counts it, one within 2 ns merges, one within the spacing is deferred, and any other
fires: the channel counts it, its tasks and the channels that name it are reached 6 ns later, and more than 64 fires in 1 µs latch it; a fire by software reaches a
channel that names the producer SW; an EVIN edge of the chosen kind is an event; deferred requests give one fire at the spacing's end; and an EVOUT pulse ends. -/
def Obligations.EventRouter : Prop :=
  ∀ (s : State) (t : Nat), let u := s.advanceTo t
    (∀ (x : State) c, c < 64 → let h := x.evrChan c
      let gate := x.flag (Reg.CH_CFG c) Fld.CH_CFG_MODE = true
      let open_ := ¬ gate ∨ (x.mode ≠ .inspecting ∧ x.gateOpen c = true)
      (x.chanEnabled c = false → x.chanRequest c = x) ∧
      (x.chanEnabled c = true → ¬ open_ → x.chanRequest c = x.bump (Reg.CH_GATED c)) ∧
      (∀ f, x.chanEnabled c = true → open_ → h.lastFire = some f → x.now < f + 2000 → x.chanRequest c = x.bump (Reg.CH_MERGE c)) ∧
      (∀ f, x.chanEnabled c = true → open_ → h.lastFire = some f → f + 2000 ≤ x.now → x.now < f + x.fld (Reg.CH_CFG c) Fld.CH_CFG_SPACE * 20000 →
        ((x.chanRequest c).evrChan c) = { h with deferred := true } ∧ x.Keeps [.evr] (theRegs [Reg.CH_DEFER c]) (x.chanRequest c)) ∧
      (x.chanEnabled c = true → open_ → (h.lastFire = none ∨ ∃ f, h.lastFire = some f ∧ f + 2000 ≤ x.now ∧ f + x.spacing c ≤ x.now) → x.chanRequest c = x.chanFire c) ∧
      (let y := x.chanFire c
       let recent := x.now :: h.recent.filter fun k => decide (x.now < k + 1000000)
       y.evrChan c = ⟨some x.now, recent, false⟩ ∧ y.num (Reg.CH_FIRES c) = min 0xFFFFFFFF (x.num (Reg.CH_FIRES c) + 1) ∧
        ⟨x.now + 6000, .request (64 + c)⟩ ∈ y.evrQ ∧
        (∀ k, k < 61 → x.flag (Reg.TASK_SEL k) Fld.TASK_SEL_EN = true → x.fld (Reg.TASK_SEL k) Fld.TASK_SEL_CHAN = c → ⟨x.now + 6000, .task k⟩ ∈ y.evrQ) ∧
        (recent.length ≤ 64 → x.Keeps [.evr, .evrQ] (theRegs [Reg.CH_FIRES c]) y) ∧
        (64 < recent.length → bit (y.num (Reg.EVR_ECHO_LO + 4 * (c / 32))) (c % 32) = true ∧ y.chanEnabled c = false))) ∧
    (∀ p high (w : Word) c, u.reaches p = true → u.performs (if high then Reg.EVR_FIRE_HI else Reg.EVR_FIRE_LO) w = true → c < 32 → w.toNat = 2 ^ c →
      let n := if high then 32 + c else c
      ((u.producers n).contains 1 = false → ∃ v : State, exec (.evrFire t p high w) s = .next (v.settle s) ∧ v.evr = u.evr ∧ v.evrQ = u.evrQ) ∧
      ((u.producers n).contains 1 = true → ∃ x : State, exec (.evrFire t p high w) s = .next ((x.chanRequest n).settle s) ∧ x.evr = u.evr ∧ x.evrQ = u.evrQ ∧ x.now = u.now ∧
        (∀ r, r ≠ Reg.EVR_FIRE_LO → r ≠ Reg.EVR_FIRE_HI → x.reg r = u.reg r) ∧ u.Keeps [.shadow] anyReg x)) ∧
    (∀ k level, k < 8 → let edge := u.fld (Reg.EVIN_CFG k) Fld.EVIN_CFG_EDGE
      let active := bit u.pins.evin k ≠ level ∧ (edge = 3 ∨ (edge = 1 ∧ level = true) ∨ (edge = 2 ∧ level = false)) ∧ u.mode.powered = true
      ∃ x : State, bit x.pins.evin k = level ∧ (∀ i, i ≠ k → bit x.pins.evin i = bit u.pins.evin i) ∧ u.Keeps [.pins] noReg x ∧
        exec (.evinEdge t k level) s = .next ((if active then x.producerEvent (32 + k) else x).settle s)) ∧
    (∀ c, c < 64 → u.mode.powered = true → let h := u.evrChan c
      let due := ∀ f, h.lastFire = some f → f + u.fld (Reg.CH_CFG c) Fld.CH_CFG_SPACE * 20000 ≤ u.now
      (h.deferred = false ∨ ¬ due → exec (.spacingEnd t c) s = .next (u.settle s)) ∧
      (h.deferred = true → due → u.chanEnabled c = true → exec (.spacingEnd t c) s = .next ((u.chanFire c).settle s)) ∧
      (h.deferred = true → due → u.chanEnabled c = false → ∃ v : State, exec (.spacingEnd t c) s = .next (v.settle s) ∧ v.evrChan c = { h with deferred := false } ∧
        u.Keeps [.evr] noReg v)) ∧
    (∀ k e, k < 8 → u.mode.powered = true → Store.get (fun _ => none) k u.outPins.evoutEnd = some e →
      (u.now < e → exec (.evoutPulseEnd t k) s = .next (u.settle s)) ∧
      (e ≤ u.now → ∃ v : State, exec (.evoutPulseEnd t k) s = .next (v.settle s) ∧ v.flag (Reg.EVOUT_CFG k) Fld.EVOUT_CFG_STATE = false ∧
        Store.get (fun _ => none) k v.outPins.evoutEnd = none ∧ u.Keeps [.out, .outPins] (theRegs [Reg.EVOUT_CFG k]) v ∧
        v.out = (if u.flag (Reg.EVOUT_CFG k) Fld.EVOUT_CFG_STATE then [.evout k false] else []) ++ u.out)) ∧
    (∀ (x : State) k, k < 8 → let on := x.flag (Reg.EVOUT_CFG k) Fld.EVOUT_CFG_STATE
      let y := x.activateEvout k
      let toggles := x.flag (Reg.EVOUT_CFG k) Fld.EVOUT_CFG_MODE
      y.flag (Reg.EVOUT_CFG k) Fld.EVOUT_CFG_STATE = (if toggles then !on else true) ∧
      Store.get (fun _ => none) k y.outPins.evoutEnd = (if toggles then none else some (x.now + 1000 * max 8 (x.fld (Reg.EVOUT_CFG k) Fld.EVOUT_CFG_WIDTH))))

/-! ### Two-wire port and JTAG -/

/-- The two-wire port and JTAG (R452 to R466, R556): a START names a register, an Sr reads on from it, other addresses and a P end what was open; a word is performed as any access and the address
moves on; a PEC that does not match discards its word; a controller that takes the bus and TW_RST_N end what runs; an in-band request is delivered, lost, not acknowledged or not
clocked; and each edge of TCK moves the TAP controller, whose IDCODE, BYPASS and instruction register shift and update as IEEE 1149.1 has it. -/
def Obligations.ManagementPorts : Prop :=
  ∀ (s : State) (t : Nat), let u := s.advanceTo t
    let h := u.twi
    let hears := u.mode.powered = true ∧ u.pins.twRstN = true
    let own := 2 * (0x38 + u.pins.twAddr)
    let counted (v : State) (i : Nat) : Prop := v.num (Reg.TWI_CNT i) = min 0xFFFFFFFF (u.num (Reg.TWI_CNT i) + 1)
    let closed (v : State) : Prop := v.twi.open_ = false ∧ v.twi.read = false ∧ v.twi.words = 0
    let takes (rd : Bool) : Prop := h.open_ = true ∧ h.read = rd ∧ h.deaf = false ∧ ¬(h.pec = true ∧ 0 < h.words)
    let head := [own, h.addr / 2 ^ 16 % 256, h.addr / 2 ^ 8 % 256, h.addr % 256]
    let due (e : Nat) : Prop := u.twi.request = some e ∧ e + 10 ^ 10 ≤ u.now
    (∀ v pec, hears → takes false → let bytes := (leBytes 4 v.toNat).map BitVec.toNat
      (h.pec = true → pec ≠ pecOf (head ++ bytes) → ∃ x : State, exec (.twiWriteWord t v pec) s = .next (x.settle s) ∧ counted x 2 ∧ x.twi = { h with deaf := true } ∧
        u.Keeps (.twi :: ledgerParts) (fun r => ledgerReg r || theRegs [Reg.TWI_CNT 2] r) x) ∧
      (h.pec = false ∨ pec = pecOf (head ++ bytes) → let z := (u.busWrite .twi h.addr v).2
        ∃ x : State, exec (.twiWriteWord t v pec) s = .next (x.settle s) ∧ x.twi = { z.twi with addr := (h.addr + 4) % 2 ^ 24, words := z.twi.words + 1 } ∧
          x.num (Reg.TWI_CNT 1) = min 0xFFFFFFFF (z.num (Reg.TWI_CNT 1) + 1) ∧ z.Keeps [.twi] (theRegs [Reg.TWI_CNT 1]) x)) ∧
    (∀ v pec, ¬(hears ∧ takes false) → exec (.twiWriteWord t v pec) s = .next (u.settle s)) ∧
    (∀ delivered : Bool, hears → takes true → let z := u.busRead .twi h.addr
      let bytes := (leBytes 4 (z.1.getD 0).toNat).map BitVec.toNat
      let sent := bytes ++ if h.pec then [pecOf (head ++ [own + 1] ++ bytes)] else []
      ∃ x : State, exec (.twiReadWord t delivered) s = .next (x.settle s) ∧ x.out = (if delivered then (sent.map Output.twiByte).reverse else []) ++ z.2.out ∧
        x.twi = { z.2.twi with addr := (h.addr + 4) % 2 ^ 24, words := z.2.twi.words + 1 } ∧
        x.num (Reg.TWI_CNT 0) = min 0xFFFFFFFF (z.2.num (Reg.TWI_CNT 0) + 1) ∧ z.2.Keeps [.twi, .out] (theRegs [Reg.TWI_CNT 0]) x) ∧
    (∀ delivered, ¬(hears ∧ takes true) → exec (.twiReadWord t delivered) s = .next (u.settle s)) ∧
    (u.mode.powered = true → u.pins.twRstN = true → ∃ x : State, exec (.twiReset t false) s = .next (x.settle s) ∧ closed x ∧ x.twi.deaf = true ∧ x.twi.request = none ∧
      x.pins = { u.pins with twRstN := false } ∧ counted x 7 ∧ u.Keeps [.twi, .pins] (theRegs [Reg.TWI_CNT 7]) x) ∧
    (u.mode.powered = true → u.pins.twRstN = false → ∃ x : State, exec (.twiReset t true) s = .next (x.settle s) ∧ closed x ∧ x.twi.deaf = false ∧
      x.pins = { u.pins with twRstN := true } ∧ u.Keeps [.twi, .pins] noReg x) ∧
    (∀ level, u.mode.powered = false → exec (.twiReset t level) s = .next (({ u with pins := { u.pins with twRstN := level } } : State).settle s)) ∧
    (u.mode.powered = true → exec (.twiReset t u.pins.twRstN) s = .next (u.settle s)) ∧
    (hears → u.ibrMay = true →
      (∃ x : State, exec (.inBandRequest t .delivered) s = .next (x.settle s) ∧ x.out = .twiByte u.statusByte :: .twiByte (own + 1) :: u.out ∧ counted x 4 ∧ closed x ∧
        x.twi.deaf = false ∧ x.twi.last = u.statusByte ∧ x.twi.request = none ∧ u.Keeps [.twi, .out] (theRegs [Reg.TWI_CNT 4]) x) ∧
      (∃ x : State, exec (.inBandRequest t .lost) s = .next (x.settle s) ∧ counted x 5 ∧ closed x ∧ x.twi.request = none ∧ x.twi.last = h.last ∧
        u.Keeps [.twi] (theRegs [Reg.TWI_CNT 5]) x) ∧
      (∃ x : State, exec (.inBandRequest t .nack) s = .next (x.settle s) ∧ counted x 6 ∧ closed x ∧ x.twi.request = none ∧ x.twi.last = h.last ∧
        u.Keeps [.twi] (theRegs [Reg.TWI_CNT 6]) x) ∧
      (∃ x : State, exec (.inBandRequest t .noClock) s = .next (x.settle s) ∧ x.twi = { h with request := some (h.request.getD u.now) } ∧ u.Keeps [.twi] noReg x)) ∧
    (∀ run, ¬(hears ∧ u.ibrMay = true) → exec (.inBandRequest t run) s = .next (u.settle s)) ∧
    (∀ e, hears → due e → ∃ x : State, exec (.ibrClockTimeout t) s = .next (x.settle s) ∧ counted x 6 ∧ closed x ∧ x.twi.request = none ∧ x.twi.notBefore = u.now + 10 ^ 11 ∧
      u.Keeps [.twi] (theRegs [Reg.TWI_CNT 6]) x) ∧
    (¬(hears ∧ ∃ e, due e) → exec (.ibrClockTimeout t) s = .next (u.settle s)) ∧
    (∀ rep a, hears → ∃ x : State, exec (.twiBusCondition t (.start rep own (some a)) false) s = .next (x.settle s) ∧ u.Keeps [.twi] noReg x ∧
      x.twi = { h with open_ := true, read := false, addr := a, words := 0, deaf := false, pec := if rep then h.pec else u.flag Reg.TWI_CTRL Fld.TWI_CTRL_PEC }) ∧
    (hears → h.open_ = true → h.read = false → h.words = 0 → ∃ x : State, exec (.twiBusCondition t (.start true (own + 1) none) false) s = .next (x.settle s) ∧
      u.Keeps [.twi] noReg x ∧ x.twi = { h with read := true }) ∧
    (∀ rep byte reg, hears → byte ≠ own → byte ≠ own + 1 ∨ rep = false ∨ h.open_ = false ∨ h.read = true ∨ 0 < h.words → ∃ x : State,
      exec (.twiBusCondition t (.start rep byte reg) false) s = .next (x.settle s) ∧ u.Keeps [.twi] noReg x ∧ closed x ∧ x.twi.deaf = true) ∧
    (hears → ∃ x : State, exec (.twiBusCondition t .stop false) s = .next (x.settle s) ∧ u.Keeps [.twi] noReg x ∧ closed x ∧ x.twi.deaf = false ∧
      x.twi.notBefore = max h.notBefore (u.now + 10 ^ 8)) ∧
    (hears → h.open_ = true → ∃ x : State, exec (.twiBusCondition t .stop true) s = .next (x.settle s) ∧ counted x 3 ∧ closed x ∧
      u.Keeps (.twi :: ledgerParts) (fun r => ledgerReg r || theRegs [Reg.TWI_CNT 3] r) x) ∧
    (¬ hears → ∀ c lost, exec (.twiBusCondition t c lost) s = .next (u.settle s)) ∧
    (let j := u.jtag
     u.mode.powered = true →
      (∀ tms tdi, ∃ x : State, exec (.jtagTapClock t true tms tdi) s = .next (x.settle s) ∧ x.jtag.tap = j.tap.next tms ∧ x.jtag.ir = j.ir ∧ x.jtag.tdo = j.tdo ∧
        u.Keeps [.jtag, .fresh] noReg x ∧
        (j.tap = .captureIr → x.jtag.irShift.length = irLength ∧ x.jtag.irShift.take 2 = [true, false]) ∧
        (j.tap = .shiftIr → x.jtag.irShift = j.irShift.drop 1 ++ [tdi]) ∧ (j.tap ≠ .captureIr → j.tap ≠ .shiftIr → x.jtag.irShift = j.irShift) ∧
        (j.tap = .captureDr → u.jtagDr = .idcode → x.jtag.drShift = bitsOf 32 idcode) ∧ (j.tap = .captureDr → u.jtagDr = .bypass → x.jtag.drShift = [false]) ∧
        (j.tap = .shiftDr → x.jtag.drShift = j.drShift.drop 1 ++ [tdi]) ∧ (j.tap ≠ .captureDr → j.tap ≠ .shiftDr → x.jtag.drShift = j.drShift)) ∧
      (∀ tms tdi, ∃ x : State, exec (.jtagTapClock t false tms tdi) s = .next (x.settle s) ∧ u.Keeps [.jtag, .out] noReg x ∧
        x.jtag = { j with
          ir := if j.tap = .testLogicReset then [] else if j.tap = .updateIr then j.irShift else j.ir
          tdo := if j.tap = .shiftIr then j.irShift.head? else if j.tap = .shiftDr then j.drShift.head? else none } ∧
        x.out = (if j.tap = .updateDr ∧ u.jtagDr = .other then [.boundary j.ir j.drShift] else []) ++ u.out) ∧
      (u.mode = .inspecting ∨ u.mode = .halted ∨ u.mode = .frozen → u.jtagDr ≠ .other)) ∧
    (∀ x : Tap, ((((x.next true).next true).next true).next true).next true = .testLogicReset) ∧
    (u.mode.powered = false → ∀ rising tms tdi, exec (.jtagTapClock t rising tms tdi) s = .next (u.settle s))

/-! ### The active/standby pair -/

/-- Roles, HB and what the partner says (R491, R495, R499, R502, R504, R506, R507, R509, R510): pairing takes the role from the pin; a counted edge takes the role over, gives it up, is refused, or is
ignored while PINMIS stands; SWAP joins the open epoch or is refused, and its line changes the roles; windows and waits end; HB inverts while its condition
holds; STATUS goes out and what arrives may confirm runs; a standby whose TWIN is down falls out of step; and TWIN_HELLO compares node IDs. -/
def Obligations.PairRoles : Prop :=
  ∀ (s : State) (t : Nat), let u := s.advanceTo t
    let fl (v : State) (b : Bits) : Bool := v.flag Reg.RED_STATUS b
    let paired := u.flag Reg.RED_CTRL Fld.RED_CTRL_EN = true
    let role := fl u Fld.RED_STATUS_ROLEIN
    let counted (v : State) (i : Nat) : Prop := v.num (Reg.RED_CNT i) = min 0xFFFFFFFF (u.num (Reg.RED_CNT i) + 1)
    let window (v : State) : Prop := fl v Fld.RED_STATUS_TKWIN = true ∧ v.red.tkEnd = some (u.now + 3 * 10 ^ 7)
    let isActive (v : State) : Prop := fl v Fld.RED_STATUS_ROLEIN = true ∧ fl v Fld.RED_STATUS_SYNCED = false ∧ window v ∧
      v.fld Reg.TIME_CTRL Fld.TIME_CTRL_SRC = u.fld Reg.RED_CFG Fld.RED_CFG_TSRCACT ∧
      v.red.closed = u.red.closed.filter Epoch.done ∧ v.red.num = u.get64 Reg.RED_EPOCH_LO + 1 ∧ v.red.writes = []
    let isStandby (v : State) : Prop := fl v Fld.RED_STATUS_ROLEIN = false ∧ fl v Fld.RED_STATUS_SYNCED = true ∧ fl v Fld.RED_STATUS_SOLO = false ∧ window v ∧
      v.fld Reg.TIME_CTRL Fld.TIME_CTRL_SRC = u.fld Reg.RED_CFG Fld.RED_CFG_TSRCSTBY ∧ v.outPins.hostRdy = false ∧
      v.outPins.trigEnd = (if u.flag Reg.TRG_CTRL Fld.TRG_CTRL_ROLEGATE then [] else u.outPins.trigEnd) ∧ v.red.writes = []
    (∀ p w, u.reaches p = true → u.performs Reg.RED_CTRL (withBits w 1) = true → w.toNat / 2 % 4 = 0 → u.mode ≠ .inspecting → u.flag Reg.RED_CTRL Fld.RED_CTRL_EN = false →
      ∃ v : State, exec (.redEnable t p w) s = .next (v.settle s) ∧ v.flag Reg.RED_CTRL Fld.RED_CTRL_EN = true ∧ fl v Fld.RED_STATUS_ROLEIN = u.pins.role) ∧
    (exec (.roleEdge t u.pins.role) s = .next (u.releaseAnswers.settle s)) ∧
    (let level := !u.pins.role
     let noted (v : State) : Prop := v.pins = { u.pins with role := level } ∧ v.red.level = level ∧ v.flag Reg.TWI_ATTN ⟨4, 1⟩ = true
     let pend := fl u Fld.RED_STATUS_SWAPPEND
     let mis := fl u Fld.RED_STATUS_PINMIS
     ∃ v : State, exec (.roleEdge t level) s = .next (v.releaseAnswers.settle s) ∧ noted v ∧
      (¬ paired → u.flag Reg.TRG_CTRL Fld.TRG_CTRL_ROLEGATE = true → level = false → v.outPins = { u.outPins with trigEnd := [] } ∧
        u.Keeps [.pins, .red, .out, .outPins] (theRegs [Reg.TWI_ATTN]) v ∧ v.red = { u.red with level := level }) ∧
      ((¬ paired ∧ (u.flag Reg.TRG_CTRL Fld.TRG_CTRL_ROLEGATE = false ∨ level = true)) ∨ (paired ∧ u.mode.active = false) ∨ (paired ∧ mis = true ∧ level ≠ role) ∨ (paired ∧ mis = false ∧ pend = false ∧ level = role) → u.Keeps [.pins, .red] (theRegs [Reg.TWI_ATTN]) v ∧
        v.red = { u.red with level := level }) ∧
      (paired → u.mode.active = true → mis = true → level = role → fl v Fld.RED_STATUS_PINMIS = false ∧ v.red.misAt = none ∧
        u.Keeps [.pins, .red] (theRegs [Reg.TWI_ATTN, Reg.RED_STATUS]) v) ∧
      (paired → u.mode.active = true → mis = false →
        (pend = true → fl v Fld.RED_STATUS_SWAPPEND = false) ∧
        (pend = false → level = true → role = false → fl u Fld.RED_STATUS_SYNCED = false → u.Keeps (.pins :: .red :: ledgerParts) ledgerReg v) ∧
        (level = true → role = false → fl u Fld.RED_STATUS_SYNCED = true → isActive v ∧ counted v 0 ∧ v.flag Reg.RED_EVT ⟨0, 1⟩ = true ∧
          ∀ q, 60 ≤ q → q < 64 → (u.queue q).part = 0 → (v.queue q).sent = 0 ∧ (v.queue q).packets.map QPacket.len = (u.queue q).packets.map QPacket.len) ∧
        (level = false → role = true → isStandby v ∧ counted v 1 ∧ v.flag Reg.RED_EVT ⟨1, 1⟩ = true ∧ v.red.closed = u.red.closed.filter Epoch.done))) ∧
    (∀ e, u.red.tkEnd = some e → (u.now < e → exec (.takeoverWindowEnd t) s = .next (u.settle s)) ∧
      (e ≤ u.now → ∃ v : State, exec (.takeoverWindowEnd t) s = .next (v.settle s) ∧ fl v Fld.RED_STATUS_TKWIN = false ∧ v.red = { u.red with tkEnd := none } ∧
        u.Keeps [.red] (theRegs [Reg.RED_STATUS]) v)) ∧
    (∀ p w, u.reaches p = true → u.performs Reg.RED_CTRL (withBits w 4) = true → w.toNat / 2 % 2 = 0 → bit w.toNat 0 = u.flag Reg.RED_CTRL Fld.RED_CTRL_EN →
      (u.swapAllowed = true → ∃ v : State, exec (.swap t p w) s = .next (v.settle s) ∧ u.Keeps [.red, .shadow] noReg v ∧
        v.red = { u.red with writes := u.red.writes ++ [(Reg.RED_CTRL, 4)], firstAt := some (u.red.firstAt.getD u.now) }) ∧
      (u.swapAllowed = false → ∃ v : State, exec (.swap t p w) s = .next (v.settle s) ∧ u.Keeps (.shadow :: ledgerParts) ledgerReg v)) ∧
    (u.mode.active = true → let w := u.getS64 Reg.RED_SWAP_LO
      let due := fl u Fld.RED_STATUS_SWAPPEND = true ∧ w ≤ u.newestLine
      (¬ due → exec (.swapLine t) s = .next (u.releaseAnswers.settle s)) ∧
      (due → ∃ v : State, exec (.swapLine t) s = .next (v.releaseAnswers.settle s) ∧ fl v Fld.RED_STATUS_SWAPPEND = false ∧ counted v 4 ∧ v.flag Reg.RED_EVT ⟨4, 1⟩ = true ∧
        v.red.swapAt = some w ∧ (role = true → isStandby v) ∧ (role = false → isActive v) ∧
        (u.pins.role = role → fl v Fld.RED_STATUS_PINMIS = true ∧ v.red.misAt = some u.now))) ∧
    (u.mode.active = false → exec (.swapLine t) s = .next (u.settle s)) ∧
    (let due := (∃ m, u.red.misAt = some m ∧ m + 10 ^ 10 ≤ u.now) ∧ fl u Fld.RED_STATUS_PINMIS = true
     (¬ due → exec (.pinmisTimeout t) s = .next (u.settle s)) ∧
     (due → ∃ v : State, exec (.pinmisTimeout t) s = .next (v.settle s) ∧ v.flag Reg.RED_EVT ⟨5, 1⟩ = true ∧ v.red = { u.red with misAt := none } ∧
        fl v Fld.RED_STATUS_PINMIS = true ∧ u.Keeps (.red :: ledgerParts) (fun r => ledgerReg r || theRegs [Reg.RED_EVT] r) v)) ∧
    (u.hbCondition = true → ∃ v : State, exec (.hbToggle t) s = .next (v.settle s) ∧ v.outPins = { u.outPins with hb := !u.outPins.hb } ∧ v.out = .hbEdge (!u.outPins.hb) :: u.out ∧
      fl v Fld.RED_STATUS_HBRUN = true ∧ u.Keeps [.outPins, .out] (theRegs [Reg.RED_STATUS]) v) ∧
    (u.hbCondition = false → ∃ v : State, exec (.hbToggle t) s = .next (v.settle s) ∧ fl v Fld.RED_STATUS_HBRUN = false ∧ v.out = u.out ∧
      (fl u Fld.RED_STATUS_HBRUN = true → v.outPins = { u.outPins with hb := false } ∧ v.flag Reg.TWI_ATTN ⟨4, 1⟩ = true) ∧ (fl u Fld.RED_STATUS_HBRUN = false → v = u)) ∧
    (∀ d : BitVec 48, let p : PairStatus := ⟨u.now, bit d.toNat 5, d.toNat / 2 ^ 8 % 2 ^ 12, d.toNat / 2 ^ 20 % 2 ^ 28⟩
      let heard := u.mode.active = true ∧ u.lstate 14 = 5 ∧ paired ∧ d.toNat % 16 = 3
      let confirms (r : Nat × Nat × Int × Nat) : Bool := decide (u.now ≤ r.2.2.2 + 2 * 10 ^ 7) && p.healthy && !bit p.badline r.2.1 &&
        decide ((p.newest + 2 ^ 28 - unsignedOf 28 r.2.2.1) % 2 ^ 28 < 2 ^ 27)
      (¬ heard → exec (.status t d) s = .next (u.settle s)) ∧
      (heard → ∃ v : State, exec (.status t d) s = .next (v.settle s) ∧ v.red = { u.red with partner := some p } ∧
        v.runsWaiting = u.runsWaiting.filter (fun r => decide (u.now ≤ r.2.2.2 + 2 * 10 ^ 7) && !confirms r) ∧ u.Keeps [.red, .runsWaiting, .err] noReg v ∧
        v.err = (if u.mode = .inspecting then { u.err with
          breaches := u.err.breaches ++ (u.runsWaiting.filter confirms).map fun r => ⟨r.1, r.2.1, none, true, u.now⟩ } else u.err))) ∧
    (let sends := paired ∧ u.mode.active = true ∧ u.linkReady 14 = true
     (¬ sends → exec (.statusPeriod t) s = .next (u.settle s)) ∧
     (sends → ∃ v : State, exec (.statusPeriod t) s = .next (v.settle s) ∧ u.Keeps [.links, .out] noReg v ∧ ∃ d : BitVec 48, v.out = .mgmt 14 14 0 d :: u.out ∧ d.toNat % 16 = 3 ∧
        bit d.toNat 4 = role ∧ bit d.toNat 5 = fl u Fld.RED_STATUS_HBRUN ∧ bit d.toNat 6 = decide (u.mode = .inspecting) ∧ bit d.toNat 7 = false ∧
        (∀ n, n < 12 → bit d.toNat (8 + n) = decide (u.fld (Reg.CAM_TSEQ n) Fld.CAM_TSEQ_BADRUN ≠ 0)) ∧ d.toNat / 2 ^ 20 = unsignedOf 28 u.newestLine)) ∧
    (u.mode.active = true → let due := (∃ d, u.red.twinDown = some d ∧ d + 25 * 10 ^ 7 ≤ u.now) ∧ u.standbyRole = true ∧ fl u Fld.RED_STATUS_SYNCED = true
      (¬ due → exec (.syncedTimeout t) s = .next (u.settle s)) ∧
      (due → ∃ v : State, exec (.syncedTimeout t) s = .next (v.settle s) ∧ fl v Fld.RED_STATUS_SYNCED = false ∧ v.flag Reg.RED_EVT ⟨2, 1⟩ = true)) ∧
    (∀ d : BitVec 48, u.mode.active = true → u.lstate 14 = 4 → let x := u.setNum Reg.TWIN_PEER (d.toNat % 2 ^ 15 + 2 ^ 15)
      (d.toNat % 2 ^ 14 ≠ u.fld Reg.SYS_NODE Fld.SYS_NODE_NODE_ID → exec (.twinHello t d) s = .next ((x.linkFailed 14).settle s)) ∧
      (d.toNat % 2 ^ 14 = u.fld Reg.SYS_NODE Fld.SYS_NODE_NODE_ID → (u.link 14).helloOk = false → ∃ v : State, exec (.twinHello t d) s = .next (v.settle s) ∧
        v.out = .mgmt 14 3 0 0 :: u.out ∧ (v.link 14).helloOk = true ∧ (v.link 14).echo = some (0, u.now) ∧ x.Keeps [.links, .out] noReg v))

/-- Epochs, port records and joining (R494, R497 to R503): an epoch closes into one packet on TWIN, or is kept for SOLO; a standby keeps it and answers EPACK; EPACK commits it in the active, EPCOMMIT
in the standby; one without EPACK is carried into the open epoch and the second in a row brings SOLO; a committed epoch's writes are applied at its effect line, without what firmware itself holds; a port
record brings a waiting port to READY; and JOIN sends the tables, which the joiner performs, and its queues and numbers, which end the join. -/
def Obligations.PairEpochs : Prop :=
  ∀ (s : State) (t : Nat), let u := s.advanceTo t
    let fl (v : State) (b : Bits) : Bool := v.flag Reg.RED_STATUS b
    let paired := u.flag Reg.RED_CTRL Fld.RED_CTRL_EN = true
    let up (v : State) (a : Nat) : Prop := v.num a = min 0xFFFFFFFF (u.num a + 1)
    let msg (op low : Nat) : Output := .mgmt 14 14 0 (BitVec.ofNat 48 (op + u.fld Reg.RED_STATUS Fld.RED_STATUS_ROLEIN * 2 ^ 4 +
      u.fld Reg.RED_STATUS Fld.RED_STATUS_HBRUN * 2 ^ 5 + b2n (decide (u.mode = .inspecting)) * 2 ^ 6 + low % 2 ^ 28 * 2 ^ 20))
    let copy (i epoch : Nat) (b : List Byte) : Output := .seamFrame 14 3 i 0 true epoch (byteBlocks (b.length / 8 + 1) b)
    let frames (epoch : Nat) (b : List Byte) : List Output := [copy 1 epoch b, copy 0 epoch b]
    let hearing := u.mode.active = true ∧ u.lstate 14 = 5
    -- closing
    (u.gathers = true → u.closeDue = true → let k := u.newestLine
      let e : Epoch := ⟨u.red.num, u.red.writes.take 4096, k + u.effectLag, u.relkeys, false⟩
      let after (v : State) (e : Epoch) : Prop := v.red.num = u.red.num + 1 ∧ v.red.closed = u.red.closed ++ [e] ∧ v.red.writes = u.red.writes.drop 4096 ∧
        v.red.boundary = (Int.fdiv k (u.epl : Int) + 1) * (u.epl : Int)
      (fl u Fld.RED_STATUS_SOLO = false → u.qFits 59 (u.epochPacket e).length = true → ∃ v : State, exec (.epochClose t) s = .next (v.settle s) ∧ after v e ∧
        v.out = (if u.linkReady 14 then frames e.num (u.epochPacket e) else []) ++ u.out ∧
        (v.queue 59).packets = (u.queue 59).packets ++ [⟨(u.epochPacket e).length, e.num, 0, none, none, false⟩] ∧ fl v Fld.RED_STATUS_SOLO = false) ∧
      (fl u Fld.RED_STATUS_SOLO = false → u.qFits 59 (u.epochPacket e).length = false → ∃ v : State, exec (.epochClose t) s = .next (v.settle s) ∧
        after v { e with effect := k + max u.effectLag u.soloDelay, done := true } ∧ v.out = u.out ∧ v.queues = u.queues ∧ fl v Fld.RED_STATUS_SOLO = true ∧ v.flag Reg.RED_EVT ⟨3, 1⟩ = true) ∧
      (fl u Fld.RED_STATUS_SOLO = true → u.linkReady 14 = false → ∃ v : State, exec (.epochClose t) s = .next (v.settle s) ∧
        after v { e with effect := k + max u.effectLag u.soloDelay, done := true } ∧ u.Keeps [.red] noReg v)) ∧
    (u.gathers = false ∨ u.closeDue = false → exec (.epochClose t) s = .next (u.settle s)) ∧
    -- messages
    (∀ d : BitVec 48, let low := d.toNat / 2 ^ 20
      (∀ e, hearing → paired → d.toNat % 16 = 1 → u.standbyRole = false → (u.red.closed.find? fun e => decide (e.num % 2 ^ 28 = low % 2 ^ 28)) = some e → e.num < 2 ^ 64 →
        ∃ v : State, exec (.epack t d) s = .next (v.releaseAnswers.settle s) ∧ v.out = List.replicate 3 (msg 2 e.num) ++ u.out ∧ v.get64 Reg.RED_EPOCH_LO = e.num ∧
          up v (Reg.RED_CNT 2) ∧ v.red = { u.red with missed := 0, closed := u.red.closed.map fun x => if x.num = e.num then { x with done := true } else x } ∧
          (hasSwap e.writes = true → fl v Fld.RED_STATUS_SWAPPEND = true ∧ v.get64 Reg.RED_SWAP_LO = unsignedOf 64 e.effect) ∧
          v.get64 (Reg.PQ_RELKEY_LO 0) = max e.num (u.get64 (Reg.PQ_RELKEY_LO 0))) ∧
      (hearing → paired → d.toNat % 16 = 1 → u.standbyRole = true ∨ (∀ e ∈ u.red.closed, e.num % 2 ^ 28 ≠ low % 2 ^ 28) →
        exec (.epack t d) s = .next (u.releaseAnswers.settle s)) ∧
      (∀ e, hearing → paired → d.toNat % 16 = 2 → (u.red.closed.find? fun e => decide (e.num % 2 ^ 28 = low % 2 ^ 28) && !e.done) = some e → e.num < 2 ^ 64 →
        (u.standbyRole = true → u.newestLine < e.effect → ∃ v : State, exec (.epcommit t d) s = .next (v.settle s) ∧ v.get64 Reg.RED_EPOCH_LO = e.num ∧
          up v (Reg.RED_CNT 2) ∧ v.red = { u.red with closed := u.red.closed.map fun x => if x.num = e.num then { x with done := true } else x } ∧
          (hasSwap e.writes = true → fl v Fld.RED_STATUS_SWAPPEND = true) ∧
          (∀ q k, e.keys.length = 4 → e.keys[q]? = some k → k < 2 ^ 48 → v.get64 (Reg.PQ_RELKEY_LO (1 + q)) = max k (u.get64 (Reg.PQ_RELKEY_LO (1 + q))))) ∧
        (u.standbyRole = false ∨ e.effect ≤ u.newestLine → exec (.epcommit t d) s = .next (u.settle s))) ∧
      (¬(hearing ∧ paired ∧ d.toNat % 16 = 1) → exec (.epack t d) s = .next (u.settle s)) ∧ (¬(hearing ∧ paired ∧ d.toNat % 16 = 2) → exec (.epcommit t d) s = .next (u.settle s))) ∧
    -- deadlines and effect lines
    (∀ n e, u.mode = .inspecting → (u.red.closed.find? fun e => decide (e.num = n) && !e.done) = some e →
      (u.standbyRole = false → ∃ v : State, exec (.epochCommitDeadline t n) s = .next (v.releaseAnswers.settle s) ∧ up v (Reg.RED_CNT 3) ∧ v.red.missed = u.red.missed + 1 ∧
        v.red.closed = u.red.closed.filter (fun x => decide (x.num ≠ n)) ∧ v.red.writes = e.writes.filter (fun w => decide (w.1 ≠ Reg.RED_CTRL)) ++ u.red.writes ∧
        (1 ≤ u.red.missed → fl v Fld.RED_STATUS_SOLO = true) ∧ (u.red.missed = 0 → fl v Fld.RED_STATUS_SOLO = fl u Fld.RED_STATUS_SOLO)) ∧
      (u.standbyRole = true → exec (.epochCommitDeadline t n) s = .next (u.releaseAnswers.settle s))) ∧
    (∀ e rest, u.mode = .inspecting → u.red.closed = e :: rest → let y := ({ u with red := { u.red with closed := rest } } : State)
      let z := y.applyWrites e.writes
      (u.newestLine + 1 < e.effect → exec (.epochApply t) s = .next (u.releaseAnswers.settle s)) ∧
      (e.effect ≤ u.newestLine + 1 → e.done = true →
        exec (.epochApply t) s = .next ((if fl z Fld.RED_STATUS_SOLO && !z.standbyRole then z.qRelease 59 e.num else z).releaseAnswers.settle s)) ∧
      (e.effect ≤ u.newestLine + 1 → e.done = false → u.standbyRole = true → ∃ v : State, exec (.epochApply t) s = .next (v.releaseAnswers.settle s) ∧
        v.red = y.red ∧ up v (Reg.RED_CNT 3) ∧ u.Keeps [.red] (theRegs [Reg.RED_CNT 3]) v) ∧
      (e.done = false → u.standbyRole = false → exec (.epochApply t) s = .next (u.releaseAnswers.settle s))) ∧
    (∀ (x : State) a w, a ≠ Reg.RED_CTRL → a ≠ Reg.ACC_CTRL → let own (e : Nat × Option Word) : Bool := decide (e.1 / 2 ^ 24 = pathKey .fw)
      let y := { x with red := { x.red with applying := true }, held := x.held.filter fun e => !own e }
      x.applyWrites [(a, w)] = let z := (y.busWrite .fw a w).2
        { z with red := { z.red with applying := false }, held := (z.held.filter fun e => !own e) ++ x.held.filter own }) ∧
    -- packets
    (∀ f : SeamFrame, hearing → let b := f.blocks
      let ok := twinFrameOk f = true
      let new := f.copy ≠ 1 ∨ u.red.lastFrame ≠ b
      let x := ({ u with red := { u.red with lastFrame := b } } : State).bump (Reg.SEAM_CNT 2 0)
      (∀ report, paired → ok → new → pktField b 0 1 = 1 → let n := pktField b 4 8
        let e : Epoch := ⟨n, readRecords b 64 (pktField b 52 2), signed 64 (pktField b 12 8), (List.range 4).map fun q => pktField b (28 + 6 * q) 6, false⟩
        let differs := pktField b 20 8 ≠ u.get64 Reg.RED_EPOCH_LO ∨ ∃ r, report = some r ∧ r ≠ u.num Reg.ACC_REASON
        (u.standbyRole = false → ∃ v : State, exec (.epoch t f report) s = .next (v.settle s) ∧ x.Keeps ledgerParts ledgerReg v) ∧
        (u.standbyRole = true → ∃ v : State, exec (.epoch t f report) s = .next (v.settle s) ∧
          v.red.closed = (if u.red.closed.any (fun y => decide (y.num = n)) then u.red.closed else u.red.closed ++ [e]) ∧
          (¬ differs → v.out = msg 1 n :: u.out ∧ x.Keeps [.red, .links, .out] noReg v) ∧ (differs → fl v Fld.RED_STATUS_SYNCED = false))) ∧
      (paired → ok → new → pktField b 0 1 = 2 → u.standbyRole = true → let n := pktField b 12 1
        let r : PortRec := ⟨n, pktField b 13 1, (List.range 6).map fun i => BitVec.ofNat 32 (pktField b (16 + 4 * i) 4), pktField b 40 2⟩
        n < 12 → ∃ v : State, exec (.portrec t f) s = .next (v.settle s) ∧ v.recordOf n = some r ∧
          (u.lstate n ≠ 4 ∨ r.lstate ≠ 5 → x.Keeps [.red] noReg v) ∧
          (u.lstate n = 4 → r.lstate = 5 → v.lstate n = 4 ∨ (v.lstate n = 5 ∧ v.fld (Reg.CAM_RTT n) Fld.CAM_RTT_RTT = (r.rtt + 20) % 2 ^ Fld.CAM_RTT_RTT.len ∧
            (v.port n).adopting = true ∧ ∀ i, i < 6 → v.reg (Reg.CAM_ID0 n + 4 * i) = r.ids.getD i 0))) ∧
      (ok → new → pktField b 0 1 = 3 →
        (fl u Fld.RED_STATUS_JOINING = false → exec (.jointab t f) s = .next (x.settle s)) ∧
        (fl u Fld.RED_STATUS_JOINING = true → exec (.jointab t f) s = .next ((x.applyWrites (readRecords b 16 (pktField b 12 2))).settle s))) ∧
      (∀ len, ok → new → pktField b 0 1 = 4 → let q := pktField b 12 1
        let bytes := ((blockBytes b).drop 16).take len
        (fl u Fld.RED_STATUS_JOINING = false ∨ q < 60 ∨ 63 < q → exec (.joincq t f len) s = .next (x.settle s)) ∧
        (fl u Fld.RED_STATUS_JOINING = true → 60 ≤ q → q < 64 → u.red.joinGot.contains q = true → u.qFits q bytes.length = true → ∃ v : State,
          exec (.joincq t f len) s = .next (v.settle s) ∧ v.num (Reg.Q_WPTR q) = advance (u.qSize q) (u.num (Reg.Q_WPTR q)) (unitsOf bytes.length) ∧
          (v.queue q).packets.map (fun k => (k.len, k.key)) = (u.queue q).packets.map (fun k => (k.len, k.key)) ++ [(bytes.length, ofLeBytes ((bytes.drop 6).take 6))]) ∧
        (fl u Fld.RED_STATUS_JOINING = true → 60 ≤ q → q < 64 → u.red.joinGot.contains q = false → ∃ v : State, exec (.joincq t f len) s = .next (v.settle s) ∧
          v.red.joinGot = u.red.joinGot ++ [q] ∧ (v.queue q).packets.length ≤ 1)) ∧
      (∀ digest, ok → new → pktField b 0 1 = 5 →
        (fl u Fld.RED_STATUS_JOINING = false → exec (.joinstate t f digest) s = .next (x.settle s)) ∧
        (fl u Fld.RED_STATUS_JOINING = true → digest ≠ u.num Reg.ACC_LIVEDIG → ∃ v : State, exec (.joinstate t f digest) s = .next (v.settle s) ∧
          fl v Fld.RED_STATUS_JOINING = false ∧ fl v Fld.RED_STATUS_SYNCED = fl u Fld.RED_STATUS_SYNCED ∧
          (u.mode = .inspecting → v.err.breaches = u.err.breaches ++ [⟨0, 0, none, false, u.now⟩])) ∧
        (fl u Fld.RED_STATUS_JOINING = true → digest = u.num Reg.ACC_LIVEDIG → u.red.joinCards = [] → ∃ v : State, exec (.joinstate t f digest) s = .next (v.settle s) ∧
          fl v Fld.RED_STATUS_JOINING = false ∧ fl v Fld.RED_STATUS_SYNCED = true ∧ v.seg.serial = pktField b 76 4 ∧ v.card.cropSerial = pktField b 80 4 ∧
          ∀ q, q < 4 → v.get64 (Reg.CARD_NEXTSEQ_LO q) = pktField b (12 + 16 * q) 6)) ∧
      (¬ ok → ∃ v : State, exec (.joinstate t f 0) s = .next (v.settle s) ∧ up v (Reg.SEAM_CNT 2 1) ∧ v.flag (Reg.CAM_EVT 14) ⟨3, 1⟩ = true ∧
        u.Keeps [.evrQ] (theRegs [Reg.SEAM_CNT 2 1, Reg.CAM_EVT 14]) v)) ∧
    (∀ p w, u.reaches p = true → u.performs Reg.RED_CTRL (withBits w 2) = true → w.toNat / 4 % 2 = 0 → bit w.toNat 0 = u.flag Reg.RED_CTRL Fld.RED_CTRL_EN →
      let may := paired ∧ u.linkReady 14 = true ∧ u.standbyRole = false ∧ u.mode = .inspecting ∧ u.joinActive = false
      (¬ may → ∃ v : State, exec (.join t p w) s = .next (v.settle s) ∧ u.Keeps [.shadow] noReg v) ∧
      (may → ∃ v : State, exec (.join t p w) s = .next (v.settle s) ∧ v.joinActive = true ∧ v.red = { u.red with joinLine := none, joinEnd := none } ∧
        v.out = ((packetsOf (u.joinWrites.length / 4096 + 1) u.joinWrites).reverse.flatMap fun k => frames u.red.num (joinTabPacket u.red.num k)) ++ u.out ∧
        u.Keeps [.shadow, .joinActive, .red, .links, .out] noReg v))

/-! ### Access to the registers -/

/-- A rejected access (R6): a read returns 0, a write changes nothing but its path's hold (R12), and a Notice with SOURCE 0xFF holds the
address: ALIGN for an address that is not a multiple of 4, NO_BLOCK for every other. -/
def Obligations.RejectedAccess : Prop :=
  ∀ (s : State) (t : Nat) (p : Path) (a : Nat) (w : Word), (s.advanceTo t).reaches p = true →
    let u := s.advanceTo t
    let r := u.notice (if a % 4 = 0 then 0x0102 else 0x0101) 0xFF a
    (a % 4 ≠ 0 → u.readable a = false) ∧
    (u.readable a = false → exec (.captureRead t p a) s = .next ((r.emit (.readWord a 0)).settle s)) ∧
    (a % 4 ≠ 0 ∨ u.answersWrite a w = false ∨ badPort a = true →
      exec (.registerWrite t p a w) s = .next ((r.endHold p a).settle s))

/-- Where an access is answered (R21, R22, R32, R34, R484): outside every assigned range never; where a domain is off only in the AO blocks;
in Frozen writes only in ERR, TWI and for the requests that lead to Off; in Inspecting no write through the SRAM window; and a path that does not reach the register
space does nothing at all. -/
def Obligations.WhereAccessIsAnswered : Prop :=
  ∀ (s : State) (t : Nat) (p : Path) (a : Nat) (w : Word),
    let u := s.advanceTo t
    (blockAt a = none → inFolio a = false → inWindow a = false → u.readable a = false ∧ u.answersWrite a w = false) ∧
    (∀ b base, u.mode.allOn = false → blockAt a = some (b, base) → isAo b = false → u.readable a = false ∧ u.answersWrite a w = false) ∧
    (∀ b base, u.mode = .frozen → blockAt a = some (b, base) → b ≠ .err → b ≠ .twi → a ≠ Reg.PWR_CTRL → u.answersWrite a w = false) ∧
    (u.mode = .inspecting → inWindow a = true → u.answersWrite a w = false) ∧
    (u.reaches p = false → exec (.captureRead t p a) s = .next (u.settle s) ∧ exec (.registerWrite t p a w) s = .next (u.settle s)) ∧
    (∀ i, u.reaches (.oht i) = true ↔ u.mode = .poised ∨ u.mode = .inspecting ∨ u.mode = .halted)

/-- A read where no register is defined returns 0, a write there changes nothing, and neither is an error (R7). -/
def Obligations.UndefinedRegister : Prop :=
  ∀ (s : State) (t : Nat) (p : Path) (a : Nat) (w : Word), (s.advanceTo t).reaches p = true → (blockAt a).isSome = true → kindAt a = none →
    ((s.advanceTo t).readable a = true → exec (.captureRead t p a) s = .next (((s.advanceTo t).emit (.readWord a 0)).settle s)) ∧
    ((s.advanceTo t).performs a w = true → exec (.registerWrite t p a w) s = .next ((s.advanceTo t).settle s))

/-- The SRAM window shows the page that SYS_SRAMPG selects (R33): a read returns its four bytes, a write in Poised or Halted stores them and
leaves every other byte, and a page above 5 or a write in Inspecting is rejected (R34). -/
def Obligations.SramWindow : Prop :=
  ∀ (s : State) (t : Nat) (p : Path) (a : Nat) (w : Word), (s.advanceTo t).reaches p = true → 0x800000 ≤ a → a < 0x1000000 → a % 4 = 0 →
    let u := s.advanceTo t
    let page := u.fld Reg.SYS_SRAMPG Fld.SYS_SRAMPG_PAGE
    let at_ := page * 0x800000 + (a - 0x800000)
    let byte (i : Nat) : Nat := (Store.get (fun _ => (0 : Byte)) (at_ + i) u.sram).toNat
    (page ≤ 5 → u.mode.active = true ∨ (u.mode = .frozen ∧ u.pwr.refclk = true) →
      exec (.captureRead t p a) s = .next ((u.emit (.readWord a
        (BitVec.ofNat 32 (byte 0 + 256 * byte 1 + 65536 * byte 2 + 16777216 * byte 3)))).settle s)) ∧
    (page ≤ 5 → u.mode = .poised ∨ u.mode = .halted →
      ∃ v : State, exec (.registerWrite t p a w) s = .next (v.settle s) ∧ u.Keeps [.sram] noReg v ∧
        (∀ i, i < 4 → Store.get (fun _ => (0 : Byte)) (at_ + i) v.sram = BitVec.ofNat 8 (w.toNat / 256 ^ i)) ∧
        ∀ o, o < at_ ∨ at_ + 4 ≤ o → Store.get (fun _ => (0 : Byte)) o v.sram = Store.get (fun _ => (0 : Byte)) o u.sram) ∧
    (u.mode = .inspecting ∨ (6 ≤ page ∧ u.mode.active = true) →
      exec (.registerWrite t p a w) s = .next (((u.notice 0x0102 0xFF a).endHold p a).settle s)) ∧
    (6 ≤ page → u.mode.active = true →
      exec (.captureRead t p a) s = .next (((u.notice 0x0102 0xFF a).emit (.readWord a 0)).settle s))

/-- What a write makes of each field (R9, R567), by its access type, and of the bits of no field (R8); a W1C bit that hardware sets at the same
moment stays set (R10). -/
def Obligations.FieldsFollowTheirAccess : Prop :=
  ∀ (u : State) (a : Nat) (x : Word) (k : RegKind), kindAt a = some k →
    let r := u.written a x
    (∀ f ∈ k.fields,
      getBits r.word f.bits = (match f.acc with
        | .rw => getBits x f.bits
        | .w1c => Nat.land (getBits (u.reg a) f.bits)
            (Nat.lor (2 ^ f.bits.len - 1 - getBits x f.bits) (getBits (BitVec.ofNat 32 (u.justSet a)) f.bits))
        | .w1s => Nat.lor (getBits (u.reg a) f.bits) (getBits x f.bits)
        | .rwl => if u.locked a then getBits (u.reg a) f.bits else getBits x f.bits
        | .rwh => if u.running a then getBits (u.reg a) f.bits else getBits x f.bits
        | .ro | .wo | .rws => getBits (u.reg a) f.bits) ∧
      getBits r.staged f.bits = (if f.acc = .rws ∧ u.sealed a = false then getBits x f.bits else getBits (u.stagedWord a) f.bits)) ∧
    (∀ c : Bits, (∀ f ∈ k.fields, c.lo + c.len ≤ f.bits.lo ∨ f.bits.lo + f.bits.len ≤ c.lo) →
      getBits r.word c = getBits (u.reg a) c ∧ getBits r.staged c = getBits (u.stagedWord a) c) ∧
    (r.hold = true ↔ u.running a = true ∧ ∃ f ∈ k.fields, f.acc = .rwh ∧ getBits (u.reg a) f.bits ≠ getBits x f.bits) ∧
    (r.stage = true ↔ u.sealed a = true ∧ ∃ f ∈ k.fields, f.acc = .rws ∧ getBits (u.stagedWord a) f.bits ≠ getBits x f.bits)

/-- REGISTER_WRITE of a register whose fields start nothing: it takes the word that its access types make (R9), a refused field is recorded once
(R567); the _HI half of a pair is only held for its path, and the write of the _LO half takes the held word with it and ends the hold, whatever becomes of it (R12). -/
def Obligations.RegisterWriteSetsFields : Prop :=
  ∀ (s : State) (t : Nat) (p : Path) (a : Nat) (w : Word) (b : Blk) (base : Nat) (k : RegKind), (s.advanceTo t).reaches p = true →
    (s.advanceTo t).performs a w = true → kindAt a = some k → blockAt a = some (b, base) → plainBlock b = true →
    a ≠ Reg.PWR_CTRL → a ≠ Reg.CAT_TDATA → clearsOf b (a - base) = none →
    let u := s.advanceTo t
    let x := (u.setReg a (u.written a w).word).setStaged a (u.written a w).staged
    (k.tie ≠ .hi → (k.tie = .lo → Store.get (fun _ => none) (latchKey p (a + 4)) u.held = none) →
      exec (.registerWrite t p a w) s = .next ((if (u.written a w).hold then x.notice 0x0103 (a / 0x10000 % 256) a
        else if (u.written a w).stage then x.rejectStaged a else x).settle s)) ∧
    (k.tie = .hi → ∃ v : State, exec (.registerWrite t p a w) s = .next (v.settle s) ∧ u.Keeps [.held] noReg v ∧
      Store.get (fun _ => none) (latchKey p a) v.held = some (hiValue a w)) ∧
    (k.tie = .lo → ∀ h, Store.get (fun _ => none) (latchKey p (a + 4)) u.held = some h →
      (u.written a w).hold = false → (u.written (a + 4) h).hold = false → (u.written a w).stage = false → (u.written (a + 4) h).stage = false →
      ∃ v : State, exec (.registerWrite t p a w) s = .next (v.settle s) ∧ u.Keeps [.held, .shadow] (theRegs [a, a + 4]) v ∧
        v.reg a = (u.written a w).word ∧ v.reg (a + 4) = (u.written (a + 4) h).word ∧
        Store.get (fun _ => none) (latchKey p (a + 4)) v.held = none)

/-- CAPTURE_READ of a register (R12): it returns what the path has captured, else the word of the moment, and captures the _HI half or the
group of its description for that path alone, but a _LO half that the path has captured with a group captures nothing; the captured words are those of the moment and stay for
later reads. -/
def Obligations.CaptureRead : Prop :=
  ∀ (s : State) (t : Nat) (p : Path) (a : Nat) (k : RegKind), (s.advanceTo t).reaches p = true → (s.advanceTo t).readable a = true →
    kindAt a = some k → stepsOnRead a = false →
    let u := s.advanceTo t
    ∃ v : State, exec (.captureRead t p a) s = .next (v.settle s) ∧ u.Keeps [.captured, .out] noReg v ∧
      v.out = .readWord a (u.view p a) :: u.out ∧
      (k.tie = .none ∨ k.tie = .hi → v.captured = u.captured) ∧
      (k.tie = .lo → (Store.get (fun _ => none) (latchKey p a) u.captured = none → v.view p (a + 4) = u.liveWord (a + 4)) ∧
        (Store.get (fun _ => none) (latchKey p a) u.captured ≠ none → v.captured = u.captured)) ∧
      (∀ ms, k.tie = .head ms → ∀ m ∈ ms, v.view p (a + m) = u.liveWord (a + m)) ∧
      ∀ q c, pathKey q ≠ pathKey p → c < 2 ^ 24 → a + 256 < 2 ^ 24 → v.view q c = u.view q c

/-- COUNTER_CLEAR (R91): each bit of the word that is 1 clears its counter, and every other register keeps its word; LANE_CLR clears the
three counters before it and LANE_BIP after it (R93). -/
def Obligations.CounterClear : Prop :=
  ∀ (s : State) (t : Nat) (p : Path) (a : Nat) (w : Word) (b : Blk) (base o n : Nat), (s.advanceTo t).reaches p = true →
    (s.advanceTo t).performs a w = true → (kindAt a).isSome = true → blockAt a = some (b, base) →
    let u := s.advanceTo t
    (clearsOf b (a - base) = some (o, n) →
      ∃ v : State, exec (.counterClear t p a w) s = .next (v.settle s) ∧
        (∀ c, v.reg c = if ∃ m, m < n ∧ bit w.toNat m = true ∧ c = base + o + 4 * m then 0 else u.reg c) ∧ u.Keeps [.shadow] anyReg v) ∧
    (b = .cam ∨ b = .seam → ∀ l, l < 4 → a - base = 0x110 + 0x20 * l →
      ∃ v : State, exec (.counterClear t p a w) s = .next (v.settle s) ∧
        (∀ c, ((∃ m, m < 3 ∧ bit w.toNat m = true ∧ c = a - 0xC + 4 * m) ∨ (bit w.toNat 3 = true ∧ c = a + 4) → v.reg c = 0) ∧
          (¬ ((∃ m, m < 3 ∧ bit w.toNat m = true ∧ c = a - 0xC + 4 * m) ∨ (bit w.toNat 3 = true ∧ c = a + 4)) → v.reg c = u.reg c)) ∧
        u.Keeps [.shadow] anyReg v)

/-! ### The error ledger and what an error's class does -/

/-- An entry takes the first free slot with the next serial number (R470), holds code, class, SOURCE, DETAIL, time and MD (R471), NEST where an error
of its class or a higher one is being handled (R475), and sets the bits of its class (R474); every other slot keeps its entry. -/
def Obligations.EntryIsRecorded : Prop :=
  ∀ (s : State) (code cls source i : Nat) (d : Word), s.freeSlot = some i → (cls = 0 → s.repeats code source d = none) →
    (s.err.cycleAt = s.now → s.err.cycle = []) → code < 2 ^ 16 → cls < 3 → source < 2 ^ 8 →
    let v := s.logEntry code cls source d
    s.Keeps ledgerParts ledgerReg v ∧
    v.fld (Reg.ERR_E0 i) Fld.ERR_E0_CODE = code ∧ v.fld (Reg.ERR_E0 i) Fld.ERR_E0_CLASS = cls ∧
    v.fld (Reg.ERR_E0 i) Fld.ERR_E0_SOURCE = source ∧ v.flag (Reg.ERR_E0 i) Fld.ERR_E0_VALID = true ∧
    v.flag (Reg.ERR_E0 i) Fld.ERR_E0_NEST = (s.mode == .frozen || (decide (cls ≤ 1) && s.flag Reg.ERR_STATUS Fld.ERR_STATUS_HALTING)) ∧
    v.reg (Reg.ERR_E1 i) = d ∧ v.num (Reg.ERR_E2 i) = nsOf s.t40 ∧ v.num (Reg.ERR_E3 i) = secOf s.t40 % 2 ^ 32 ∧
    v.get64 (Reg.ERR_E5 i) = unsignedOf 64 (s.mdOf s.count) ∧
    v.reg (Reg.ERR_E7 i) = s.reg Reg.ERR_NEXT ∧ v.num Reg.ERR_NEXT = (s.num Reg.ERR_NEXT + 1) % 2 ^ 32 ∧ v.err.nextSlot = (i + 1) % 32 ∧
    v.flag Reg.ERR_EVT ⟨cls, 1⟩ = true ∧ v.flag Reg.OHT_ATTN ⟨cls, 1⟩ = true ∧ v.flag Reg.TWI_ATTN ⟨cls, 1⟩ = true ∧
    ∀ j m, j < 32 → j ≠ i → m < 8 → v.reg (Reg.ERR_E0 j + 4 * m) = s.reg (Reg.ERR_E0 j + 4 * m)

/-- A Notice that repeats the newest held entry only adds one to its REPEAT, which stops at 65,535 (R472). -/
def Obligations.RepeatedNoticeCounts : Prop :=
  ∀ (s : State) (code source j : Nat) (d : Word), s.newestOf s.heldSlots = some j → s.fld (Reg.ERR_E0 j) Fld.ERR_E0_CODE = code →
    s.fld (Reg.ERR_E0 j) Fld.ERR_E0_SOURCE = source → s.reg (Reg.ERR_E1 j) = d →
    s.Keeps [] (theRegs [Reg.ERR_E4 j]) (s.logEntry code 0 source d) ∧
    (s.logEntry code 0 source d).fld (Reg.ERR_E4 j) Fld.ERR_E4_REPEAT = min 65535 (s.fld (Reg.ERR_E4 j) Fld.ERR_E4_REPEAT + 1) ∧
    getBits ((s.logEntry code 0 source d).reg (Reg.ERR_E4 j)) ⟨0, 16⟩ = getBits (s.reg (Reg.ERR_E4 j)) ⟨0, 16⟩

/-- An error that finds all 32 slots held (R473): a Notice is dropped and counted; an H or F error takes the slot of the oldest held Notice, or is
dropped where there is none; a dropped one sets ERR_EVT bit 3, and for H and F the attention bits of its class, and nothing is sent. -/
def Obligations.FullLedger : Prop :=
  ∀ (s : State) (code cls source : Nat) (d : Word), s.freeSlot = none → cls < 3 → (cls = 0 → s.repeats code source d = none) →
    let v := s.logEntry code cls source d
    (cls = 0 ∨ s.heldSlots.filter (fun i => decide (s.fld (Reg.ERR_E0 i) Fld.ERR_E0_CLASS = 0)) = [] →
      s.Keeps [.evrQ] (theRegs [Reg.ERR_DROP, Reg.ERR_EVT, Reg.OHT_ATTN, Reg.TWI_ATTN]) v ∧
      v.num Reg.ERR_DROP = min 0xFFFFFFFF (s.num Reg.ERR_DROP + 1) ∧ v.flag Reg.ERR_EVT ⟨3, 1⟩ = true ∧
      (cls = 0 → v.reg Reg.OHT_ATTN = s.reg Reg.OHT_ATTN ∧ v.reg Reg.TWI_ATTN = s.reg Reg.TWI_ATTN) ∧
      (cls ≠ 0 → v.flag Reg.OHT_ATTN ⟨cls, 1⟩ = true ∧ v.flag Reg.TWI_ATTN ⟨cls, 1⟩ = true)) ∧
    (∀ i, cls ≠ 0 → s.oldestOf (s.heldSlots.filter fun i => decide (s.fld (Reg.ERR_E0 i) Fld.ERR_E0_CLASS = 0)) = some i →
      v.num Reg.ERR_OVWR = min 0xFFFFFFFF (s.num Reg.ERR_OVWR + 1) ∧ v.reg Reg.ERR_DROP = s.reg Reg.ERR_DROP ∧
      v.err.nextSlot = s.err.nextSlot ∧ s.Keeps ledgerParts ledgerReg v)

/-- What an error's class does (R468, R469, R475): a Notice changes nothing but the ledger; a Halting error takes Poised to Halted, waits in Inspecting for a line
boundary, and changes no other state; a Freeze takes every powered state to Frozen, with HB, HOST_RDY and every TRIG pulse dropped and GDDR6 in self-refresh; while one of its
class or a higher one is being handled an error adds no action. -/
def Obligations.ClassesAct : Prop :=
  ∀ (s : State) (code source : Nat) (d : Word),
    (s.Keeps ledgerParts ledgerReg (s.record code 0 source d)) ∧
    (∀ cls, s.handled cls = true → s.record code cls source d = s.logEntry code cls source d) ∧
    (s.mode = .poised → s.flag Reg.ERR_STATUS Fld.ERR_STATUS_HALTING = false →
      (s.record code 1 source d).mode = .halted ∧ (s.record code 1 source d).flag Reg.ERR_STATUS Fld.ERR_STATUS_FROMINSP = false) ∧
    (s.mode = .inspecting → s.flag Reg.ERR_STATUS Fld.ERR_STATUS_HALTING = false →
      (s.record code 1 source d).mode = .inspecting ∧ (s.record code 1 source d).flag Reg.ERR_STATUS Fld.ERR_STATUS_HALTING = true ∧
      (s.record code 1 source d).err.breaches = s.err.breaches ++ [⟨0, 0, none, false, s.now⟩] ∧
      ∀ e j, s.now ≤ e → ((s.record code 1 source d).atEdge e).stopDue j = true) ∧
    (s.mode ≠ .poised → s.mode ≠ .inspecting → s.mode ≠ .frozen → s.flag Reg.PWR_STATUS Fld.PWR_STATUS_BUSY = false →
      s.record code 1 source d = s.logEntry code 1 source d) ∧
    (s.mode.powered = true → s.mode ≠ .frozen →
      let v := s.record code 2 source d
      v.mode = .frozen ∧ v.outPins.hb = false ∧ v.outPins.hostRdy = false ∧ v.outPins.trigEnd = [] ∧
      v.flag Reg.RED_STATUS Fld.RED_STATUS_HBRUN = false ∧ v.flag Reg.ERR_STATUS Fld.ERR_STATUS_HALTING = false ∧ v.err.breaches = [] ∧
      (s.mode.allOn = true → v.fld Reg.MEMC_STATUS Fld.MEMC_STATUS_STATE = 3 ∧ v.flag Reg.MEMC_STATUS Fld.MEMC_STATUS_SELFREF = true) ∧
      v.queues = s.queues ∧ v.ram = s.ram ∧ v.pos = s.pos ∧ v.trgCam = s.trgCam ∧ v.t40 = s.t40 ∧
      ∀ a, 0x50000 ≤ a → a < 0x70000 → v.reg a = s.reg a)

/-! ### Errors, power, clocks and starting -/

/-- The rows that record and recover (R473, R480, R486): ERR_ACK frees the held entries whose serial is not above the number; RESTART answers its
first failing check in RSTRES, or begins the wait for a reference trigger; a watchdog, an SRAM error and a firmware fault are recorded with the class that R486 gives
them, where the domain is on. -/
def Obligations.ErrorRows : Prop :=
  ∀ (s : State) (t : Nat), let u := s.advanceTo t
    (∀ p n, u.reaches p = true → u.performs Reg.ERR_ACK n = true →
      ∃ v : State, exec (.errAck t p n) s = .next (v.settle s) ∧ u.Keeps [.shadow] (theRegs ((List.range 32).map Reg.ERR_E0)) v ∧
        ∀ i, i < 32 → v.flag (Reg.ERR_E0 i) Fld.ERR_E0_VALID
          = (u.flag (Reg.ERR_E0 i) Fld.ERR_E0_VALID && decide (n.toNat < u.num (Reg.ERR_E7 i)))) ∧
    (∀ p w prep, u.reaches p = true → u.performs Reg.ERR_CTRL (withBits w 1) = true →
      let d := u.writeReg p Reg.ERR_CTRL (withBits w 1)
      let r := if u.flag Reg.PWR_STATUS Fld.PWR_STATUS_BUSY then 1 else d.restartFault
      (r ≠ 0 → ∃ v : State, exec (.restart t p w prep) s = .next (v.settle s) ∧ d.Keeps [] (theRegs [Reg.ERR_CTRL, Reg.ACC_REASON, Reg.ACC_DETAIL0, Reg.ACC_DETAIL1]) v ∧
        v.fld Reg.ERR_CTRL Fld.ERR_CTRL_RSTRES = r ∧ v.num Reg.ACC_REASON = (if r = 4 then 0x0401 else d.num Reg.ACC_REASON)) ∧
      (r = 0 → ∃ v : State, exec (.restart t p w prep) s = .next (v.settle s) ∧ v.err.restarting = true ∧ v.pwr.prep = some (v.now + 1000 * prep) ∧
        v.flag Reg.PWR_STATUS Fld.PWR_STATUS_BUSY = true ∧ v.fld Reg.PWR_STATUS Fld.PWR_STATUS_TARGET = 3)) ∧
    (∀ core, u.mode.allOn = true → exec (.watchdog t core) s = .next ((u.record 0x0803 2 0xFF (BitVec.ofNat 32 core)).settle s)) ∧
    (∀ off, u.mode.allOn = true →
      exec (.sramEccError t off true) s = .next ((u.record 0x0705 0 0xFF (BitVec.ofNat 32 off)).settle s) ∧
      exec (.sramEccError t off false) s = .next ((u.record 0x0706 2 0xFF (BitVec.ofNat 32 off)).settle s)) ∧
    (∀ code, u.mode.allOn = true →
      exec (.fwFault t code true) s = .next ((u.record 0x0802 1 0xFF code).settle s) ∧
      exec (.fwFault t code false) s = .next ((u.record 0x0804 0 0xFF code).settle s))

/-- What ends every powered state (R515, R516, R521, R544): EN low, a power or VIO fault and an accepted REQ = OFF take the module to Off, RESET_N low to
reset; all it held is lost. A REQ = OFF with cards unreturned and no FORCE is refused with REQRES 7 (R524). -/
def Obligations.WhatTurnsOff : Prop :=
  ∀ (s : State) (t : Nat), let u := s.advanceTo t
    (u.mode ≠ .off → ∃ v : State, exec (.enFall t) s = .next (v.settle s) ∧ v.mode = .off ∧ u.allLost v ∧ v.pins = { u.pins with en := false }) ∧
    (u.mode = .off → exec (.enFall t) s = .next (({ u with pins := { u.pins with en := false }, pwr := { u.pwr with enLowAt := some u.now } } : State).settle s)) ∧
    (u.pins.en = true → ∃ v : State, exec (.resetAssert t) s = .next (v.settle s) ∧ v.mode = .inReset ∧ u.allLost v ∧ v.pwr.offHeld = false ∧
      v.pins = { u.pins with resetN := false }) ∧
    (u.mode.powered = true →
      (∃ v : State, exec (.powerFault t) s = .next (v.settle s) ∧ v.mode = .off ∧ u.allLost v ∧ v.pins = u.pins) ∧
      (∃ v : State, exec (.vioFault t) s = .next (v.settle s) ∧ v.mode = .off ∧ u.allLost v ∧ v.pins = u.pins)) ∧
    (∀ p w, u.reaches p = true → u.answersWrite Reg.PWR_CTRL (reqWord w 4) = true →
      u.mode = .frozen ∨ u.flag Reg.PWR_STATUS Fld.PWR_STATUS_BUSY = false ∨ u.flag Reg.PWR_STATUS Fld.PWR_STATUS_WAITTRIG = true →
      (u.holdsCards = false ∨ getBits w Fld.PWR_CTRL_FORCE = 1 →
        ∃ v : State, exec (.reqOff t p w) s = .next (v.settle s) ∧ v.mode = .off ∧ u.allLost v ∧ v.pwr.offHeld = true) ∧
      (u.holdsCards = true → getBits w Fld.PWR_CTRL_FORCE = 0 →
        ∃ v : State, exec (.reqOff t p w) s = .next (v.settle s) ∧ v.mode = u.mode ∧ v.fld Reg.PWR_STATUS Fld.PWR_STATUS_REQRES = 7 ∧
          v.queues = u.queues ∧ v.sram = u.sram))

/-- Rails, clocks and temperature (R515, R518, R519, R539, R541): PG drops while a rail that the state needs is out of its window and returns with the last; the loss of
REFCLK or of a PLL's lock takes Poised, Inspecting and Halted to Standby and names its cause; AOCLK's loss starts the fallback and its return ends it; a measurement shows the temperature, its peak and the input,
sets TEMP_ALERT from TALERT to 2 °C below it, records TJ_HIGH once at 105 °C, and turns the module off at 115 °C. -/
def Obligations.SupplyAndClocks : Prop :=
  ∀ (s : State) (t : Nat), let u := s.advanceTo t
    (∀ rail, rail < 7 → u.mode.powered = true →
      (bit u.neededRails rail = true → ∃ v : State, exec (.railWindowExit t rail) s = .next (v.settle s) ∧ v.outPins.pg = false ∧
        v.flag Reg.PWR_RAILS ⟨rail, 1⟩ = false ∧ u.Keeps [.outPins, .pwr] (theRegs [Reg.PWR_RAILS]) v) ∧
      (bit u.neededRails rail = true → (∀ r, r < 7 → r ≠ rail → bit u.neededRails r = true → u.flag Reg.PWR_RAILS ⟨r, 1⟩ = true) →
        ∃ v : State, exec (.railWindowReturn t rail) s = .next (v.settle s) ∧ v.outPins.pg = true ∧ v.flag Reg.PWR_RAILS ⟨rail, 1⟩ = true ∧
          v.pwr.railOut = none ∧ u.Keeps [.outPins, .pwr] (theRegs [Reg.PWR_RAILS]) v)) ∧
    (∀ pll, u.mode.active = true → ∃ v : State, exec (.refclkLoss t pll) s = .next (v.settle s) ∧ v.mode = .standby ∧ v.pwr.refclk = (u.pwr.refclk && pll) ∧
      v.flag Reg.PWR_CAUSE (if pll then Fld.PWR_CAUSE_PLLUNLOCK else Fld.PWR_CAUSE_REFCLKLOST) = true ∧
      v.flag Reg.PWR_STATUS Fld.PWR_STATUS_BUSY = false) ∧
    (exec (.refclkReturn t) s = .next (({ u with pwr := { u.pwr with refclk := true } } : State).settle s)) ∧
    (u.mode.powered = true → ∃ v : State, exec (.aoclkLoss t) s = .next (v.settle s) ∧ u.Keeps [] (theRegs [Reg.PWR_CAUSE]) v ∧
      v.flag Reg.PWR_CAUSE Fld.PWR_CAUSE_AOCLKLOST = true ∧ v.flag Reg.PWR_CAUSE Fld.PWR_CAUSE_AOFALLBACK = true) ∧
    (u.mode.powered = true → ∃ v : State, exec (.aoclkRecovery t) s = .next (v.settle s) ∧ u.Keeps [] (theRegs [Reg.PWR_CAUSE]) v ∧
      v.flag Reg.PWR_CAUSE Fld.PWR_CAUSE_AOFALLBACK = false) ∧
    (∀ (tj : Int) vin power, -128 ≤ tj → tj < 128 → vin < 65536 → power < 65536 → u.mode.powered = true →
      (tj < 105 → ∃ v : State, exec (.tempMeasure t tj vin power) s = .next (v.settle s) ∧
        u.Keeps [.outPins, .pwr] (theRegs [Reg.PWR_TEMP, Reg.PWR_VIN, Reg.TWI_ATTN]) v ∧
        signed 8 (v.fld Reg.PWR_TEMP Fld.PWR_TEMP_TJ) = tj ∧
        signed 8 (v.fld Reg.PWR_TEMP Fld.PWR_TEMP_TJPEAK) = max tj (signed 8 (u.fld Reg.PWR_TEMP Fld.PWR_TEMP_TJPEAK)) ∧
        v.fld Reg.PWR_VIN Fld.PWR_VIN_VIN = vin ∧ v.fld Reg.PWR_VIN Fld.PWR_VIN_POWER = power ∧
        ((u.fld Reg.PWR_TEMP Fld.PWR_TEMP_TALERT : Int) ≤ tj → v.outPins.tempAlert = true) ∧
        (tj ≤ (u.fld Reg.PWR_TEMP Fld.PWR_TEMP_TALERT : Int) - 2 → v.outPins.tempAlert = false)) ∧
      (105 ≤ tj → tj < 115 → u.mode = .poised → u.pwr.hot = false → u.flag Reg.ERR_STATUS Fld.ERR_STATUS_HALTING = false →
        ∃ v : State, exec (.tempMeasure t tj vin power) s = .next (v.settle s) ∧ v.mode = .halted ∧ v.pwr.hot = true) ∧
      (115 ≤ tj → ∃ v : State, exec (.tempMeasure t tj vin power) s = .next (v.settle s) ∧ v.mode = .off ∧ v.regs = [] ∧ v.ram = [] ∧ v.sram = []))

/-- Requests written to PWR_CTRL, and what ends and begins an inspection (R521 to R525, R538): a request while a transition is in progress, or from a
state that R521 does not allow, is refused with its REQRES; an accepted one begins its transition; a stop takes effect at its boundary; and the first
reference trigger after a preparation enters Inspecting. -/
def Obligations.Requests : Prop :=
  ∀ (s : State) (t : Nat) (p : Path) (w : Word), let u := s.advanceTo t
    u.reaches p = true →
    (u.mode = .standby ∨ u.mode.active = true → u.flag Reg.PWR_STATUS Fld.PWR_STATUS_BUSY = true → u.flag Reg.PWR_STATUS Fld.PWR_STATUS_WAITTRIG = false →
      (∃ v : State, exec (.reqStandby t p w) s = .next (v.settle s) ∧ v.mode = u.mode ∧ v.fld Reg.PWR_STATUS Fld.PWR_STATUS_REQRES = 8) ∧
      (∃ v : State, exec (.reqOff t p w) s = .next (v.settle s) ∧ v.mode = u.mode ∧ v.fld Reg.PWR_STATUS Fld.PWR_STATUS_REQRES = 8)) ∧
    (u.flag Reg.PWR_STATUS Fld.PWR_STATUS_BUSY = false →
      (u.mode = .inspecting → ∃ v : State, exec (.reqStandby t p w) s = .next (v.settle s) ∧ v.mode = .inspecting ∧ v.fld Reg.PWR_STATUS Fld.PWR_STATUS_REQRES = 1) ∧
      (u.mode = .poised ∨ u.mode = .halted → u.holdsCards = false →
        ∃ v : State, exec (.reqStandby t p w) s = .next (v.settle s) ∧ v.mode = .standby ∧ v.fld Reg.PWR_STATUS Fld.PWR_STATUS_REQRES = 0 ∧
          v.sram = [] ∧ v.ram = [] ∧ v.queues = [] ∧ v.links = [] ∧ v.outPins.hb = false ∧ v.outPins.hostRdy = false) ∧
      (u.mode = .inspecting → ∀ run, ∃ v : State, exec (.reqPoised t p w run) s = .next (v.settle s) ∧ v.mode = .inspecting ∧ v.err.stopReq = true ∧
        v.flag Reg.PWR_STATUS Fld.PWR_STATUS_BUSY = true ∧ v.fld Reg.PWR_STATUS Fld.PWR_STATUS_TARGET = 2) ∧
      (u.mode = .halted → u.err.boundary = none → u.acc.pool = none → ∀ run, ∃ v : State, exec (.reqPoised t p w run) s = .next (v.settle s) ∧ v.mode = .poised ∧
        v.flag Reg.ERR_STATUS Fld.ERR_STATUS_FROMINSP = false ∧ v.fld Reg.PWR_STATUS Fld.PWR_STATUS_REQRES = 0) ∧
      (u.mode = .poised → u.flag Reg.PWR_STATUS Fld.PWR_STATUS_WAITTRIG = false → ∀ run, ∃ v : State, exec (.reqPoised t p w run) s = .next (v.settle s) ∧ v.mode = .poised ∧
        v.fld Reg.PWR_STATUS Fld.PWR_STATUS_REQRES = 1) ∧
      (u.mode = .poised → ∀ prep, let r := (u.writeReg p Reg.PWR_CTRL (reqWord w 3)).inspectFault
        (r ≠ 0 → ∃ v : State, exec (.reqInspect t p w prep) s = .next (v.settle s) ∧ v.mode = .poised ∧ v.fld Reg.PWR_STATUS Fld.PWR_STATUS_REQRES = r ∧
          (r = 4 → v.num Reg.ACC_REASON = 0x0401)) ∧
        (r = 0 → ∃ v : State, exec (.reqInspect t p w prep) s = .next (v.settle s) ∧ v.pwr.prep = some (v.now + 1000 * prep) ∧
          v.flag Reg.PWR_STATUS Fld.PWR_STATUS_BUSY = true ∧ v.fld Reg.PWR_STATUS Fld.PWR_STATUS_TARGET = 3 ∧ v.num Reg.PWR_TINSP = prep % 2 ^ 32))) ∧
    (u.mode ≠ .frozen → p = .twi → getBits w Fld.PWR_CTRL_REQ = 0 → ∃ v : State, exec (.clrfail t p w) s = .next (v.settle s) ∧ v.mode = u.mode ∧
      v.fld Reg.PWR_STATUS Fld.PWR_STATUS_FAILS = 0) ∧
    (∀ k, u.mode = .inspecting → u.err.boundary = some k → u.err.stopReq = true → u.dueBreaches k = [] →
      exec (.inspectionStop t) s = .next (((u.endRequest 0).leaveInspecting k .poised).settle s)) ∧
    (∀ sl rest, u.slots = sl :: rest → u.flag Reg.PWR_STATUS Fld.PWR_STATUS_WAITTRIG = true → u.mode.allOn = true →
      ∃ v : State, exec (.inspectEntry t) s = .next (v.settle s) ∧ v.mode = .inspecting ∧ v.slots.map (fun x => x.line) = [sl.line] ∧
        v.card.refusedFirst = none ∧ v.prof.atNext = true)

/-- Starting (R516, R521, R529, R532, R534, R537, R538, R544): a rise of EN or the release of RESET_N senses VIO, begins at Standby, where the straps say so ends there, and else
goes through its stages; a request from Standby goes through them too; GO in the boot stage verifies the image there, and none within 60 s fails the start with cause 7; a failed start
ends in Standby with its cause, counted up to 3; one that ends well ends in Poised. -/
def Obligations.Starting : Prop :=
  ∀ (s : State) (t : Nat) (run : StartRun), let u := s.advanceTo t
    (∀ boot tw, u.mode = .off ∨ u.mode = .inReset ∨ u.mode = .starting → u.mayStart = true →
      exec (.coldStart t boot tw run) s = .next ((if boot = 3 then (((u.senseVio run.vio33).firstStage boot tw).advanceTo (u.now + run.dur)).endRequest 0
        else (((u.senseVio run.vio33).firstStage boot tw).advanceTo (u.now + run.dur)).mainStages run).settle s)) ∧
    (∀ boot tw, (u.firstStage boot tw).mode = .standby ∧ (u.firstStage boot tw).pins.boot = boot ∧ (u.firstStage boot tw).pins.twAddr = tw ∧
      (u.firstStage boot tw).outPins.pg = true ∧ (u.firstStage boot tw).flag Reg.PWR_STATUS Fld.PWR_STATUS_BUSY = true) ∧
    (∀ boot tw, u.mode = .off → u.mayStart = false →
      exec (.coldStart t boot tw run) s = .next (({ u with pins := { u.pins with en := true } } : State).settle s)) ∧
    (∀ boot tw, u.mode = .standby → u.flag Reg.PWR_STATUS Fld.PWR_STATUS_BUSY = true → u.fld Reg.PWR_STATUS Fld.PWR_STATUS_TARGET = 2 → u.pwr.bootWait = none →
      exec (.coldStart t boot tw run) s = .next (((u.advanceTo (u.now + run.dur)).mainStages run).settle s)) ∧
    (run.pll = false → u.mainStages run = u.startFailed 1) ∧
    (∀ cause, cause < 16 → (u.startFailed cause).mode = .standby ∧ (u.startFailed cause).fld Reg.PWR_STATUS Fld.PWR_STATUS_STARTRES = cause ∧
      (u.startFailed cause).fld Reg.PWR_STATUS Fld.PWR_STATUS_FAILS = min 3 (u.fld Reg.PWR_STATUS Fld.PWR_STATUS_FAILS + 1) ∧
      (u.startFailed cause).flag Reg.PWR_CAUSE Fld.PWR_CAUSE_STARTFAIL = true ∧ (u.startFailed cause).flag Reg.PWR_STATUS Fld.PWR_STATUS_BUSY = false) ∧
    (run.memOk = true → run.fwOk = true → ∀ image, (u.startEnd run image).mode = .poised) ∧
    (∀ p w digest sg b, u.reaches p = true → u.answersWrite Reg.SYS_BOOTCTL (withBits w 1) = true → u.pwr.bootWait = some b → u.pwr.go = none →
      (isCopied Reg.SYS_BOOTCTL = false) ∧
      exec (.bootGo t p w digest sg run) s = .next ((({ u.writeReg p Reg.SYS_BOOTCTL (withBits w 1) with
        pwr := { u.pwr with go := some u.now } } : State).bootGo digest sg run).settle s)) ∧
    (∀ b, u.pwr.bootWait = some b → u.pwr.go = none → b + 60 * 10 ^ 12 ≤ u.now → exec (.hosttmo t) s = .next ((u.startFailed 7).settle s))

/-! ### Position feedback and line triggering -/

/-- The position inputs (R94 to R102, R105, R117): an edge of an enabled input is decided 2 ns later, but with an edge of the other signal less than 2 ns before it, or with it, both count nothing but QERR;
an edge that is decided counts one step in the sense that the levels and INVDIR give, up to the soft limits, where it is refused and counted; a disabled input only follows its pins; an active Z edge,
decided likewise, homes, shows the count, or is checked against the expected count; a serial frame, applied after 2 ns, loads, adds its difference, or is refused with its counter; and STALL µs
without a step clear SPEED. That frames and Z edges take 2 ns, as edges do, is the model's choice (log 54). -/
def Obligations.PositionInputs : Prop :=
  ∀ (s : State) (t k : Nat), k < 6 →
    (let u := s.advanceTo t
     let q := u.posIn k
     let c := u.get48 (Reg.IN_CNT_LO k)
     let moved (a b : Bool) : State := u.setPosIn k { q with a := a, b := b }
     let undecided (onB : Bool) (w : EvrWait) : Prop := ∃ level other at_, w.item = .edge k onB level other at_ ∧ u.now < at_ + 2000 ∧ at_ < u.now + 2000
     let illegal (v : State) : Prop := v.get48 (Reg.IN_CNT_LO k) = c ∧ v.num (Reg.IN_QERR k) = min 0xFFFFFFFF (u.num (Reg.IN_QERR k) + 1) ∧
        v.trgCam = u.trgCam ∧ v.ports = u.ports
     (∀ gap bFirst, u.mode.powered = true → u.inputEnabled k = true →
       ((∀ w ∈ u.evrQ, ¬ undecided true w) → exec (.quadratureEdge t k (!q.a) q.b gap bFirst) s =
         .next (((moved (!q.a) q.b).route 2000 (.edge k false (!q.a) q.b u.now)).settle s)) ∧
       ((∀ w ∈ u.evrQ, ¬ undecided false w) → exec (.quadratureEdge t k q.a (!q.b) gap bFirst) s =
         .next (((moved q.a (!q.b)).route 2000 (.edge k true (!q.b) q.a u.now)).settle s)) ∧
       (∀ w ∈ u.evrQ, undecided true w → ∃ v : State, exec (.quadratureEdge t k (!q.a) q.b gap bFirst) s = .next (v.settle s) ∧ illegal v) ∧
       (∀ w ∈ u.evrQ, undecided false w → ∃ v : State, exec (.quadratureEdge t k q.a (!q.b) gap bFirst) s = .next (v.settle s) ∧ illegal v) ∧
       (gap < 2000 → ∃ v : State, exec (.quadratureEdge t k (!q.a) (!q.b) gap bFirst) s = .next (v.settle s) ∧ illegal v ∧ v.posIn k = { q with a := !q.a, b := !q.b }) ∧
       (20000 ≤ gap → (∀ w ∈ u.evrQ, ¬ undecided (!bFirst) w) → exec (.quadratureEdge t k (!q.a) (!q.b) gap bFirst) s =
         .next (((((moved (!q.a) (!q.b)).route 2000 (if bFirst then .edge k true (!q.b) q.a u.now else .edge k false (!q.a) q.b u.now))).route (gap + 2000)
           (if bFirst then .edge k false (!q.a) (!q.b) (u.now + gap) else .edge k true (!q.b) (!q.a) (u.now + gap))).settle s))) ∧
     (∀ a b gap bFirst, u.inputEnabled k = false ∨ u.mode.powered = false → exec (.quadratureEdge t k a b gap bFirst) s = .next ((moved a b).settle s)) ∧
     (∀ level, (q.z != level) = true → let z := u.setPosIn k { q with z := level }
       (u.mode.powered = true → u.inputEnabled k = true → (level != u.flag (Reg.IN_CFG k) Fld.IN_CFG_ZPOL) = true →
         exec (.indexEdge t k level) s = .next ((z.route 2000 (.index k)).settle s)) ∧
       (u.mode.powered = false ∨ u.inputEnabled k = false ∨ level = u.flag (Reg.IN_CFG k) Fld.IN_CFG_ZPOL → exec (.indexEdge t k level) s = .next (z.settle s))) ∧
     (4 ≤ k → u.mode.powered = true → u.inputEnabled k = true → let latch := 100 * min 10 (max 2 (u.fld (Reg.SPOS_CFG (k - 4)) Fld.SPOS_CFG_LATCH))
       (q.frameAt = none → exec (.sposPoll t k) s = .next (((u.setPosIn k { q with frameAt := some u.now }).emit (.sposClk (k - 4) latch)).settle s)) ∧
       (∀ st pos check, q.frameAt.isSome = true → exec (.sposFrame t k st pos check) s =
         .next (((u.setPosIn k { q with frameAt := none }).route 2000 (.frame k st pos check u.now)).settle s)) ∧
       (∀ e, q.frameAt = some e → e + 1000 * latch + 1000000 * u.fld (Reg.SPOS_TIM (k - 4)) Fld.SPOS_TIM_TMO ≤ u.now →
         ∃ v : State, exec (.leadinTimeout t k) s = .next (v.settle s) ∧ v.get48 (Reg.IN_CNT_LO k) = c ∧
           v.num (Reg.IN_TMOCNT k) = min 0xFFFFFFFF (u.num (Reg.IN_TMOCNT k) + 1) ∧ v.posIn k = { q with frameAt := none, fails := q.fails + 1 })) ∧
     (∀ e, u.mode.powered = true → q.moved = some e → e + 1000000 * max 1 (u.fld (Reg.IN_CFG k) Fld.IN_CFG_STALL) ≤ u.now →
       ∃ v : State, exec (.stall t k) s = .next (v.settle s) ∧ v.num (Reg.IN_SPEED k) = 0 ∧ v.flag (Reg.IN_STATUS k) Fld.IN_STATUS_SPDVALID = false ∧
         (u.isSource k = true → v.flag Reg.POS_EVT ⟨6, 1⟩ = true) ∧
         u.Keeps [.pos, .evrQ] (theRegs [Reg.IN_SPEED k, Reg.IN_STATUS k, Reg.POS_EVT]) v)) ∧
    -- what is decided when its time has come
    (∀ w, s.pending = [] → earliest s.evrQ = some w → let y := s.passTime (max s.now w.due)
      let q := y.posIn k
      let c := y.get48 (Reg.IN_CNT_LO k)
      let lo := y.get48 (Reg.IN_SOFTLO_LO k)
      let hi := y.get48 (Reg.IN_SOFTHI_LO k)
      let sat (up : Bool) (n : Nat) (v : State) : Prop := v.get48 (Reg.IN_CNT_LO k) = (if up then lo else hi) ∧
        v.num (Reg.IN_SATCNT k) = min 0xFFFFFFFF (y.num (Reg.IN_SATCNT k) + n) ∧ v.flag (Reg.IN_STATUS k) (if up then Fld.IN_STATUS_SATLO else Fld.IN_STATUS_SATHI) = true
      (y.mode.powered = false ∨ y.inputEnabled k = false → (∃ onB level other at_, w.item = .edge k onB level other at_) ∨ w.item = .index k ∨
          (∃ st pos check at_, w.item = .frame k st pos check at_) → step s = .next (({ y with evrQ := y.evrQ.erase w } : State).settle s)) ∧
      (y.mode.powered = true → y.inputEnabled k = true →
        (∀ onB level other at_, w.item = .edge k onB level other at_ → let fwd := if onB then level == other else level != other
          let d : Int := if fwd != y.flag (Reg.IN_CFG k) Fld.IN_CFG_INVDIR then 1 else -1
          (lo ≤ c + d → c + d ≤ hi → ∃ v : State, step s = .next (v.settle s) ∧ v.get48 (Reg.IN_CNT_LO k) = c + d ∧
            v.flag (Reg.IN_STATUS k) Fld.IN_STATUS_DIR = decide (d < 0) ∧ v.num (Reg.IN_SATCNT k) = y.num (Reg.IN_SATCNT k) ∧ (v.posIn k).moved = some y.now) ∧
          (c + d < lo ∨ hi < c + d → lo ≤ c → c ≤ hi → ∃ v : State, step s = .next (v.settle s) ∧ sat (decide (d < 0)) 1 v)) ∧
        (w.item = .index k → let ref := y.get48 (Reg.IN_IDXREF_LO k)
          let per : Int := y.num (Reg.IN_IDXPER k)
          let e := ref + per * ((2 * (c - ref) + per) / (2 * per))
          (y.flag (Reg.IN_CFG k) Fld.IN_CFG_HOME = true → ∃ v : State, step s = .next (v.settle s) ∧
            v.get48 (Reg.IN_CNT_LO k) = signed 48 (unsignedOf 48 (min hi (max lo ref))) ∧
            v.flag (Reg.IN_CFG k) Fld.IN_CFG_HOME = false ∧ v.num (Reg.IN_SPEED k) = 0 ∧ v.num (Reg.IN_IDXERR k) = y.num (Reg.IN_IDXERR k)) ∧
          (y.flag (Reg.IN_CFG k) Fld.IN_CFG_HOME = false → y.num (Reg.IN_IDXPER k) = 0 → ∃ v : State, step s = .next (v.settle s) ∧
            v.get48 (Reg.IN_IDXACT_LO k) = c ∧ v.get48 (Reg.IN_CNT_LO k) = c ∧ v.err = y.err) ∧
          (y.flag (Reg.IN_CFG k) Fld.IN_CFG_HOME = false → y.num (Reg.IN_IDXPER k) ≠ 0 →
            ((c - e).natAbs ≤ y.fld (Reg.IN_IDXTOL k) Fld.IN_IDXTOL_TOL → step s = .next (({ y with evrQ := y.evrQ.erase w } : State).settle s)) ∧
            (y.fld (Reg.IN_IDXTOL k) Fld.IN_IDXTOL_TOL < (c - e).natAbs → y.fld (Reg.IN_CFG k) Fld.IN_CFG_IDXPOL = 0 →
              ∃ v : State, step s = .next (v.settle s) ∧ v.get48 (Reg.IN_CNT_LO k) = c ∧ v.get48 (Reg.IN_IDXACT_LO k) = c ∧
                v.num (Reg.IN_IDXERR k) = min 0xFFFFFFFF (y.num (Reg.IN_IDXERR k) + 1)) ∧
            (y.fld (Reg.IN_IDXTOL k) Fld.IN_IDXTOL_TOL < (c - e).natAbs → y.fld (Reg.IN_CFG k) Fld.IN_CFG_IDXPOL = 1 → lo ≤ e → e ≤ hi →
              ∃ v : State, step s = .next (v.settle s) ∧ v.get48 (Reg.IN_CNT_LO k) = e ∧
                v.num (Reg.IN_IDXERR k) = min 0xFFFFFFFF (y.num (Reg.IN_IDXERR k) + 1)))) ∧
        (∀ st pos check at_, w.item = .frame k st pos check at_ → 4 ≤ k → let n := y.fld (Reg.SPOS_CFG (k - 4)) Fld.SPOS_CFG_POSBITS
          let x := pos % 2 ^ n
          (y.frameBad k st pos check = true → ∃ v : State, step s = .next (v.settle s) ∧
            v.get48 (Reg.IN_CNT_LO k) = c ∧ v.num (Reg.IN_FRAMEERR k) = min 0xFFFFFFFF (y.num (Reg.IN_FRAMEERR k) + 1) ∧ (v.posIn k).fails = q.fails + 1) ∧
          (y.frameBad k st pos check = false → q.prevPos = none → ∃ v : State, step s = .next (v.settle s) ∧
            v.get48 (Reg.IN_CNT_LO k) = signed 48 (unsignedOf 48 (min hi (max lo (x : Int)))) ∧ (v.posIn k).prevPos = some x ∧ (v.posIn k).fails = 0) ∧
          (∀ x0, y.frameBad k st pos check = false → q.prevPos = some x0 → x0 < 2 ^ n → lo ≤ c → c ≤ hi → let d := signed n (x + 2 ^ n - x0)
            (lo ≤ c + d → c + d ≤ hi → ∃ v : State, step s = .next (v.settle s) ∧ v.get48 (Reg.IN_CNT_LO k) = c + d ∧ (v.posIn k).prevPos = some x ∧
              v.num (Reg.IN_SATCNT k) = y.num (Reg.IN_SATCNT k)) ∧
            (c + d < lo → ∃ v : State, step s = .next (v.settle s) ∧ sat true (lo - (c + d)).natAbs v) ∧
            (hi < c + d → ∃ v : State, step s = .next (v.settle s) ∧ sat false (c + d - hi).natAbs v)))))

/-- The line a camera is armed with is the smallest whose target, with the camera's offset, lies above the count (R106, R107). -/
def Obligations.ArmedLineIsTheNext : Prop :=
  ∀ (s : State) (n : Nat) (c : Int), s.pitchOk = true →
    let x (j : Int) : Int := s.get48 Reg.TRG_ORIGIN_LO + j * (s.num Reg.TRG_PITCH_NUM : Int) / (s.num Reg.TRG_PITCH_DEN : Int)
    ∀ j : Int, s.lineAbove n c ≤ j ↔ c < x j + s.offsetOf n

/-- The rows of the trigger generator (R12, R100, R101, R107, R113, R114, R568): TRG_CTRL written with EN arms the enabled cameras in Poised and Halted, ARM arms its compare output unless no source is selected, HOME is
set for the next Z edge, both halves of a soft limit are written, and a pulse ends when its width has expired. A fire of a READY port's camera sends its token with its
phase, its count and HOLD and counts it in TSEQ, which ROLEGATE only withholds (R112, R116). -/
def Obligations.TriggerRows : Prop :=
  ∀ (s : State) (t : Nat) (p : Path) (w : Word), let u := s.advanceTo t
    (u.reaches p = true → u.performs Reg.TRG_CTRL (withBits w 1) = true → u.mode = .poised ∨ u.mode = .halted → u.pitchOk = true → u.source.isSome = true →
      ∃ v : State, exec (.triggerEnable t p w) s = .next (v.settle s) ∧ v.flag Reg.TRG_CTRL Fld.TRG_CTRL_EN = true ∧
        ∀ n, n < 12 → u.trgEnabled n = true → (v.trgCamOf n).armed = true ∧
          v.getS64 (Reg.TRG_NEXT_LO n) = signed 64 (unsignedOf 64 (u.lineAbove n u.count))) ∧
    (∀ k, k < 16 → u.reaches p = true → u.performs (Reg.TRIG_CMPCTL k) (withBits w 1) = true →
      ∃ v : State, exec (.arm t p k w) s = .next (v.settle s) ∧ (u.source.isSome = true → v.flag (Reg.TRIG_CMPCTL k) Fld.TRIG_CMPCTL_ARMED = true) ∧
        (u.source = none → v.flag (Reg.TRIG_CMPCTL k) Fld.TRIG_CMPCTL_ARMED = u.flag (Reg.TRIG_CMPCTL k) Fld.TRIG_CMPCTL_ARMED) ∧
        u.Keeps [.shadow] (theRegs [Reg.TRIG_CMPCTL k]) v) ∧
    (∀ k, k < 6 → u.reaches p = true → u.performs (Reg.IN_CFG k) (withBits w 0x10) = true → u.mode ≠ .inspecting →
      ∃ v : State, exec (.home t p k w) s = .next (v.settle s) ∧ v.flag (Reg.IN_CFG k) Fld.IN_CFG_HOME = true ∧
        u.Keeps [.shadow] (theRegs [Reg.IN_CFG k]) v) ∧
    (∀ k h hi lo, k < 6 → u.reaches p = true → u.mode = .poised ∨ u.mode = .halted →
      let a := if h then Reg.IN_SOFTHI_LO k else Reg.IN_SOFTLO_LO k
      ∃ v : State, exec (.softLimitWrite t p k h lo hi) s = .next (v.settle s) ∧ v.reg a = lo ∧ v.reg (a + 4) = BitVec.ofNat 32 (unsignedOf 32 (signed 16 hi.toNat))) ∧
    (∀ k b e, Store.get (fun _ => none) k u.outPins.trigEnd = some (b, e) → e ≤ u.now →
      ∃ v : State, exec (.trigPulseEnd t k) s = .next (v.settle s) ∧ v.out = .trigEnd k :: u.out ∧
        Store.get (fun _ => none) k v.outPins.trigEnd = none ∧ u.Keeps [.outPins, .out] noReg v) ∧
    (∀ n at_ (j : Int), n < 12 → u.linkReady n = true →
      let v := u.openWindow n j at_
      v.fld (Reg.CAM_TSEQ n) Fld.CAM_TSEQ_NEXT = (u.fld (Reg.CAM_TSEQ n) Fld.CAM_TSEQ_NEXT + 1) % 2 ^ Fld.CAM_TSEQ_NEXT.len ∧
      (u.gated = true → v.out = u.out) ∧
      (u.gated = false → v.out = .token n (u.fld (Reg.CAM_TSEQ n) Fld.CAM_TSEQ_NEXT) (j % (u.phases n : Int)).toNat (u.tokenHold n (at_ + 12000))
        (u.target j + u.offsetOf n) :: u.out))

/-! ### Links and camera ports -/

/-- A bring-up attempt (R59, R62, R63, R65, R71, R78, R79, R90, R93): recovered clock, block lock on every lane (64 valid headers in a row) and two good AM rows within 180 ns of skew lead on;
lost signals, lock or alignment, a greater skew and a passed deadline fail the attempt, which is counted, and the fourth fails the link; each lane that loses lock counts it; RETRAIN leaves
FAILED; 1 s of READY forgets the attempts; a PRBS checker in TEST locks to 31 bits and counts every later bit that its pattern does not give; and 16,384 rows after the last one the transmitter's
AM row leaves, one row later where a token goes first. -/
def Obligations.LinkBringUp : Prop :=
  ∀ (s : State) (t m : Nat), m < 15 → let u := s.advanceTo t
    let st := u.lstate m
    u.mode.active = true →
    (∀ w : State, let n := w.fld (Reg.CAM_STATE m) Fld.CAM_STATE_TRIES
      (n < 3 → (w.failAttempt m).lstate m = 1 ∧ (w.failAttempt m).fld (Reg.CAM_STATE m) Fld.CAM_STATE_TRIES = n + 1 ∧ ((w.failAttempt m).link m).attemptAt = w.now) ∧
      (3 ≤ n → (w.failAttempt m).lstate m = 6 ∧ (w.failAttempt m).fld (Reg.CAM_STATE m) Fld.CAM_STATE_TRIES = 4)) ∧
    (st = 1 → ∃ v : State, exec (.clockRecovered t m) s = .next (v.settle s) ∧ (v.link m).recovered = true ∧ u.Keeps [.links] (theRegs [Reg.CAM_STATE m]) v ∧
      v.lstate m = (if u.fld (Reg.CAM_STATE m) Fld.CAM_STATE_LOCK % 2 ^ u.lanes m = 2 ^ u.lanes m - 1 then 3 else 2)) ∧
    (∀ lost k0, 1 ≤ st → st ≤ 6 → k0 < u.lanes m → bit lost k0 = true →
      ∃ x : State, exec (.signalLoss t ⟨m, lost⟩) s = .next ((if 2 ≤ st ∧ st ≤ 5 then x.failAttempt m else x).settle s) ∧ (x.link m).recovered = false ∧
        x.flag (Reg.CAM_STATE m) Fld.CAM_STATE_ALIGNED = false ∧
        (∀ k, k < 4 → let had := u.flag (Reg.CAM_STATE m) ⟨4 + k, 1⟩
          let loses := decide (k < u.lanes m) && bit lost k
          x.flag (Reg.CAM_STATE m) ⟨4 + k, 1⟩ = (had && !loses) ∧ x.num (Reg.LANE_LOCKLOSS m k) =
            (if had && loses then min 0xFFFFFFFF (u.num (Reg.LANE_LOCKLOSS m k) + 1) else u.num (Reg.LANE_LOCKLOSS m k))) ∧
        u.Keeps [.links] (theRegs ([Reg.CAM_STATE m] ++ (List.range 4).map (Reg.LANE_LOCKLOSS m))) x) ∧
    -- sync headers: 64 valid ones in a row give block lock, 16 invalid ones among the last 64 lose it
    (∀ heads : List (BitVec 2), (gainsLock heads = true ↔ ∃ a b, heads = a ++ b ∧ b.length = 64 ∧ ∀ h ∈ b, h = 1 ∨ h = 2) ∧
      (losesLock heads = true ↔ ∃ a b, heads = a ++ b ∧ b.length ≤ 64 ∧ 16 ≤ badCount b) ∧ badCount heads = (heads.filter fun h => decide (h ≠ 1 ∧ h ≠ 2)).length) ∧
    (∀ lane heads, 1 ≤ st → st ≤ 6 → lane < u.lanes m → lane < 4 →
      let counted (v : State) : Prop := v.num (Reg.LANE_SHERR m lane) = min 0xFFFFFFFF (u.num (Reg.LANE_SHERR m lane) + badCount heads)
      let had := bit (u.fld (Reg.CAM_STATE m) Fld.CAM_STATE_LOCK) lane
      (gainsLock heads = true → ∃ v : State, exec (.blockLockGained t m lane heads) s = .next (v.settle s) ∧ counted v ∧ v.flag (Reg.CAM_STATE m) ⟨4 + lane, 1⟩ = true ∧
        (st = 2 → (v.lstate m = 3 ↔ v.fld (Reg.CAM_STATE m) Fld.CAM_STATE_LOCK % 2 ^ u.lanes m = 2 ^ u.lanes m - 1)) ∧ (st ≠ 2 → v.lstate m = st) ∧
        u.Keeps [.links] (theRegs [Reg.CAM_STATE m, Reg.LANE_SHERR m lane]) v) ∧
      (gainsLock heads = false → ∃ v : State, exec (.blockLockGained t m lane heads) s = .next (v.settle s) ∧ counted v ∧ u.Keeps [] (theRegs [Reg.LANE_SHERR m lane]) v) ∧
      (losesLock heads = true → had = true → ∃ x : State, exec (.blockLockLost t m lane heads) s = .next ((if 3 ≤ st ∧ st ≤ 5 then x.failAttempt m else x).settle s) ∧ counted x ∧
        x.flag (Reg.CAM_STATE m) ⟨4 + lane, 1⟩ = false ∧ x.num (Reg.LANE_LOCKLOSS m lane) = min 0xFFFFFFFF (u.num (Reg.LANE_LOCKLOSS m lane) + 1) ∧
        u.Keeps [] (theRegs [Reg.CAM_STATE m, Reg.LANE_SHERR m lane, Reg.LANE_LOCKLOSS m lane]) x) ∧
      (losesLock heads = false ∨ had = false → ∃ v : State, exec (.blockLockLost t m lane heads) s = .next (v.settle s) ∧ counted v ∧ u.Keeps [] (theRegs [Reg.LANE_SHERR m lane]) v)) ∧
    (∀ ams skew, amRowGood (u.lanes m) ams = true → ams.all AmLane.bipOk = true → 1 ≤ (u.link m).goodAm → st = 3 → skew ≤ 180 →
      ∃ v : State, exec (.alignmentMarker t m ams skew) s = .next (v.settle s) ∧ v.lstate m = 4 ∧ v.flag (Reg.CAM_STATE m) Fld.CAM_STATE_ALIGNED = true ∧
        v.fld (Reg.CAM_STATE m) Fld.CAM_STATE_SKEW = skew ∧ (v.link m).handshakeAt = u.now) ∧
    (∀ ams skew, amRowGood (u.lanes m) ams = true → ams.all AmLane.bipOk = true → 1 ≤ (u.link m).goodAm → st = 3 → 180 < skew →
      ∃ x : State, exec (.alignmentMarker t m ams skew) s = .next ((x.failAttempt m).settle s) ∧ u.Keeps [.links] (theRegs [Reg.CAM_STATE m]) x) ∧
    (∀ ams skew, amRowGood (u.lanes m) ams = false → (∀ x ∈ ams, x.shown = true → x.bipOk = true) → (u.link m).badAm = 3 → st = 4 ∨ st = 5 →
      ∃ x : State, exec (.alignmentMarker t m ams skew) s = .next ((x.failAttempt m).settle s) ∧ x.flag (Reg.CAM_STATE m) Fld.CAM_STATE_ALIGNED = false) ∧
    (1 ≤ st → st ≤ 6 → let up := (u.link m).up
      let due := up.amRow + 16384
      let tokenDue := up.units.any fun x => decide (x.cls = 0 ∧ x.row = due)
      (up.startAt.isSome = true → 66 * due ≤ u.upUi m u.now → ∃ (v : State) (bips : List Nat), exec (.upstreamAmRow t m) s = .next (v.settle s) ∧ bips.length = u.upLanes m ∧
        v.out = .amRow m tokenDue (bips.zipIdx.map fun b => amBody b.2 b.1) :: u.out ∧ (v.link m).up.amRow = (if tokenDue then due + 1 else due) ∧
        (∀ x ∈ (v.link m).up.units, x.cls ≠ 0 → (v.link m).up.amRow < x.row ∨ x.row + x.rows.length ≤ (v.link m).up.amRow ∨ ∃ y ∈ up.units, y.row < (v.link m).up.amRow ∧ y.cls = x.cls) ∧
        u.Keeps [.links, .out] noReg v) ∧
      (up.startAt = none ∨ u.upUi m u.now < 66 * due → exec (.upstreamAmRow t m) s = .next (u.settle s))) ∧
    (1 ≤ st → st ≤ 4 → (u.link m).attemptAt + 20 * 10 ^ 9 ≤ u.now → u.standbyRole = false →
      exec (.handshakeTimeout t m) s = .next ((u.failAttempt m).settle s)) ∧
    (st = 5 → (u.link m).readyAt + 10 ^ 12 ≤ u.now → exec (.triesReset t m) s = .next ((u.setFld (Reg.CAM_STATE m) Fld.CAM_STATE_TRIES 0).settle s)) ∧
    (∀ p w, u.reaches p = true → u.performs (Reg.CAM_CTRL m) (withBits w 0x10000) = true → st = 6 →
      let x := u.writeReg p (Reg.CAM_CTRL m) (withBits w 0x10000)
      x.linkEnabled m = true → x.prbsOn m = false →
      ∃ v : State, exec (.retrain t p m w) s = .next (v.settle s) ∧ v.lstate m = 1 ∧ v.fld (Reg.CAM_STATE m) Fld.CAM_STATE_TRIES = 0) ∧
    (∀ lane (bits : List Bool), st = 7 → lane < (if m = 14 then 2 else 4) → let code := u.fld (Reg.LANE_CTRL m lane) Fld.LANE_CTRL_PRBS_RX
      let locked := u.flag (Reg.LANE_CTRL m lane) Fld.LANE_CTRL_PRBS_LOCK
      let start := if locked then Store.get (fun _ => 0) lane (u.link m).prbs else prbsSeed (bits.take 31)
      let rest := if locked then bits else bits.drop 31
      (code ≠ 0 → locked = true ∨ 31 ≤ bits.length → ∃ v : State, exec (.prbsCheckerLock t m lane bits) s = .next (v.settle s) ∧
        v.flag (Reg.LANE_CTRL m lane) Fld.LANE_CTRL_PRBS_LOCK = true ∧
        v.num (Reg.LANE_PRBSERR m lane) = min 0xFFFFFFFF (u.num (Reg.LANE_PRBSERR m lane) + (prbsCheck code start rest).1) ∧
        u.Keeps [.links] (theRegs [Reg.LANE_CTRL m lane, Reg.LANE_PRBSERR m lane]) v) ∧
      (code = 0 ∨ (locked = false ∧ bits.length < 31) → exec (.prbsCheckerLock t m lane bits) s = .next (u.settle s)) ∧
      (∀ n, (prbsCheck code start (prbsBits code n start)).1 = 0))

/-- The handshake of a camera port (R73, R75, R76, R78, R143): a HELLO that fits is answered with CONFIG and one that does not fails the port; CONFIG_ACK with another
word fails the attempt; the eighth round trip makes the port READY, with TSEQ 0 and the greatest time in CAM_RTT; and a register access through it is sent, answered,
refused while one is outstanding, and given up after 100 µs. -/
def Obligations.CameraHandshake : Prop :=
  ∀ (s : State) (t n : Nat), n < 12 → let u := s.advanceTo t
    u.mode.active = true →
    (∀ parts, u.lstate n = 4 → u.standbyRole = false → parts.map Prod.fst = [0, 1, 2, 3] →
      let x := (u.storeHello n parts).helloRestored n
      (x.helloFits n = false → exec (.hello t n parts) s = .next ((x.linkFailed n).settle s)) ∧
      (x.helloFits n = true → ∃ v : State, exec (.hello t n parts) s = .next (v.settle s) ∧ v.out = .mgmt n 1 0 (x.configWord n) :: x.out ∧
        (v.link n).helloOk = true ∧ (v.link n).config = some (x.configWord n, x.now) ∧ x.Keeps [.links, .out] noReg v)) ∧
    (∀ data, u.lstate n = 4 → u.standbyRole = false →
      (((u.link n).config.map Prod.fst) ≠ some data → exec (.configAck t n data) s = .next ((u.failAttempt n).settle s)) ∧
      (((u.link n).config.map Prod.fst) = some data → (u.link n).configAcked = false → ∃ v : State, exec (.configAck t n data) s = .next (v.settle s) ∧
        (v.link n).configAcked = true ∧ (v.link n).echo.isSome = true ∧ u.Keeps [.links, .out] noReg v)) ∧
    (∀ data at_, u.lstate n = 4 → (u.link n).echo = some (data, at_) →
      let rtt := min 65535 ((u.now - at_ + 999) / 1000)
      let best := if (u.link n).echoes = 0 then rtt else max (u.fld (Reg.CAM_RTT n) Fld.CAM_RTT_RTT) rtt
      ∃ v : State, exec (.echoReply t n ⟨true, data⟩) s = .next (v.settle s) ∧ v.fld (Reg.CAM_RTT n) Fld.CAM_RTT_RTT = best ∧ (v.link n).echoes = (u.link n).echoes + 1 ∧
        ((u.link n).echoes < 7 → v.lstate n = 4 ∧ (v.link n).echo.isSome = true) ∧
        (7 ≤ (u.link n).echoes → v.lstate n = 5 ∧ v.fld (Reg.CAM_TSEQ n) Fld.CAM_TSEQ_NEXT = 0 ∧ v.flag (Reg.CAM_EVT n) ⟨6, 1⟩ = true)) ∧
    (∀ p w, u.reaches p = true → u.performs (Reg.CREG_CTRL n) (withBits w 1) = true →
      let x := u.writeReg p (Reg.CREG_CTRL n) (withBits w 1)
      let tag := ((u.link n).cregTag + 1) % 64
      (u.flag (Reg.CREG_CTRL n) Fld.CREG_CTRL_BUSY = true → ∃ v : State, exec (.cregGo t p n w) s = .next (v.settle s) ∧
        v.flag (Reg.CREG_CTRL n) Fld.CREG_CTRL_COLL = true ∧ v.out = u.out ∧ v.links = u.links) ∧
      (u.flag (Reg.CREG_CTRL n) Fld.CREG_CTRL_BUSY = false → u.lstate n = 5 → u.standbyRole = false → ∃ v : State, exec (.cregGo t p n w) s = .next (v.settle s) ∧
        v.flag (Reg.CREG_CTRL n) Fld.CREG_CTRL_BUSY = true ∧ (v.link n).cregTag = tag ∧ (v.link n).cregAt = some u.now ∧
        let wr := x.flag (Reg.CREG_CTRL n) Fld.CREG_CTRL_WRITE
        v.out = .creq n tag wr (u.num (Reg.CREG_ADDR n) % 2 ^ 16) (if wr then u.reg (Reg.CREG_WDATA n) else 0) :: u.out) ∧
      (u.flag (Reg.CREG_CTRL n) Fld.CREG_CTRL_BUSY = false → u.lstate n ≠ 5 ∨ u.standbyRole = true → ∃ v : State, exec (.cregGo t p n w) s = .next (v.settle s) ∧
        v.fld (Reg.CREG_CTRL n) Fld.CREG_CTRL_STATUS = 4 ∧ v.flag (Reg.CAM_EVT n) ⟨7, 1⟩ = true ∧ v.out = u.out)) ∧
    (∀ status data, u.lstate n = 5 → (u.link n).cregAt.isSome = true → status < 3 → ∃ v : State, exec (.rsp t n (u.link n).cregTag status data) s = .next (v.settle s) ∧
      v.flag (Reg.CREG_CTRL n) Fld.CREG_CTRL_BUSY = false ∧ v.fld (Reg.CREG_CTRL n) Fld.CREG_CTRL_STATUS = status ∧ (v.link n).cregAt = none ∧
      v.reg (Reg.CREG_RDATA n) = (if status = 0 ∧ (u.link n).cregWrite = false then data else u.reg (Reg.CREG_RDATA n)) ∧
      v.flag (Reg.CAM_EVT n) ⟨7, 1⟩ = true ∧ u.Keeps [.links, .evrQ] (theRegs [Reg.CREG_CTRL n, Reg.CREG_RDATA n, Reg.CAM_EVT n]) v) ∧
    (∀ e, (u.link n).cregAt = some e → e + 10 ^ 8 ≤ u.now → ∃ v : State, exec (.cregTimeout t n) s = .next (v.settle s) ∧
      v.flag (Reg.CREG_CTRL n) Fld.CREG_CTRL_BUSY = false ∧ v.fld (Reg.CREG_CTRL n) Fld.CREG_CTRL_STATUS = 3 ∧ (v.link n).cregAt = none)

/-- Line packets (R59 to R61, R65, R66, R81 to R84): the rows of a packet, striped over the lanes and scrambled, come in as the packet that was sent, unless a row looks like an alignment marker; invalid sync
headers are counted on their lane; a packet that completes in the open window its TSEQ names is that window's, another, or one whose HCRC is wrong, is counted and changes no window; and when
Pmin has passed the line's outcome is decided and counted and its window is gone. -/
def Obligations.LinePackets : Prop :=
  ∀ (s : State) (t n : Nat), n < 12 → let u := s.advanceTo t
    (∀ (pk : LinePacket) (e : BitVec 64) lanes before, 0 < lanes → before.length = lanes → pk.eol = some e → pk.bad = false → bodyType pk.sol = 0x33 → bodyType e = 0x55 →
      bodyBits pk.sol 30 2 = 0 → bodyBits pk.sol 47 1 = 0 → bodyBits e 24 8 = 0 → (pk.sent lanes before).rows.all (fun r => !isAmRow r) = true →
      (pk.sent lanes before).packet = some pk ∧ ∀ k, (pk.sent lanes before).badHeads k = 0) ∧
    (u.mode.active = true → u.lstate n = 5 → ∀ rx : PacketRows, let c := u.countHeads n rx
      (∀ k, k < 4 → c.num (Reg.LANE_SHERR n k) = min 0xFFFFFFFF (u.num (Reg.LANE_SHERR n k) + rx.badHeads k)) ∧ u.Keeps [] (theRegs ((List.range 4).map (Reg.LANE_SHERR n))) c ∧
      (rx.packet = none → exec (.linePacket t n rx) s = .next (c.settle s)) ∧
      (∀ pk, rx.packet = some pk → hcrcOk pk = false ∨ ((u.port n).adopting = false ∧ ((u.port n).windows ++ (u.port n).closed).any (fun w => named pk w) = false) →
        ∃ v : State, exec (.linePacket t n rx) s = .next (v.settle s) ∧ v.num (Reg.CAM_CNT n 5) = min 0xFFFFFFFF (u.num (Reg.CAM_CNT n 5) + 1) ∧
          v.flag (Reg.CAM_EVT n) ⟨4, 1⟩ = true ∧
          (((u.port n).windows ++ (u.port n).closed).any (fun w => named pk w) = false → (v.port n).windows = (u.port n).windows)) ∧
      (∀ pk w, rx.packet = some pk → hcrcOk pk = true → (u.port n).adopting = false → w ∈ (u.port n).windows → named pk w = true → w.pk = none → u.onTime w = true →
        ∃ v : State, exec (.linePacket t n rx) s = .next (v.settle s) ∧ (∃ w' ∈ (v.port n).windows, w'.line = w.line ∧ w'.pk = some pk) ∧
          (u.inspects = false → (v.port n).windows = (u.port n).windows.map (givePacket pk) ∧ c.Keeps [.ports] noReg v))) ∧
    (∀ tseq w, u.mode.active = true → (u.port n).windows.find? (fun w => decide (w.tseq = tseq)) = some w → 10 ^ 12 ≤ (u.now - w.at_) * w.lrmax →
      let o := outcome w
      let i := if o = 0 then 0 else if o = 1 then 1 else if o = 2 then 2 else if o = 4 then 3 else 4
      ∃ v : State, exec (.arrivalWindowClose t n tseq) s = .next (v.settle s) ∧ v = u.closeWindow n w ∧ (v.port n).windows = (u.port n).windows.erase w ∧
        v.num (Reg.CAM_CNT n i) = min 0xFFFFFFFF (u.num (Reg.CAM_CNT n i) + 1) ∧ (o ≠ 0 → v.flag (Reg.CAM_EVT n) ⟨i - 1, 1⟩ = true)) ∧
    (∀ w, let o := outcome w
      (w.pk = none → o = 4) ∧
      (∀ pk, w.pk = some pk →
        let bad := pk.cut || decide (pk.fmt ≠ w.fmt) || decide (pk.phase ≠ w.phase) || decide (pk.nblk ≠ blocksNeeded pk) ||
          decide (pk.nblk ≠ pk.blocks.length) || !crcOk pk || pk.bad
        (bad = true → o = 8) ∧ (bad = false → o = if pk.npixM1 + 1 < w.width then 1 else if w.width < pk.npixM1 + 1 then 2 else 0)))

/-! ### Pixel correction and calibration -/

/-- The pixel tables of a pipeline (R128 to R130): a write goes to the shadow entry that the port names, a read returns the live one, and both step the index under AUTOINC; while the
shadow is sealed the write is counted and turned away; a seal, refused while one stands or restored tables wait, names the line after the greatest triggered, and a disabled camera's banks change at once; DISCARD takes the live bank back;
the bank change exchanges the banks and leaves no line corrected with the new one yet; and when the copy ends the shadow holds the live value wherever it was not written. -/
def Obligations.PixelTables : Prop :=
  ∀ (s : State) (t n : Nat) (p : Path) (w : Word), n < 12 → let u := s.advanceTo t
    let tc := Reg.CORR_TCTL n
    let st := Reg.CORR_STATUS n
    let tsel := u.fld tc Fld.CORR_TCTL_TSEL
    let ph := u.fld tc Fld.CORR_TCTL_PHASE
    let i := u.fld (Reg.CORR_TIDX n) Fld.CORR_TIDX_IDX
    let last := if tsel = 2 then 1024 else 32767
    let held := u.flag st Fld.CORR_STATUS_SEALED || u.flag st Fld.CORR_STATUS_PENDING
    let i' := if u.flag tc Fld.CORR_TCTL_AUTOINC = true then (if i < last then i + 1 else 0) else i
    (u.reaches p = true → u.performs (Reg.CORR_TDATA n) w = true → ∃ v : State, exec (.corrTableWrite t p n w) s = .next (v.settle s) ∧
      v.fld (Reg.CORR_TIDX n) Fld.CORR_TIDX_IDX = i' ∧ (v.corrOf n).live = (u.corrOf n).live ∧
      (u.corrShut n = false → i ≤ last → v.corrShadow n tsel ph i = w.toNat % (if tsel = 3 then 4 else 65536) ∧ v.flag st Fld.CORR_STATUS_DIRTY = true ∧
        (∀ k, k ≠ corrKey tsel ph i → Store.get corrInit k (v.corrOf n).shadow = Store.get corrInit k (u.corrOf n).shadow) ∧
        u.Keeps [.corr] (theRegs [st, Reg.CORR_TIDX n]) v) ∧
      (u.corrShut n = true ∨ last < i → v.corr = u.corr ∧ v.num (Reg.CORR_TWREJ n) = min 0xFFFFFFFF (u.num (Reg.CORR_TWREJ n) + 1))) ∧
    (u.reaches p = true → u.readable (Reg.CORR_TDATA n) = true → ∃ v : State, exec (.corrTableRead t p n) s = .next (v.settle s) ∧
      v.out = .readWord (Reg.CORR_TDATA n) (BitVec.ofNat 32 (if last < i then 0 else u.corrLive n tsel ph i)) :: u.out ∧
      v.fld (Reg.CORR_TIDX n) Fld.CORR_TIDX_IDX = i' ∧ u.Keeps [.out] (theRegs [Reg.CORR_TIDX n]) v) ∧
    (u.reaches p = true → u.performs tc (withBits w 0x100) = true → bit w.toNat 9 = false → u.joinActive = false →
      (u.flag st Fld.CORR_STATUS_SEALED = true ∨ u.flag st Fld.CORR_STATUS_PENDING = true → ∃ v : State, exec (.corrSeal t p n w) s = .next (v.settle s) ∧ v.corr = u.corr ∧
        v.num (Reg.CORR_TWREJ n) = min 0xFFFFFFFF (u.num (Reg.CORR_TWREJ n) + 1)) ∧
      (held = false → u.flag st Fld.CORR_STATUS_COPYING = false → u.flag (Reg.TRG_CAMCFG n) Fld.TRG_CAMCFG_EN = true →
        ∃ v : State, exec (.corrSeal t p n w) s = .next (v.settle s) ∧ v.flag st Fld.CORR_STATUS_SEALED = true ∧
          (v.corrOf n).jh = (u.corrOf n).lastLine.map (· + 1) ∧ (v.corrOf n).sealWait = false ∧ (v.corrOf n).shadow = (u.corrOf n).shadow) ∧
      (held = false → u.flag st Fld.CORR_STATUS_COPYING = false → u.flag (Reg.TRG_CAMCFG n) Fld.TRG_CAMCFG_EN = false →
        ∃ v : State, exec (.corrSeal t p n w) s = .next (v.settle s) ∧ v.flag st Fld.CORR_STATUS_SEALED = false ∧
          (v.corrOf n).live = (u.corrOf n).shadow ∧ v.fld st Fld.CORR_STATUS_BANK = 1 - u.fld st Fld.CORR_STATUS_BANK)) ∧
    (u.reaches p = true → u.performs Reg.CAL_SEAL w = true → u.joinActive = false → w.toNat = 2 ^ n →
      held = false → u.flag st Fld.CORR_STATUS_COPYING = false → u.flag (Reg.TRG_CAMCFG n) Fld.TRG_CAMCFG_EN = true →
      ∃ v : State, exec (.calSeal t p w) s = .next (v.settle s) ∧ v.flag st Fld.CORR_STATUS_SEALED = true ∧ (v.corrOf n).jh = (u.corrOf n).lastLine.map (· + 1)) ∧
    (u.reaches p = true → u.performs Reg.CAL_SEAL w = true → u.joinActive = false → (∀ q, q < 12 → u.flag (Reg.CORR_STATUS q) Fld.CORR_STATUS_SEALED = false ∧ u.flag (Reg.CORR_STATUS q) Fld.CORR_STATUS_PENDING = false) →
      (∀ q, q < 12 → u.flag (Reg.CORR_STATUS q) Fld.CORR_STATUS_COPYING = false) → (∀ q, q < 12 → u.flag (Reg.TRG_CAMCFG q) Fld.TRG_CAMCFG_EN = true) →
      ∃ v : State, exec (.calSeal t p w) s = .next (v.settle s) ∧ ∀ q, q < 12 → v.flag (Reg.CORR_STATUS q) Fld.CORR_STATUS_SEALED = bit w.toNat q) ∧
    (u.reaches p = true → u.performs tc (withBits w 0x200) = true → bit w.toNat 8 = false →
      (held = false ∧ u.joinActive = false → ∃ v : State, exec (.corrDiscard t p n w) s = .next (v.settle s) ∧ (v.corrOf n).shadow = (u.corrOf n).live ∧
        (v.corrOf n).live = (u.corrOf n).live ∧ (v.corrOf n).marks = [] ∧ v.flag st Fld.CORR_STATUS_DIRTY = false) ∧
      (held = true ∨ u.joinActive = true → ∃ v : State, exec (.corrDiscard t p n w) s = .next (v.settle s) ∧ v.corr = u.corr ∧
        v.num (Reg.CORR_TWREJ n) = min 0xFFFFFFFF (u.num (Reg.CORR_TWREJ n) + 1))) ∧
    (∀ j, u.mode.active = true → (u.corrOf n).due = some j → ∃ v : State, exec (.corrBankChange t n) s = .next (v.settle s) ∧
      (v.corrOf n).live = (u.corrOf n).shadow ∧ (v.corrOf n).shadow = (u.corrOf n).live ∧ (v.corrOf n).due = none ∧
      v.fld st Fld.CORR_STATUS_BANK = 1 - u.fld st Fld.CORR_STATUS_BANK ∧ v.flag st Fld.CORR_STATUS_SEALED = false ∧ v.flag st Fld.CORR_STATUS_COPYING = true ∧
      v.getS64 (Reg.CORR_HOLINE_LO n) = -(2 ^ 63) ∧ u.Keeps [.corr] (theRegs [st, Reg.CORR_HOLINE_LO n, Reg.CORR_HOLINE_HI n]) v) ∧
    (u.mode.active = true → u.flag st Fld.CORR_STATUS_COPYING = true → (u.corrOf n).sealWait = false → ∃ v : State, exec (.bankCopyDone t n) s = .next (v.settle s) ∧
      v.flag st Fld.CORR_STATUS_COPYING = false ∧ (v.corrOf n).live = (u.corrOf n).live ∧
      ∀ k, Store.get corrInit k (v.corrOf n).shadow = Store.get corrInit k (if k ∈ (u.corrOf n).marks.map Prod.fst then (u.corrOf n).shadow else (u.corrOf n).live)) ∧
    (u.mode.active = true → u.flag Reg.RMP_TCTL Fld.RMP_TCTL_COPYING = true → ∃ v : State, exec (.bankCopyDone t 12) s = .next (v.settle s) ∧
      v.flag Reg.RMP_TCTL Fld.RMP_TCTL_COPYING = false ∧ v.stitch.live = u.stitch.live ∧ v.stitch.sealWait = false ∧
      ∀ k, Store.get rmpInit k v.stitch.shadow = Store.get rmpInit k (if k ∈ u.stitch.marks.map Prod.fst then u.stitch.shadow else u.stitch.live))

/-- Calibration runs (R133 to R139, R503): GO of a kind is refused, each with its RESULT, for a run under way, a target that does not exist, a state that does not allow it, or a
table that is not free, and else starts a run; ABORT ends it with RESULT 3, too few lines within CAL_TMO with RESULT 5; a run that comes to its end is judged by its limits, passes with RESULT 0 or fails with RESULT 1 and its limit, and is
counted; on a paired active in Inspecting a table run's entries join the open epoch instead (R496). -/
def Obligations.CalibrationRuns : Prop :=
  ∀ (s : State) (t : Nat) (p : Path) (w : Word), let u := s.advanceTo t
    (∀ kind c, (kind, c) ∈ [(1, Instr.calDark t p w), (2, .calFlat t p w), (3, .calBadpix t p w), (4, .calLinkeq t p w), (5, .calDeskew t p w), (6, .calTrigdly t p w)] →
      u.reaches p = true → u.performs Reg.CAL_CMD (calWord w kind) = true → bit w.toNat 17 = false →
      let x := u.writeReg p Reg.CAL_CMD (calWord w kind)
      let tgt := getBits w Fld.CAL_CMD_TARGET
      let taken := decide (kind ≤ 3) && (x.corrShut tgt || x.flag (Reg.CORR_STATUS tgt) Fld.CORR_STATUS_COPYING || x.flag (Reg.CORR_STATUS tgt) Fld.CORR_STATUS_DIRTY)
      let refusal := if calTargetOk kind tgt = false then some 7 else if x.calAllowed kind = false then some 6 else if taken = true then some 4 else none
      (u.flag Reg.CAL_STATUS Fld.CAL_STATUS_BUSY = true → ∃ v : State, exec c s = .next (v.settle s) ∧ v.flag Reg.CAL_STATUS Fld.CAL_STATUS_COLL = true ∧ v.calRun = u.calRun) ∧
      (∀ r, u.flag Reg.CAL_STATUS Fld.CAL_STATUS_BUSY = false → refusal = some r → ∃ v : State, exec c s = .next (v.settle s) ∧
        v.fld Reg.CAL_STATUS Fld.CAL_STATUS_RESULT = r ∧ v.calRun = u.calRun) ∧
      (u.flag Reg.CAL_STATUS Fld.CAL_STATUS_BUSY = false → refusal = none → ∃ v : State, exec c s = .next (v.settle s) ∧
        v.flag Reg.CAL_STATUS Fld.CAL_STATUS_BUSY = true ∧ v.fld Reg.CAL_STATUS Fld.CAL_STATUS_LINES = 0 ∧
        (∃ r, v.calRun = some r ∧ r.kind = kind ∧ r.target = tgt ∧ r.phase = getBits w Fld.CAL_CMD_PHASE ∧ r.lines = 0 ∧ r.startAt = u.now) ∧
        (kind ≤ 3 → v.flag (Reg.CORR_STATUS tgt) Fld.CORR_STATUS_CALBUSY = true))) ∧
    (∀ r, u.reaches p = true → u.performs Reg.CAL_CMD (withBits w 0x20000) = true → bit w.toNat 16 = false → u.calRun = some r → r.target < 15 →
      ∃ v : State, exec (.calAbort t p w) s = .next (v.settle s) ∧ v.calRun = none ∧ v.fld Reg.CAL_STATUS Fld.CAL_STATUS_RESULT = 3 ∧
        v.flag Reg.CAL_STATUS Fld.CAL_STATUS_BUSY = false) ∧
    (∀ r, u.calRun = some r → u.mode.active = true → r.kind ≤ 3 → r.target < 12 → r.lines < calLines r →
      r.startAt + 10 ^ 9 * max 1 (u.fld Reg.CAL_TMO Fld.CAL_TMO_TMO) ≤ u.now →
      ∃ v : State, exec (.calTimeout t) s = .next (v.settle s) ∧ v.calRun = none ∧ v.fld Reg.CAL_STATUS Fld.CAL_STATUS_RESULT = 5 ∧
        v.flag Reg.CAL_STATUS Fld.CAL_STATUS_BUSY = false ∧ (v.corrOf r.target).shadow = (u.corrOf r.target).live) ∧
    (∀ r lanes lats, u.calRun = some r → u.mode.active = true → u.calEnded r lanes lats = true →
      exec (.calRunEnd t lanes lats) s = .next ((if u.gathers && decide (r.kind ≤ 3) then u.calGathered r
        else u.calComplete r lanes lats).settle s)) ∧
    (∀ r lanes lats, r.kind = 4 ∨ r.kind = 5 → r.target < 15 → lanes.length ≤ 4 →
      let v := u.calComplete r lanes lats
      (laneLimit r lanes = 0 → v.calRun = none ∧ v.fld Reg.CAL_STATUS Fld.CAL_STATUS_RESULT = 0 ∧ v.flag Reg.CAL_STATUS Fld.CAL_STATUS_BUSY = false ∧
        v.num Reg.CAL_PASSCNT = min 0xFFFFFFFF (u.num Reg.CAL_PASSCNT + 1) ∧ ∀ k, k < lanes.length → r.kind = 5 → v.num (Reg.DSK k r.target) = ((lanes[k]?).map LaneMeas.delayUi).getD 0 % 2 ^ 32) ∧
      (laneLimit r lanes ≠ 0 → v.fld Reg.CAL_STATUS Fld.CAL_STATUS_RESULT = 1 ∧ v.fld Reg.CAL_STATUS Fld.CAL_STATUS_LIMIT = laneLimit r lanes ∧
        v.num Reg.CAL_FAILCNT = min 0xFFFFFFFF (u.num Reg.CAL_FAILCNT + 1)))

/-- The calibration image (R140 to R142): SNAP and APPLY begin where the state allows them, are refused with RESULT 6 elsewhere and change nothing while one is under way; a
SNAP that completes leaves the image and its length; an APPLY refuses the whole image by its first failing check. -/
def Obligations.CalibrationImage : Prop :=
  ∀ (s : State) (t : Nat) (p : Path) (w : Word), let u := s.advanceTo t
    (u.reaches p = true → u.performs Reg.CAL_IMGCTL (withBits w 1) = true → bit w.toNat 1 = false → u.flag Reg.CAL_IMGCTL Fld.CAL_IMGCTL_BUSY = false →
      u.mode.active = true → ∃ v : State, exec (.snap t p w) s = .next (v.settle s) ∧ v.imgOp = some false ∧ v.flag Reg.CAL_IMGCTL Fld.CAL_IMGCTL_BUSY = true ∧
        u.Keeps [.imgOp, .shadow] (theRegs [Reg.CAL_IMGCTL]) v) ∧
    (u.reaches p = true → u.performs Reg.CAL_IMGCTL (withBits w 2) = true → bit w.toNat 0 = false → u.flag Reg.CAL_IMGCTL Fld.CAL_IMGCTL_BUSY = false →
      (u.mode = .poised ∨ u.mode = .halted → ∃ v : State, exec (.apply t p w) s = .next (v.settle s) ∧ v.imgOp = some true ∧
        v.flag Reg.CAL_IMGCTL Fld.CAL_IMGCTL_BUSY = true ∧ u.Keeps [.imgOp, .shadow] (theRegs [Reg.CAL_IMGCTL]) v) ∧
      (u.mode = .inspecting → ∃ v : State, exec (.apply t p w) s = .next (v.settle s) ∧ v.imgOp = u.imgOp ∧ v.fld Reg.CAL_IMGCTL Fld.CAL_IMGCTL_RESULT = 6)) ∧
    (u.mode.active = true → u.imgOp = some false → ∃ v : State, exec (.snapComplete t) s = .next (v.settle s) ∧ v.imgOp = none ∧
      v.sram = writeBytes u.sram 0x2800000 (u.calImage.flatMap (leBytes 4)) ∧ v.num Reg.CAL_IMGLEN = 4 * u.calImage.length % 2 ^ 32 ∧
      v.flag Reg.CAL_IMGCTL Fld.CAL_IMGCTL_BUSY = false ∧ v.fld Reg.CAL_IMGCTL Fld.CAL_IMGCTL_RESULT = 0 ∧
      u.Keeps [.sram, .imgOp] (theRegs [Reg.CAL_IMGLEN, Reg.CAL_IMGCTL]) v) ∧
    (u.mode.active = true → u.imgOp = some true →
      exec (.applyComplete t) s = .next (u.applyDone.settle s) ∧
      let word (i : Nat) : Nat := ofLeBytes (readBytes u.sram (0x2800000 + 4 * i) 4)
      let v := u.applyDone
      (0x200000 < word 2 ∨ word 2 < 4 → v.fld Reg.CAL_IMGCTL Fld.CAL_IMGCTL_RESULT = 5 ∧ u.Keeps [.imgOp] (theRegs [Reg.CAL_IMGCTL]) v) ∧
      (4 ≤ word 2 → word 2 ≤ 0x200000 → crc32 (byteBits ((((List.range (word 2)).map word).take (word 2 - 1)).flatMap (leBytes 4))) ≠ word (word 2 - 1) →
        v.fld Reg.CAL_IMGCTL Fld.CAL_IMGCTL_RESULT = 1 ∧ u.Keeps [.imgOp] (theRegs [Reg.CAL_IMGCTL]) v) ∧
      v.imgOp = none ∧ v.flag Reg.CAL_IMGCTL Fld.CAL_IMGCTL_BUSY = false)

/-! ### Stitching and processing slots -/

/-- The processing slot of a line (R23, R151, R159, R172, R178, R262): at S_j the oldest line that waits is stitched and its slot opens; a pipeline takes its territory once it is
ready, runs its folio and ends; the segmentation engine ends the line once every folio has; and at E_j the slot's work is checked and the slot is released. A reading
pipeline ends its line at the folio end time of its tick. -/
def Obligations.SlotsOfALine : Prop :=
  ∀ (s : State) (t : Nat), let u := s.advanceTo t
    u.inspects = true →
    (∀ sl rest, u.slots = sl :: rest → sl.stage = 0 → u.slotReached sl 1 0 = true →
      ∃ v : State, exec (.processingSlotOpen t) s = .next (v.settle s) ∧ v = u.slotOpen sl ∧ v.slots.head? = some { sl with stage := 1 } ∧
        v.stitch.cur.map OpenLine.line = some sl.line ∧ v.flag Reg.PWR_GATE Fld.PWR_GATE_STITCH = true ∧
        v.stitch.cur.map (fun o => o.rows.map HeldLine.line) = some ((List.range 12).map fun _ => sl.line)) ∧
    (∀ sl rest, u.slots = sl :: rest → (sl.stage ≠ 0 ∨ u.slotReached sl 1 0 = false) → exec (.processingSlotOpen t) s = .next (u.settle s)) ∧
    (∀ sl, u.openSlot = some sl → let w := u.seenBy sl
      (∀ n, n < 12 → w.engineRuns n = true → (u.engine n).ready = false → u.slotReached sl 1 (1000 * w.readyNs n) = true → u.stitch.cur.isSome = true →
        ∃ v : State, exec (.territoryReady t n) s = .next (v.settle s) ∧ v = u.takeTerritory sl n ∧ (v.engine n).ready = true ∧
          (∀ e, e ≠ n → v.engine e = u.engine e) ∧ u.Keeps [.folio] noReg v) ∧
      (∀ n, n < 12 → w.engineRuns n = true → (u.engine n).ready = true → (u.engine n).done = false →
        u.slotReached sl 1 (1000 * w.folioEndNs n (w.readyNs n)) = true →
        ∃ v : State, exec (.folioLineEnd t n) s = .next (v.settle s) ∧ v = u.cameraFolioEnd n ∧ (v.engine n).done = true ∧
          v.flag (Reg.FOLIO_STATUS n) Fld.FOLIO_STATUS_RUNNING = false ∧ v.flag Reg.PWR_GATE ⟨n, 1⟩ = false ∧ v.flag Reg.PWR_GATE Fld.PWR_GATE_SEG = true) ∧
      (sl.stage = 1 → w.foliosDone = true →
        let x := { u with slots := u.slots.map fun (y : Slot) => if y = sl then { y with stage := 2 } else y }
        ∃ v : State, exec (.segmentationLineEnd t) s = .next (v.settle s) ∧ v = (x.inSlot sl fun y => y.segmentSlot sl).setFld Reg.PWR_GATE Fld.PWR_GATE_SEG 0 ∧
          v.flag Reg.PWR_GATE Fld.PWR_GATE_SEG = false) ∧
      (sl.stage = 1 → w.foliosDone = false → exec (.segmentationLineEnd t) s = .next (u.settle s)) ∧
      (u.slotReached sl 2 0 = true → exec (.processingSlotEnd t) s = .next ((u.slotEnd sl).settle s)) ∧
      (u.slotReached sl 2 0 = false → exec (.processingSlotEnd t) s = .next (u.settle s))) ∧
    (∀ n h, 12 ≤ n → n < 14 → u.replay (n - 12) = some h → (u.engine n).ready = true → (u.engine n).done = false →
      exec (.folioLineEnd t n) s = .next ((u.replayFolioEnd n).settle s))

/-- The remap port (R156): a write goes to the shadow entry that the port names, a read returns the live one, both step the index under AUTOINC, and a write past the last index or to a
sealed shadow is counted and turned away; a seal takes ATEN and RMP_AT with it, and naming a line already triggered is refused; DISCARD takes the live tables back; a bank change
exchanges the tables and starts the copy. -/
def Obligations.RemapTables : Prop :=
  ∀ (s : State) (t : Nat) (p : Path) (w : Word), let u := s.advanceTo t
    let tc := Reg.RMP_TCTL
    let i := u.fld Reg.RMP_TIDX Fld.RMP_TIDX_IDX
    let shut := u.flag tc Fld.RMP_TCTL_SEALED || u.joinActive
    let i' := if u.flag tc Fld.RMP_TCTL_AUTOINC = true then (if i < u.rmpLast then i + 1 else 0) else i
    (u.reaches p = true → u.performs Reg.RMP_TDATA w = true → ∃ v : State, exec (.rmpTableWrite t p w) s = .next (v.settle s) ∧
      v.fld Reg.RMP_TIDX Fld.RMP_TIDX_IDX = i' ∧ v.stitch.live = u.stitch.live ∧
      (shut = false → i ≤ u.rmpLast → Store.get rmpInit u.rmpKey v.stitch.shadow = w ∧ v.flag tc Fld.RMP_TCTL_DIRTY = true ∧
        (∀ k, k ≠ u.rmpKey → Store.get rmpInit k v.stitch.shadow = Store.get rmpInit k u.stitch.shadow) ∧ u.Keeps [.stitch] (theRegs [tc, Reg.RMP_TIDX]) v) ∧
      (shut = true ∨ u.rmpLast < i → v.stitch = u.stitch ∧ v.num Reg.STITCH_TWREJ = min 0xFFFFFFFF (u.num Reg.STITCH_TWREJ + 1))) ∧
    (u.reaches p = true → u.readable Reg.RMP_TDATA = true → ∃ v : State, exec (.rmpTableRead t p) s = .next (v.settle s) ∧
      v.out = .readWord Reg.RMP_TDATA (if u.rmpLast < i then 0 else Store.get rmpInit u.rmpKey u.stitch.live) :: u.out ∧
      v.fld Reg.RMP_TIDX Fld.RMP_TIDX_IDX = i' ∧ u.Keeps [.out] (theRegs [Reg.RMP_TIDX]) v) ∧
    (u.reaches p = true → u.performs tc (withBits w 0x100) = true → bit w.toNat 9 = false →
      (shut = true → ∃ v : State, exec (.rmpSeal t p w) s = .next (v.settle s) ∧ v.stitch = u.stitch ∧
        v.num Reg.STITCH_TWREJ = min 0xFFFFFFFF (u.num Reg.STITCH_TWREJ + 1)) ∧
      (shut = false → bit w.toNat 10 = true → u.refCame (u.getS64 Reg.RMP_AT_LO) = true → ∃ v : State, exec (.rmpSeal t p w) s = .next (v.settle s) ∧
        v.stitch = u.stitch ∧ v.flag tc Fld.RMP_TCTL_SEALED = false) ∧
      (shut = false → (bit w.toNat 10 = false ∨ u.refCame (u.getS64 Reg.RMP_AT_LO) = false) → ∃ v : State, exec (.rmpSeal t p w) s = .next (v.settle s) ∧
        v.flag tc Fld.RMP_TCTL_SEALED = true ∧ v.stitch.atLine = (if bit w.toNat 10 = true then some (u.getS64 Reg.RMP_AT_LO) else none) ∧
        v.stitch.due = none ∧ v.stitch.shadow = u.stitch.shadow ∧ v.stitch.live = u.stitch.live)) ∧
    (u.reaches p = true → u.performs tc (withBits w 0x200) = true → bit w.toNat 8 = false →
      (shut = false → ∃ v : State, exec (.rmpDiscard t p w) s = .next (v.settle s) ∧ v.stitch.shadow = u.stitch.live ∧ v.stitch.live = u.stitch.live ∧
        v.stitch.marks = [] ∧ v.flag tc Fld.RMP_TCTL_DIRTY = false) ∧
      (shut = true → ∃ v : State, exec (.rmpDiscard t p w) s = .next (v.settle s) ∧ v.stitch = u.stitch ∧
        v.num Reg.STITCH_TWREJ = min 0xFFFFFFFF (u.num Reg.STITCH_TWREJ + 1))) ∧
    (u.mode.active = true → u.stitch.due.isSome = true → ∃ v : State, exec (.remapBankChange t) s = .next (v.settle s) ∧
      v.stitch.live = u.stitch.shadow ∧ v.stitch.shadow = u.stitch.live ∧ (∀ b, b < 2 → v.remapTables b = u.remapTables b) ∧ v.stitch.due = none ∧ v.stitch.atLine = none ∧
      v.fld tc Fld.RMP_TCTL_BANK = 1 - u.fld tc Fld.RMP_TCTL_BANK ∧ v.flag tc Fld.RMP_TCTL_SEALED = false ∧ v.flag tc Fld.RMP_TCTL_COPYING = true ∧
      u.Keeps [.stitch] (theRegs [tc]) v)

/-- Seam links (R163, R165 to R168, R171, R269, R272): a HELLO shows the peer's node, side and digest, fails the link where the sides are equal, and else starts the round trips; the
peer's ECHO is answered; the first copy of an X, H or S frame that fits its line and length is taken and counted, with its segment records, a second is passed over, one that does not fit is counted as bad; and a frame missing at its
deadline is counted as lost, noted, and a breach of its line. -/
def Obligations.SeamLinks : Prop :=
  ∀ (s : State) (t m : Nat), m = 12 ∨ m = 13 → let u := s.advanceTo t
    let cnt (i : Nat) : Nat := Reg.SEAM_CNT (m - 12) i
    let up (v : State) (i : Nat) : Prop := v.num (cnt i) = min 0xFFFFFFFF (u.num (cnt i) + 1)
    (∀ data : BitVec 48, u.mode.active = true → u.lstate m = 4 → 
      let x := (u.setNum (Reg.SEAM_PEER (m - 12)) (data.toNat % 2 ^ 15 + 2 ^ 15)).setNum (Reg.SEAM_PEERDIG (m - 12)) (data.toNat / 2 ^ 16)
      (bit data.toNat 14 = decide (m = 13) → exec (.seamHello t m data) s = .next ((x.linkFailed m).settle s)) ∧
      (bit data.toNat 14 ≠ decide (m = 13) → (u.link m).helloOk = false → ∃ v : State, exec (.seamHello t m data) s = .next (v.settle s) ∧
        v.out = .mgmt m 3 0 0 :: u.out ∧ (v.link m).helloOk = true ∧ (v.link m).echo = some (0, u.now) ∧ x.Keeps [.links, .out] noReg v)) ∧
    (∀ data : BitVec 48, u.mode.active = true → u.lstate m = 4 ∨ u.lstate m = 5 → ∃ v : State, exec (.echoReply t m ⟨false, data⟩) s = .next (v.settle s) ∧
      v.out = .mgmt m 4 0 data :: u.out ∧ u.Keeps [.links, .out] noReg v) ∧
    (∀ f : SeamFrame, ∀ sl rest j, u.mode = .inspecting → u.lstate m = 5 → u.slots = sl :: rest → u.frameLine = some j →
      let len := (u.seenBy sl).xlen m
      let ok := frameOk f j = true ∧ len ≠ 0 ∧ f.nblk = (len + 3) / 4
      (ok → u.seamRow m false j = none → ∃ v : State, exec (.xFrame t m f) s = .next (v.settle s) ∧ up v 0 ∧
        v.stitch.frames = u.stitch.frames ++ [⟨m, false, j, 0, unpackBlocks f.blocks⟩] ∧ u.Keeps [.stitch, .links, .out] (theRegs [cnt 0]) v) ∧
      (ok → (u.seamRow m false j).isSome = true → ∃ v : State, exec (.xFrame t m f) s = .next (v.settle s) ∧ u.Keeps [] noReg v) ∧
      (¬ ok → ∃ v : State, exec (.xFrame t m f) s = .next (v.settle s) ∧ up v 1 ∧ v.flag (Reg.CAM_EVT m) ⟨3, 1⟩ = true ∧
        u.Keeps [.evrQ] (theRegs [cnt 1, Reg.CAM_EVT m]) v) ∧
      (frameOk f j = false → ∃ v : State, exec (.hFrame t m f) s = .next (v.settle s) ∧ up v 1 ∧ v.flag (Reg.CAM_EVT m) ⟨3, 1⟩ = true ∧
        u.Keeps [.evrQ] (theRegs [cnt 1, Reg.CAM_EVT m]) v) ∧
      (frameOk f j = true → f.nblk = 2 + ((u.seenBy sl).halo + 3) / 4 → (f.blocks.headD 0).toNat = unsignedOf 64 j →
        u.seamRow m true j = none → ∃ v : State, exec (.hFrame t m f) s = .next (v.settle s) ∧ up v 0 ∧
          v.stitch.frames = u.stitch.frames ++ [⟨m, true, j, ((f.blocks.drop 1).headD 0).toNat, unpackBlocks (f.blocks.drop 2)⟩] ∧
          u.Keeps [.stitch, .links, .out] (theRegs [cnt 0]) v)) ∧
    (∀ f : SeamFrame, u.mode = .inspecting → u.lstate m = 5 →
      ((∀ x ∈ u.seg.times, frameOk f x.line = false) → ∃ v : State, exec (.sFrame t m f) s = .next (v.settle s) ∧ up v 1 ∧ u.Keeps [.evrQ] (theRegs [cnt 1, Reg.CAM_EVT m]) v) ∧
      (∀ x, u.seg.times = [x] → frameOk f x.line = true → f.nblk ≤ 64 → f.nblk % 4 = 0 → f.chunk < 16 → u.seg.got = [] →
        ∃ v : State, exec (.sFrame t m f) s = .next ((if m = 12 then v.takeChunk x f else v).settle s) ∧ up v 0 ∧
          v.num (cnt 4) = min 0xFFFFFFFF (u.num (cnt 4) + f.nblk / 4) ∧ v.seg.got = [⟨m, x.line, f.chunk, f.last, hasContact f.blocks⟩] ∧
          u.Keeps [.seg] (theRegs [cnt 0, cnt 4]) v)) ∧
    (∀ kind j, kind < 3 → u.mode = .inspecting → m ∈ u.seamSides →
      (if kind = 2 then u.sFrameMissing m j else u.frameMissing m (decide (kind = 1)) j) = true →
      ∃ v : State, exec (.seamFrameDeadline t m kind j) s = .next (v.settle s) ∧ up v 2 ∧ v.flag (Reg.CAM_EVT m) ⟨4, 1⟩ = true ∧
        v.err.breaches = u.err.breaches ++ [⟨7, m, some j, true, u.now⟩])
/-! ### Folio instructions -/

/-- The vector operations (R208, R209, R215, R216): each writes V[D] in every lane with the exact result brought to 16 bits under MODE, and nothing else; with a MODE or BK
that the table does not allow the slot is a NOP (R205). -/
def Obligations.VectorOperations : Prop :=
  ∀ (s : State) (e d a b c bk mode : Nat),
    let av (l : Nat) : Nat := s.vreg e a l
    let bv (l : Nat) : Nat := if bk = 0 then s.vreg e b l else if bk = 1 then s.sreg e b % 65536 else unsignedOf 16 (signed 8 (b + 16 * c))
    let x (l : Nat) : Int := if mode = 2 then signed 16 (av l) else ((av l % 65536 : Nat) : Int)
    let y (l : Nat) : Int := if mode = 2 ∨ mode = 4 then signed 16 (bv l) else ((bv l % 65536 : Nat) : Int)
    let clamp (r : Int) : Nat := unsignedOf 16 (if mode = 0 then r else if mode = 1 ∨ mode = 4 then max 0 (min 65535 r) else max (-32768) (min 32767 r))
    ∀ row ∈ ([(.vAdd e d a b c bk mode, decide (mode ≤ 4 ∧ bk ≤ 2), fun l => clamp (x l + y l)),
        (.vSub e d a b c bk mode, decide (mode ≤ 4 ∧ bk ≤ 2), fun l => clamp (x l - y l)),
        (.vMul e d a b c bk mode, decide (mode ≤ 4 ∧ bk ≤ 1), fun l => clamp (Int.fdiv (x l * y l + (if 0 < c then 2 ^ (c - 1) else 0)) (2 ^ c))),
        (.vAbs e d a b c bk mode, decide (mode = 0 ∧ bk = 0), fun l => (signed 16 (av l)).natAbs),
        (.vMin e d a b c bk mode, decide ((mode = 0 ∨ mode = 2) ∧ bk ≤ 2), fun l => unsignedOf 16 (min (x l) (y l))),
        (.vMax e d a b c bk mode, decide ((mode = 0 ∨ mode = 2) ∧ bk ≤ 2), fun l => unsignedOf 16 (max (x l) (y l))),
        (.avg e d a b c bk mode, decide (mode ≤ 2 ∧ bk ≤ 2), fun l => clamp (Int.fdiv (x l + y l + 1) 2)),
        (.shr e d a b c bk mode, decide (mode = 0 ∧ bk ≤ 2), fun l => av l / 2 ^ bv l),
        (.sar e d a b c bk mode, decide (mode = 0 ∧ bk ≤ 2), fun l => unsignedOf 16 (Int.fdiv (signed 16 (av l)) (2 ^ bv l))),
        (.shl e d a b c bk mode, decide (mode ≤ 2 ∧ bk ≤ 2), fun l => clamp (x l * 2 ^ bv l)),
        (.vAnd e d a b c bk mode, decide (mode = 0 ∧ bk ≤ 2), fun l => Nat.land (av l) (bv l)),
        (.vOr e d a b c bk mode, decide (mode = 0 ∧ bk ≤ 2), fun l => Nat.lor (av l) (bv l)),
        (.vXor e d a b c bk mode, decide (mode = 0 ∧ bk ≤ 2), fun l => Nat.xor (av l) (bv l)),
        (.andn e d a b c bk mode, decide (mode = 0 ∧ bk ≤ 2), fun l => Nat.land (av l) (65535 - bv l)),
        (.mov e d a b c bk mode, decide (mode = 0 ∧ bk ≤ 2), fun l => bv l),
        (.cmpeq e d a b c bk mode, decide ((mode = 0 ∨ mode = 2) ∧ bk ≤ 2), fun l => if x l = y l then 1 else 0),
        (.cmpne e d a b c bk mode, decide ((mode = 0 ∨ mode = 2) ∧ bk ≤ 2), fun l => if x l = y l then 0 else 1),
        (.cmplt e d a b c bk mode, decide ((mode = 0 ∨ mode = 2) ∧ bk ≤ 2), fun l => if x l < y l then 1 else 0),
        (.cmple e d a b c bk mode, decide ((mode = 0 ∨ mode = 2) ∧ bk ≤ 2), fun l => if x l ≤ y l then 1 else 0),
        (.cmpgt e d a b c bk mode, decide ((mode = 0 ∨ mode = 2) ∧ bk ≤ 2), fun l => if y l < x l then 1 else 0),
        (.cmpge e d a b c bk mode, decide ((mode = 0 ∨ mode = 2) ∧ bk ≤ 2), fun l => if y l ≤ x l then 1 else 0),
        (.vSel e d a b c bk mode, decide (mode = 0 ∧ bk ≤ 1), fun l => if s.vreg e c l = 0 then bv l else av l)]
        : List (Instr × Bool × (Nat → Nat))),
      (row.2.1 = true → ∃ v : State, exec row.1 s = .next v ∧ s.VecResult e d row.2.2 v) ∧ (row.2.1 = false → exec row.1 s = .next s)

/-- The scalar operations (R208, R209, R215, R217): each writes S[D] with the exact result brought to 32 bits under MODE, and nothing else; with a MODE, BK or B that
the table does not allow the slot is a NOP (R205). -/
def Obligations.ScalarOperations : Prop :=
  ∀ (s : State) (e d a b c bk mode imm : Nat),
    let av : Nat := s.sreg e a
    let bv : Nat := if bk = 1 then s.sreg e b else unsignedOf 32 (signed 8 (b + 16 * c))
    let x : Int := if mode = 2 then signed 32 av else ((av % 2 ^ 32 : Nat) : Int)
    let y : Int := if mode = 2 then signed 32 bv else ((bv % 2 ^ 32 : Nat) : Int)
    let clamp (r : Int) : Nat :=
      unsignedOf 32 (if mode = 0 then r else if mode = 1 then max 0 (min 0xFFFFFFFF r) else max (-2147483648) (min 2147483647 r))
    let second := decide (bk = 1 ∨ bk = 2)
    let one := decide (mode = 0) && second
    let three := decide (mode ≤ 2) && second
    let two := decide (mode = 0 ∨ mode = 2) && second
    ∀ row ∈ ([(.sadd e d a b c bk mode, three, clamp (x + y)), (.ssub e d a b c bk mode, three, clamp (x - y)),
        (.smul e d a b c bk mode, three, clamp (x * y)), (.sdivu e d a b c bk mode, one, if bv = 0 then 0xFFFFFFFF else av / bv),
        (.sshr e d a b c bk mode, one, if 32 ≤ bv then 0 else av / 2 ^ bv),
        (.ssar e d a b c bk mode, one, unsignedOf 32 (if 32 ≤ bv then (if signed 32 av < 0 then -1 else 0) else Int.fdiv (signed 32 av) (2 ^ bv))),
        (.sand e d a b c bk mode, one, Nat.land av bv), (.sor e d a b c bk mode, one, Nat.lor av bv), (.sxor e d a b c bk mode, one, Nat.xor av bv),
        (.smin e d a b c bk mode, two, unsignedOf 32 (min x y)), (.smax e d a b c bk mode, two, unsignedOf 32 (max x y)),
        (.smov e d a b c bk mode, one, bv), (.smovi e d imm, true, unsignedOf 32 (signed 22 imm)), (.sorhi e d imm, true, imm * 1024 + s.sreg e d % 1024),
        (.ssel e d a b c bk mode, decide (mode = 0 ∧ bk = 1), if s.sreg e c = 0 then bv else av),
        (.scmpeq e d a b c bk mode, two, if x = y then 1 else 0), (.scmplt e d a b c bk mode, two, if x < y then 1 else 0),
        (.sabs e d a b c bk mode, decide (mode = 0 ∧ bk = 0 ∧ b = 0), (signed 32 av).natAbs)] : List (Instr × Bool × Nat)),
      ((row.2.1 = true → ∃ v : State, exec row.1 s = .next v ∧ s.ScalResult e d row.2.2 v) ∧ (row.2.1 = false → exec row.1 s = .next s)) ∧
    -- SSHL: exact up to a shift of 64, beyond which every clamp gives what 64 gives
    (three = true → ∃ v : State, exec (.sshl e d a b c bk mode) s = .next v ∧ s.ScalResult e d (clamp (x * 2 ^ min bv 64)) v) ∧
    (three = false → exec (.sshl e d a b c bk mode) s = .next s)

/-- The window operations (R210 to R213): each writes V[D], in every lane, with its value over the window of the lane; a plane index out of range is counted (R190). A word
that holds a refused value is a NOP (R205). A sorted window holds its samples in rising order, RANK 0 being the least and RANK n − 1 the greatest. -/
def Obligations.WindowOperations : Prop :=
  ∀ (s : State) (e d src slot str w hh stg arg : Nat),
    let i (op : Nat) : WinOp := ⟨op, d, src, slot, str, w, hh, stg, arg⟩
    let px (l : Nat) : List Nat := s.winSamples e (i 0) l
    let up (l : Nat) : List Int := (px l).map fun p => ((p % 65536 : Nat) : Int)
    let sp (l : Nat) : List Int := (px l).map (signed 16)
    let mean (ps : List Int) : Nat := unsignedOf 16 (Int.fdiv (ps.sum + Int.fdiv ps.length 2) ps.length)
    let head := s.coefAt e (32 * arg)
    let taps (l : Nat) : List Int := (px l).zipIdx.map fun p =>
      signed 16 (s.coefAt e (32 * arg + 1 + p.2)) * (if bit head 7 = true then signed 16 p.1 else ((p.1 % 65536 : Nat) : Int))
    let conv (l : Nat) : Int := Int.fdiv ((taps l).sum + (if bit head 5 = true ∧ 0 < head % 32 then 2 ^ (head % 32 - 1) else 0)) (2 ^ (head % 32))
    let inside (l : Nat) : List Int := (px l).zipIdx.filterMap fun p =>
      if bit (s.coefAt e (32 * arg + p.2 / (2 * w + 1))) (p.2 % (2 * w + 1)) = true then some (p.1 : Int) else none
    let shape := decide (src < 3) && (if src = 0 then decide (slot = 0) else decide (str = 0 ∧ hh = 0))
    let ranks := decide (arg < 256 ∧ arg < (2 * w + 1) * (2 * hh + 1))
    (∀ l, (px l).length = (2 * w + 1) * (2 * hh + 1)) ∧
    (∀ ps : List Int, (sortSamples ps).Pairwise (· ≤ ·) ∧ (sortSamples ps).Perm ps ∧
      (ps ≠ [] → (∀ k, leastOf k ps ∈ ps ∧ greatestOf k ps ∈ ps ∧ ∀ y ∈ ps, leastOf k ps ≤ y ∧ y ≤ greatestOf k ps) ∧
        (sortSamples ps)[0]? = some (leastOf 0 ps) ∧ (sortSamples ps)[ps.length - 1]? = some (greatestOf 0 ps)) ∧ leastOf 0xFFFF [] = 0xFFFF ∧ greatestOf 0 [] = 0) ∧
    ∀ row ∈ ([(.conv e d src slot str w hh stg arg, shape, fun l => unsignedOf 16
          (if bit head 6 = true then max (-32768) (min 32767 (conv l)) else max 0 (min 65535 (conv l)))),
        (.box e d src slot str w hh stg arg, shape, fun l => mean (up l)),
        (.rank e d src slot str w hh stg arg, shape && ranks, fun l => unsignedOf 16 (((sortSamples (up l))[arg]?).getD 0)),
        (.winMin e d src slot str w hh stg arg, shape, fun l => unsignedOf 16 (leastOf 0 (up l))),
        (.winMax e d src slot str w hh stg arg, shape, fun l => unsignedOf 16 (greatestOf 0 (up l))),
        (.erode e d src slot str w hh stg arg, shape, fun l => unsignedOf 16 (leastOf 0xFFFF (inside l))),
        (.dilate e d src slot str w hh stg arg, shape, fun l => unsignedOf 16 (greatestOf 0 (inside l))),
        (.lvar e d src slot str w hh stg arg, shape, fun l => unsignedOf 16 (min 65535 (Int.fdiv
          ((up l).length * ((up l).map fun p => p * p).sum - (up l).sum * (up l).sum) ((up l).length * (up l).length)))),
        (.srank e d src slot str w hh stg arg, shape && ranks, fun l => unsignedOf 16 (((sortSamples (sp l))[arg]?).getD 0)),
        (.winSmin e d src slot str w hh stg arg, shape, fun l => unsignedOf 16 (leastOf 0 (sp l))),
        (.winSmax e d src slot str w hh stg arg, shape, fun l => unsignedOf 16 (greatestOf 0 (sp l))),
        (.sbox e d src slot str w hh stg arg, shape, fun l => mean (sp l))] : List (Instr × Bool × (Nat → Nat))),
      (row.2.1 = true → (src = 2 → s.sreg e slot < s.geom e Fld.FOLIO_GEOM_NPL) → ∃ v : State, exec row.1 s = .next v ∧ s.VecResult e d row.2.2 v) ∧
      (row.2.1 = true → src = 2 → s.geom e Fld.FOLIO_GEOM_NPL ≤ s.sreg e slot → ∃ v : State, exec row.1 s = .next v ∧
        v.num (Reg.FOLIO_PLNERR e) = min 0xFFFFFFFF (s.num (Reg.FOLIO_PLNERR e) + 1) ∧ ∀ l, l < 32 → v.vreg e d l = row.2.2 l % 65536) ∧
      (row.2.1 = false → exec row.1 s = .next s)

/-- The table lookups (R218 to R220): the entry, or the value between two entries, of the table at BASE × 64 of the live bank; with LG 0 the slot is a NOP. -/
def Obligations.TableLookups : Prop :=
  ∀ (s : State) (e d a b base lg sh na nb : Nat),
    let t (n : Nat) : Nat := s.tableAt e (base * 64 + n)
    let n := 2 ^ lg
    let av (l : Nat) : Nat := s.vreg e a l
    let interp (l : Nat) : Nat :=
      if n - 1 ≤ av l / 2 ^ sh ∨ sh = 0 then t (min (av l / 2 ^ sh) (n - 1))
      else ((t (av l / 2 ^ sh) : Int) +
        Int.fdiv (((t (av l / 2 ^ sh + 1) : Int) - t (av l / 2 ^ sh)) * ((av l % 2 ^ sh : Nat) : Int) + 2 ^ (sh - 1)) (2 ^ sh)).toNat
    (∀ k, k < 32768 → s.tableAt e k = (Store.get (fun _ => (0 : Word)) ((0x10000 + 0x10000 * s.folioBank e + 2 * k) / 4) (s.engine e).mem).toNat
      / 65536 ^ (k % 2) % 65536) ∧
    (lg ≠ 0 → (∃ v : State, exec (.lut e d a base lg sh) s = .next v ∧ s.VecResult e d (fun l => t (min (av l / 2 ^ sh) (n - 1))) v) ∧
      (∃ v : State, exec (.luts e d a base lg sh) s = .next v ∧
        s.VecResult e d (fun l => t (max 0 (min ((n : Int) - 1) (Int.fdiv (signed 16 (av l)) (2 ^ sh) + Int.fdiv n 2))).toNat) v) ∧
      (∃ v : State, exec (.luti e d a base lg sh) s = .next v ∧ s.VecResult e d interp v) ∧
      (∃ v : State, exec (.slut e d a base lg sh) s = .next v ∧ s.ScalResult e d (t (min (s.sreg e a / 2 ^ sh) (n - 1))) v) ∧
      (∀ l q, q = av l / 2 ^ sh → q < n - 1 → sh ≠ 0 → min (t q) (t (q + 1)) ≤ interp l ∧ interp l ≤ max (t q) (t (q + 1)))) ∧
    (lg = 0 → exec (.lut e d a base lg sh) s = .next s ∧ exec (.luts e d a base lg sh) s = .next s ∧ exec (.luti e d a base lg sh) s = .next s ∧
      exec (.slut e d a base lg sh) s = .next s) ∧
    (∃ v : State, exec (.lut2 e d a b base na nb) s = .next v ∧
      s.VecResult e d (fun l => t (av l / 2 ^ (16 - na) * 2 ^ nb + s.vreg e b l / 2 ^ (16 - nb))) v)

/-- The transfers (R222 to R227, R190): rows of the ring, plane slots, outputs, lane columns, moves, broadcasts and context sources, with the NOP of a refused field and the
count of a plane index out of range. -/
def Obligations.Transfers : Prop :=
  ∀ (s : State) (e d a stg x : Nat),
    let col (l : Nat) : Int := s.laneCol e stg l
    let rho := signed 4 x
    let nib (k : Nat) : Int := signed 4 (x / 2 ^ k)
    let slot := x / 4 % 16
    let ok := decide (x % 4 = 1 ∨ x % 4 = 2)
    let p := if x % 4 = 2 then s.sreg e slot else slot
    let inRange := decide (x % 4 = 2 → s.sreg e slot < s.geom e Fld.FOLIO_GEOM_NPL)
    (rho ≠ -8 → nib 4 ≠ -8 → ∃ v : State, exec (.rrow e d a stg x) s = .next v ∧
      s.VecResult e d (fun l => s.ringAt e (rho * (if bit x 8 = true then s.webPhases else 1 : Nat)) (col l + nib 4)) v) ∧
    (rho = -8 ∨ nib 4 = -8 → exec (.rrow e d a stg x) s = .next s) ∧
    (ok = true → nib 6 ≠ -8 → (inRange = true → ∃ v : State, exec (.pld e d a stg x) s = .next v ∧ s.VecResult e d (fun l => s.planeAt e p (col l + nib 6)) v) ∧
      (inRange = false → ∃ v : State, exec (.pld e d a stg x) s = .next v ∧ (∀ l, l < 32 → v.vreg e d l = 0) ∧
        v.num (Reg.FOLIO_PLNERR e) = min 0xFFFFFFFF (s.num (Reg.FOLIO_PLNERR e) + 1))) ∧
    (ok = false ∨ nib 6 = -8 → exec (.pld e d a stg x) s = .next s) ∧
    (ok = true → x / 2 ^ 6 % 16 = 0 → (inRange = true → s.sweepWidth e ≤ 2 ^ 16 → ∃ v : State, exec (.pst e d a stg x) s = .next v ∧
        (∀ l, l < 32 → s.laneReal e stg l = true → v.planeAt e p (col l) = s.vreg e a l) ∧
        (∀ q y, q ≠ p ∨ (∀ l, l < 32 → s.laneReal e stg l = true → (edgeCol (s.sweepWidth e) y : Int) ≠ col l) → v.planeAt e q y = s.planeAt e q y) ∧
        (v.engine e).v = (s.engine e).v ∧ (v.engine e).sc = (s.engine e).sc ∧ (v.engine e).outs = (s.engine e).outs ∧ s.engineFixed e v ∧
        s.Keeps [.folio] noReg v) ∧
      (inRange = false → ∃ v : State, exec (.pst e d a stg x) s = .next v ∧ v.engine e = s.engine e ∧
        v.num (Reg.FOLIO_PLNERR e) = min 0xFFFFFFFF (s.num (Reg.FOLIO_PLNERR e) + 1))) ∧
    (ok = false ∨ x / 2 ^ 6 % 16 ≠ 0 → exec (.pst e d a stg x) s = .next s) ∧
    (s.sweepWidth e ≤ 2 ^ 16 → (∃ v : State, exec (.omask e d a stg x) s = .next v ∧
        s.OutResult e stg 0 (fun l => s.vreg e a l % 16 % 2 ^ s.geom e Fld.FOLIO_GEOM_MASKBITS) v) ∧
      (∃ v : State, exec (.oval e d a stg x) s = .next v ∧ s.OutResult e stg 1 (fun l => s.vreg e a l) v) ∧
      (∃ v : State, exec (.otap e d a stg x) s = .next v ∧ s.OutResult e stg (2 + x % 4) (fun l => s.vreg e a l) v)) ∧
    (∃ v : State, exec (.lcol e d a stg x) s = .next v ∧ s.VecResult e d (fun l => unsignedOf 16 (32 * (s.engine e).iter + l - s.engineHalo e)) v) ∧
    (∃ v : State, exec (.vmov e d a stg x) s = .next v ∧ s.VecResult e d (fun l => s.vreg e a l) v) ∧
    (∃ v : State, exec (.vbc e d a stg x) s = .next v ∧ s.VecResult e d (fun _ => s.sreg e a) v) ∧
    (∃ v : State, exec (.smovx e d a stg x) s = .next v ∧ s.ScalResult e d (s.sreg e a) v) ∧
    (∀ r, (s.engine e).ring[s.lag e]? = some r → (x % 16 = 0 → ∃ v : State, exec (.ctx e d a stg x) s = .next v ∧ s.ScalResult e d (unsignedOf 32 r.line) v) ∧
      (x % 16 = 1 → ∃ v : State, exec (.ctx e d a stg x) s = .next v ∧ s.ScalResult e d r.phase v)) ∧
    (∀ r, (s.engine e).ring.head? = some r → x % 16 = 2 → ∃ v : State, exec (.ctx e d a stg x) s = .next v ∧ s.ScalResult e d r.phase v) ∧
    (x % 16 = 3 → ∃ v : State, exec (.ctx e d a stg x) s = .next v ∧ s.ScalResult e d (s.engine e).iter.toNat v) ∧
    (x % 16 = 4 → ∃ v : State, exec (.ctx e d a stg x) s = .next v ∧ s.ScalResult e d (s.terrLen e) v) ∧
    (5 ≤ x % 16 → x % 16 < 8 → exec (.ctx e d a stg x) s = .next s) ∧
    (8 ≤ x % 16 → ∃ v : State, exec (.ctx e d a stg x) s = .next v ∧ s.ScalResult e d (((s.engine e).params[x % 16 - 8]?).getD 0) v)

/-- The reductions (R226): the territory lanes of V[A] at the stage fold into S[D], each as the table says; with no territory lane S[D] is as it was. -/
def Obligations.Reductions : Prop :=
  ∀ (s : State) (e d a stg : Nat),
    let ls : List Nat := (List.range 32).filterMap fun l => if s.laneTerr e stg l then some (s.vreg e a l) else none
    let u : Int := s.sreg e d
    let g : Int := signed 32 (s.sreg e d)
    let ul : List Int := ls.map fun v => (v : Int)
    let sl : List Int := ls.map (signed 16)
    let top (n : Int) : Int := min 0xFFFFFFFF n
    ∀ row ∈ ([(.rsum e d a stg, top (u + ul.sum)), (.rsums e d a stg, max (-2147483648) (min 2147483647 (g + sl.sum))),
        (.rsumsq e d a stg, top (u + (ul.map fun v => v * v).sum)), (.rmin e d a stg, ul.foldl min u), (.rmax e d a stg, ul.foldl max u),
        (.rsmin e d a stg, sl.foldl min g), (.rsmax e d a stg, sl.foldl max g),
        (.rcnt e d a stg, top (u + (ls.filter fun v => v ≠ 0).length))] : List (Instr × Int)),
      (ls ≠ [] → ∃ v : State, exec row.1 s = .next v ∧ s.ScalResult e d (unsignedOf 32 row.2) v) ∧ (ls = [] → exec row.1 s = .next s)
end

