-- ==== Sys2Proof/Laws/Store.lean ====
section
/-! SUPPORT. Sparse tables: reading after setting, and the canonical form that every table operation keeps. -/

namespace Sys2Proof.Machine

variable {α : Type}

@[simp] theorem Store.get_nil (d : Nat → α) (k : Nat) : Store.get d k [] = d k := rfl

theorem Store.get_drop_ne (d : Nat → α) {k k' : Nat} (h : k' ≠ k) (m : Store α) : Store.get d k' (Store.drop k m) = Store.get d k' m := by
  induction m with
  | nil => rfl
  | cons p r ih =>
    obtain ⟨q, v⟩ := p
    by_cases hq : q = k
    · subst hq
      have : Store.drop q ((q, v) :: r) = Store.drop q r := by simp [Store.drop]
      rw [this, ih]
      simp [Store.get, Ne.symm h]
    · have : Store.drop k ((q, v) :: r) = (q, v) :: Store.drop k r := by simp [Store.drop, hq]
      rw [this]
      simp only [Store.get, ih]

theorem Store.get_drop_self (d : Nat → α) (k : Nat) (m : Store α) : Store.get d k (Store.drop k m) = d k := by
  induction m with
  | nil => rfl
  | cons p r ih =>
    obtain ⟨q, v⟩ := p
    by_cases hq : q = k
    · have : Store.drop k ((q, v) :: r) = Store.drop k r := by simp [Store.drop, hq]
      rw [this, ih]
    · have : Store.drop k ((q, v) :: r) = (q, v) :: Store.drop k r := by simp [Store.drop, hq]
      rw [this]
      simp [Store.get, hq, ih]

theorem Store.get_put_ne (d : Nat → α) {k k' : Nat} (h : k' ≠ k) (v : α) (m : Store α) :
    Store.get d k' (Store.put k v m) = Store.get d k' m := by
  induction m with
  | nil => simp [Store.put, Store.get, Ne.symm h]
  | cons p r ih =>
    obtain ⟨q, w⟩ := p
    unfold Store.put
    split
    · simp [Store.get, Ne.symm h]
    · simp only [Store.get, ih]

theorem Store.get_put_self (d : Nat → α) (k : Nat) (v : α) (m : Store α) (h : ∀ p ∈ m, p.1 ≠ k) :
    Store.get d k (Store.put k v m) = v := by
  induction m with
  | nil => simp [Store.put, Store.get]
  | cons p r ih =>
    obtain ⟨q, w⟩ := p
    have hq : q ≠ k := h (q, w) (by simp)
    unfold Store.put
    split
    · simp [Store.get]
    · simp only [Store.get, hq, if_false]
      exact ih fun p hp => h p (by simp [hp])

theorem Store.keys_drop (k : Nat) (m : Store α) : ∀ p ∈ Store.drop k m, p.1 ≠ k := by
  intro p hp
  simpa using (List.mem_filter.mp hp).2

/-- A key reads as what was last set there. -/
@[simp] theorem Store.get_set_self [DecidableEq α] (d : Nat → α) (k : Nat) (v : α) (m : Store α) :
    Store.get d k (Store.set d k v m) = v := by
  unfold Store.set
  split
  · next h => rw [Store.get_drop_self, h]
  · exact Store.get_put_self d k v _ (Store.keys_drop k m)

/-- Setting a key leaves every other key as it was. -/
theorem Store.get_set_ne [DecidableEq α] (d : Nat → α) {k k' : Nat} (h : k' ≠ k) (v : α) (m : Store α) :
    Store.get d k' (Store.set d k v m) = Store.get d k' m := by
  unfold Store.set
  split
  · exact Store.get_drop_ne d h m
  · rw [Store.get_put_ne d h, Store.get_drop_ne d h]

theorem Store.get_set [DecidableEq α] (d : Nat → α) (k k' : Nat) (v : α) (m : Store α) :
    Store.get d k' (Store.set d k v m) = if k' = k then v else Store.get d k' m := by
  split
  · next h => rw [h, Store.get_set_self]
  · next h => exact Store.get_set_ne d h v m

/-! ### The canonical form -/

@[simp] theorem Store.wf_nil (d : Nat → α) : Store.Wf d ([] : Store α) := by simp [Store.Wf]

theorem Store.wf_cons (d : Nat → α) (k : Nat) (v : α) (r : Store α) :
    Store.Wf d ((k, v) :: r) ↔ (∀ p ∈ r, k < p.1) ∧ v ≠ d k ∧ Store.Wf d r := by
  simp only [Store.Wf, List.map_cons, List.pairwise_cons, List.mem_map, List.mem_cons, forall_exists_index, and_imp]
  constructor
  · rintro ⟨⟨h1, h2⟩, h3⟩
    exact ⟨fun p hp => h1 p.1 p hp rfl, h3 (k, v) (Or.inl rfl), h2, fun p hp => h3 p (Or.inr hp)⟩
  · rintro ⟨h1, h2, h3, h4⟩
    refine ⟨⟨fun a p hp e => e ▸ h1 p hp, h3⟩, ?_⟩
    rintro p (rfl | hp)
    · exact h2
    · exact h4 p hp

theorem Store.wf_filter (d : Nat → α) (f : Nat × α → Bool) (m : Store α) (h : Store.Wf d m) : Store.Wf d (m.filter f) := by
  induction m with
  | nil => exact h
  | cons p r ih =>
    obtain ⟨k, v⟩ := p
    obtain ⟨h1, h2, h3⟩ := (Store.wf_cons d k v r).mp h
    simp only [List.filter_cons]
    split
    · refine (Store.wf_cons d k v _).mpr ⟨fun p hp => h1 p (List.mem_filter.mp hp).1, h2, ih h3⟩
    · exact ih h3

theorem Store.wf_drop (d : Nat → α) (k : Nat) (m : Store α) (h : Store.Wf d m) : Store.Wf d (Store.drop k m) :=
  Store.wf_filter d _ m h

theorem Store.mem_put (k : Nat) (v : α) (m : Store α) (p : Nat × α) : p ∈ Store.put k v m ↔ p = (k, v) ∨ p ∈ m := by
  induction m with
  | nil => simp [Store.put]
  | cons q r ih =>
    obtain ⟨k', v'⟩ := q
    unfold Store.put
    split
    · simp
    · simp only [List.mem_cons, ih]
      tauto

theorem Store.wf_put (d : Nat → α) (k : Nat) (v : α) (m : Store α) (hv : v ≠ d k) (hk : ∀ p ∈ m, p.1 ≠ k) (h : Store.Wf d m) :
    Store.Wf d (Store.put k v m) := by
  induction m with
  | nil => exact (Store.wf_cons d k v []).mpr ⟨by simp, hv, h⟩
  | cons q r ih =>
    obtain ⟨k', v'⟩ := q
    obtain ⟨h1, h2, h3⟩ := (Store.wf_cons d k' v' r).mp h
    have hne : k' ≠ k := hk (k', v') (by simp)
    unfold Store.put
    split
    · next hlt =>
      refine (Store.wf_cons d k v _).mpr ⟨?_, hv, h⟩
      rintro p (_ | ⟨_, hp⟩)
      · exact hlt
      · exact lt_trans hlt (h1 p hp)
    · next hge =>
      refine (Store.wf_cons d k' v' _).mpr ⟨?_, h2, ih (fun p hp => hk p (by simp [hp])) h3⟩
      intro p hp
      rcases (Store.mem_put k v r p).mp hp with rfl | hp
      · exact lt_of_le_of_ne (Nat.le_of_not_lt hge) hne
      · exact h1 p hp

/-- Setting a key keeps the canonical form. -/
theorem Store.wf_set [DecidableEq α] (d : Nat → α) (k : Nat) (v : α) (m : Store α) (h : Store.Wf d m) :
    Store.Wf d (Store.set d k v m) := by
  unfold Store.set
  split
  · exact Store.wf_drop d k m h
  · next hv => exact Store.wf_put d k v _ hv (Store.keys_drop k m) (Store.wf_drop d k m h)

/-! ### Bytes of memory -/

/-- Writing bytes keeps a memory canonical. -/
theorem writeBytes_wf (m : Store Byte) (a : Nat) (bs : List Byte) (h : Memory.wf m) : Memory.wf (writeBytes m a bs) := by
  induction bs generalizing m a with
  | nil => exact h
  | cons b r ih => exact ih _ _ (Store.wf_set _ a b m h)

/-- Writing bytes leaves every byte outside them as it was. -/
theorem get_writeBytes_out (m : Store Byte) (a : Nat) (bs : List Byte) (x : Nat) (h : x < a ∨ a + bs.length ≤ x) :
    Store.get (fun _ => 0) x (writeBytes m a bs) = Store.get (fun _ => 0) x m := by
  induction bs generalizing m a with
  | nil => rfl
  | cons b r ih =>
    have hx : x ≠ a := by simp only [List.length_cons] at h; omega
    rw [writeBytes, ih]
    · exact Store.get_set_ne _ hx b m
    · simp only [List.length_cons] at h; omega

/-- A written byte reads as what was written. -/
theorem get_writeBytes_in (m : Store Byte) (a : Nat) (bs : List Byte) (i : Nat) (h : i < bs.length) :
    Store.get (fun _ => 0) (a + i) (writeBytes m a bs) = bs[i] := by
  induction bs generalizing m a i with
  | nil => simp at h
  | cons b r ih =>
    cases i with
    | zero =>
      rw [writeBytes, get_writeBytes_out _ _ _ _ (Or.inl (by omega))]
      simp
    | succ i =>
      have := ih (Store.set (fun _ => 0) a b m) (a + 1) i (by simpa using h)
      rw [writeBytes, show a + (i + 1) = a + 1 + i by omega, this]
      rfl

/-- Reading back the bytes just written gives them. -/
theorem readBytes_writeBytes (m : Store Byte) (a : Nat) (bs : List Byte) : readBytes (writeBytes m a bs) a bs.length = bs := by
  have key : ∀ (n : Nat) (b : Nat) (l : List Byte) (m' : Store Byte), n = l.length →
      (∀ i (hi : i < l.length), Store.get (fun _ => 0) (b + i) m' = l[i]) → readBytes m' b n = l := by
    intro n
    induction n with
    | zero => intro b l m' hn _; symm at hn; rw [List.length_eq_zero_iff] at hn; subst hn; rfl
    | succ n ih =>
      intro b l m' hn hl
      cases l with
      | nil => simp at hn
      | cons x r =>
        simp only [readBytes]
        have h0 := hl 0 (by simp)
        simp only [Nat.add_zero, List.getElem_cons_zero] at h0
        rw [h0, ih (b + 1) r m' (by simpa using hn)]
        intro i hi
        have := hl (i + 1) (by simpa using hi)
        simpa [show b + 1 + i = b + (i + 1) by omega] using this
  exact key bs.length a bs _ rfl fun i hi => get_writeBytes_in m a bs i hi

end Sys2Proof.Machine
end

