-- ==== Sys2Proof/Laws/State.lean ====
section
/-! SUPPORT. The fields of the state after each plain update: one lemma per field and update that leaves it, so that no later proof
unfolds a record update. -/

namespace Sys2Proof.Machine

variable (s : State)

@[simp] theorem setReg_pending (a : Nat) (w : Word) : (s.setReg a w).pending = s.pending := rfl
@[simp] theorem setReg_now (a : Nat) (w : Word) : (s.setReg a w).now = s.now := rfl
@[simp] theorem setReg_mode (a : Nat) (w : Word) : (s.setReg a w).mode = s.mode := rfl
@[simp] theorem setReg_shadow (a : Nat) (w : Word) : (s.setReg a w).shadow = s.shadow := rfl
@[simp] theorem setReg_captured (a : Nat) (w : Word) : (s.setReg a w).captured = s.captured := rfl
@[simp] theorem setReg_held (a : Nat) (w : Word) : (s.setReg a w).held = s.held := rfl
@[simp] theorem setReg_raised (a : Nat) (w : Word) : (s.setReg a w).raised = s.raised := rfl
@[simp] theorem setReg_pins (a : Nat) (w : Word) : (s.setReg a w).pins = s.pins := rfl
@[simp] theorem setReg_outPins (a : Nat) (w : Word) : (s.setReg a w).outPins = s.outPins := rfl
@[simp] theorem setReg_out (a : Nat) (w : Word) : (s.setReg a w).out = s.out := rfl
@[simp] theorem setReg_fresh (a : Nat) (w : Word) : (s.setReg a w).fresh = s.fresh := rfl
@[simp] theorem setReg_evrQ (a : Nat) (w : Word) : (s.setReg a w).evrQ = s.evrQ := rfl
@[simp] theorem setReg_evr (a : Nat) (w : Word) : (s.setReg a w).evr = s.evr := rfl
@[simp] theorem setReg_err (a : Nat) (w : Word) : (s.setReg a w).err = s.err := rfl
@[simp] theorem setReg_t40 (a : Nat) (w : Word) : (s.setReg a w).t40 = s.t40 := rfl
@[simp] theorem setReg_notices (a : Nat) (w : Word) : (s.setReg a w).notices = s.notices := rfl
@[simp] theorem setReg_pos (a : Nat) (w : Word) : (s.setReg a w).pos = s.pos := rfl
@[simp] theorem setReg_trgCam (a : Nat) (w : Word) : (s.setReg a w).trgCam = s.trgCam := rfl
@[simp] theorem setReg_trg (a : Nat) (w : Word) : (s.setReg a w).trg = s.trg := rfl
@[simp] theorem setReg_slots (a : Nat) (w : Word) : (s.setReg a w).slots = s.slots := rfl
@[simp] theorem setReg_ports (a : Nat) (w : Word) : (s.setReg a w).ports = s.ports := rfl
@[simp] theorem setReg_runsWaiting (a : Nat) (w : Word) : (s.setReg a w).runsWaiting = s.runsWaiting := rfl
@[simp] theorem setReg_links (a : Nat) (w : Word) : (s.setReg a w).links = s.links := rfl
@[simp] theorem setReg_sram (a : Nat) (w : Word) : (s.setReg a w).sram = s.sram := rfl
@[simp] theorem setReg_ram (a : Nat) (w : Word) : (s.setReg a w).ram = s.ram := rfl
@[simp] theorem setReg_corr (a : Nat) (w : Word) : (s.setReg a w).corr = s.corr := rfl
@[simp] theorem setReg_calRun (a : Nat) (w : Word) : (s.setReg a w).calRun = s.calRun := rfl
@[simp] theorem setReg_imgOp (a : Nat) (w : Word) : (s.setReg a w).imgOp = s.imgOp := rfl
@[simp] theorem setReg_joinActive (a : Nat) (w : Word) : (s.setReg a w).joinActive = s.joinActive := rfl
@[simp] theorem setReg_handshakes (a : Nat) (w : Word) : (s.setReg a w).handshakes = s.handshakes := rfl
@[simp] theorem setReg_training (a : Nat) (w : Word) : (s.setReg a w).training = s.training := rfl
@[simp] theorem setReg_trainPending (a : Nat) (w : Word) : (s.setReg a w).trainPending = s.trainPending := rfl
@[simp] theorem setReg_stitch (a : Nat) (w : Word) : (s.setReg a w).stitch = s.stitch := rfl
@[simp] theorem setReg_folio (a : Nat) (w : Word) : (s.setReg a w).folio = s.folio := rfl
@[simp] theorem setReg_queues (a : Nat) (w : Word) : (s.setReg a w).queues = s.queues := rfl
@[simp] theorem setReg_seg (a : Nat) (w : Word) : (s.setReg a w).seg = s.seg := rfl
@[simp] theorem setReg_card (a : Nat) (w : Word) : (s.setReg a w).card = s.card := rfl
@[simp] theorem setReg_cropReqs (a : Nat) (w : Word) : (s.setReg a w).cropReqs = s.cropReqs := rfl
@[simp] theorem setReg_prof (a : Nat) (w : Word) : (s.setReg a w).prof = s.prof := rfl
@[simp] theorem setReg_stk (a : Nat) (w : Word) : (s.setReg a w).stk = s.stk := rfl
@[simp] theorem setReg_dma (a : Nat) (w : Word) : (s.setReg a w).dma = s.dma := rfl
@[simp] theorem setReg_acc (a : Nat) (w : Word) : (s.setReg a w).acc = s.acc := rfl
@[simp] theorem setReg_time (a : Nat) (w : Word) : (s.setReg a w).time = s.time := rfl
@[simp] theorem setReg_memc (a : Nat) (w : Word) : (s.setReg a w).memc = s.memc := rfl
@[simp] theorem setReg_host (a : Nat) (w : Word) : (s.setReg a w).host = s.host := rfl
@[simp] theorem setReg_red (a : Nat) (w : Word) : (s.setReg a w).red = s.red := rfl
@[simp] theorem setReg_pwr (a : Nat) (w : Word) : (s.setReg a w).pwr = s.pwr := rfl
@[simp] theorem setReg_twi (a : Nat) (w : Word) : (s.setReg a w).twi = s.twi := rfl
@[simp] theorem setReg_jtag (a : Nat) (w : Word) : (s.setReg a w).jtag = s.jtag := rfl

@[simp] theorem setFld_pending (a : Nat) (b : Bits) (n : Nat) : (s.setFld a b n).pending = s.pending := rfl
@[simp] theorem setFld_now (a : Nat) (b : Bits) (n : Nat) : (s.setFld a b n).now = s.now := rfl
@[simp] theorem setFld_mode (a : Nat) (b : Bits) (n : Nat) : (s.setFld a b n).mode = s.mode := rfl
@[simp] theorem setFld_shadow (a : Nat) (b : Bits) (n : Nat) : (s.setFld a b n).shadow = s.shadow := rfl
@[simp] theorem setFld_captured (a : Nat) (b : Bits) (n : Nat) : (s.setFld a b n).captured = s.captured := rfl
@[simp] theorem setFld_held (a : Nat) (b : Bits) (n : Nat) : (s.setFld a b n).held = s.held := rfl
@[simp] theorem setFld_raised (a : Nat) (b : Bits) (n : Nat) : (s.setFld a b n).raised = s.raised := rfl
@[simp] theorem setFld_pins (a : Nat) (b : Bits) (n : Nat) : (s.setFld a b n).pins = s.pins := rfl
@[simp] theorem setFld_outPins (a : Nat) (b : Bits) (n : Nat) : (s.setFld a b n).outPins = s.outPins := rfl
@[simp] theorem setFld_out (a : Nat) (b : Bits) (n : Nat) : (s.setFld a b n).out = s.out := rfl
@[simp] theorem setFld_fresh (a : Nat) (b : Bits) (n : Nat) : (s.setFld a b n).fresh = s.fresh := rfl
@[simp] theorem setFld_evrQ (a : Nat) (b : Bits) (n : Nat) : (s.setFld a b n).evrQ = s.evrQ := rfl
@[simp] theorem setFld_evr (a : Nat) (b : Bits) (n : Nat) : (s.setFld a b n).evr = s.evr := rfl
@[simp] theorem setFld_err (a : Nat) (b : Bits) (n : Nat) : (s.setFld a b n).err = s.err := rfl
@[simp] theorem setFld_t40 (a : Nat) (b : Bits) (n : Nat) : (s.setFld a b n).t40 = s.t40 := rfl
@[simp] theorem setFld_notices (a : Nat) (b : Bits) (n : Nat) : (s.setFld a b n).notices = s.notices := rfl
@[simp] theorem setFld_pos (a : Nat) (b : Bits) (n : Nat) : (s.setFld a b n).pos = s.pos := rfl
@[simp] theorem setFld_trgCam (a : Nat) (b : Bits) (n : Nat) : (s.setFld a b n).trgCam = s.trgCam := rfl
@[simp] theorem setFld_trg (a : Nat) (b : Bits) (n : Nat) : (s.setFld a b n).trg = s.trg := rfl
@[simp] theorem setFld_slots (a : Nat) (b : Bits) (n : Nat) : (s.setFld a b n).slots = s.slots := rfl
@[simp] theorem setFld_ports (a : Nat) (b : Bits) (n : Nat) : (s.setFld a b n).ports = s.ports := rfl
@[simp] theorem setFld_runsWaiting (a : Nat) (b : Bits) (n : Nat) : (s.setFld a b n).runsWaiting = s.runsWaiting := rfl
@[simp] theorem setFld_links (a : Nat) (b : Bits) (n : Nat) : (s.setFld a b n).links = s.links := rfl
@[simp] theorem setFld_sram (a : Nat) (b : Bits) (n : Nat) : (s.setFld a b n).sram = s.sram := rfl
@[simp] theorem setFld_ram (a : Nat) (b : Bits) (n : Nat) : (s.setFld a b n).ram = s.ram := rfl
@[simp] theorem setFld_corr (a : Nat) (b : Bits) (n : Nat) : (s.setFld a b n).corr = s.corr := rfl
@[simp] theorem setFld_calRun (a : Nat) (b : Bits) (n : Nat) : (s.setFld a b n).calRun = s.calRun := rfl
@[simp] theorem setFld_imgOp (a : Nat) (b : Bits) (n : Nat) : (s.setFld a b n).imgOp = s.imgOp := rfl
@[simp] theorem setFld_joinActive (a : Nat) (b : Bits) (n : Nat) : (s.setFld a b n).joinActive = s.joinActive := rfl
@[simp] theorem setFld_handshakes (a : Nat) (b : Bits) (n : Nat) : (s.setFld a b n).handshakes = s.handshakes := rfl
@[simp] theorem setFld_training (a : Nat) (b : Bits) (n : Nat) : (s.setFld a b n).training = s.training := rfl
@[simp] theorem setFld_trainPending (a : Nat) (b : Bits) (n : Nat) : (s.setFld a b n).trainPending = s.trainPending := rfl
@[simp] theorem setFld_stitch (a : Nat) (b : Bits) (n : Nat) : (s.setFld a b n).stitch = s.stitch := rfl
@[simp] theorem setFld_folio (a : Nat) (b : Bits) (n : Nat) : (s.setFld a b n).folio = s.folio := rfl
@[simp] theorem setFld_queues (a : Nat) (b : Bits) (n : Nat) : (s.setFld a b n).queues = s.queues := rfl
@[simp] theorem setFld_seg (a : Nat) (b : Bits) (n : Nat) : (s.setFld a b n).seg = s.seg := rfl
@[simp] theorem setFld_card (a : Nat) (b : Bits) (n : Nat) : (s.setFld a b n).card = s.card := rfl
@[simp] theorem setFld_cropReqs (a : Nat) (b : Bits) (n : Nat) : (s.setFld a b n).cropReqs = s.cropReqs := rfl
@[simp] theorem setFld_prof (a : Nat) (b : Bits) (n : Nat) : (s.setFld a b n).prof = s.prof := rfl
@[simp] theorem setFld_stk (a : Nat) (b : Bits) (n : Nat) : (s.setFld a b n).stk = s.stk := rfl
@[simp] theorem setFld_dma (a : Nat) (b : Bits) (n : Nat) : (s.setFld a b n).dma = s.dma := rfl
@[simp] theorem setFld_acc (a : Nat) (b : Bits) (n : Nat) : (s.setFld a b n).acc = s.acc := rfl
@[simp] theorem setFld_time (a : Nat) (b : Bits) (n : Nat) : (s.setFld a b n).time = s.time := rfl
@[simp] theorem setFld_memc (a : Nat) (b : Bits) (n : Nat) : (s.setFld a b n).memc = s.memc := rfl
@[simp] theorem setFld_host (a : Nat) (b : Bits) (n : Nat) : (s.setFld a b n).host = s.host := rfl
@[simp] theorem setFld_red (a : Nat) (b : Bits) (n : Nat) : (s.setFld a b n).red = s.red := rfl
@[simp] theorem setFld_pwr (a : Nat) (b : Bits) (n : Nat) : (s.setFld a b n).pwr = s.pwr := rfl
@[simp] theorem setFld_twi (a : Nat) (b : Bits) (n : Nat) : (s.setFld a b n).twi = s.twi := rfl
@[simp] theorem setFld_jtag (a : Nat) (b : Bits) (n : Nat) : (s.setFld a b n).jtag = s.jtag := rfl

@[simp] theorem setNum_pending (a n : Nat) : (s.setNum a n).pending = s.pending := rfl
@[simp] theorem setNum_now (a n : Nat) : (s.setNum a n).now = s.now := rfl
@[simp] theorem setNum_mode (a n : Nat) : (s.setNum a n).mode = s.mode := rfl
@[simp] theorem setNum_shadow (a n : Nat) : (s.setNum a n).shadow = s.shadow := rfl
@[simp] theorem setNum_captured (a n : Nat) : (s.setNum a n).captured = s.captured := rfl
@[simp] theorem setNum_held (a n : Nat) : (s.setNum a n).held = s.held := rfl
@[simp] theorem setNum_raised (a n : Nat) : (s.setNum a n).raised = s.raised := rfl
@[simp] theorem setNum_pins (a n : Nat) : (s.setNum a n).pins = s.pins := rfl
@[simp] theorem setNum_outPins (a n : Nat) : (s.setNum a n).outPins = s.outPins := rfl
@[simp] theorem setNum_out (a n : Nat) : (s.setNum a n).out = s.out := rfl
@[simp] theorem setNum_fresh (a n : Nat) : (s.setNum a n).fresh = s.fresh := rfl
@[simp] theorem setNum_evrQ (a n : Nat) : (s.setNum a n).evrQ = s.evrQ := rfl
@[simp] theorem setNum_evr (a n : Nat) : (s.setNum a n).evr = s.evr := rfl
@[simp] theorem setNum_err (a n : Nat) : (s.setNum a n).err = s.err := rfl
@[simp] theorem setNum_t40 (a n : Nat) : (s.setNum a n).t40 = s.t40 := rfl
@[simp] theorem setNum_notices (a n : Nat) : (s.setNum a n).notices = s.notices := rfl
@[simp] theorem setNum_pos (a n : Nat) : (s.setNum a n).pos = s.pos := rfl
@[simp] theorem setNum_trgCam (a n : Nat) : (s.setNum a n).trgCam = s.trgCam := rfl
@[simp] theorem setNum_trg (a n : Nat) : (s.setNum a n).trg = s.trg := rfl
@[simp] theorem setNum_slots (a n : Nat) : (s.setNum a n).slots = s.slots := rfl
@[simp] theorem setNum_ports (a n : Nat) : (s.setNum a n).ports = s.ports := rfl
@[simp] theorem setNum_runsWaiting (a n : Nat) : (s.setNum a n).runsWaiting = s.runsWaiting := rfl
@[simp] theorem setNum_links (a n : Nat) : (s.setNum a n).links = s.links := rfl
@[simp] theorem setNum_sram (a n : Nat) : (s.setNum a n).sram = s.sram := rfl
@[simp] theorem setNum_ram (a n : Nat) : (s.setNum a n).ram = s.ram := rfl
@[simp] theorem setNum_corr (a n : Nat) : (s.setNum a n).corr = s.corr := rfl
@[simp] theorem setNum_calRun (a n : Nat) : (s.setNum a n).calRun = s.calRun := rfl
@[simp] theorem setNum_imgOp (a n : Nat) : (s.setNum a n).imgOp = s.imgOp := rfl
@[simp] theorem setNum_joinActive (a n : Nat) : (s.setNum a n).joinActive = s.joinActive := rfl
@[simp] theorem setNum_handshakes (a n : Nat) : (s.setNum a n).handshakes = s.handshakes := rfl
@[simp] theorem setNum_training (a n : Nat) : (s.setNum a n).training = s.training := rfl
@[simp] theorem setNum_trainPending (a n : Nat) : (s.setNum a n).trainPending = s.trainPending := rfl
@[simp] theorem setNum_stitch (a n : Nat) : (s.setNum a n).stitch = s.stitch := rfl
@[simp] theorem setNum_folio (a n : Nat) : (s.setNum a n).folio = s.folio := rfl
@[simp] theorem setNum_queues (a n : Nat) : (s.setNum a n).queues = s.queues := rfl
@[simp] theorem setNum_seg (a n : Nat) : (s.setNum a n).seg = s.seg := rfl
@[simp] theorem setNum_card (a n : Nat) : (s.setNum a n).card = s.card := rfl
@[simp] theorem setNum_cropReqs (a n : Nat) : (s.setNum a n).cropReqs = s.cropReqs := rfl
@[simp] theorem setNum_prof (a n : Nat) : (s.setNum a n).prof = s.prof := rfl
@[simp] theorem setNum_stk (a n : Nat) : (s.setNum a n).stk = s.stk := rfl
@[simp] theorem setNum_dma (a n : Nat) : (s.setNum a n).dma = s.dma := rfl
@[simp] theorem setNum_acc (a n : Nat) : (s.setNum a n).acc = s.acc := rfl
@[simp] theorem setNum_time (a n : Nat) : (s.setNum a n).time = s.time := rfl
@[simp] theorem setNum_memc (a n : Nat) : (s.setNum a n).memc = s.memc := rfl
@[simp] theorem setNum_host (a n : Nat) : (s.setNum a n).host = s.host := rfl
@[simp] theorem setNum_red (a n : Nat) : (s.setNum a n).red = s.red := rfl
@[simp] theorem setNum_pwr (a n : Nat) : (s.setNum a n).pwr = s.pwr := rfl
@[simp] theorem setNum_twi (a n : Nat) : (s.setNum a n).twi = s.twi := rfl
@[simp] theorem setNum_jtag (a n : Nat) : (s.setNum a n).jtag = s.jtag := rfl

@[simp] theorem bumpBy_pending (a n : Nat) : (s.bumpBy a n).pending = s.pending := rfl
@[simp] theorem bumpBy_now (a n : Nat) : (s.bumpBy a n).now = s.now := rfl
@[simp] theorem bumpBy_mode (a n : Nat) : (s.bumpBy a n).mode = s.mode := rfl
@[simp] theorem bumpBy_shadow (a n : Nat) : (s.bumpBy a n).shadow = s.shadow := rfl
@[simp] theorem bumpBy_captured (a n : Nat) : (s.bumpBy a n).captured = s.captured := rfl
@[simp] theorem bumpBy_held (a n : Nat) : (s.bumpBy a n).held = s.held := rfl
@[simp] theorem bumpBy_raised (a n : Nat) : (s.bumpBy a n).raised = s.raised := rfl
@[simp] theorem bumpBy_pins (a n : Nat) : (s.bumpBy a n).pins = s.pins := rfl
@[simp] theorem bumpBy_outPins (a n : Nat) : (s.bumpBy a n).outPins = s.outPins := rfl
@[simp] theorem bumpBy_out (a n : Nat) : (s.bumpBy a n).out = s.out := rfl
@[simp] theorem bumpBy_fresh (a n : Nat) : (s.bumpBy a n).fresh = s.fresh := rfl
@[simp] theorem bumpBy_evrQ (a n : Nat) : (s.bumpBy a n).evrQ = s.evrQ := rfl
@[simp] theorem bumpBy_evr (a n : Nat) : (s.bumpBy a n).evr = s.evr := rfl
@[simp] theorem bumpBy_err (a n : Nat) : (s.bumpBy a n).err = s.err := rfl
@[simp] theorem bumpBy_t40 (a n : Nat) : (s.bumpBy a n).t40 = s.t40 := rfl
@[simp] theorem bumpBy_notices (a n : Nat) : (s.bumpBy a n).notices = s.notices := rfl
@[simp] theorem bumpBy_pos (a n : Nat) : (s.bumpBy a n).pos = s.pos := rfl
@[simp] theorem bumpBy_trgCam (a n : Nat) : (s.bumpBy a n).trgCam = s.trgCam := rfl
@[simp] theorem bumpBy_trg (a n : Nat) : (s.bumpBy a n).trg = s.trg := rfl
@[simp] theorem bumpBy_slots (a n : Nat) : (s.bumpBy a n).slots = s.slots := rfl
@[simp] theorem bumpBy_ports (a n : Nat) : (s.bumpBy a n).ports = s.ports := rfl
@[simp] theorem bumpBy_runsWaiting (a n : Nat) : (s.bumpBy a n).runsWaiting = s.runsWaiting := rfl
@[simp] theorem bumpBy_links (a n : Nat) : (s.bumpBy a n).links = s.links := rfl
@[simp] theorem bumpBy_sram (a n : Nat) : (s.bumpBy a n).sram = s.sram := rfl
@[simp] theorem bumpBy_ram (a n : Nat) : (s.bumpBy a n).ram = s.ram := rfl
@[simp] theorem bumpBy_corr (a n : Nat) : (s.bumpBy a n).corr = s.corr := rfl
@[simp] theorem bumpBy_calRun (a n : Nat) : (s.bumpBy a n).calRun = s.calRun := rfl
@[simp] theorem bumpBy_imgOp (a n : Nat) : (s.bumpBy a n).imgOp = s.imgOp := rfl
@[simp] theorem bumpBy_joinActive (a n : Nat) : (s.bumpBy a n).joinActive = s.joinActive := rfl
@[simp] theorem bumpBy_handshakes (a n : Nat) : (s.bumpBy a n).handshakes = s.handshakes := rfl
@[simp] theorem bumpBy_training (a n : Nat) : (s.bumpBy a n).training = s.training := rfl
@[simp] theorem bumpBy_trainPending (a n : Nat) : (s.bumpBy a n).trainPending = s.trainPending := rfl
@[simp] theorem bumpBy_stitch (a n : Nat) : (s.bumpBy a n).stitch = s.stitch := rfl
@[simp] theorem bumpBy_folio (a n : Nat) : (s.bumpBy a n).folio = s.folio := rfl
@[simp] theorem bumpBy_queues (a n : Nat) : (s.bumpBy a n).queues = s.queues := rfl
@[simp] theorem bumpBy_seg (a n : Nat) : (s.bumpBy a n).seg = s.seg := rfl
@[simp] theorem bumpBy_card (a n : Nat) : (s.bumpBy a n).card = s.card := rfl
@[simp] theorem bumpBy_cropReqs (a n : Nat) : (s.bumpBy a n).cropReqs = s.cropReqs := rfl
@[simp] theorem bumpBy_prof (a n : Nat) : (s.bumpBy a n).prof = s.prof := rfl
@[simp] theorem bumpBy_stk (a n : Nat) : (s.bumpBy a n).stk = s.stk := rfl
@[simp] theorem bumpBy_dma (a n : Nat) : (s.bumpBy a n).dma = s.dma := rfl
@[simp] theorem bumpBy_acc (a n : Nat) : (s.bumpBy a n).acc = s.acc := rfl
@[simp] theorem bumpBy_time (a n : Nat) : (s.bumpBy a n).time = s.time := rfl
@[simp] theorem bumpBy_memc (a n : Nat) : (s.bumpBy a n).memc = s.memc := rfl
@[simp] theorem bumpBy_host (a n : Nat) : (s.bumpBy a n).host = s.host := rfl
@[simp] theorem bumpBy_red (a n : Nat) : (s.bumpBy a n).red = s.red := rfl
@[simp] theorem bumpBy_pwr (a n : Nat) : (s.bumpBy a n).pwr = s.pwr := rfl
@[simp] theorem bumpBy_twi (a n : Nat) : (s.bumpBy a n).twi = s.twi := rfl
@[simp] theorem bumpBy_jtag (a n : Nat) : (s.bumpBy a n).jtag = s.jtag := rfl

@[simp] theorem bump_pending (a : Nat) : (s.bump a).pending = s.pending := rfl
@[simp] theorem bump_now (a : Nat) : (s.bump a).now = s.now := rfl
@[simp] theorem bump_mode (a : Nat) : (s.bump a).mode = s.mode := rfl
@[simp] theorem bump_shadow (a : Nat) : (s.bump a).shadow = s.shadow := rfl
@[simp] theorem bump_captured (a : Nat) : (s.bump a).captured = s.captured := rfl
@[simp] theorem bump_held (a : Nat) : (s.bump a).held = s.held := rfl
@[simp] theorem bump_raised (a : Nat) : (s.bump a).raised = s.raised := rfl
@[simp] theorem bump_pins (a : Nat) : (s.bump a).pins = s.pins := rfl
@[simp] theorem bump_outPins (a : Nat) : (s.bump a).outPins = s.outPins := rfl
@[simp] theorem bump_out (a : Nat) : (s.bump a).out = s.out := rfl
@[simp] theorem bump_fresh (a : Nat) : (s.bump a).fresh = s.fresh := rfl
@[simp] theorem bump_evrQ (a : Nat) : (s.bump a).evrQ = s.evrQ := rfl
@[simp] theorem bump_evr (a : Nat) : (s.bump a).evr = s.evr := rfl
@[simp] theorem bump_err (a : Nat) : (s.bump a).err = s.err := rfl
@[simp] theorem bump_t40 (a : Nat) : (s.bump a).t40 = s.t40 := rfl
@[simp] theorem bump_notices (a : Nat) : (s.bump a).notices = s.notices := rfl
@[simp] theorem bump_pos (a : Nat) : (s.bump a).pos = s.pos := rfl
@[simp] theorem bump_trgCam (a : Nat) : (s.bump a).trgCam = s.trgCam := rfl
@[simp] theorem bump_trg (a : Nat) : (s.bump a).trg = s.trg := rfl
@[simp] theorem bump_slots (a : Nat) : (s.bump a).slots = s.slots := rfl
@[simp] theorem bump_ports (a : Nat) : (s.bump a).ports = s.ports := rfl
@[simp] theorem bump_runsWaiting (a : Nat) : (s.bump a).runsWaiting = s.runsWaiting := rfl
@[simp] theorem bump_links (a : Nat) : (s.bump a).links = s.links := rfl
@[simp] theorem bump_sram (a : Nat) : (s.bump a).sram = s.sram := rfl
@[simp] theorem bump_ram (a : Nat) : (s.bump a).ram = s.ram := rfl
@[simp] theorem bump_corr (a : Nat) : (s.bump a).corr = s.corr := rfl
@[simp] theorem bump_calRun (a : Nat) : (s.bump a).calRun = s.calRun := rfl
@[simp] theorem bump_imgOp (a : Nat) : (s.bump a).imgOp = s.imgOp := rfl
@[simp] theorem bump_joinActive (a : Nat) : (s.bump a).joinActive = s.joinActive := rfl
@[simp] theorem bump_handshakes (a : Nat) : (s.bump a).handshakes = s.handshakes := rfl
@[simp] theorem bump_training (a : Nat) : (s.bump a).training = s.training := rfl
@[simp] theorem bump_trainPending (a : Nat) : (s.bump a).trainPending = s.trainPending := rfl
@[simp] theorem bump_stitch (a : Nat) : (s.bump a).stitch = s.stitch := rfl
@[simp] theorem bump_folio (a : Nat) : (s.bump a).folio = s.folio := rfl
@[simp] theorem bump_queues (a : Nat) : (s.bump a).queues = s.queues := rfl
@[simp] theorem bump_seg (a : Nat) : (s.bump a).seg = s.seg := rfl
@[simp] theorem bump_card (a : Nat) : (s.bump a).card = s.card := rfl
@[simp] theorem bump_cropReqs (a : Nat) : (s.bump a).cropReqs = s.cropReqs := rfl
@[simp] theorem bump_prof (a : Nat) : (s.bump a).prof = s.prof := rfl
@[simp] theorem bump_stk (a : Nat) : (s.bump a).stk = s.stk := rfl
@[simp] theorem bump_dma (a : Nat) : (s.bump a).dma = s.dma := rfl
@[simp] theorem bump_acc (a : Nat) : (s.bump a).acc = s.acc := rfl
@[simp] theorem bump_time (a : Nat) : (s.bump a).time = s.time := rfl
@[simp] theorem bump_memc (a : Nat) : (s.bump a).memc = s.memc := rfl
@[simp] theorem bump_host (a : Nat) : (s.bump a).host = s.host := rfl
@[simp] theorem bump_red (a : Nat) : (s.bump a).red = s.red := rfl
@[simp] theorem bump_pwr (a : Nat) : (s.bump a).pwr = s.pwr := rfl
@[simp] theorem bump_twi (a : Nat) : (s.bump a).twi = s.twi := rfl
@[simp] theorem bump_jtag (a : Nat) : (s.bump a).jtag = s.jtag := rfl

@[simp] theorem set64_pending (a n : Nat) : (s.set64 a n).pending = s.pending := rfl
@[simp] theorem set64_now (a n : Nat) : (s.set64 a n).now = s.now := rfl
@[simp] theorem set64_mode (a n : Nat) : (s.set64 a n).mode = s.mode := rfl
@[simp] theorem set64_shadow (a n : Nat) : (s.set64 a n).shadow = s.shadow := rfl
@[simp] theorem set64_captured (a n : Nat) : (s.set64 a n).captured = s.captured := rfl
@[simp] theorem set64_held (a n : Nat) : (s.set64 a n).held = s.held := rfl
@[simp] theorem set64_raised (a n : Nat) : (s.set64 a n).raised = s.raised := rfl
@[simp] theorem set64_pins (a n : Nat) : (s.set64 a n).pins = s.pins := rfl
@[simp] theorem set64_outPins (a n : Nat) : (s.set64 a n).outPins = s.outPins := rfl
@[simp] theorem set64_out (a n : Nat) : (s.set64 a n).out = s.out := rfl
@[simp] theorem set64_fresh (a n : Nat) : (s.set64 a n).fresh = s.fresh := rfl
@[simp] theorem set64_evrQ (a n : Nat) : (s.set64 a n).evrQ = s.evrQ := rfl
@[simp] theorem set64_evr (a n : Nat) : (s.set64 a n).evr = s.evr := rfl
@[simp] theorem set64_err (a n : Nat) : (s.set64 a n).err = s.err := rfl
@[simp] theorem set64_t40 (a n : Nat) : (s.set64 a n).t40 = s.t40 := rfl
@[simp] theorem set64_notices (a n : Nat) : (s.set64 a n).notices = s.notices := rfl
@[simp] theorem set64_pos (a n : Nat) : (s.set64 a n).pos = s.pos := rfl
@[simp] theorem set64_trgCam (a n : Nat) : (s.set64 a n).trgCam = s.trgCam := rfl
@[simp] theorem set64_trg (a n : Nat) : (s.set64 a n).trg = s.trg := rfl
@[simp] theorem set64_slots (a n : Nat) : (s.set64 a n).slots = s.slots := rfl
@[simp] theorem set64_ports (a n : Nat) : (s.set64 a n).ports = s.ports := rfl
@[simp] theorem set64_runsWaiting (a n : Nat) : (s.set64 a n).runsWaiting = s.runsWaiting := rfl
@[simp] theorem set64_links (a n : Nat) : (s.set64 a n).links = s.links := rfl
@[simp] theorem set64_sram (a n : Nat) : (s.set64 a n).sram = s.sram := rfl
@[simp] theorem set64_ram (a n : Nat) : (s.set64 a n).ram = s.ram := rfl
@[simp] theorem set64_corr (a n : Nat) : (s.set64 a n).corr = s.corr := rfl
@[simp] theorem set64_calRun (a n : Nat) : (s.set64 a n).calRun = s.calRun := rfl
@[simp] theorem set64_imgOp (a n : Nat) : (s.set64 a n).imgOp = s.imgOp := rfl
@[simp] theorem set64_joinActive (a n : Nat) : (s.set64 a n).joinActive = s.joinActive := rfl
@[simp] theorem set64_handshakes (a n : Nat) : (s.set64 a n).handshakes = s.handshakes := rfl
@[simp] theorem set64_training (a n : Nat) : (s.set64 a n).training = s.training := rfl
@[simp] theorem set64_trainPending (a n : Nat) : (s.set64 a n).trainPending = s.trainPending := rfl
@[simp] theorem set64_stitch (a n : Nat) : (s.set64 a n).stitch = s.stitch := rfl
@[simp] theorem set64_folio (a n : Nat) : (s.set64 a n).folio = s.folio := rfl
@[simp] theorem set64_queues (a n : Nat) : (s.set64 a n).queues = s.queues := rfl
@[simp] theorem set64_seg (a n : Nat) : (s.set64 a n).seg = s.seg := rfl
@[simp] theorem set64_card (a n : Nat) : (s.set64 a n).card = s.card := rfl
@[simp] theorem set64_cropReqs (a n : Nat) : (s.set64 a n).cropReqs = s.cropReqs := rfl
@[simp] theorem set64_prof (a n : Nat) : (s.set64 a n).prof = s.prof := rfl
@[simp] theorem set64_stk (a n : Nat) : (s.set64 a n).stk = s.stk := rfl
@[simp] theorem set64_dma (a n : Nat) : (s.set64 a n).dma = s.dma := rfl
@[simp] theorem set64_acc (a n : Nat) : (s.set64 a n).acc = s.acc := rfl
@[simp] theorem set64_time (a n : Nat) : (s.set64 a n).time = s.time := rfl
@[simp] theorem set64_memc (a n : Nat) : (s.set64 a n).memc = s.memc := rfl
@[simp] theorem set64_host (a n : Nat) : (s.set64 a n).host = s.host := rfl
@[simp] theorem set64_red (a n : Nat) : (s.set64 a n).red = s.red := rfl
@[simp] theorem set64_pwr (a n : Nat) : (s.set64 a n).pwr = s.pwr := rfl
@[simp] theorem set64_twi (a n : Nat) : (s.set64 a n).twi = s.twi := rfl
@[simp] theorem set64_jtag (a n : Nat) : (s.set64 a n).jtag = s.jtag := rfl

@[simp] theorem set48_pending (a : Nat) (x : Int) : (s.set48 a x).pending = s.pending := rfl
@[simp] theorem set48_now (a : Nat) (x : Int) : (s.set48 a x).now = s.now := rfl
@[simp] theorem set48_mode (a : Nat) (x : Int) : (s.set48 a x).mode = s.mode := rfl
@[simp] theorem set48_shadow (a : Nat) (x : Int) : (s.set48 a x).shadow = s.shadow := rfl
@[simp] theorem set48_captured (a : Nat) (x : Int) : (s.set48 a x).captured = s.captured := rfl
@[simp] theorem set48_held (a : Nat) (x : Int) : (s.set48 a x).held = s.held := rfl
@[simp] theorem set48_raised (a : Nat) (x : Int) : (s.set48 a x).raised = s.raised := rfl
@[simp] theorem set48_pins (a : Nat) (x : Int) : (s.set48 a x).pins = s.pins := rfl
@[simp] theorem set48_outPins (a : Nat) (x : Int) : (s.set48 a x).outPins = s.outPins := rfl
@[simp] theorem set48_out (a : Nat) (x : Int) : (s.set48 a x).out = s.out := rfl
@[simp] theorem set48_fresh (a : Nat) (x : Int) : (s.set48 a x).fresh = s.fresh := rfl
@[simp] theorem set48_evrQ (a : Nat) (x : Int) : (s.set48 a x).evrQ = s.evrQ := rfl
@[simp] theorem set48_evr (a : Nat) (x : Int) : (s.set48 a x).evr = s.evr := rfl
@[simp] theorem set48_err (a : Nat) (x : Int) : (s.set48 a x).err = s.err := rfl
@[simp] theorem set48_t40 (a : Nat) (x : Int) : (s.set48 a x).t40 = s.t40 := rfl
@[simp] theorem set48_notices (a : Nat) (x : Int) : (s.set48 a x).notices = s.notices := rfl
@[simp] theorem set48_pos (a : Nat) (x : Int) : (s.set48 a x).pos = s.pos := rfl
@[simp] theorem set48_trgCam (a : Nat) (x : Int) : (s.set48 a x).trgCam = s.trgCam := rfl
@[simp] theorem set48_trg (a : Nat) (x : Int) : (s.set48 a x).trg = s.trg := rfl
@[simp] theorem set48_slots (a : Nat) (x : Int) : (s.set48 a x).slots = s.slots := rfl
@[simp] theorem set48_ports (a : Nat) (x : Int) : (s.set48 a x).ports = s.ports := rfl
@[simp] theorem set48_runsWaiting (a : Nat) (x : Int) : (s.set48 a x).runsWaiting = s.runsWaiting := rfl
@[simp] theorem set48_links (a : Nat) (x : Int) : (s.set48 a x).links = s.links := rfl
@[simp] theorem set48_sram (a : Nat) (x : Int) : (s.set48 a x).sram = s.sram := rfl
@[simp] theorem set48_ram (a : Nat) (x : Int) : (s.set48 a x).ram = s.ram := rfl
@[simp] theorem set48_corr (a : Nat) (x : Int) : (s.set48 a x).corr = s.corr := rfl
@[simp] theorem set48_calRun (a : Nat) (x : Int) : (s.set48 a x).calRun = s.calRun := rfl
@[simp] theorem set48_imgOp (a : Nat) (x : Int) : (s.set48 a x).imgOp = s.imgOp := rfl
@[simp] theorem set48_joinActive (a : Nat) (x : Int) : (s.set48 a x).joinActive = s.joinActive := rfl
@[simp] theorem set48_handshakes (a : Nat) (x : Int) : (s.set48 a x).handshakes = s.handshakes := rfl
@[simp] theorem set48_training (a : Nat) (x : Int) : (s.set48 a x).training = s.training := rfl
@[simp] theorem set48_trainPending (a : Nat) (x : Int) : (s.set48 a x).trainPending = s.trainPending := rfl
@[simp] theorem set48_stitch (a : Nat) (x : Int) : (s.set48 a x).stitch = s.stitch := rfl
@[simp] theorem set48_folio (a : Nat) (x : Int) : (s.set48 a x).folio = s.folio := rfl
@[simp] theorem set48_queues (a : Nat) (x : Int) : (s.set48 a x).queues = s.queues := rfl
@[simp] theorem set48_seg (a : Nat) (x : Int) : (s.set48 a x).seg = s.seg := rfl
@[simp] theorem set48_card (a : Nat) (x : Int) : (s.set48 a x).card = s.card := rfl
@[simp] theorem set48_cropReqs (a : Nat) (x : Int) : (s.set48 a x).cropReqs = s.cropReqs := rfl
@[simp] theorem set48_prof (a : Nat) (x : Int) : (s.set48 a x).prof = s.prof := rfl
@[simp] theorem set48_stk (a : Nat) (x : Int) : (s.set48 a x).stk = s.stk := rfl
@[simp] theorem set48_dma (a : Nat) (x : Int) : (s.set48 a x).dma = s.dma := rfl
@[simp] theorem set48_acc (a : Nat) (x : Int) : (s.set48 a x).acc = s.acc := rfl
@[simp] theorem set48_time (a : Nat) (x : Int) : (s.set48 a x).time = s.time := rfl
@[simp] theorem set48_memc (a : Nat) (x : Int) : (s.set48 a x).memc = s.memc := rfl
@[simp] theorem set48_host (a : Nat) (x : Int) : (s.set48 a x).host = s.host := rfl
@[simp] theorem set48_red (a : Nat) (x : Int) : (s.set48 a x).red = s.red := rfl
@[simp] theorem set48_pwr (a : Nat) (x : Int) : (s.set48 a x).pwr = s.pwr := rfl
@[simp] theorem set48_twi (a : Nat) (x : Int) : (s.set48 a x).twi = s.twi := rfl
@[simp] theorem set48_jtag (a : Nat) (x : Int) : (s.set48 a x).jtag = s.jtag := rfl

@[simp] theorem setS64_pending (a : Nat) (x : Int) : (s.setS64 a x).pending = s.pending := rfl
@[simp] theorem setS64_now (a : Nat) (x : Int) : (s.setS64 a x).now = s.now := rfl
@[simp] theorem setS64_mode (a : Nat) (x : Int) : (s.setS64 a x).mode = s.mode := rfl
@[simp] theorem setS64_shadow (a : Nat) (x : Int) : (s.setS64 a x).shadow = s.shadow := rfl
@[simp] theorem setS64_captured (a : Nat) (x : Int) : (s.setS64 a x).captured = s.captured := rfl
@[simp] theorem setS64_held (a : Nat) (x : Int) : (s.setS64 a x).held = s.held := rfl
@[simp] theorem setS64_raised (a : Nat) (x : Int) : (s.setS64 a x).raised = s.raised := rfl
@[simp] theorem setS64_pins (a : Nat) (x : Int) : (s.setS64 a x).pins = s.pins := rfl
@[simp] theorem setS64_outPins (a : Nat) (x : Int) : (s.setS64 a x).outPins = s.outPins := rfl
@[simp] theorem setS64_out (a : Nat) (x : Int) : (s.setS64 a x).out = s.out := rfl
@[simp] theorem setS64_fresh (a : Nat) (x : Int) : (s.setS64 a x).fresh = s.fresh := rfl
@[simp] theorem setS64_evrQ (a : Nat) (x : Int) : (s.setS64 a x).evrQ = s.evrQ := rfl
@[simp] theorem setS64_evr (a : Nat) (x : Int) : (s.setS64 a x).evr = s.evr := rfl
@[simp] theorem setS64_err (a : Nat) (x : Int) : (s.setS64 a x).err = s.err := rfl
@[simp] theorem setS64_t40 (a : Nat) (x : Int) : (s.setS64 a x).t40 = s.t40 := rfl
@[simp] theorem setS64_notices (a : Nat) (x : Int) : (s.setS64 a x).notices = s.notices := rfl
@[simp] theorem setS64_pos (a : Nat) (x : Int) : (s.setS64 a x).pos = s.pos := rfl
@[simp] theorem setS64_trgCam (a : Nat) (x : Int) : (s.setS64 a x).trgCam = s.trgCam := rfl
@[simp] theorem setS64_trg (a : Nat) (x : Int) : (s.setS64 a x).trg = s.trg := rfl
@[simp] theorem setS64_slots (a : Nat) (x : Int) : (s.setS64 a x).slots = s.slots := rfl
@[simp] theorem setS64_ports (a : Nat) (x : Int) : (s.setS64 a x).ports = s.ports := rfl
@[simp] theorem setS64_runsWaiting (a : Nat) (x : Int) : (s.setS64 a x).runsWaiting = s.runsWaiting := rfl
@[simp] theorem setS64_links (a : Nat) (x : Int) : (s.setS64 a x).links = s.links := rfl
@[simp] theorem setS64_sram (a : Nat) (x : Int) : (s.setS64 a x).sram = s.sram := rfl
@[simp] theorem setS64_ram (a : Nat) (x : Int) : (s.setS64 a x).ram = s.ram := rfl
@[simp] theorem setS64_corr (a : Nat) (x : Int) : (s.setS64 a x).corr = s.corr := rfl
@[simp] theorem setS64_calRun (a : Nat) (x : Int) : (s.setS64 a x).calRun = s.calRun := rfl
@[simp] theorem setS64_imgOp (a : Nat) (x : Int) : (s.setS64 a x).imgOp = s.imgOp := rfl
@[simp] theorem setS64_joinActive (a : Nat) (x : Int) : (s.setS64 a x).joinActive = s.joinActive := rfl
@[simp] theorem setS64_handshakes (a : Nat) (x : Int) : (s.setS64 a x).handshakes = s.handshakes := rfl
@[simp] theorem setS64_training (a : Nat) (x : Int) : (s.setS64 a x).training = s.training := rfl
@[simp] theorem setS64_trainPending (a : Nat) (x : Int) : (s.setS64 a x).trainPending = s.trainPending := rfl
@[simp] theorem setS64_stitch (a : Nat) (x : Int) : (s.setS64 a x).stitch = s.stitch := rfl
@[simp] theorem setS64_folio (a : Nat) (x : Int) : (s.setS64 a x).folio = s.folio := rfl
@[simp] theorem setS64_queues (a : Nat) (x : Int) : (s.setS64 a x).queues = s.queues := rfl
@[simp] theorem setS64_seg (a : Nat) (x : Int) : (s.setS64 a x).seg = s.seg := rfl
@[simp] theorem setS64_card (a : Nat) (x : Int) : (s.setS64 a x).card = s.card := rfl
@[simp] theorem setS64_cropReqs (a : Nat) (x : Int) : (s.setS64 a x).cropReqs = s.cropReqs := rfl
@[simp] theorem setS64_prof (a : Nat) (x : Int) : (s.setS64 a x).prof = s.prof := rfl
@[simp] theorem setS64_stk (a : Nat) (x : Int) : (s.setS64 a x).stk = s.stk := rfl
@[simp] theorem setS64_dma (a : Nat) (x : Int) : (s.setS64 a x).dma = s.dma := rfl
@[simp] theorem setS64_acc (a : Nat) (x : Int) : (s.setS64 a x).acc = s.acc := rfl
@[simp] theorem setS64_time (a : Nat) (x : Int) : (s.setS64 a x).time = s.time := rfl
@[simp] theorem setS64_memc (a : Nat) (x : Int) : (s.setS64 a x).memc = s.memc := rfl
@[simp] theorem setS64_host (a : Nat) (x : Int) : (s.setS64 a x).host = s.host := rfl
@[simp] theorem setS64_red (a : Nat) (x : Int) : (s.setS64 a x).red = s.red := rfl
@[simp] theorem setS64_pwr (a : Nat) (x : Int) : (s.setS64 a x).pwr = s.pwr := rfl
@[simp] theorem setS64_twi (a : Nat) (x : Int) : (s.setS64 a x).twi = s.twi := rfl
@[simp] theorem setS64_jtag (a : Nat) (x : Int) : (s.setS64 a x).jtag = s.jtag := rfl

@[simp] theorem hwSet_pending (a n : Nat) : (s.hwSet a n).pending = s.pending := rfl
@[simp] theorem hwSet_now (a n : Nat) : (s.hwSet a n).now = s.now := rfl
@[simp] theorem hwSet_mode (a n : Nat) : (s.hwSet a n).mode = s.mode := rfl
@[simp] theorem hwSet_shadow (a n : Nat) : (s.hwSet a n).shadow = s.shadow := rfl
@[simp] theorem hwSet_captured (a n : Nat) : (s.hwSet a n).captured = s.captured := rfl
@[simp] theorem hwSet_held (a n : Nat) : (s.hwSet a n).held = s.held := rfl
@[simp] theorem hwSet_pins (a n : Nat) : (s.hwSet a n).pins = s.pins := rfl
@[simp] theorem hwSet_outPins (a n : Nat) : (s.hwSet a n).outPins = s.outPins := rfl
@[simp] theorem hwSet_out (a n : Nat) : (s.hwSet a n).out = s.out := rfl
@[simp] theorem hwSet_fresh (a n : Nat) : (s.hwSet a n).fresh = s.fresh := rfl
@[simp] theorem hwSet_evrQ (a n : Nat) : (s.hwSet a n).evrQ = s.evrQ := rfl
@[simp] theorem hwSet_evr (a n : Nat) : (s.hwSet a n).evr = s.evr := rfl
@[simp] theorem hwSet_err (a n : Nat) : (s.hwSet a n).err = s.err := rfl
@[simp] theorem hwSet_t40 (a n : Nat) : (s.hwSet a n).t40 = s.t40 := rfl
@[simp] theorem hwSet_notices (a n : Nat) : (s.hwSet a n).notices = s.notices := rfl
@[simp] theorem hwSet_pos (a n : Nat) : (s.hwSet a n).pos = s.pos := rfl
@[simp] theorem hwSet_trgCam (a n : Nat) : (s.hwSet a n).trgCam = s.trgCam := rfl
@[simp] theorem hwSet_trg (a n : Nat) : (s.hwSet a n).trg = s.trg := rfl
@[simp] theorem hwSet_slots (a n : Nat) : (s.hwSet a n).slots = s.slots := rfl
@[simp] theorem hwSet_ports (a n : Nat) : (s.hwSet a n).ports = s.ports := rfl
@[simp] theorem hwSet_runsWaiting (a n : Nat) : (s.hwSet a n).runsWaiting = s.runsWaiting := rfl
@[simp] theorem hwSet_links (a n : Nat) : (s.hwSet a n).links = s.links := rfl
@[simp] theorem hwSet_sram (a n : Nat) : (s.hwSet a n).sram = s.sram := rfl
@[simp] theorem hwSet_ram (a n : Nat) : (s.hwSet a n).ram = s.ram := rfl
@[simp] theorem hwSet_corr (a n : Nat) : (s.hwSet a n).corr = s.corr := rfl
@[simp] theorem hwSet_calRun (a n : Nat) : (s.hwSet a n).calRun = s.calRun := rfl
@[simp] theorem hwSet_imgOp (a n : Nat) : (s.hwSet a n).imgOp = s.imgOp := rfl
@[simp] theorem hwSet_joinActive (a n : Nat) : (s.hwSet a n).joinActive = s.joinActive := rfl
@[simp] theorem hwSet_handshakes (a n : Nat) : (s.hwSet a n).handshakes = s.handshakes := rfl
@[simp] theorem hwSet_training (a n : Nat) : (s.hwSet a n).training = s.training := rfl
@[simp] theorem hwSet_trainPending (a n : Nat) : (s.hwSet a n).trainPending = s.trainPending := rfl
@[simp] theorem hwSet_stitch (a n : Nat) : (s.hwSet a n).stitch = s.stitch := rfl
@[simp] theorem hwSet_folio (a n : Nat) : (s.hwSet a n).folio = s.folio := rfl
@[simp] theorem hwSet_queues (a n : Nat) : (s.hwSet a n).queues = s.queues := rfl
@[simp] theorem hwSet_seg (a n : Nat) : (s.hwSet a n).seg = s.seg := rfl
@[simp] theorem hwSet_card (a n : Nat) : (s.hwSet a n).card = s.card := rfl
@[simp] theorem hwSet_cropReqs (a n : Nat) : (s.hwSet a n).cropReqs = s.cropReqs := rfl
@[simp] theorem hwSet_prof (a n : Nat) : (s.hwSet a n).prof = s.prof := rfl
@[simp] theorem hwSet_stk (a n : Nat) : (s.hwSet a n).stk = s.stk := rfl
@[simp] theorem hwSet_dma (a n : Nat) : (s.hwSet a n).dma = s.dma := rfl
@[simp] theorem hwSet_acc (a n : Nat) : (s.hwSet a n).acc = s.acc := rfl
@[simp] theorem hwSet_time (a n : Nat) : (s.hwSet a n).time = s.time := rfl
@[simp] theorem hwSet_memc (a n : Nat) : (s.hwSet a n).memc = s.memc := rfl
@[simp] theorem hwSet_host (a n : Nat) : (s.hwSet a n).host = s.host := rfl
@[simp] theorem hwSet_red (a n : Nat) : (s.hwSet a n).red = s.red := rfl
@[simp] theorem hwSet_pwr (a n : Nat) : (s.hwSet a n).pwr = s.pwr := rfl
@[simp] theorem hwSet_twi (a n : Nat) : (s.hwSet a n).twi = s.twi := rfl
@[simp] theorem hwSet_jtag (a n : Nat) : (s.hwSet a n).jtag = s.jtag := rfl

@[simp] theorem twiAttn_pending (n : Nat) : (s.twiAttn n).pending = s.pending := rfl
@[simp] theorem twiAttn_now (n : Nat) : (s.twiAttn n).now = s.now := rfl
@[simp] theorem twiAttn_mode (n : Nat) : (s.twiAttn n).mode = s.mode := rfl
@[simp] theorem twiAttn_shadow (n : Nat) : (s.twiAttn n).shadow = s.shadow := rfl
@[simp] theorem twiAttn_captured (n : Nat) : (s.twiAttn n).captured = s.captured := rfl
@[simp] theorem twiAttn_held (n : Nat) : (s.twiAttn n).held = s.held := rfl
@[simp] theorem twiAttn_pins (n : Nat) : (s.twiAttn n).pins = s.pins := rfl
@[simp] theorem twiAttn_outPins (n : Nat) : (s.twiAttn n).outPins = s.outPins := rfl
@[simp] theorem twiAttn_out (n : Nat) : (s.twiAttn n).out = s.out := rfl
@[simp] theorem twiAttn_fresh (n : Nat) : (s.twiAttn n).fresh = s.fresh := rfl
@[simp] theorem twiAttn_evrQ (n : Nat) : (s.twiAttn n).evrQ = s.evrQ := rfl
@[simp] theorem twiAttn_evr (n : Nat) : (s.twiAttn n).evr = s.evr := rfl
@[simp] theorem twiAttn_err (n : Nat) : (s.twiAttn n).err = s.err := rfl
@[simp] theorem twiAttn_t40 (n : Nat) : (s.twiAttn n).t40 = s.t40 := rfl
@[simp] theorem twiAttn_notices (n : Nat) : (s.twiAttn n).notices = s.notices := rfl
@[simp] theorem twiAttn_pos (n : Nat) : (s.twiAttn n).pos = s.pos := rfl
@[simp] theorem twiAttn_trgCam (n : Nat) : (s.twiAttn n).trgCam = s.trgCam := rfl
@[simp] theorem twiAttn_trg (n : Nat) : (s.twiAttn n).trg = s.trg := rfl
@[simp] theorem twiAttn_slots (n : Nat) : (s.twiAttn n).slots = s.slots := rfl
@[simp] theorem twiAttn_ports (n : Nat) : (s.twiAttn n).ports = s.ports := rfl
@[simp] theorem twiAttn_runsWaiting (n : Nat) : (s.twiAttn n).runsWaiting = s.runsWaiting := rfl
@[simp] theorem twiAttn_links (n : Nat) : (s.twiAttn n).links = s.links := rfl
@[simp] theorem twiAttn_sram (n : Nat) : (s.twiAttn n).sram = s.sram := rfl
@[simp] theorem twiAttn_ram (n : Nat) : (s.twiAttn n).ram = s.ram := rfl
@[simp] theorem twiAttn_corr (n : Nat) : (s.twiAttn n).corr = s.corr := rfl
@[simp] theorem twiAttn_calRun (n : Nat) : (s.twiAttn n).calRun = s.calRun := rfl
@[simp] theorem twiAttn_imgOp (n : Nat) : (s.twiAttn n).imgOp = s.imgOp := rfl
@[simp] theorem twiAttn_joinActive (n : Nat) : (s.twiAttn n).joinActive = s.joinActive := rfl
@[simp] theorem twiAttn_handshakes (n : Nat) : (s.twiAttn n).handshakes = s.handshakes := rfl
@[simp] theorem twiAttn_training (n : Nat) : (s.twiAttn n).training = s.training := rfl
@[simp] theorem twiAttn_trainPending (n : Nat) : (s.twiAttn n).trainPending = s.trainPending := rfl
@[simp] theorem twiAttn_stitch (n : Nat) : (s.twiAttn n).stitch = s.stitch := rfl
@[simp] theorem twiAttn_folio (n : Nat) : (s.twiAttn n).folio = s.folio := rfl
@[simp] theorem twiAttn_queues (n : Nat) : (s.twiAttn n).queues = s.queues := rfl
@[simp] theorem twiAttn_seg (n : Nat) : (s.twiAttn n).seg = s.seg := rfl
@[simp] theorem twiAttn_card (n : Nat) : (s.twiAttn n).card = s.card := rfl
@[simp] theorem twiAttn_cropReqs (n : Nat) : (s.twiAttn n).cropReqs = s.cropReqs := rfl
@[simp] theorem twiAttn_prof (n : Nat) : (s.twiAttn n).prof = s.prof := rfl
@[simp] theorem twiAttn_stk (n : Nat) : (s.twiAttn n).stk = s.stk := rfl
@[simp] theorem twiAttn_dma (n : Nat) : (s.twiAttn n).dma = s.dma := rfl
@[simp] theorem twiAttn_acc (n : Nat) : (s.twiAttn n).acc = s.acc := rfl
@[simp] theorem twiAttn_time (n : Nat) : (s.twiAttn n).time = s.time := rfl
@[simp] theorem twiAttn_memc (n : Nat) : (s.twiAttn n).memc = s.memc := rfl
@[simp] theorem twiAttn_host (n : Nat) : (s.twiAttn n).host = s.host := rfl
@[simp] theorem twiAttn_red (n : Nat) : (s.twiAttn n).red = s.red := rfl
@[simp] theorem twiAttn_pwr (n : Nat) : (s.twiAttn n).pwr = s.pwr := rfl
@[simp] theorem twiAttn_twi (n : Nat) : (s.twiAttn n).twi = s.twi := rfl
@[simp] theorem twiAttn_jtag (n : Nat) : (s.twiAttn n).jtag = s.jtag := rfl

@[simp] theorem ohtAttn_pending (n : Nat) : (s.ohtAttn n).pending = s.pending := rfl
@[simp] theorem ohtAttn_now (n : Nat) : (s.ohtAttn n).now = s.now := rfl
@[simp] theorem ohtAttn_mode (n : Nat) : (s.ohtAttn n).mode = s.mode := rfl
@[simp] theorem ohtAttn_shadow (n : Nat) : (s.ohtAttn n).shadow = s.shadow := rfl
@[simp] theorem ohtAttn_captured (n : Nat) : (s.ohtAttn n).captured = s.captured := rfl
@[simp] theorem ohtAttn_held (n : Nat) : (s.ohtAttn n).held = s.held := rfl
@[simp] theorem ohtAttn_pins (n : Nat) : (s.ohtAttn n).pins = s.pins := rfl
@[simp] theorem ohtAttn_outPins (n : Nat) : (s.ohtAttn n).outPins = s.outPins := rfl
@[simp] theorem ohtAttn_out (n : Nat) : (s.ohtAttn n).out = s.out := rfl
@[simp] theorem ohtAttn_fresh (n : Nat) : (s.ohtAttn n).fresh = s.fresh := rfl
@[simp] theorem ohtAttn_evrQ (n : Nat) : (s.ohtAttn n).evrQ = s.evrQ := rfl
@[simp] theorem ohtAttn_evr (n : Nat) : (s.ohtAttn n).evr = s.evr := rfl
@[simp] theorem ohtAttn_err (n : Nat) : (s.ohtAttn n).err = s.err := rfl
@[simp] theorem ohtAttn_t40 (n : Nat) : (s.ohtAttn n).t40 = s.t40 := rfl
@[simp] theorem ohtAttn_notices (n : Nat) : (s.ohtAttn n).notices = s.notices := rfl
@[simp] theorem ohtAttn_pos (n : Nat) : (s.ohtAttn n).pos = s.pos := rfl
@[simp] theorem ohtAttn_trgCam (n : Nat) : (s.ohtAttn n).trgCam = s.trgCam := rfl
@[simp] theorem ohtAttn_trg (n : Nat) : (s.ohtAttn n).trg = s.trg := rfl
@[simp] theorem ohtAttn_slots (n : Nat) : (s.ohtAttn n).slots = s.slots := rfl
@[simp] theorem ohtAttn_ports (n : Nat) : (s.ohtAttn n).ports = s.ports := rfl
@[simp] theorem ohtAttn_runsWaiting (n : Nat) : (s.ohtAttn n).runsWaiting = s.runsWaiting := rfl
@[simp] theorem ohtAttn_links (n : Nat) : (s.ohtAttn n).links = s.links := rfl
@[simp] theorem ohtAttn_sram (n : Nat) : (s.ohtAttn n).sram = s.sram := rfl
@[simp] theorem ohtAttn_ram (n : Nat) : (s.ohtAttn n).ram = s.ram := rfl
@[simp] theorem ohtAttn_corr (n : Nat) : (s.ohtAttn n).corr = s.corr := rfl
@[simp] theorem ohtAttn_calRun (n : Nat) : (s.ohtAttn n).calRun = s.calRun := rfl
@[simp] theorem ohtAttn_imgOp (n : Nat) : (s.ohtAttn n).imgOp = s.imgOp := rfl
@[simp] theorem ohtAttn_joinActive (n : Nat) : (s.ohtAttn n).joinActive = s.joinActive := rfl
@[simp] theorem ohtAttn_handshakes (n : Nat) : (s.ohtAttn n).handshakes = s.handshakes := rfl
@[simp] theorem ohtAttn_training (n : Nat) : (s.ohtAttn n).training = s.training := rfl
@[simp] theorem ohtAttn_trainPending (n : Nat) : (s.ohtAttn n).trainPending = s.trainPending := rfl
@[simp] theorem ohtAttn_stitch (n : Nat) : (s.ohtAttn n).stitch = s.stitch := rfl
@[simp] theorem ohtAttn_folio (n : Nat) : (s.ohtAttn n).folio = s.folio := rfl
@[simp] theorem ohtAttn_queues (n : Nat) : (s.ohtAttn n).queues = s.queues := rfl
@[simp] theorem ohtAttn_seg (n : Nat) : (s.ohtAttn n).seg = s.seg := rfl
@[simp] theorem ohtAttn_card (n : Nat) : (s.ohtAttn n).card = s.card := rfl
@[simp] theorem ohtAttn_cropReqs (n : Nat) : (s.ohtAttn n).cropReqs = s.cropReqs := rfl
@[simp] theorem ohtAttn_prof (n : Nat) : (s.ohtAttn n).prof = s.prof := rfl
@[simp] theorem ohtAttn_stk (n : Nat) : (s.ohtAttn n).stk = s.stk := rfl
@[simp] theorem ohtAttn_dma (n : Nat) : (s.ohtAttn n).dma = s.dma := rfl
@[simp] theorem ohtAttn_acc (n : Nat) : (s.ohtAttn n).acc = s.acc := rfl
@[simp] theorem ohtAttn_time (n : Nat) : (s.ohtAttn n).time = s.time := rfl
@[simp] theorem ohtAttn_memc (n : Nat) : (s.ohtAttn n).memc = s.memc := rfl
@[simp] theorem ohtAttn_host (n : Nat) : (s.ohtAttn n).host = s.host := rfl
@[simp] theorem ohtAttn_red (n : Nat) : (s.ohtAttn n).red = s.red := rfl
@[simp] theorem ohtAttn_pwr (n : Nat) : (s.ohtAttn n).pwr = s.pwr := rfl
@[simp] theorem ohtAttn_twi (n : Nat) : (s.ohtAttn n).twi = s.twi := rfl
@[simp] theorem ohtAttn_jtag (n : Nat) : (s.ohtAttn n).jtag = s.jtag := rfl

@[simp] theorem emit_pending (o : Output) : (s.emit o).pending = s.pending := rfl
@[simp] theorem emit_now (o : Output) : (s.emit o).now = s.now := rfl
@[simp] theorem emit_mode (o : Output) : (s.emit o).mode = s.mode := rfl
@[simp] theorem emit_regs (o : Output) : (s.emit o).regs = s.regs := rfl
@[simp] theorem emit_shadow (o : Output) : (s.emit o).shadow = s.shadow := rfl
@[simp] theorem emit_captured (o : Output) : (s.emit o).captured = s.captured := rfl
@[simp] theorem emit_held (o : Output) : (s.emit o).held = s.held := rfl
@[simp] theorem emit_raised (o : Output) : (s.emit o).raised = s.raised := rfl
@[simp] theorem emit_pins (o : Output) : (s.emit o).pins = s.pins := rfl
@[simp] theorem emit_outPins (o : Output) : (s.emit o).outPins = s.outPins := rfl
@[simp] theorem emit_fresh (o : Output) : (s.emit o).fresh = s.fresh := rfl
@[simp] theorem emit_evrQ (o : Output) : (s.emit o).evrQ = s.evrQ := rfl
@[simp] theorem emit_evr (o : Output) : (s.emit o).evr = s.evr := rfl
@[simp] theorem emit_err (o : Output) : (s.emit o).err = s.err := rfl
@[simp] theorem emit_t40 (o : Output) : (s.emit o).t40 = s.t40 := rfl
@[simp] theorem emit_notices (o : Output) : (s.emit o).notices = s.notices := rfl
@[simp] theorem emit_pos (o : Output) : (s.emit o).pos = s.pos := rfl
@[simp] theorem emit_trgCam (o : Output) : (s.emit o).trgCam = s.trgCam := rfl
@[simp] theorem emit_trg (o : Output) : (s.emit o).trg = s.trg := rfl
@[simp] theorem emit_slots (o : Output) : (s.emit o).slots = s.slots := rfl
@[simp] theorem emit_ports (o : Output) : (s.emit o).ports = s.ports := rfl
@[simp] theorem emit_runsWaiting (o : Output) : (s.emit o).runsWaiting = s.runsWaiting := rfl
@[simp] theorem emit_links (o : Output) : (s.emit o).links = s.links := rfl
@[simp] theorem emit_sram (o : Output) : (s.emit o).sram = s.sram := rfl
@[simp] theorem emit_ram (o : Output) : (s.emit o).ram = s.ram := rfl
@[simp] theorem emit_corr (o : Output) : (s.emit o).corr = s.corr := rfl
@[simp] theorem emit_calRun (o : Output) : (s.emit o).calRun = s.calRun := rfl
@[simp] theorem emit_imgOp (o : Output) : (s.emit o).imgOp = s.imgOp := rfl
@[simp] theorem emit_joinActive (o : Output) : (s.emit o).joinActive = s.joinActive := rfl
@[simp] theorem emit_handshakes (o : Output) : (s.emit o).handshakes = s.handshakes := rfl
@[simp] theorem emit_training (o : Output) : (s.emit o).training = s.training := rfl
@[simp] theorem emit_trainPending (o : Output) : (s.emit o).trainPending = s.trainPending := rfl
@[simp] theorem emit_stitch (o : Output) : (s.emit o).stitch = s.stitch := rfl
@[simp] theorem emit_folio (o : Output) : (s.emit o).folio = s.folio := rfl
@[simp] theorem emit_queues (o : Output) : (s.emit o).queues = s.queues := rfl
@[simp] theorem emit_seg (o : Output) : (s.emit o).seg = s.seg := rfl
@[simp] theorem emit_card (o : Output) : (s.emit o).card = s.card := rfl
@[simp] theorem emit_cropReqs (o : Output) : (s.emit o).cropReqs = s.cropReqs := rfl
@[simp] theorem emit_prof (o : Output) : (s.emit o).prof = s.prof := rfl
@[simp] theorem emit_stk (o : Output) : (s.emit o).stk = s.stk := rfl
@[simp] theorem emit_dma (o : Output) : (s.emit o).dma = s.dma := rfl
@[simp] theorem emit_acc (o : Output) : (s.emit o).acc = s.acc := rfl
@[simp] theorem emit_time (o : Output) : (s.emit o).time = s.time := rfl
@[simp] theorem emit_memc (o : Output) : (s.emit o).memc = s.memc := rfl
@[simp] theorem emit_host (o : Output) : (s.emit o).host = s.host := rfl
@[simp] theorem emit_red (o : Output) : (s.emit o).red = s.red := rfl
@[simp] theorem emit_pwr (o : Output) : (s.emit o).pwr = s.pwr := rfl
@[simp] theorem emit_twi (o : Output) : (s.emit o).twi = s.twi := rfl
@[simp] theorem emit_jtag (o : Output) : (s.emit o).jtag = s.jtag := rfl

@[simp] theorem route_pending (n : Nat) (i : EvrItem) : (s.route n i).pending = s.pending := rfl
@[simp] theorem route_now (n : Nat) (i : EvrItem) : (s.route n i).now = s.now := rfl
@[simp] theorem route_mode (n : Nat) (i : EvrItem) : (s.route n i).mode = s.mode := rfl
@[simp] theorem route_regs (n : Nat) (i : EvrItem) : (s.route n i).regs = s.regs := rfl
@[simp] theorem route_shadow (n : Nat) (i : EvrItem) : (s.route n i).shadow = s.shadow := rfl
@[simp] theorem route_captured (n : Nat) (i : EvrItem) : (s.route n i).captured = s.captured := rfl
@[simp] theorem route_held (n : Nat) (i : EvrItem) : (s.route n i).held = s.held := rfl
@[simp] theorem route_raised (n : Nat) (i : EvrItem) : (s.route n i).raised = s.raised := rfl
@[simp] theorem route_pins (n : Nat) (i : EvrItem) : (s.route n i).pins = s.pins := rfl
@[simp] theorem route_outPins (n : Nat) (i : EvrItem) : (s.route n i).outPins = s.outPins := rfl
@[simp] theorem route_out (n : Nat) (i : EvrItem) : (s.route n i).out = s.out := rfl
@[simp] theorem route_fresh (n : Nat) (i : EvrItem) : (s.route n i).fresh = s.fresh := rfl
@[simp] theorem route_evr (n : Nat) (i : EvrItem) : (s.route n i).evr = s.evr := rfl
@[simp] theorem route_err (n : Nat) (i : EvrItem) : (s.route n i).err = s.err := rfl
@[simp] theorem route_t40 (n : Nat) (i : EvrItem) : (s.route n i).t40 = s.t40 := rfl
@[simp] theorem route_notices (n : Nat) (i : EvrItem) : (s.route n i).notices = s.notices := rfl
@[simp] theorem route_pos (n : Nat) (i : EvrItem) : (s.route n i).pos = s.pos := rfl
@[simp] theorem route_trgCam (n : Nat) (i : EvrItem) : (s.route n i).trgCam = s.trgCam := rfl
@[simp] theorem route_trg (n : Nat) (i : EvrItem) : (s.route n i).trg = s.trg := rfl
@[simp] theorem route_slots (n : Nat) (i : EvrItem) : (s.route n i).slots = s.slots := rfl
@[simp] theorem route_ports (n : Nat) (i : EvrItem) : (s.route n i).ports = s.ports := rfl
@[simp] theorem route_runsWaiting (n : Nat) (i : EvrItem) : (s.route n i).runsWaiting = s.runsWaiting := rfl
@[simp] theorem route_links (n : Nat) (i : EvrItem) : (s.route n i).links = s.links := rfl
@[simp] theorem route_sram (n : Nat) (i : EvrItem) : (s.route n i).sram = s.sram := rfl
@[simp] theorem route_ram (n : Nat) (i : EvrItem) : (s.route n i).ram = s.ram := rfl
@[simp] theorem route_corr (n : Nat) (i : EvrItem) : (s.route n i).corr = s.corr := rfl
@[simp] theorem route_calRun (n : Nat) (i : EvrItem) : (s.route n i).calRun = s.calRun := rfl
@[simp] theorem route_imgOp (n : Nat) (i : EvrItem) : (s.route n i).imgOp = s.imgOp := rfl
@[simp] theorem route_joinActive (n : Nat) (i : EvrItem) : (s.route n i).joinActive = s.joinActive := rfl
@[simp] theorem route_handshakes (n : Nat) (i : EvrItem) : (s.route n i).handshakes = s.handshakes := rfl
@[simp] theorem route_training (n : Nat) (i : EvrItem) : (s.route n i).training = s.training := rfl
@[simp] theorem route_trainPending (n : Nat) (i : EvrItem) : (s.route n i).trainPending = s.trainPending := rfl
@[simp] theorem route_stitch (n : Nat) (i : EvrItem) : (s.route n i).stitch = s.stitch := rfl
@[simp] theorem route_folio (n : Nat) (i : EvrItem) : (s.route n i).folio = s.folio := rfl
@[simp] theorem route_queues (n : Nat) (i : EvrItem) : (s.route n i).queues = s.queues := rfl
@[simp] theorem route_seg (n : Nat) (i : EvrItem) : (s.route n i).seg = s.seg := rfl
@[simp] theorem route_card (n : Nat) (i : EvrItem) : (s.route n i).card = s.card := rfl
@[simp] theorem route_cropReqs (n : Nat) (i : EvrItem) : (s.route n i).cropReqs = s.cropReqs := rfl
@[simp] theorem route_prof (n : Nat) (i : EvrItem) : (s.route n i).prof = s.prof := rfl
@[simp] theorem route_stk (n : Nat) (i : EvrItem) : (s.route n i).stk = s.stk := rfl
@[simp] theorem route_dma (n : Nat) (i : EvrItem) : (s.route n i).dma = s.dma := rfl
@[simp] theorem route_acc (n : Nat) (i : EvrItem) : (s.route n i).acc = s.acc := rfl
@[simp] theorem route_time (n : Nat) (i : EvrItem) : (s.route n i).time = s.time := rfl
@[simp] theorem route_memc (n : Nat) (i : EvrItem) : (s.route n i).memc = s.memc := rfl
@[simp] theorem route_host (n : Nat) (i : EvrItem) : (s.route n i).host = s.host := rfl
@[simp] theorem route_red (n : Nat) (i : EvrItem) : (s.route n i).red = s.red := rfl
@[simp] theorem route_pwr (n : Nat) (i : EvrItem) : (s.route n i).pwr = s.pwr := rfl
@[simp] theorem route_twi (n : Nat) (i : EvrItem) : (s.route n i).twi = s.twi := rfl
@[simp] theorem route_jtag (n : Nat) (i : EvrItem) : (s.route n i).jtag = s.jtag := rfl

@[simp] theorem setMode_pending (m : Mode) : (s.setMode m).pending = s.pending := rfl
@[simp] theorem setMode_now (m : Mode) : (s.setMode m).now = s.now := rfl
@[simp] theorem setMode_shadow (m : Mode) : (s.setMode m).shadow = s.shadow := rfl
@[simp] theorem setMode_captured (m : Mode) : (s.setMode m).captured = s.captured := rfl
@[simp] theorem setMode_held (m : Mode) : (s.setMode m).held = s.held := rfl
@[simp] theorem setMode_pins (m : Mode) : (s.setMode m).pins = s.pins := rfl
@[simp] theorem setMode_outPins (m : Mode) : (s.setMode m).outPins = s.outPins := rfl
@[simp] theorem setMode_out (m : Mode) : (s.setMode m).out = s.out := rfl
@[simp] theorem setMode_fresh (m : Mode) : (s.setMode m).fresh = s.fresh := rfl
@[simp] theorem setMode_evrQ (m : Mode) : (s.setMode m).evrQ = s.evrQ := rfl
@[simp] theorem setMode_evr (m : Mode) : (s.setMode m).evr = s.evr := rfl
@[simp] theorem setMode_err (m : Mode) : (s.setMode m).err = s.err := rfl
@[simp] theorem setMode_t40 (m : Mode) : (s.setMode m).t40 = s.t40 := rfl
@[simp] theorem setMode_notices (m : Mode) : (s.setMode m).notices = s.notices := rfl
@[simp] theorem setMode_pos (m : Mode) : (s.setMode m).pos = s.pos := rfl
@[simp] theorem setMode_trgCam (m : Mode) : (s.setMode m).trgCam = s.trgCam := rfl
@[simp] theorem setMode_trg (m : Mode) : (s.setMode m).trg = s.trg := rfl
@[simp] theorem setMode_slots (m : Mode) : (s.setMode m).slots = s.slots := rfl
@[simp] theorem setMode_ports (m : Mode) : (s.setMode m).ports = s.ports := rfl
@[simp] theorem setMode_runsWaiting (m : Mode) : (s.setMode m).runsWaiting = s.runsWaiting := rfl
@[simp] theorem setMode_links (m : Mode) : (s.setMode m).links = s.links := rfl
@[simp] theorem setMode_sram (m : Mode) : (s.setMode m).sram = s.sram := rfl
@[simp] theorem setMode_ram (m : Mode) : (s.setMode m).ram = s.ram := rfl
@[simp] theorem setMode_corr (m : Mode) : (s.setMode m).corr = s.corr := rfl
@[simp] theorem setMode_calRun (m : Mode) : (s.setMode m).calRun = s.calRun := rfl
@[simp] theorem setMode_imgOp (m : Mode) : (s.setMode m).imgOp = s.imgOp := rfl
@[simp] theorem setMode_joinActive (m : Mode) : (s.setMode m).joinActive = s.joinActive := rfl
@[simp] theorem setMode_handshakes (m : Mode) : (s.setMode m).handshakes = s.handshakes := rfl
@[simp] theorem setMode_training (m : Mode) : (s.setMode m).training = s.training := rfl
@[simp] theorem setMode_trainPending (m : Mode) : (s.setMode m).trainPending = s.trainPending := rfl
@[simp] theorem setMode_stitch (m : Mode) : (s.setMode m).stitch = s.stitch := rfl
@[simp] theorem setMode_folio (m : Mode) : (s.setMode m).folio = s.folio := rfl
@[simp] theorem setMode_queues (m : Mode) : (s.setMode m).queues = s.queues := rfl
@[simp] theorem setMode_seg (m : Mode) : (s.setMode m).seg = s.seg := rfl
@[simp] theorem setMode_card (m : Mode) : (s.setMode m).card = s.card := rfl
@[simp] theorem setMode_cropReqs (m : Mode) : (s.setMode m).cropReqs = s.cropReqs := rfl
@[simp] theorem setMode_prof (m : Mode) : (s.setMode m).prof = s.prof := rfl
@[simp] theorem setMode_stk (m : Mode) : (s.setMode m).stk = s.stk := rfl
@[simp] theorem setMode_dma (m : Mode) : (s.setMode m).dma = s.dma := rfl
@[simp] theorem setMode_acc (m : Mode) : (s.setMode m).acc = s.acc := rfl
@[simp] theorem setMode_time (m : Mode) : (s.setMode m).time = s.time := rfl
@[simp] theorem setMode_memc (m : Mode) : (s.setMode m).memc = s.memc := rfl
@[simp] theorem setMode_host (m : Mode) : (s.setMode m).host = s.host := rfl
@[simp] theorem setMode_red (m : Mode) : (s.setMode m).red = s.red := rfl
@[simp] theorem setMode_pwr (m : Mode) : (s.setMode m).pwr = s.pwr := rfl
@[simp] theorem setMode_twi (m : Mode) : (s.setMode m).twi = s.twi := rfl
@[simp] theorem setMode_jtag (m : Mode) : (s.setMode m).jtag = s.jtag := rfl

@[simp] theorem setStaged_pending (a : Nat) (w : Word) : (s.setStaged a w).pending = s.pending := rfl
@[simp] theorem setStaged_now (a : Nat) (w : Word) : (s.setStaged a w).now = s.now := rfl
@[simp] theorem setStaged_mode (a : Nat) (w : Word) : (s.setStaged a w).mode = s.mode := rfl
@[simp] theorem setStaged_regs (a : Nat) (w : Word) : (s.setStaged a w).regs = s.regs := rfl
@[simp] theorem setStaged_captured (a : Nat) (w : Word) : (s.setStaged a w).captured = s.captured := rfl
@[simp] theorem setStaged_held (a : Nat) (w : Word) : (s.setStaged a w).held = s.held := rfl
@[simp] theorem setStaged_raised (a : Nat) (w : Word) : (s.setStaged a w).raised = s.raised := rfl
@[simp] theorem setStaged_pins (a : Nat) (w : Word) : (s.setStaged a w).pins = s.pins := rfl
@[simp] theorem setStaged_outPins (a : Nat) (w : Word) : (s.setStaged a w).outPins = s.outPins := rfl
@[simp] theorem setStaged_out (a : Nat) (w : Word) : (s.setStaged a w).out = s.out := rfl
@[simp] theorem setStaged_fresh (a : Nat) (w : Word) : (s.setStaged a w).fresh = s.fresh := rfl
@[simp] theorem setStaged_evrQ (a : Nat) (w : Word) : (s.setStaged a w).evrQ = s.evrQ := rfl
@[simp] theorem setStaged_evr (a : Nat) (w : Word) : (s.setStaged a w).evr = s.evr := rfl
@[simp] theorem setStaged_err (a : Nat) (w : Word) : (s.setStaged a w).err = s.err := rfl
@[simp] theorem setStaged_t40 (a : Nat) (w : Word) : (s.setStaged a w).t40 = s.t40 := rfl
@[simp] theorem setStaged_notices (a : Nat) (w : Word) : (s.setStaged a w).notices = s.notices := rfl
@[simp] theorem setStaged_pos (a : Nat) (w : Word) : (s.setStaged a w).pos = s.pos := rfl
@[simp] theorem setStaged_trgCam (a : Nat) (w : Word) : (s.setStaged a w).trgCam = s.trgCam := rfl
@[simp] theorem setStaged_trg (a : Nat) (w : Word) : (s.setStaged a w).trg = s.trg := rfl
@[simp] theorem setStaged_slots (a : Nat) (w : Word) : (s.setStaged a w).slots = s.slots := rfl
@[simp] theorem setStaged_ports (a : Nat) (w : Word) : (s.setStaged a w).ports = s.ports := rfl
@[simp] theorem setStaged_runsWaiting (a : Nat) (w : Word) : (s.setStaged a w).runsWaiting = s.runsWaiting := rfl
@[simp] theorem setStaged_links (a : Nat) (w : Word) : (s.setStaged a w).links = s.links := rfl
@[simp] theorem setStaged_sram (a : Nat) (w : Word) : (s.setStaged a w).sram = s.sram := rfl
@[simp] theorem setStaged_ram (a : Nat) (w : Word) : (s.setStaged a w).ram = s.ram := rfl
@[simp] theorem setStaged_corr (a : Nat) (w : Word) : (s.setStaged a w).corr = s.corr := rfl
@[simp] theorem setStaged_calRun (a : Nat) (w : Word) : (s.setStaged a w).calRun = s.calRun := rfl
@[simp] theorem setStaged_imgOp (a : Nat) (w : Word) : (s.setStaged a w).imgOp = s.imgOp := rfl
@[simp] theorem setStaged_joinActive (a : Nat) (w : Word) : (s.setStaged a w).joinActive = s.joinActive := rfl
@[simp] theorem setStaged_handshakes (a : Nat) (w : Word) : (s.setStaged a w).handshakes = s.handshakes := rfl
@[simp] theorem setStaged_training (a : Nat) (w : Word) : (s.setStaged a w).training = s.training := rfl
@[simp] theorem setStaged_trainPending (a : Nat) (w : Word) : (s.setStaged a w).trainPending = s.trainPending := rfl
@[simp] theorem setStaged_stitch (a : Nat) (w : Word) : (s.setStaged a w).stitch = s.stitch := rfl
@[simp] theorem setStaged_folio (a : Nat) (w : Word) : (s.setStaged a w).folio = s.folio := rfl
@[simp] theorem setStaged_queues (a : Nat) (w : Word) : (s.setStaged a w).queues = s.queues := rfl
@[simp] theorem setStaged_seg (a : Nat) (w : Word) : (s.setStaged a w).seg = s.seg := rfl
@[simp] theorem setStaged_card (a : Nat) (w : Word) : (s.setStaged a w).card = s.card := rfl
@[simp] theorem setStaged_cropReqs (a : Nat) (w : Word) : (s.setStaged a w).cropReqs = s.cropReqs := rfl
@[simp] theorem setStaged_prof (a : Nat) (w : Word) : (s.setStaged a w).prof = s.prof := rfl
@[simp] theorem setStaged_stk (a : Nat) (w : Word) : (s.setStaged a w).stk = s.stk := rfl
@[simp] theorem setStaged_dma (a : Nat) (w : Word) : (s.setStaged a w).dma = s.dma := rfl
@[simp] theorem setStaged_acc (a : Nat) (w : Word) : (s.setStaged a w).acc = s.acc := rfl
@[simp] theorem setStaged_time (a : Nat) (w : Word) : (s.setStaged a w).time = s.time := rfl
@[simp] theorem setStaged_memc (a : Nat) (w : Word) : (s.setStaged a w).memc = s.memc := rfl
@[simp] theorem setStaged_host (a : Nat) (w : Word) : (s.setStaged a w).host = s.host := rfl
@[simp] theorem setStaged_red (a : Nat) (w : Word) : (s.setStaged a w).red = s.red := rfl
@[simp] theorem setStaged_pwr (a : Nat) (w : Word) : (s.setStaged a w).pwr = s.pwr := rfl
@[simp] theorem setStaged_twi (a : Nat) (w : Word) : (s.setStaged a w).twi = s.twi := rfl
@[simp] theorem setStaged_jtag (a : Nat) (w : Word) : (s.setStaged a w).jtag = s.jtag := rfl

@[simp] theorem setLink_pending (m : Nat) (h : LinkHid) : (s.setLink m h).pending = s.pending := rfl
@[simp] theorem setLink_now (m : Nat) (h : LinkHid) : (s.setLink m h).now = s.now := rfl
@[simp] theorem setLink_mode (m : Nat) (h : LinkHid) : (s.setLink m h).mode = s.mode := rfl
@[simp] theorem setLink_regs (m : Nat) (h : LinkHid) : (s.setLink m h).regs = s.regs := rfl
@[simp] theorem setLink_shadow (m : Nat) (h : LinkHid) : (s.setLink m h).shadow = s.shadow := rfl
@[simp] theorem setLink_captured (m : Nat) (h : LinkHid) : (s.setLink m h).captured = s.captured := rfl
@[simp] theorem setLink_held (m : Nat) (h : LinkHid) : (s.setLink m h).held = s.held := rfl
@[simp] theorem setLink_raised (m : Nat) (h : LinkHid) : (s.setLink m h).raised = s.raised := rfl
@[simp] theorem setLink_pins (m : Nat) (h : LinkHid) : (s.setLink m h).pins = s.pins := rfl
@[simp] theorem setLink_outPins (m : Nat) (h : LinkHid) : (s.setLink m h).outPins = s.outPins := rfl
@[simp] theorem setLink_out (m : Nat) (h : LinkHid) : (s.setLink m h).out = s.out := rfl
@[simp] theorem setLink_fresh (m : Nat) (h : LinkHid) : (s.setLink m h).fresh = s.fresh := rfl
@[simp] theorem setLink_evrQ (m : Nat) (h : LinkHid) : (s.setLink m h).evrQ = s.evrQ := rfl
@[simp] theorem setLink_evr (m : Nat) (h : LinkHid) : (s.setLink m h).evr = s.evr := rfl
@[simp] theorem setLink_err (m : Nat) (h : LinkHid) : (s.setLink m h).err = s.err := rfl
@[simp] theorem setLink_t40 (m : Nat) (h : LinkHid) : (s.setLink m h).t40 = s.t40 := rfl
@[simp] theorem setLink_notices (m : Nat) (h : LinkHid) : (s.setLink m h).notices = s.notices := rfl
@[simp] theorem setLink_pos (m : Nat) (h : LinkHid) : (s.setLink m h).pos = s.pos := rfl
@[simp] theorem setLink_trgCam (m : Nat) (h : LinkHid) : (s.setLink m h).trgCam = s.trgCam := rfl
@[simp] theorem setLink_trg (m : Nat) (h : LinkHid) : (s.setLink m h).trg = s.trg := rfl
@[simp] theorem setLink_slots (m : Nat) (h : LinkHid) : (s.setLink m h).slots = s.slots := rfl
@[simp] theorem setLink_ports (m : Nat) (h : LinkHid) : (s.setLink m h).ports = s.ports := rfl
@[simp] theorem setLink_runsWaiting (m : Nat) (h : LinkHid) : (s.setLink m h).runsWaiting = s.runsWaiting := rfl
@[simp] theorem setLink_sram (m : Nat) (h : LinkHid) : (s.setLink m h).sram = s.sram := rfl
@[simp] theorem setLink_ram (m : Nat) (h : LinkHid) : (s.setLink m h).ram = s.ram := rfl
@[simp] theorem setLink_corr (m : Nat) (h : LinkHid) : (s.setLink m h).corr = s.corr := rfl
@[simp] theorem setLink_calRun (m : Nat) (h : LinkHid) : (s.setLink m h).calRun = s.calRun := rfl
@[simp] theorem setLink_imgOp (m : Nat) (h : LinkHid) : (s.setLink m h).imgOp = s.imgOp := rfl
@[simp] theorem setLink_joinActive (m : Nat) (h : LinkHid) : (s.setLink m h).joinActive = s.joinActive := rfl
@[simp] theorem setLink_handshakes (m : Nat) (h : LinkHid) : (s.setLink m h).handshakes = s.handshakes := rfl
@[simp] theorem setLink_training (m : Nat) (h : LinkHid) : (s.setLink m h).training = s.training := rfl
@[simp] theorem setLink_trainPending (m : Nat) (h : LinkHid) : (s.setLink m h).trainPending = s.trainPending := rfl
@[simp] theorem setLink_stitch (m : Nat) (h : LinkHid) : (s.setLink m h).stitch = s.stitch := rfl
@[simp] theorem setLink_folio (m : Nat) (h : LinkHid) : (s.setLink m h).folio = s.folio := rfl
@[simp] theorem setLink_queues (m : Nat) (h : LinkHid) : (s.setLink m h).queues = s.queues := rfl
@[simp] theorem setLink_seg (m : Nat) (h : LinkHid) : (s.setLink m h).seg = s.seg := rfl
@[simp] theorem setLink_card (m : Nat) (h : LinkHid) : (s.setLink m h).card = s.card := rfl
@[simp] theorem setLink_cropReqs (m : Nat) (h : LinkHid) : (s.setLink m h).cropReqs = s.cropReqs := rfl
@[simp] theorem setLink_prof (m : Nat) (h : LinkHid) : (s.setLink m h).prof = s.prof := rfl
@[simp] theorem setLink_stk (m : Nat) (h : LinkHid) : (s.setLink m h).stk = s.stk := rfl
@[simp] theorem setLink_dma (m : Nat) (h : LinkHid) : (s.setLink m h).dma = s.dma := rfl
@[simp] theorem setLink_acc (m : Nat) (h : LinkHid) : (s.setLink m h).acc = s.acc := rfl
@[simp] theorem setLink_time (m : Nat) (h : LinkHid) : (s.setLink m h).time = s.time := rfl
@[simp] theorem setLink_memc (m : Nat) (h : LinkHid) : (s.setLink m h).memc = s.memc := rfl
@[simp] theorem setLink_host (m : Nat) (h : LinkHid) : (s.setLink m h).host = s.host := rfl
@[simp] theorem setLink_red (m : Nat) (h : LinkHid) : (s.setLink m h).red = s.red := rfl
@[simp] theorem setLink_pwr (m : Nat) (h : LinkHid) : (s.setLink m h).pwr = s.pwr := rfl
@[simp] theorem setLink_twi (m : Nat) (h : LinkHid) : (s.setLink m h).twi = s.twi := rfl
@[simp] theorem setLink_jtag (m : Nat) (h : LinkHid) : (s.setLink m h).jtag = s.jtag := rfl

@[simp] theorem setPort_pending (n : Nat) (h : PortHid) : (s.setPort n h).pending = s.pending := rfl
@[simp] theorem setPort_now (n : Nat) (h : PortHid) : (s.setPort n h).now = s.now := rfl
@[simp] theorem setPort_mode (n : Nat) (h : PortHid) : (s.setPort n h).mode = s.mode := rfl
@[simp] theorem setPort_regs (n : Nat) (h : PortHid) : (s.setPort n h).regs = s.regs := rfl
@[simp] theorem setPort_shadow (n : Nat) (h : PortHid) : (s.setPort n h).shadow = s.shadow := rfl
@[simp] theorem setPort_captured (n : Nat) (h : PortHid) : (s.setPort n h).captured = s.captured := rfl
@[simp] theorem setPort_held (n : Nat) (h : PortHid) : (s.setPort n h).held = s.held := rfl
@[simp] theorem setPort_raised (n : Nat) (h : PortHid) : (s.setPort n h).raised = s.raised := rfl
@[simp] theorem setPort_pins (n : Nat) (h : PortHid) : (s.setPort n h).pins = s.pins := rfl
@[simp] theorem setPort_outPins (n : Nat) (h : PortHid) : (s.setPort n h).outPins = s.outPins := rfl
@[simp] theorem setPort_out (n : Nat) (h : PortHid) : (s.setPort n h).out = s.out := rfl
@[simp] theorem setPort_fresh (n : Nat) (h : PortHid) : (s.setPort n h).fresh = s.fresh := rfl
@[simp] theorem setPort_evrQ (n : Nat) (h : PortHid) : (s.setPort n h).evrQ = s.evrQ := rfl
@[simp] theorem setPort_evr (n : Nat) (h : PortHid) : (s.setPort n h).evr = s.evr := rfl
@[simp] theorem setPort_err (n : Nat) (h : PortHid) : (s.setPort n h).err = s.err := rfl
@[simp] theorem setPort_t40 (n : Nat) (h : PortHid) : (s.setPort n h).t40 = s.t40 := rfl
@[simp] theorem setPort_notices (n : Nat) (h : PortHid) : (s.setPort n h).notices = s.notices := rfl
@[simp] theorem setPort_pos (n : Nat) (h : PortHid) : (s.setPort n h).pos = s.pos := rfl
@[simp] theorem setPort_trgCam (n : Nat) (h : PortHid) : (s.setPort n h).trgCam = s.trgCam := rfl
@[simp] theorem setPort_trg (n : Nat) (h : PortHid) : (s.setPort n h).trg = s.trg := rfl
@[simp] theorem setPort_slots (n : Nat) (h : PortHid) : (s.setPort n h).slots = s.slots := rfl
@[simp] theorem setPort_runsWaiting (n : Nat) (h : PortHid) : (s.setPort n h).runsWaiting = s.runsWaiting := rfl
@[simp] theorem setPort_links (n : Nat) (h : PortHid) : (s.setPort n h).links = s.links := rfl
@[simp] theorem setPort_sram (n : Nat) (h : PortHid) : (s.setPort n h).sram = s.sram := rfl
@[simp] theorem setPort_ram (n : Nat) (h : PortHid) : (s.setPort n h).ram = s.ram := rfl
@[simp] theorem setPort_corr (n : Nat) (h : PortHid) : (s.setPort n h).corr = s.corr := rfl
@[simp] theorem setPort_calRun (n : Nat) (h : PortHid) : (s.setPort n h).calRun = s.calRun := rfl
@[simp] theorem setPort_imgOp (n : Nat) (h : PortHid) : (s.setPort n h).imgOp = s.imgOp := rfl
@[simp] theorem setPort_joinActive (n : Nat) (h : PortHid) : (s.setPort n h).joinActive = s.joinActive := rfl
@[simp] theorem setPort_handshakes (n : Nat) (h : PortHid) : (s.setPort n h).handshakes = s.handshakes := rfl
@[simp] theorem setPort_training (n : Nat) (h : PortHid) : (s.setPort n h).training = s.training := rfl
@[simp] theorem setPort_trainPending (n : Nat) (h : PortHid) : (s.setPort n h).trainPending = s.trainPending := rfl
@[simp] theorem setPort_stitch (n : Nat) (h : PortHid) : (s.setPort n h).stitch = s.stitch := rfl
@[simp] theorem setPort_folio (n : Nat) (h : PortHid) : (s.setPort n h).folio = s.folio := rfl
@[simp] theorem setPort_queues (n : Nat) (h : PortHid) : (s.setPort n h).queues = s.queues := rfl
@[simp] theorem setPort_seg (n : Nat) (h : PortHid) : (s.setPort n h).seg = s.seg := rfl
@[simp] theorem setPort_card (n : Nat) (h : PortHid) : (s.setPort n h).card = s.card := rfl
@[simp] theorem setPort_cropReqs (n : Nat) (h : PortHid) : (s.setPort n h).cropReqs = s.cropReqs := rfl
@[simp] theorem setPort_prof (n : Nat) (h : PortHid) : (s.setPort n h).prof = s.prof := rfl
@[simp] theorem setPort_stk (n : Nat) (h : PortHid) : (s.setPort n h).stk = s.stk := rfl
@[simp] theorem setPort_dma (n : Nat) (h : PortHid) : (s.setPort n h).dma = s.dma := rfl
@[simp] theorem setPort_acc (n : Nat) (h : PortHid) : (s.setPort n h).acc = s.acc := rfl
@[simp] theorem setPort_time (n : Nat) (h : PortHid) : (s.setPort n h).time = s.time := rfl
@[simp] theorem setPort_memc (n : Nat) (h : PortHid) : (s.setPort n h).memc = s.memc := rfl
@[simp] theorem setPort_host (n : Nat) (h : PortHid) : (s.setPort n h).host = s.host := rfl
@[simp] theorem setPort_red (n : Nat) (h : PortHid) : (s.setPort n h).red = s.red := rfl
@[simp] theorem setPort_pwr (n : Nat) (h : PortHid) : (s.setPort n h).pwr = s.pwr := rfl
@[simp] theorem setPort_twi (n : Nat) (h : PortHid) : (s.setPort n h).twi = s.twi := rfl
@[simp] theorem setPort_jtag (n : Nat) (h : PortHid) : (s.setPort n h).jtag = s.jtag := rfl

@[simp] theorem setPosIn_pending (k : Nat) (p : PosIn) : (s.setPosIn k p).pending = s.pending := rfl
@[simp] theorem setPosIn_now (k : Nat) (p : PosIn) : (s.setPosIn k p).now = s.now := rfl
@[simp] theorem setPosIn_mode (k : Nat) (p : PosIn) : (s.setPosIn k p).mode = s.mode := rfl
@[simp] theorem setPosIn_regs (k : Nat) (p : PosIn) : (s.setPosIn k p).regs = s.regs := rfl
@[simp] theorem setPosIn_shadow (k : Nat) (p : PosIn) : (s.setPosIn k p).shadow = s.shadow := rfl
@[simp] theorem setPosIn_captured (k : Nat) (p : PosIn) : (s.setPosIn k p).captured = s.captured := rfl
@[simp] theorem setPosIn_held (k : Nat) (p : PosIn) : (s.setPosIn k p).held = s.held := rfl
@[simp] theorem setPosIn_raised (k : Nat) (p : PosIn) : (s.setPosIn k p).raised = s.raised := rfl
@[simp] theorem setPosIn_pins (k : Nat) (p : PosIn) : (s.setPosIn k p).pins = s.pins := rfl
@[simp] theorem setPosIn_outPins (k : Nat) (p : PosIn) : (s.setPosIn k p).outPins = s.outPins := rfl
@[simp] theorem setPosIn_out (k : Nat) (p : PosIn) : (s.setPosIn k p).out = s.out := rfl
@[simp] theorem setPosIn_fresh (k : Nat) (p : PosIn) : (s.setPosIn k p).fresh = s.fresh := rfl
@[simp] theorem setPosIn_evrQ (k : Nat) (p : PosIn) : (s.setPosIn k p).evrQ = s.evrQ := rfl
@[simp] theorem setPosIn_evr (k : Nat) (p : PosIn) : (s.setPosIn k p).evr = s.evr := rfl
@[simp] theorem setPosIn_err (k : Nat) (p : PosIn) : (s.setPosIn k p).err = s.err := rfl
@[simp] theorem setPosIn_t40 (k : Nat) (p : PosIn) : (s.setPosIn k p).t40 = s.t40 := rfl
@[simp] theorem setPosIn_notices (k : Nat) (p : PosIn) : (s.setPosIn k p).notices = s.notices := rfl
@[simp] theorem setPosIn_trgCam (k : Nat) (p : PosIn) : (s.setPosIn k p).trgCam = s.trgCam := rfl
@[simp] theorem setPosIn_trg (k : Nat) (p : PosIn) : (s.setPosIn k p).trg = s.trg := rfl
@[simp] theorem setPosIn_slots (k : Nat) (p : PosIn) : (s.setPosIn k p).slots = s.slots := rfl
@[simp] theorem setPosIn_ports (k : Nat) (p : PosIn) : (s.setPosIn k p).ports = s.ports := rfl
@[simp] theorem setPosIn_runsWaiting (k : Nat) (p : PosIn) : (s.setPosIn k p).runsWaiting = s.runsWaiting := rfl
@[simp] theorem setPosIn_links (k : Nat) (p : PosIn) : (s.setPosIn k p).links = s.links := rfl
@[simp] theorem setPosIn_sram (k : Nat) (p : PosIn) : (s.setPosIn k p).sram = s.sram := rfl
@[simp] theorem setPosIn_ram (k : Nat) (p : PosIn) : (s.setPosIn k p).ram = s.ram := rfl
@[simp] theorem setPosIn_corr (k : Nat) (p : PosIn) : (s.setPosIn k p).corr = s.corr := rfl
@[simp] theorem setPosIn_calRun (k : Nat) (p : PosIn) : (s.setPosIn k p).calRun = s.calRun := rfl
@[simp] theorem setPosIn_imgOp (k : Nat) (p : PosIn) : (s.setPosIn k p).imgOp = s.imgOp := rfl
@[simp] theorem setPosIn_joinActive (k : Nat) (p : PosIn) : (s.setPosIn k p).joinActive = s.joinActive := rfl
@[simp] theorem setPosIn_handshakes (k : Nat) (p : PosIn) : (s.setPosIn k p).handshakes = s.handshakes := rfl
@[simp] theorem setPosIn_training (k : Nat) (p : PosIn) : (s.setPosIn k p).training = s.training := rfl
@[simp] theorem setPosIn_trainPending (k : Nat) (p : PosIn) : (s.setPosIn k p).trainPending = s.trainPending := rfl
@[simp] theorem setPosIn_stitch (k : Nat) (p : PosIn) : (s.setPosIn k p).stitch = s.stitch := rfl
@[simp] theorem setPosIn_folio (k : Nat) (p : PosIn) : (s.setPosIn k p).folio = s.folio := rfl
@[simp] theorem setPosIn_queues (k : Nat) (p : PosIn) : (s.setPosIn k p).queues = s.queues := rfl
@[simp] theorem setPosIn_seg (k : Nat) (p : PosIn) : (s.setPosIn k p).seg = s.seg := rfl
@[simp] theorem setPosIn_card (k : Nat) (p : PosIn) : (s.setPosIn k p).card = s.card := rfl
@[simp] theorem setPosIn_cropReqs (k : Nat) (p : PosIn) : (s.setPosIn k p).cropReqs = s.cropReqs := rfl
@[simp] theorem setPosIn_prof (k : Nat) (p : PosIn) : (s.setPosIn k p).prof = s.prof := rfl
@[simp] theorem setPosIn_stk (k : Nat) (p : PosIn) : (s.setPosIn k p).stk = s.stk := rfl
@[simp] theorem setPosIn_dma (k : Nat) (p : PosIn) : (s.setPosIn k p).dma = s.dma := rfl
@[simp] theorem setPosIn_acc (k : Nat) (p : PosIn) : (s.setPosIn k p).acc = s.acc := rfl
@[simp] theorem setPosIn_time (k : Nat) (p : PosIn) : (s.setPosIn k p).time = s.time := rfl
@[simp] theorem setPosIn_memc (k : Nat) (p : PosIn) : (s.setPosIn k p).memc = s.memc := rfl
@[simp] theorem setPosIn_host (k : Nat) (p : PosIn) : (s.setPosIn k p).host = s.host := rfl
@[simp] theorem setPosIn_red (k : Nat) (p : PosIn) : (s.setPosIn k p).red = s.red := rfl
@[simp] theorem setPosIn_pwr (k : Nat) (p : PosIn) : (s.setPosIn k p).pwr = s.pwr := rfl
@[simp] theorem setPosIn_twi (k : Nat) (p : PosIn) : (s.setPosIn k p).twi = s.twi := rfl
@[simp] theorem setPosIn_jtag (k : Nat) (p : PosIn) : (s.setPosIn k p).jtag = s.jtag := rfl

@[simp] theorem setTrgCam_pending (n : Nat) (c : TrgCam) : (s.setTrgCam n c).pending = s.pending := rfl
@[simp] theorem setTrgCam_now (n : Nat) (c : TrgCam) : (s.setTrgCam n c).now = s.now := rfl
@[simp] theorem setTrgCam_mode (n : Nat) (c : TrgCam) : (s.setTrgCam n c).mode = s.mode := rfl
@[simp] theorem setTrgCam_regs (n : Nat) (c : TrgCam) : (s.setTrgCam n c).regs = s.regs := rfl
@[simp] theorem setTrgCam_shadow (n : Nat) (c : TrgCam) : (s.setTrgCam n c).shadow = s.shadow := rfl
@[simp] theorem setTrgCam_captured (n : Nat) (c : TrgCam) : (s.setTrgCam n c).captured = s.captured := rfl
@[simp] theorem setTrgCam_held (n : Nat) (c : TrgCam) : (s.setTrgCam n c).held = s.held := rfl
@[simp] theorem setTrgCam_raised (n : Nat) (c : TrgCam) : (s.setTrgCam n c).raised = s.raised := rfl
@[simp] theorem setTrgCam_pins (n : Nat) (c : TrgCam) : (s.setTrgCam n c).pins = s.pins := rfl
@[simp] theorem setTrgCam_outPins (n : Nat) (c : TrgCam) : (s.setTrgCam n c).outPins = s.outPins := rfl
@[simp] theorem setTrgCam_out (n : Nat) (c : TrgCam) : (s.setTrgCam n c).out = s.out := rfl
@[simp] theorem setTrgCam_fresh (n : Nat) (c : TrgCam) : (s.setTrgCam n c).fresh = s.fresh := rfl
@[simp] theorem setTrgCam_evrQ (n : Nat) (c : TrgCam) : (s.setTrgCam n c).evrQ = s.evrQ := rfl
@[simp] theorem setTrgCam_evr (n : Nat) (c : TrgCam) : (s.setTrgCam n c).evr = s.evr := rfl
@[simp] theorem setTrgCam_err (n : Nat) (c : TrgCam) : (s.setTrgCam n c).err = s.err := rfl
@[simp] theorem setTrgCam_t40 (n : Nat) (c : TrgCam) : (s.setTrgCam n c).t40 = s.t40 := rfl
@[simp] theorem setTrgCam_notices (n : Nat) (c : TrgCam) : (s.setTrgCam n c).notices = s.notices := rfl
@[simp] theorem setTrgCam_pos (n : Nat) (c : TrgCam) : (s.setTrgCam n c).pos = s.pos := rfl
@[simp] theorem setTrgCam_trg (n : Nat) (c : TrgCam) : (s.setTrgCam n c).trg = s.trg := rfl
@[simp] theorem setTrgCam_slots (n : Nat) (c : TrgCam) : (s.setTrgCam n c).slots = s.slots := rfl
@[simp] theorem setTrgCam_ports (n : Nat) (c : TrgCam) : (s.setTrgCam n c).ports = s.ports := rfl
@[simp] theorem setTrgCam_runsWaiting (n : Nat) (c : TrgCam) : (s.setTrgCam n c).runsWaiting = s.runsWaiting := rfl
@[simp] theorem setTrgCam_links (n : Nat) (c : TrgCam) : (s.setTrgCam n c).links = s.links := rfl
@[simp] theorem setTrgCam_sram (n : Nat) (c : TrgCam) : (s.setTrgCam n c).sram = s.sram := rfl
@[simp] theorem setTrgCam_ram (n : Nat) (c : TrgCam) : (s.setTrgCam n c).ram = s.ram := rfl
@[simp] theorem setTrgCam_corr (n : Nat) (c : TrgCam) : (s.setTrgCam n c).corr = s.corr := rfl
@[simp] theorem setTrgCam_calRun (n : Nat) (c : TrgCam) : (s.setTrgCam n c).calRun = s.calRun := rfl
@[simp] theorem setTrgCam_imgOp (n : Nat) (c : TrgCam) : (s.setTrgCam n c).imgOp = s.imgOp := rfl
@[simp] theorem setTrgCam_joinActive (n : Nat) (c : TrgCam) : (s.setTrgCam n c).joinActive = s.joinActive := rfl
@[simp] theorem setTrgCam_handshakes (n : Nat) (c : TrgCam) : (s.setTrgCam n c).handshakes = s.handshakes := rfl
@[simp] theorem setTrgCam_training (n : Nat) (c : TrgCam) : (s.setTrgCam n c).training = s.training := rfl
@[simp] theorem setTrgCam_trainPending (n : Nat) (c : TrgCam) : (s.setTrgCam n c).trainPending = s.trainPending := rfl
@[simp] theorem setTrgCam_stitch (n : Nat) (c : TrgCam) : (s.setTrgCam n c).stitch = s.stitch := rfl
@[simp] theorem setTrgCam_folio (n : Nat) (c : TrgCam) : (s.setTrgCam n c).folio = s.folio := rfl
@[simp] theorem setTrgCam_queues (n : Nat) (c : TrgCam) : (s.setTrgCam n c).queues = s.queues := rfl
@[simp] theorem setTrgCam_seg (n : Nat) (c : TrgCam) : (s.setTrgCam n c).seg = s.seg := rfl
@[simp] theorem setTrgCam_card (n : Nat) (c : TrgCam) : (s.setTrgCam n c).card = s.card := rfl
@[simp] theorem setTrgCam_cropReqs (n : Nat) (c : TrgCam) : (s.setTrgCam n c).cropReqs = s.cropReqs := rfl
@[simp] theorem setTrgCam_prof (n : Nat) (c : TrgCam) : (s.setTrgCam n c).prof = s.prof := rfl
@[simp] theorem setTrgCam_stk (n : Nat) (c : TrgCam) : (s.setTrgCam n c).stk = s.stk := rfl
@[simp] theorem setTrgCam_dma (n : Nat) (c : TrgCam) : (s.setTrgCam n c).dma = s.dma := rfl
@[simp] theorem setTrgCam_acc (n : Nat) (c : TrgCam) : (s.setTrgCam n c).acc = s.acc := rfl
@[simp] theorem setTrgCam_time (n : Nat) (c : TrgCam) : (s.setTrgCam n c).time = s.time := rfl
@[simp] theorem setTrgCam_memc (n : Nat) (c : TrgCam) : (s.setTrgCam n c).memc = s.memc := rfl
@[simp] theorem setTrgCam_host (n : Nat) (c : TrgCam) : (s.setTrgCam n c).host = s.host := rfl
@[simp] theorem setTrgCam_red (n : Nat) (c : TrgCam) : (s.setTrgCam n c).red = s.red := rfl
@[simp] theorem setTrgCam_pwr (n : Nat) (c : TrgCam) : (s.setTrgCam n c).pwr = s.pwr := rfl
@[simp] theorem setTrgCam_twi (n : Nat) (c : TrgCam) : (s.setTrgCam n c).twi = s.twi := rfl
@[simp] theorem setTrgCam_jtag (n : Nat) (c : TrgCam) : (s.setTrgCam n c).jtag = s.jtag := rfl

@[simp] theorem setCorr_pending (p : Nat) (h : CorrHid) : (s.setCorr p h).pending = s.pending := rfl
@[simp] theorem setCorr_now (p : Nat) (h : CorrHid) : (s.setCorr p h).now = s.now := rfl
@[simp] theorem setCorr_mode (p : Nat) (h : CorrHid) : (s.setCorr p h).mode = s.mode := rfl
@[simp] theorem setCorr_regs (p : Nat) (h : CorrHid) : (s.setCorr p h).regs = s.regs := rfl
@[simp] theorem setCorr_shadow (p : Nat) (h : CorrHid) : (s.setCorr p h).shadow = s.shadow := rfl
@[simp] theorem setCorr_captured (p : Nat) (h : CorrHid) : (s.setCorr p h).captured = s.captured := rfl
@[simp] theorem setCorr_held (p : Nat) (h : CorrHid) : (s.setCorr p h).held = s.held := rfl
@[simp] theorem setCorr_raised (p : Nat) (h : CorrHid) : (s.setCorr p h).raised = s.raised := rfl
@[simp] theorem setCorr_pins (p : Nat) (h : CorrHid) : (s.setCorr p h).pins = s.pins := rfl
@[simp] theorem setCorr_outPins (p : Nat) (h : CorrHid) : (s.setCorr p h).outPins = s.outPins := rfl
@[simp] theorem setCorr_out (p : Nat) (h : CorrHid) : (s.setCorr p h).out = s.out := rfl
@[simp] theorem setCorr_fresh (p : Nat) (h : CorrHid) : (s.setCorr p h).fresh = s.fresh := rfl
@[simp] theorem setCorr_evrQ (p : Nat) (h : CorrHid) : (s.setCorr p h).evrQ = s.evrQ := rfl
@[simp] theorem setCorr_evr (p : Nat) (h : CorrHid) : (s.setCorr p h).evr = s.evr := rfl
@[simp] theorem setCorr_err (p : Nat) (h : CorrHid) : (s.setCorr p h).err = s.err := rfl
@[simp] theorem setCorr_t40 (p : Nat) (h : CorrHid) : (s.setCorr p h).t40 = s.t40 := rfl
@[simp] theorem setCorr_notices (p : Nat) (h : CorrHid) : (s.setCorr p h).notices = s.notices := rfl
@[simp] theorem setCorr_pos (p : Nat) (h : CorrHid) : (s.setCorr p h).pos = s.pos := rfl
@[simp] theorem setCorr_trgCam (p : Nat) (h : CorrHid) : (s.setCorr p h).trgCam = s.trgCam := rfl
@[simp] theorem setCorr_trg (p : Nat) (h : CorrHid) : (s.setCorr p h).trg = s.trg := rfl
@[simp] theorem setCorr_slots (p : Nat) (h : CorrHid) : (s.setCorr p h).slots = s.slots := rfl
@[simp] theorem setCorr_ports (p : Nat) (h : CorrHid) : (s.setCorr p h).ports = s.ports := rfl
@[simp] theorem setCorr_runsWaiting (p : Nat) (h : CorrHid) : (s.setCorr p h).runsWaiting = s.runsWaiting := rfl
@[simp] theorem setCorr_links (p : Nat) (h : CorrHid) : (s.setCorr p h).links = s.links := rfl
@[simp] theorem setCorr_sram (p : Nat) (h : CorrHid) : (s.setCorr p h).sram = s.sram := rfl
@[simp] theorem setCorr_ram (p : Nat) (h : CorrHid) : (s.setCorr p h).ram = s.ram := rfl
@[simp] theorem setCorr_calRun (p : Nat) (h : CorrHid) : (s.setCorr p h).calRun = s.calRun := rfl
@[simp] theorem setCorr_imgOp (p : Nat) (h : CorrHid) : (s.setCorr p h).imgOp = s.imgOp := rfl
@[simp] theorem setCorr_joinActive (p : Nat) (h : CorrHid) : (s.setCorr p h).joinActive = s.joinActive := rfl
@[simp] theorem setCorr_handshakes (p : Nat) (h : CorrHid) : (s.setCorr p h).handshakes = s.handshakes := rfl
@[simp] theorem setCorr_training (p : Nat) (h : CorrHid) : (s.setCorr p h).training = s.training := rfl
@[simp] theorem setCorr_trainPending (p : Nat) (h : CorrHid) : (s.setCorr p h).trainPending = s.trainPending := rfl
@[simp] theorem setCorr_stitch (p : Nat) (h : CorrHid) : (s.setCorr p h).stitch = s.stitch := rfl
@[simp] theorem setCorr_folio (p : Nat) (h : CorrHid) : (s.setCorr p h).folio = s.folio := rfl
@[simp] theorem setCorr_queues (p : Nat) (h : CorrHid) : (s.setCorr p h).queues = s.queues := rfl
@[simp] theorem setCorr_seg (p : Nat) (h : CorrHid) : (s.setCorr p h).seg = s.seg := rfl
@[simp] theorem setCorr_card (p : Nat) (h : CorrHid) : (s.setCorr p h).card = s.card := rfl
@[simp] theorem setCorr_cropReqs (p : Nat) (h : CorrHid) : (s.setCorr p h).cropReqs = s.cropReqs := rfl
@[simp] theorem setCorr_prof (p : Nat) (h : CorrHid) : (s.setCorr p h).prof = s.prof := rfl
@[simp] theorem setCorr_stk (p : Nat) (h : CorrHid) : (s.setCorr p h).stk = s.stk := rfl
@[simp] theorem setCorr_dma (p : Nat) (h : CorrHid) : (s.setCorr p h).dma = s.dma := rfl
@[simp] theorem setCorr_acc (p : Nat) (h : CorrHid) : (s.setCorr p h).acc = s.acc := rfl
@[simp] theorem setCorr_time (p : Nat) (h : CorrHid) : (s.setCorr p h).time = s.time := rfl
@[simp] theorem setCorr_memc (p : Nat) (h : CorrHid) : (s.setCorr p h).memc = s.memc := rfl
@[simp] theorem setCorr_host (p : Nat) (h : CorrHid) : (s.setCorr p h).host = s.host := rfl
@[simp] theorem setCorr_red (p : Nat) (h : CorrHid) : (s.setCorr p h).red = s.red := rfl
@[simp] theorem setCorr_pwr (p : Nat) (h : CorrHid) : (s.setCorr p h).pwr = s.pwr := rfl
@[simp] theorem setCorr_twi (p : Nat) (h : CorrHid) : (s.setCorr p h).twi = s.twi := rfl
@[simp] theorem setCorr_jtag (p : Nat) (h : CorrHid) : (s.setCorr p h).jtag = s.jtag := rfl

@[simp] theorem setQueue_pending (q : Nat) (h : QueueHid) : (s.setQueue q h).pending = s.pending := rfl
@[simp] theorem setQueue_now (q : Nat) (h : QueueHid) : (s.setQueue q h).now = s.now := rfl
@[simp] theorem setQueue_mode (q : Nat) (h : QueueHid) : (s.setQueue q h).mode = s.mode := rfl
@[simp] theorem setQueue_regs (q : Nat) (h : QueueHid) : (s.setQueue q h).regs = s.regs := rfl
@[simp] theorem setQueue_shadow (q : Nat) (h : QueueHid) : (s.setQueue q h).shadow = s.shadow := rfl
@[simp] theorem setQueue_captured (q : Nat) (h : QueueHid) : (s.setQueue q h).captured = s.captured := rfl
@[simp] theorem setQueue_held (q : Nat) (h : QueueHid) : (s.setQueue q h).held = s.held := rfl
@[simp] theorem setQueue_raised (q : Nat) (h : QueueHid) : (s.setQueue q h).raised = s.raised := rfl
@[simp] theorem setQueue_pins (q : Nat) (h : QueueHid) : (s.setQueue q h).pins = s.pins := rfl
@[simp] theorem setQueue_outPins (q : Nat) (h : QueueHid) : (s.setQueue q h).outPins = s.outPins := rfl
@[simp] theorem setQueue_out (q : Nat) (h : QueueHid) : (s.setQueue q h).out = s.out := rfl
@[simp] theorem setQueue_fresh (q : Nat) (h : QueueHid) : (s.setQueue q h).fresh = s.fresh := rfl
@[simp] theorem setQueue_evrQ (q : Nat) (h : QueueHid) : (s.setQueue q h).evrQ = s.evrQ := rfl
@[simp] theorem setQueue_evr (q : Nat) (h : QueueHid) : (s.setQueue q h).evr = s.evr := rfl
@[simp] theorem setQueue_err (q : Nat) (h : QueueHid) : (s.setQueue q h).err = s.err := rfl
@[simp] theorem setQueue_t40 (q : Nat) (h : QueueHid) : (s.setQueue q h).t40 = s.t40 := rfl
@[simp] theorem setQueue_notices (q : Nat) (h : QueueHid) : (s.setQueue q h).notices = s.notices := rfl
@[simp] theorem setQueue_pos (q : Nat) (h : QueueHid) : (s.setQueue q h).pos = s.pos := rfl
@[simp] theorem setQueue_trgCam (q : Nat) (h : QueueHid) : (s.setQueue q h).trgCam = s.trgCam := rfl
@[simp] theorem setQueue_trg (q : Nat) (h : QueueHid) : (s.setQueue q h).trg = s.trg := rfl
@[simp] theorem setQueue_slots (q : Nat) (h : QueueHid) : (s.setQueue q h).slots = s.slots := rfl
@[simp] theorem setQueue_ports (q : Nat) (h : QueueHid) : (s.setQueue q h).ports = s.ports := rfl
@[simp] theorem setQueue_runsWaiting (q : Nat) (h : QueueHid) : (s.setQueue q h).runsWaiting = s.runsWaiting := rfl
@[simp] theorem setQueue_links (q : Nat) (h : QueueHid) : (s.setQueue q h).links = s.links := rfl
@[simp] theorem setQueue_sram (q : Nat) (h : QueueHid) : (s.setQueue q h).sram = s.sram := rfl
@[simp] theorem setQueue_ram (q : Nat) (h : QueueHid) : (s.setQueue q h).ram = s.ram := rfl
@[simp] theorem setQueue_corr (q : Nat) (h : QueueHid) : (s.setQueue q h).corr = s.corr := rfl
@[simp] theorem setQueue_calRun (q : Nat) (h : QueueHid) : (s.setQueue q h).calRun = s.calRun := rfl
@[simp] theorem setQueue_imgOp (q : Nat) (h : QueueHid) : (s.setQueue q h).imgOp = s.imgOp := rfl
@[simp] theorem setQueue_joinActive (q : Nat) (h : QueueHid) : (s.setQueue q h).joinActive = s.joinActive := rfl
@[simp] theorem setQueue_handshakes (q : Nat) (h : QueueHid) : (s.setQueue q h).handshakes = s.handshakes := rfl
@[simp] theorem setQueue_training (q : Nat) (h : QueueHid) : (s.setQueue q h).training = s.training := rfl
@[simp] theorem setQueue_trainPending (q : Nat) (h : QueueHid) : (s.setQueue q h).trainPending = s.trainPending := rfl
@[simp] theorem setQueue_stitch (q : Nat) (h : QueueHid) : (s.setQueue q h).stitch = s.stitch := rfl
@[simp] theorem setQueue_folio (q : Nat) (h : QueueHid) : (s.setQueue q h).folio = s.folio := rfl
@[simp] theorem setQueue_seg (q : Nat) (h : QueueHid) : (s.setQueue q h).seg = s.seg := rfl
@[simp] theorem setQueue_card (q : Nat) (h : QueueHid) : (s.setQueue q h).card = s.card := rfl
@[simp] theorem setQueue_cropReqs (q : Nat) (h : QueueHid) : (s.setQueue q h).cropReqs = s.cropReqs := rfl
@[simp] theorem setQueue_prof (q : Nat) (h : QueueHid) : (s.setQueue q h).prof = s.prof := rfl
@[simp] theorem setQueue_stk (q : Nat) (h : QueueHid) : (s.setQueue q h).stk = s.stk := rfl
@[simp] theorem setQueue_dma (q : Nat) (h : QueueHid) : (s.setQueue q h).dma = s.dma := rfl
@[simp] theorem setQueue_acc (q : Nat) (h : QueueHid) : (s.setQueue q h).acc = s.acc := rfl
@[simp] theorem setQueue_time (q : Nat) (h : QueueHid) : (s.setQueue q h).time = s.time := rfl
@[simp] theorem setQueue_memc (q : Nat) (h : QueueHid) : (s.setQueue q h).memc = s.memc := rfl
@[simp] theorem setQueue_host (q : Nat) (h : QueueHid) : (s.setQueue q h).host = s.host := rfl
@[simp] theorem setQueue_red (q : Nat) (h : QueueHid) : (s.setQueue q h).red = s.red := rfl
@[simp] theorem setQueue_pwr (q : Nat) (h : QueueHid) : (s.setQueue q h).pwr = s.pwr := rfl
@[simp] theorem setQueue_twi (q : Nat) (h : QueueHid) : (s.setQueue q h).twi = s.twi := rfl
@[simp] theorem setQueue_jtag (q : Nat) (h : QueueHid) : (s.setQueue q h).jtag = s.jtag := rfl

@[simp] theorem setEvrChan_pending (c : Nat) (h : EvrChan) : (s.setEvrChan c h).pending = s.pending := rfl
@[simp] theorem setEvrChan_now (c : Nat) (h : EvrChan) : (s.setEvrChan c h).now = s.now := rfl
@[simp] theorem setEvrChan_mode (c : Nat) (h : EvrChan) : (s.setEvrChan c h).mode = s.mode := rfl
@[simp] theorem setEvrChan_regs (c : Nat) (h : EvrChan) : (s.setEvrChan c h).regs = s.regs := rfl
@[simp] theorem setEvrChan_shadow (c : Nat) (h : EvrChan) : (s.setEvrChan c h).shadow = s.shadow := rfl
@[simp] theorem setEvrChan_captured (c : Nat) (h : EvrChan) : (s.setEvrChan c h).captured = s.captured := rfl
@[simp] theorem setEvrChan_held (c : Nat) (h : EvrChan) : (s.setEvrChan c h).held = s.held := rfl
@[simp] theorem setEvrChan_raised (c : Nat) (h : EvrChan) : (s.setEvrChan c h).raised = s.raised := rfl
@[simp] theorem setEvrChan_pins (c : Nat) (h : EvrChan) : (s.setEvrChan c h).pins = s.pins := rfl
@[simp] theorem setEvrChan_outPins (c : Nat) (h : EvrChan) : (s.setEvrChan c h).outPins = s.outPins := rfl
@[simp] theorem setEvrChan_out (c : Nat) (h : EvrChan) : (s.setEvrChan c h).out = s.out := rfl
@[simp] theorem setEvrChan_fresh (c : Nat) (h : EvrChan) : (s.setEvrChan c h).fresh = s.fresh := rfl
@[simp] theorem setEvrChan_evrQ (c : Nat) (h : EvrChan) : (s.setEvrChan c h).evrQ = s.evrQ := rfl
@[simp] theorem setEvrChan_err (c : Nat) (h : EvrChan) : (s.setEvrChan c h).err = s.err := rfl
@[simp] theorem setEvrChan_t40 (c : Nat) (h : EvrChan) : (s.setEvrChan c h).t40 = s.t40 := rfl
@[simp] theorem setEvrChan_notices (c : Nat) (h : EvrChan) : (s.setEvrChan c h).notices = s.notices := rfl
@[simp] theorem setEvrChan_pos (c : Nat) (h : EvrChan) : (s.setEvrChan c h).pos = s.pos := rfl
@[simp] theorem setEvrChan_trgCam (c : Nat) (h : EvrChan) : (s.setEvrChan c h).trgCam = s.trgCam := rfl
@[simp] theorem setEvrChan_trg (c : Nat) (h : EvrChan) : (s.setEvrChan c h).trg = s.trg := rfl
@[simp] theorem setEvrChan_slots (c : Nat) (h : EvrChan) : (s.setEvrChan c h).slots = s.slots := rfl
@[simp] theorem setEvrChan_ports (c : Nat) (h : EvrChan) : (s.setEvrChan c h).ports = s.ports := rfl
@[simp] theorem setEvrChan_runsWaiting (c : Nat) (h : EvrChan) : (s.setEvrChan c h).runsWaiting = s.runsWaiting := rfl
@[simp] theorem setEvrChan_links (c : Nat) (h : EvrChan) : (s.setEvrChan c h).links = s.links := rfl
@[simp] theorem setEvrChan_sram (c : Nat) (h : EvrChan) : (s.setEvrChan c h).sram = s.sram := rfl
@[simp] theorem setEvrChan_ram (c : Nat) (h : EvrChan) : (s.setEvrChan c h).ram = s.ram := rfl
@[simp] theorem setEvrChan_corr (c : Nat) (h : EvrChan) : (s.setEvrChan c h).corr = s.corr := rfl
@[simp] theorem setEvrChan_calRun (c : Nat) (h : EvrChan) : (s.setEvrChan c h).calRun = s.calRun := rfl
@[simp] theorem setEvrChan_imgOp (c : Nat) (h : EvrChan) : (s.setEvrChan c h).imgOp = s.imgOp := rfl
@[simp] theorem setEvrChan_joinActive (c : Nat) (h : EvrChan) : (s.setEvrChan c h).joinActive = s.joinActive := rfl
@[simp] theorem setEvrChan_handshakes (c : Nat) (h : EvrChan) : (s.setEvrChan c h).handshakes = s.handshakes := rfl
@[simp] theorem setEvrChan_training (c : Nat) (h : EvrChan) : (s.setEvrChan c h).training = s.training := rfl
@[simp] theorem setEvrChan_trainPending (c : Nat) (h : EvrChan) : (s.setEvrChan c h).trainPending = s.trainPending := rfl
@[simp] theorem setEvrChan_stitch (c : Nat) (h : EvrChan) : (s.setEvrChan c h).stitch = s.stitch := rfl
@[simp] theorem setEvrChan_folio (c : Nat) (h : EvrChan) : (s.setEvrChan c h).folio = s.folio := rfl
@[simp] theorem setEvrChan_queues (c : Nat) (h : EvrChan) : (s.setEvrChan c h).queues = s.queues := rfl
@[simp] theorem setEvrChan_seg (c : Nat) (h : EvrChan) : (s.setEvrChan c h).seg = s.seg := rfl
@[simp] theorem setEvrChan_card (c : Nat) (h : EvrChan) : (s.setEvrChan c h).card = s.card := rfl
@[simp] theorem setEvrChan_cropReqs (c : Nat) (h : EvrChan) : (s.setEvrChan c h).cropReqs = s.cropReqs := rfl
@[simp] theorem setEvrChan_prof (c : Nat) (h : EvrChan) : (s.setEvrChan c h).prof = s.prof := rfl
@[simp] theorem setEvrChan_stk (c : Nat) (h : EvrChan) : (s.setEvrChan c h).stk = s.stk := rfl
@[simp] theorem setEvrChan_dma (c : Nat) (h : EvrChan) : (s.setEvrChan c h).dma = s.dma := rfl
@[simp] theorem setEvrChan_acc (c : Nat) (h : EvrChan) : (s.setEvrChan c h).acc = s.acc := rfl
@[simp] theorem setEvrChan_time (c : Nat) (h : EvrChan) : (s.setEvrChan c h).time = s.time := rfl
@[simp] theorem setEvrChan_memc (c : Nat) (h : EvrChan) : (s.setEvrChan c h).memc = s.memc := rfl
@[simp] theorem setEvrChan_host (c : Nat) (h : EvrChan) : (s.setEvrChan c h).host = s.host := rfl
@[simp] theorem setEvrChan_red (c : Nat) (h : EvrChan) : (s.setEvrChan c h).red = s.red := rfl
@[simp] theorem setEvrChan_pwr (c : Nat) (h : EvrChan) : (s.setEvrChan c h).pwr = s.pwr := rfl
@[simp] theorem setEvrChan_twi (c : Nat) (h : EvrChan) : (s.setEvrChan c h).twi = s.twi := rfl
@[simp] theorem setEvrChan_jtag (c : Nat) (h : EvrChan) : (s.setEvrChan c h).jtag = s.jtag := rfl

@[simp] theorem setEngine_pending (e : Nat) (h : FolioHid) : (s.setEngine e h).pending = s.pending := rfl
@[simp] theorem setEngine_now (e : Nat) (h : FolioHid) : (s.setEngine e h).now = s.now := rfl
@[simp] theorem setEngine_mode (e : Nat) (h : FolioHid) : (s.setEngine e h).mode = s.mode := rfl
@[simp] theorem setEngine_regs (e : Nat) (h : FolioHid) : (s.setEngine e h).regs = s.regs := rfl
@[simp] theorem setEngine_shadow (e : Nat) (h : FolioHid) : (s.setEngine e h).shadow = s.shadow := rfl
@[simp] theorem setEngine_captured (e : Nat) (h : FolioHid) : (s.setEngine e h).captured = s.captured := rfl
@[simp] theorem setEngine_held (e : Nat) (h : FolioHid) : (s.setEngine e h).held = s.held := rfl
@[simp] theorem setEngine_raised (e : Nat) (h : FolioHid) : (s.setEngine e h).raised = s.raised := rfl
@[simp] theorem setEngine_pins (e : Nat) (h : FolioHid) : (s.setEngine e h).pins = s.pins := rfl
@[simp] theorem setEngine_outPins (e : Nat) (h : FolioHid) : (s.setEngine e h).outPins = s.outPins := rfl
@[simp] theorem setEngine_out (e : Nat) (h : FolioHid) : (s.setEngine e h).out = s.out := rfl
@[simp] theorem setEngine_fresh (e : Nat) (h : FolioHid) : (s.setEngine e h).fresh = s.fresh := rfl
@[simp] theorem setEngine_evrQ (e : Nat) (h : FolioHid) : (s.setEngine e h).evrQ = s.evrQ := rfl
@[simp] theorem setEngine_evr (e : Nat) (h : FolioHid) : (s.setEngine e h).evr = s.evr := rfl
@[simp] theorem setEngine_err (e : Nat) (h : FolioHid) : (s.setEngine e h).err = s.err := rfl
@[simp] theorem setEngine_t40 (e : Nat) (h : FolioHid) : (s.setEngine e h).t40 = s.t40 := rfl
@[simp] theorem setEngine_notices (e : Nat) (h : FolioHid) : (s.setEngine e h).notices = s.notices := rfl
@[simp] theorem setEngine_pos (e : Nat) (h : FolioHid) : (s.setEngine e h).pos = s.pos := rfl
@[simp] theorem setEngine_trgCam (e : Nat) (h : FolioHid) : (s.setEngine e h).trgCam = s.trgCam := rfl
@[simp] theorem setEngine_trg (e : Nat) (h : FolioHid) : (s.setEngine e h).trg = s.trg := rfl
@[simp] theorem setEngine_slots (e : Nat) (h : FolioHid) : (s.setEngine e h).slots = s.slots := rfl
@[simp] theorem setEngine_ports (e : Nat) (h : FolioHid) : (s.setEngine e h).ports = s.ports := rfl
@[simp] theorem setEngine_runsWaiting (e : Nat) (h : FolioHid) : (s.setEngine e h).runsWaiting = s.runsWaiting := rfl
@[simp] theorem setEngine_links (e : Nat) (h : FolioHid) : (s.setEngine e h).links = s.links := rfl
@[simp] theorem setEngine_sram (e : Nat) (h : FolioHid) : (s.setEngine e h).sram = s.sram := rfl
@[simp] theorem setEngine_ram (e : Nat) (h : FolioHid) : (s.setEngine e h).ram = s.ram := rfl
@[simp] theorem setEngine_corr (e : Nat) (h : FolioHid) : (s.setEngine e h).corr = s.corr := rfl
@[simp] theorem setEngine_calRun (e : Nat) (h : FolioHid) : (s.setEngine e h).calRun = s.calRun := rfl
@[simp] theorem setEngine_imgOp (e : Nat) (h : FolioHid) : (s.setEngine e h).imgOp = s.imgOp := rfl
@[simp] theorem setEngine_joinActive (e : Nat) (h : FolioHid) : (s.setEngine e h).joinActive = s.joinActive := rfl
@[simp] theorem setEngine_handshakes (e : Nat) (h : FolioHid) : (s.setEngine e h).handshakes = s.handshakes := rfl
@[simp] theorem setEngine_training (e : Nat) (h : FolioHid) : (s.setEngine e h).training = s.training := rfl
@[simp] theorem setEngine_trainPending (e : Nat) (h : FolioHid) : (s.setEngine e h).trainPending = s.trainPending := rfl
@[simp] theorem setEngine_stitch (e : Nat) (h : FolioHid) : (s.setEngine e h).stitch = s.stitch := rfl
@[simp] theorem setEngine_queues (e : Nat) (h : FolioHid) : (s.setEngine e h).queues = s.queues := rfl
@[simp] theorem setEngine_seg (e : Nat) (h : FolioHid) : (s.setEngine e h).seg = s.seg := rfl
@[simp] theorem setEngine_card (e : Nat) (h : FolioHid) : (s.setEngine e h).card = s.card := rfl
@[simp] theorem setEngine_cropReqs (e : Nat) (h : FolioHid) : (s.setEngine e h).cropReqs = s.cropReqs := rfl
@[simp] theorem setEngine_prof (e : Nat) (h : FolioHid) : (s.setEngine e h).prof = s.prof := rfl
@[simp] theorem setEngine_stk (e : Nat) (h : FolioHid) : (s.setEngine e h).stk = s.stk := rfl
@[simp] theorem setEngine_dma (e : Nat) (h : FolioHid) : (s.setEngine e h).dma = s.dma := rfl
@[simp] theorem setEngine_acc (e : Nat) (h : FolioHid) : (s.setEngine e h).acc = s.acc := rfl
@[simp] theorem setEngine_time (e : Nat) (h : FolioHid) : (s.setEngine e h).time = s.time := rfl
@[simp] theorem setEngine_memc (e : Nat) (h : FolioHid) : (s.setEngine e h).memc = s.memc := rfl
@[simp] theorem setEngine_host (e : Nat) (h : FolioHid) : (s.setEngine e h).host = s.host := rfl
@[simp] theorem setEngine_red (e : Nat) (h : FolioHid) : (s.setEngine e h).red = s.red := rfl
@[simp] theorem setEngine_pwr (e : Nat) (h : FolioHid) : (s.setEngine e h).pwr = s.pwr := rfl
@[simp] theorem setEngine_twi (e : Nat) (h : FolioHid) : (s.setEngine e h).twi = s.twi := rfl
@[simp] theorem setEngine_jtag (e : Nat) (h : FolioHid) : (s.setEngine e h).jtag = s.jtag := rfl

@[simp] theorem setTwi_pending (h : TwiHid) : (s.setTwi h).pending = s.pending := rfl
@[simp] theorem setTwi_now (h : TwiHid) : (s.setTwi h).now = s.now := rfl
@[simp] theorem setTwi_mode (h : TwiHid) : (s.setTwi h).mode = s.mode := rfl
@[simp] theorem setTwi_regs (h : TwiHid) : (s.setTwi h).regs = s.regs := rfl
@[simp] theorem setTwi_shadow (h : TwiHid) : (s.setTwi h).shadow = s.shadow := rfl
@[simp] theorem setTwi_captured (h : TwiHid) : (s.setTwi h).captured = s.captured := rfl
@[simp] theorem setTwi_held (h : TwiHid) : (s.setTwi h).held = s.held := rfl
@[simp] theorem setTwi_raised (h : TwiHid) : (s.setTwi h).raised = s.raised := rfl
@[simp] theorem setTwi_pins (h : TwiHid) : (s.setTwi h).pins = s.pins := rfl
@[simp] theorem setTwi_outPins (h : TwiHid) : (s.setTwi h).outPins = s.outPins := rfl
@[simp] theorem setTwi_out (h : TwiHid) : (s.setTwi h).out = s.out := rfl
@[simp] theorem setTwi_fresh (h : TwiHid) : (s.setTwi h).fresh = s.fresh := rfl
@[simp] theorem setTwi_evrQ (h : TwiHid) : (s.setTwi h).evrQ = s.evrQ := rfl
@[simp] theorem setTwi_evr (h : TwiHid) : (s.setTwi h).evr = s.evr := rfl
@[simp] theorem setTwi_err (h : TwiHid) : (s.setTwi h).err = s.err := rfl
@[simp] theorem setTwi_t40 (h : TwiHid) : (s.setTwi h).t40 = s.t40 := rfl
@[simp] theorem setTwi_notices (h : TwiHid) : (s.setTwi h).notices = s.notices := rfl
@[simp] theorem setTwi_pos (h : TwiHid) : (s.setTwi h).pos = s.pos := rfl
@[simp] theorem setTwi_trgCam (h : TwiHid) : (s.setTwi h).trgCam = s.trgCam := rfl
@[simp] theorem setTwi_trg (h : TwiHid) : (s.setTwi h).trg = s.trg := rfl
@[simp] theorem setTwi_slots (h : TwiHid) : (s.setTwi h).slots = s.slots := rfl
@[simp] theorem setTwi_ports (h : TwiHid) : (s.setTwi h).ports = s.ports := rfl
@[simp] theorem setTwi_runsWaiting (h : TwiHid) : (s.setTwi h).runsWaiting = s.runsWaiting := rfl
@[simp] theorem setTwi_links (h : TwiHid) : (s.setTwi h).links = s.links := rfl
@[simp] theorem setTwi_sram (h : TwiHid) : (s.setTwi h).sram = s.sram := rfl
@[simp] theorem setTwi_ram (h : TwiHid) : (s.setTwi h).ram = s.ram := rfl
@[simp] theorem setTwi_corr (h : TwiHid) : (s.setTwi h).corr = s.corr := rfl
@[simp] theorem setTwi_calRun (h : TwiHid) : (s.setTwi h).calRun = s.calRun := rfl
@[simp] theorem setTwi_imgOp (h : TwiHid) : (s.setTwi h).imgOp = s.imgOp := rfl
@[simp] theorem setTwi_joinActive (h : TwiHid) : (s.setTwi h).joinActive = s.joinActive := rfl
@[simp] theorem setTwi_handshakes (h : TwiHid) : (s.setTwi h).handshakes = s.handshakes := rfl
@[simp] theorem setTwi_training (h : TwiHid) : (s.setTwi h).training = s.training := rfl
@[simp] theorem setTwi_trainPending (h : TwiHid) : (s.setTwi h).trainPending = s.trainPending := rfl
@[simp] theorem setTwi_stitch (h : TwiHid) : (s.setTwi h).stitch = s.stitch := rfl
@[simp] theorem setTwi_folio (h : TwiHid) : (s.setTwi h).folio = s.folio := rfl
@[simp] theorem setTwi_queues (h : TwiHid) : (s.setTwi h).queues = s.queues := rfl
@[simp] theorem setTwi_seg (h : TwiHid) : (s.setTwi h).seg = s.seg := rfl
@[simp] theorem setTwi_card (h : TwiHid) : (s.setTwi h).card = s.card := rfl
@[simp] theorem setTwi_cropReqs (h : TwiHid) : (s.setTwi h).cropReqs = s.cropReqs := rfl
@[simp] theorem setTwi_prof (h : TwiHid) : (s.setTwi h).prof = s.prof := rfl
@[simp] theorem setTwi_stk (h : TwiHid) : (s.setTwi h).stk = s.stk := rfl
@[simp] theorem setTwi_dma (h : TwiHid) : (s.setTwi h).dma = s.dma := rfl
@[simp] theorem setTwi_acc (h : TwiHid) : (s.setTwi h).acc = s.acc := rfl
@[simp] theorem setTwi_time (h : TwiHid) : (s.setTwi h).time = s.time := rfl
@[simp] theorem setTwi_memc (h : TwiHid) : (s.setTwi h).memc = s.memc := rfl
@[simp] theorem setTwi_host (h : TwiHid) : (s.setTwi h).host = s.host := rfl
@[simp] theorem setTwi_red (h : TwiHid) : (s.setTwi h).red = s.red := rfl
@[simp] theorem setTwi_pwr (h : TwiHid) : (s.setTwi h).pwr = s.pwr := rfl
@[simp] theorem setTwi_jtag (h : TwiHid) : (s.setTwi h).jtag = s.jtag := rfl

@[simp] theorem passTime_pending (t : Nat) : (s.passTime t).pending = s.pending := rfl
@[simp] theorem passTime_mode (t : Nat) : (s.passTime t).mode = s.mode := rfl
@[simp] theorem passTime_regs (t : Nat) : (s.passTime t).regs = s.regs := rfl
@[simp] theorem passTime_shadow (t : Nat) : (s.passTime t).shadow = s.shadow := rfl
@[simp] theorem passTime_captured (t : Nat) : (s.passTime t).captured = s.captured := rfl
@[simp] theorem passTime_held (t : Nat) : (s.passTime t).held = s.held := rfl
@[simp] theorem passTime_raised (t : Nat) : (s.passTime t).raised = s.raised := rfl
@[simp] theorem passTime_pins (t : Nat) : (s.passTime t).pins = s.pins := rfl
@[simp] theorem passTime_outPins (t : Nat) : (s.passTime t).outPins = s.outPins := rfl
@[simp] theorem passTime_out (t : Nat) : (s.passTime t).out = s.out := rfl
@[simp] theorem passTime_fresh (t : Nat) : (s.passTime t).fresh = s.fresh := rfl
@[simp] theorem passTime_evrQ (t : Nat) : (s.passTime t).evrQ = s.evrQ := rfl
@[simp] theorem passTime_evr (t : Nat) : (s.passTime t).evr = s.evr := rfl
@[simp] theorem passTime_err (t : Nat) : (s.passTime t).err = s.err := rfl
@[simp] theorem passTime_notices (t : Nat) : (s.passTime t).notices = s.notices := rfl
@[simp] theorem passTime_pos (t : Nat) : (s.passTime t).pos = s.pos := rfl
@[simp] theorem passTime_trgCam (t : Nat) : (s.passTime t).trgCam = s.trgCam := rfl
@[simp] theorem passTime_trg (t : Nat) : (s.passTime t).trg = s.trg := rfl
@[simp] theorem passTime_slots (t : Nat) : (s.passTime t).slots = s.slots := rfl
@[simp] theorem passTime_ports (t : Nat) : (s.passTime t).ports = s.ports := rfl
@[simp] theorem passTime_runsWaiting (t : Nat) : (s.passTime t).runsWaiting = s.runsWaiting := rfl
@[simp] theorem passTime_links (t : Nat) : (s.passTime t).links = s.links := rfl
@[simp] theorem passTime_sram (t : Nat) : (s.passTime t).sram = s.sram := rfl
@[simp] theorem passTime_ram (t : Nat) : (s.passTime t).ram = s.ram := rfl
@[simp] theorem passTime_corr (t : Nat) : (s.passTime t).corr = s.corr := rfl
@[simp] theorem passTime_calRun (t : Nat) : (s.passTime t).calRun = s.calRun := rfl
@[simp] theorem passTime_imgOp (t : Nat) : (s.passTime t).imgOp = s.imgOp := rfl
@[simp] theorem passTime_joinActive (t : Nat) : (s.passTime t).joinActive = s.joinActive := rfl
@[simp] theorem passTime_handshakes (t : Nat) : (s.passTime t).handshakes = s.handshakes := rfl
@[simp] theorem passTime_training (t : Nat) : (s.passTime t).training = s.training := rfl
@[simp] theorem passTime_trainPending (t : Nat) : (s.passTime t).trainPending = s.trainPending := rfl
@[simp] theorem passTime_stitch (t : Nat) : (s.passTime t).stitch = s.stitch := rfl
@[simp] theorem passTime_folio (t : Nat) : (s.passTime t).folio = s.folio := rfl
@[simp] theorem passTime_queues (t : Nat) : (s.passTime t).queues = s.queues := rfl
@[simp] theorem passTime_seg (t : Nat) : (s.passTime t).seg = s.seg := rfl
@[simp] theorem passTime_card (t : Nat) : (s.passTime t).card = s.card := rfl
@[simp] theorem passTime_cropReqs (t : Nat) : (s.passTime t).cropReqs = s.cropReqs := rfl
@[simp] theorem passTime_prof (t : Nat) : (s.passTime t).prof = s.prof := rfl
@[simp] theorem passTime_stk (t : Nat) : (s.passTime t).stk = s.stk := rfl
@[simp] theorem passTime_dma (t : Nat) : (s.passTime t).dma = s.dma := rfl
@[simp] theorem passTime_acc (t : Nat) : (s.passTime t).acc = s.acc := rfl
@[simp] theorem passTime_time (t : Nat) : (s.passTime t).time = s.time := rfl
@[simp] theorem passTime_memc (t : Nat) : (s.passTime t).memc = s.memc := rfl
@[simp] theorem passTime_host (t : Nat) : (s.passTime t).host = s.host := rfl
@[simp] theorem passTime_red (t : Nat) : (s.passTime t).red = s.red := rfl
@[simp] theorem passTime_pwr (t : Nat) : (s.passTime t).pwr = s.pwr := rfl
@[simp] theorem passTime_twi (t : Nat) : (s.passTime t).twi = s.twi := rfl
@[simp] theorem passTime_jtag (t : Nat) : (s.passTime t).jtag = s.jtag := rfl

end Sys2Proof.Machine
end

