-- ==== Sys2Proof/Laws/Reg.lean ====
section
/-! SUPPORT. Fields of words and registers: what a field reads after a write of it, of another field, or of another register. -/

namespace Sys2Proof.Machine

/-! ### Fields of a word -/

/-- A word with a field replaced, as a number: the parts above, in and below the field. -/
theorem setBits_toNat (w : Word) (b : Bits) (v : Nat) (h : b.lo + b.len ≤ 32) :
    (setBits w b v).toNat
      = w.toNat / 2 ^ (b.lo + b.len) * 2 ^ (b.lo + b.len) + v % 2 ^ b.len * 2 ^ b.lo + w.toNat % 2 ^ b.lo := by
  obtain ⟨lo, len⟩ := b
  simp only at h
  have h1 : w.toNat / 2 ^ lo / 2 ^ len = w.toNat / 2 ^ (lo + len) := by rw [Nat.div_div_eq_div_mul, pow_add]
  have h2 := Nat.div_add_mod (w.toNat / 2 ^ lo) (2 ^ len)
  have h3 := Nat.div_add_mod w.toNat (2 ^ lo)
  have hlt : w.toNat < 2 ^ 32 := w.isLt
  have hv : v % 2 ^ len < 2 ^ len := Nat.mod_lt _ (by positivity)
  have hl : w.toNat % 2 ^ lo < 2 ^ lo := Nat.mod_lt _ (by positivity)
  have hsplit : w.toNat = w.toNat / 2 ^ (lo + len) * 2 ^ (lo + len) + w.toNat / 2 ^ lo % 2 ^ len * 2 ^ lo + w.toNat % 2 ^ lo := by
    rw [h1] at h2
    calc w.toNat = 2 ^ lo * (2 ^ len * (w.toNat / 2 ^ (lo + len)) + w.toNat / 2 ^ lo % 2 ^ len) + w.toNat % 2 ^ lo := by rw [h2, h3]
      _ = _ := by rw [pow_add]; ring
  have hsub : w.toNat - w.toNat / 2 ^ lo % 2 ^ len * 2 ^ lo
      = w.toNat / 2 ^ (lo + len) * 2 ^ (lo + len) + w.toNat % 2 ^ lo := by omega
  have hq : w.toNat / 2 ^ (lo + len) < 2 ^ (32 - (lo + len)) := by
    apply Nat.div_lt_of_lt_mul
    rw [← pow_add]
    rwa [show lo + len + (32 - (lo + len)) = 32 by omega]
  simp only [setBits, getBits, BitVec.toNat_ofNat]
  rw [hsub, Nat.mod_eq_of_lt]
  · omega
  · have hx : v % 2 ^ len * 2 ^ lo + w.toNat % 2 ^ lo < 2 ^ (lo + len) := by
      have : (v % 2 ^ len + 1) * 2 ^ lo ≤ 2 ^ len * 2 ^ lo := Nat.mul_le_mul_right _ hv
      rw [pow_add, mul_comm (2 ^ lo)]
      nlinarith
    have hy : (w.toNat / 2 ^ (lo + len) + 1) * 2 ^ (lo + len) ≤ 2 ^ (32 - (lo + len)) * 2 ^ (lo + len) := Nat.mul_le_mul_right _ hq
    rw [← pow_add, show 32 - (lo + len) + (lo + len) = 32 by omega] at hy
    nlinarith

/-- A field reads as what was written to it. -/
theorem getBits_setBits_self (w : Word) (b : Bits) (v : Nat) (h : b.lo + b.len ≤ 32) : getBits (setBits w b v) b = v % 2 ^ b.len := by
  have hv : v % 2 ^ b.len < 2 ^ b.len := Nat.mod_lt _ (by positivity)
  have hl : w.toNat % 2 ^ b.lo < 2 ^ b.lo := Nat.mod_lt _ (by positivity)
  rw [getBits, setBits_toNat w b v h]
  have : w.toNat / 2 ^ (b.lo + b.len) * 2 ^ (b.lo + b.len) + v % 2 ^ b.len * 2 ^ b.lo + w.toNat % 2 ^ b.lo
      = (w.toNat / 2 ^ (b.lo + b.len) * 2 ^ b.len + v % 2 ^ b.len) * 2 ^ b.lo + w.toNat % 2 ^ b.lo := by rw [pow_add]; ring
  rw [this, Nat.add_comm, Nat.add_mul_div_right _ _ (by positivity), Nat.div_eq_of_lt hl, Nat.zero_add, Nat.add_comm,
    Nat.add_mul_mod_self_right, Nat.mod_eq_of_lt hv]

/-- A field below a written one keeps its value. -/
theorem getBits_setBits_below (w : Word) (b c : Bits) (v : Nat) (h : b.lo + b.len ≤ 32) (hc : c.lo + c.len ≤ b.lo) :
    getBits (setBits w b v) c = getBits w c := by
  simp only [getBits]
  rw [setBits_toNat w b v h]
  have hd (x : Nat) : x / 2 ^ c.lo % 2 ^ c.len = x % 2 ^ (c.lo + c.len) / 2 ^ c.lo := by
    rw [pow_add, Nat.mod_mul_right_div_self]
  rw [hd, hd]
  congr 1
  obtain ⟨k, hk⟩ : ∃ k, b.lo = c.lo + c.len + k := ⟨b.lo - (c.lo + c.len), by omega⟩
  have e1 : w.toNat / 2 ^ (b.lo + b.len) * 2 ^ (b.lo + b.len) + v % 2 ^ b.len * 2 ^ b.lo + w.toNat % 2 ^ b.lo
      = w.toNat % 2 ^ b.lo + 2 ^ (c.lo + c.len) * (2 ^ k * (w.toNat / 2 ^ (b.lo + b.len) * 2 ^ b.len + v % 2 ^ b.len)) := by
    rw [hk, pow_add _ (c.lo + c.len + k), pow_add _ (c.lo + c.len) k]; ring
  rw [e1, Nat.add_mul_mod_self_left]
  exact Nat.mod_mod_of_dvd _ (pow_dvd_pow 2 (by omega))

/-- A field above a written one keeps its value. -/
theorem getBits_setBits_above (w : Word) (b c : Bits) (v : Nat) (h : b.lo + b.len ≤ 32) (hc : b.lo + b.len ≤ c.lo) :
    getBits (setBits w b v) c = getBits w c := by
  simp only [getBits]
  congr 1
  rw [setBits_toNat w b v h]
  have hv : v % 2 ^ b.len < 2 ^ b.len := Nat.mod_lt _ (by positivity)
  have hl : w.toNat % 2 ^ b.lo < 2 ^ b.lo := Nat.mod_lt _ (by positivity)
  have hx : v % 2 ^ b.len * 2 ^ b.lo + w.toNat % 2 ^ b.lo < 2 ^ (b.lo + b.len) := by
    have : (v % 2 ^ b.len + 1) * 2 ^ b.lo ≤ 2 ^ b.len * 2 ^ b.lo := Nat.mul_le_mul_right _ hv
    rw [pow_add, mul_comm (2 ^ b.lo)]
    nlinarith
  obtain ⟨k, hk⟩ : ∃ k, c.lo = b.lo + b.len + k := ⟨c.lo - (b.lo + b.len), by omega⟩
  have key (x : Nat) : x / 2 ^ (b.lo + b.len + k) = x / 2 ^ (b.lo + b.len) / 2 ^ k := by
    rw [pow_add _ (b.lo + b.len), Nat.div_div_eq_div_mul]
  rw [hk, key, key, Nat.add_assoc, Nat.add_comm, Nat.add_mul_div_right _ _ (by positivity), Nat.div_eq_of_lt hx, Nat.zero_add]

/-- A field apart from a written one keeps its value. -/
theorem getBits_setBits_apart (w : Word) (b c : Bits) (v : Nat) (h : b.lo + b.len ≤ 32)
    (hc : c.lo + c.len ≤ b.lo ∨ b.lo + b.len ≤ c.lo) : getBits (setBits w b v) c = getBits w c :=
  hc.elim (getBits_setBits_below w b c v h) (getBits_setBits_above w b c v h)

theorem getBits_lt (w : Word) (b : Bits) : getBits w b < 2 ^ b.len := Nat.mod_lt _ (by positivity)

/-! ### Registers -/

variable (s : State)

@[simp] theorem reg_setReg_self (a : Nat) (w : Word) : (s.setReg a w).reg a = w := by simp [State.reg, State.setReg]

theorem reg_setReg_ne {a b : Nat} (h : b ≠ a) (w : Word) : (s.setReg a w).reg b = s.reg b := Store.get_set_ne _ h w _

@[simp] theorem reg_setFld_self (a : Nat) (b : Bits) (v : Nat) : (s.setFld a b v).reg a = setBits (s.reg a) b v := reg_setReg_self s a _

theorem reg_setFld_ne {a c : Nat} (h : c ≠ a) (b : Bits) (v : Nat) : (s.setFld a b v).reg c = s.reg c := reg_setReg_ne s h _

@[simp] theorem reg_setNum_self (a v : Nat) : (s.setNum a v).reg a = BitVec.ofNat 32 v := reg_setReg_self s a _

theorem reg_setNum_ne {a c : Nat} (h : c ≠ a) (v : Nat) : (s.setNum a v).reg c = s.reg c := reg_setReg_ne s h _

@[simp] theorem num_setNum_self (a v : Nat) : (s.setNum a v).num a = v % 2 ^ 32 := by simp [State.num]

theorem num_setNum_ne {a c : Nat} (h : c ≠ a) (v : Nat) : (s.setNum a v).num c = s.num c := by simp [State.num, reg_setNum_ne s h]

theorem reg_bumpBy_ne {a c : Nat} (h : c ≠ a) (n : Nat) : (s.bumpBy a n).reg c = s.reg c := reg_setNum_ne s h _

theorem reg_bump_ne {a c : Nat} (h : c ≠ a) : (s.bump a).reg c = s.reg c := reg_setNum_ne s h _

/-- A counter adds, and stops at its greatest value (R91). -/
@[simp] theorem num_bumpBy_self (a n : Nat) : (s.bumpBy a n).num a = min 0xFFFFFFFF (s.num a + n) := by
  rw [State.bumpBy, num_setNum_self, Nat.mod_eq_of_lt]
  omega

@[simp] theorem num_bump_self (a : Nat) : (s.bump a).num a = min 0xFFFFFFFF (s.num a + 1) := num_bumpBy_self s a 1

theorem fld_setReg_ne {a c : Nat} (h : c ≠ a) (w : Word) (f : Bits) : (s.setReg a w).fld c f = s.fld c f := by
  simp [State.fld, reg_setReg_ne s h]

theorem fld_setNum_ne {a c : Nat} (h : c ≠ a) (v : Nat) (f : Bits) : (s.setNum a v).fld c f = s.fld c f := fld_setReg_ne s h _ f

theorem fld_bump_ne {a c : Nat} (h : c ≠ a) (f : Bits) : (s.bump a).fld c f = s.fld c f := fld_setReg_ne s h _ f

theorem fld_bumpBy_ne {a c : Nat} (h : c ≠ a) (n : Nat) (f : Bits) : (s.bumpBy a n).fld c f = s.fld c f := fld_setReg_ne s h _ f

/-- A field reads as what was stored in it. -/
theorem fld_setFld_self (a : Nat) (b : Bits) (v : Nat) (h : b.lo + b.len ≤ 32) : (s.setFld a b v).fld a b = v % 2 ^ b.len := by
  simp [State.fld, getBits_setBits_self _ b v h]

theorem fld_setFld_ne {a c : Nat} (h : c ≠ a) (b f : Bits) (v : Nat) : (s.setFld a b v).fld c f = s.fld c f := fld_setReg_ne s h _ f

/-- Storing a field leaves another one of the register as it was. -/
theorem fld_setFld_apart (a : Nat) (b c : Bits) (v : Nat) (h : b.lo + b.len ≤ 32)
    (hc : c.lo + c.len ≤ b.lo ∨ b.lo + b.len ≤ c.lo) : (s.setFld a b v).fld a c = s.fld a c := by
  simp [State.fld, getBits_setBits_apart _ b c v h hc]

theorem flag_setFld_self (a : Nat) (b : Bits) (v : Nat) (h : b.lo + b.len ≤ 32) :
    (s.setFld a b v).flag a b = decide (v % 2 ^ b.len ≠ 0) := by simp [State.flag, fld_setFld_self s a b v h]

theorem flag_setFld_ne {a c : Nat} (h : c ≠ a) (b f : Bits) (v : Nat) : (s.setFld a b v).flag c f = s.flag c f := by
  simp [State.flag, fld_setFld_ne s h]

end Sys2Proof.Machine
end

