-- ==== Sys2Proof/Laws/Frame.lean ====
section
/-! SUPPORT. Frames: how they compose, and the frame of each plain update. -/

namespace Sys2Proof.Machine

/-- Nothing changed. -/
theorem State.Keeps.refl (u : State) (P : List Part) (r : Nat → Bool) : u.Keeps P r u :=
  ⟨fun p _ _ => by cases p <;> rfl, fun _ _ => rfl⟩

/-- One change after another. -/
theorem State.Keeps.trans {u v w : State} {P : List Part} {r : Nat → Bool} (h : u.Keeps P r v) (k : v.Keeps P r w) : u.Keeps P r w := by
  refine ⟨fun p h1 h2 => ?_, fun a ha => (k.2 a ha).trans (h.2 a ha)⟩
  have a := h.1 p h1 h2
  have b := k.1 p h1 h2
  cases p <;> exact Eq.trans b a

/-- A frame of fewer parts and registers is a frame of more. -/
theorem State.Keeps.mono {u v : State} {P Q : List Part} {r q : Nat → Bool} (h : u.Keeps P r v) (hp : ∀ p ∈ P, p ∈ Q)
    (hr : ∀ a, q a = false → r a = false) : u.Keeps Q q v :=
  ⟨fun p h1 h2 => h.1 p h1 fun h3 => h2 (hp p h3), fun a ha => h.2 a (hr a ha)⟩

/-- A frame over a list of updates. -/
theorem State.Keeps.foldl {α : Type} {P : List Part} {r : Nat → Bool} (f : State → α → State) (l : List α) (u : State)
    (h : ∀ (s : State) (x : α), x ∈ l → s.Keeps P r (f s x)) : u.Keeps P r (l.foldl f u) := by
  induction l generalizing u with
  | nil => exact .refl u P r
  | cons x l ih => exact (h u x (by simp)).trans (ih _ fun s y hy => h s y (by simp [hy]))

theorem State.Keeps.ite {P : List Part} {r : Nat → Bool} {u v w : State} {c : Prop} [Decidable c] (h : u.Keeps P r v) (k : u.Keeps P r w) :
    u.Keeps P r (if c then v else w) := by split <;> assumption

/-- A state that shares its registers with another and agrees with it on the other parts. -/
theorem State.Keeps.of_regs {u v : State} {P : List Part} (r : Nat → Bool) (h : v.regs = u.regs)
    (hp : ∀ p, p ≠ .regs → p ∉ P → u.agree v p) : u.Keeps P r v :=
  ⟨hp, fun a _ => by simp [State.reg, h]⟩

variable (s : State)

theorem setReg_keeps (a : Nat) (w : Word) (P : List Part) (r : Nat → Bool) (h : r a = true) : s.Keeps P r (s.setReg a w) := by
  refine ⟨fun p _ _ => by cases p <;> first | rfl | contradiction, fun c hc => ?_⟩
  exact reg_setReg_ne s (by rintro rfl; simp [h] at hc) w

theorem setFld_keeps (a : Nat) (b : Bits) (v : Nat) (P : List Part) (r : Nat → Bool) (h : r a = true) : s.Keeps P r (s.setFld a b v) :=
  setReg_keeps s a _ P r h

theorem setNum_keeps (a v : Nat) (P : List Part) (r : Nat → Bool) (h : r a = true) : s.Keeps P r (s.setNum a v) := setReg_keeps s a _ P r h

theorem bumpBy_keeps (a n : Nat) (P : List Part) (r : Nat → Bool) (h : r a = true) : s.Keeps P r (s.bumpBy a n) := setReg_keeps s a _ P r h

theorem bump_keeps (a : Nat) (P : List Part) (r : Nat → Bool) (h : r a = true) : s.Keeps P r (s.bump a) := setReg_keeps s a _ P r h

theorem set64_keeps (a v : Nat) (P : List Part) (r : Nat → Bool) (h : r a = true) (h' : r (a + 4) = true) : s.Keeps P r (s.set64 a v) :=
  (setNum_keeps s a v P r h).trans (setNum_keeps _ _ _ P r h')

theorem set48_keeps (a : Nat) (v : Int) (P : List Part) (r : Nat → Bool) (h : r a = true) (h' : r (a + 4) = true) :
    s.Keeps P r (s.set48 a v) := set64_keeps s a _ P r h h'

theorem emit_keeps (o : Output) (P : List Part) (r : Nat → Bool) (h : Part.out ∈ P) : s.Keeps P r (s.emit o) :=
  .of_regs r rfl fun p _ hp => by cases p <;> first | rfl | exact absurd h hp

theorem route_keeps (n : Nat) (i : EvrItem) (P : List Part) (r : Nat → Bool) (h : Part.evrQ ∈ P) : s.Keeps P r (s.route n i) :=
  .of_regs r rfl fun p _ hp => by cases p <;> first | rfl | exact absurd h hp

/-- Hardware sets a bit of a register (R10). -/
theorem hwSet_keeps (a n : Nat) (P : List Part) (r : Nat → Bool) (h : r a = true) : s.Keeps P r (s.hwSet a n) := by
  have k := setFld_keeps s a ⟨n, 1⟩ 1 P r h
  refine ⟨fun p h1 h2 => ?_, fun c hc => k.2 c hc⟩
  have := k.1 p h1 h2
  cases p <;> exact this

/-- A hardware event: its bit is set, and a request may wait in the router (R439). -/
theorem event_keeps (evt en n producer : Nat) (P : List Part) (r : Nat → Bool) (h : Part.evrQ ∈ P) (h' : r evt = true) :
    s.Keeps P r (s.event evt en n producer) := by
  unfold State.event
  have k := hwSet_keeps s evt n P r h'
  simp only
  split
  · exact k.trans (route_keeps _ _ _ P r h)
  · exact k

theorem event_reg (evt en n producer a : Nat) :
    (s.event evt en n producer).reg a = if a = evt then setBits (s.reg evt) ⟨n, 1⟩ 1 else s.reg a := by
  have : (s.event evt en n producer).reg a = (s.setFld evt ⟨n, 1⟩ 1).reg a := by
    unfold State.event
    simp only
    split <;> rfl
  rw [this]
  split
  · next h => rw [h, reg_setFld_self]
  · next h => exact reg_setFld_ne s h _ _

end Sys2Proof.Machine
end

