-- ==== Sys2Proof/Laws/Ledger.lean ====
section
/-! SUPPORT. The error ledger: what recording an entry can change. -/

namespace Sys2Proof.Machine

variable (s : State)

theorem ledgerReg_of (a : Nat) (h : 0x20000 ≤ a ∧ a < 0x30000) : ledgerReg a = true := by simp [ledgerReg, h]

/-- The registers of a ledger slot. -/
theorem ledgerReg_slot (i : Nat) (h : i < 32) : ledgerReg (Reg.ERR_E0 i) = true ∧ ledgerReg (Reg.ERR_E1 i) = true
    ∧ ledgerReg (Reg.ERR_E2 i) = true ∧ ledgerReg (Reg.ERR_E3 i) = true ∧ ledgerReg (Reg.ERR_E4 i) = true
    ∧ ledgerReg (Reg.ERR_E5 i) = true ∧ ledgerReg (Reg.ERR_E6 i) = true ∧ ledgerReg (Reg.ERR_E7 i) = true := by
  refine ⟨?_, ?_, ?_, ?_, ?_, ?_, ?_, ?_⟩ <;> apply ledgerReg_of
  · rw [Reg.ERR_E0]; omega
  · rw [Reg.ERR_E1]; omega
  · rw [Reg.ERR_E2]; omega
  · rw [Reg.ERR_E3]; omega
  · rw [Reg.ERR_E4]; omega
  · rw [Reg.ERR_E5]; omega
  · rw [Reg.ERR_E6]; omega
  · rw [Reg.ERR_E7]; omega

/-- Slots of the ledger are below 32. -/
theorem freeSlot_lt {i : Nat} (h : s.freeSlot = some i) : i < 32 := by
  have := List.mem_of_find?_eq_some h
  simp only [List.mem_map] at this
  obtain ⟨j, _, rfl⟩ := this
  exact Nat.mod_lt _ (by norm_num)

theorem oldestOf_mem {l : List Nat} {i : Nat} (h : s.oldestOf l = some i) : i ∈ l := by
  induction l generalizing i with
  | nil => simp [State.oldestOf] at h
  | cons x r ih =>
    simp only [State.oldestOf] at h
    split at h
    · cases h; simp
    · next j hj =>
      split at h
      · cases h; simp
      · cases h; exact List.mem_cons_of_mem _ (ih hj)

theorem newestOf_mem {l : List Nat} {i : Nat} (h : s.newestOf l = some i) : i ∈ l := by
  induction l generalizing i with
  | nil => simp [State.newestOf] at h
  | cons x r ih =>
    simp only [State.newestOf] at h
    split at h
    · cases h; simp
    · next j hj =>
      split at h
      · cases h; simp
      · cases h; exact List.mem_cons_of_mem _ (ih hj)

theorem heldSlots_lt {i : Nat} (h : i ∈ s.heldSlots) : i < 32 := by
  have := (List.mem_filter.mp h).1
  simpa using this

theorem repeats_lt {code source j : Nat} {d : Word} (h : s.repeats code source d = some j) : j < 32 := by
  unfold State.repeats at h
  split at h
  · cases h
  · next k hk =>
    split at h
    · cases h; exact heldSlots_lt s (newestOf_mem s hk)
    · cases h

theorem setReg_ledger (a : Nat) (w : Word) (h : ledgerReg a = true) : s.Keeps ledgerParts ledgerReg (s.setReg a w) := setReg_keeps s a w _ _ h

theorem err_ledger (e : ErrHid) : s.Keeps ledgerParts ledgerReg { s with err := e } :=
  .of_regs _ rfl fun p _ hp => by cases p <;> first | rfl | simp [ledgerParts] at hp

theorem notices_ledger (l : List (List Byte)) : s.Keeps ledgerParts ledgerReg { s with notices := l } :=
  .of_regs _ rfl fun p _ hp => by cases p <;> first | rfl | simp [ledgerParts] at hp

theorem writeEntry_ledger (i code cls nest source : Nat) (d : Word) (h : i < 32) :
    s.Keeps ledgerParts ledgerReg (s.writeEntry i code cls nest source d) := by
  obtain ⟨h0, h1, h2, h3, h4, h5, h6, h7⟩ := ledgerReg_slot i h
  unfold State.writeEntry
  exact (((((((((setReg_ledger s _ _ h0).trans (setReg_ledger _ _ _ h1)).trans (setReg_ledger _ _ _ h2)).trans
    (setReg_ledger _ _ _ h3)).trans (setReg_ledger _ _ _ h4)).trans (setReg_ledger _ _ _ h5)).trans
    (setReg_ledger _ _ _ h6)).trans (setReg_ledger _ _ _ h7)).trans (setReg_ledger _ _ _ (by decide)))

theorem sendNotice_ledger (kind : Nat) (b : List Byte) : s.Keeps ledgerParts ledgerReg (s.sendNotice kind b) := by
  unfold State.sendNotice
  split
  · exact notices_ledger s _
  · exact .refl s _ _

theorem openCycle_ledger : s.Keeps ledgerParts ledgerReg s.openCycle := by
  unfold State.openCycle
  split
  · exact .refl s _ _
  · exact err_ledger s _

theorem putItems_ledger (l : List (Nat × LedgerItem)) (before : List Nat) (h : ∀ x ∈ l, x.1 < 32) :
    s.Keeps ledgerParts ledgerReg (s.putItems before l) := by
  induction l generalizing s before with
  | nil => exact .refl s _ _
  | cons x r ih =>
    obtain ⟨i, x⟩ := x
    have hi : i < 32 := h (i, x) (by simp)
    obtain ⟨h0, h1, -, -, h4, -⟩ := ledgerReg_slot i hi
    unfold State.putItems
    refine State.Keeps.trans ?_ (ih _ _ fun y hy => h y (by simp [hy]))
    exact ((setReg_ledger s _ _ h0).trans (setReg_ledger _ _ _ h1)).trans (setReg_ledger _ _ _ h4)

theorem sortCycle_ledger (h : ∀ i ∈ s.err.cycle, i < 32) : s.Keeps ledgerParts ledgerReg s.sortCycle := by
  unfold State.sortCycle
  simp only
  split
  · exact .refl s _ _
  · refine State.Keeps.trans (putItems_ledger s _ [] fun x hx => ?_) (notices_ledger _ _)
    exact h x.1 (List.of_mem_zip hx).1

theorem recordIn_ledger (i code cls source : Nat) (d : Word) (h : i < 32) :
    s.Keeps ledgerParts ledgerReg (s.recordIn i code cls source d) := by
  unfold State.recordIn
  simp only
  refine State.Keeps.trans ?_ (sortCycle_ledger _ ?_)
  · refine State.Keeps.trans ?_ (err_ledger _ _)
    refine State.Keeps.trans ?_ (sendNotice_ledger _ _ _)
    exact State.Keeps.trans (openCycle_ledger s) (writeEntry_ledger _ i code cls _ source d h)
  · intro j hj
    simp only [List.mem_append, List.mem_filter, Bool.and_eq_true, decide_eq_true_eq, List.mem_singleton] at hj
    rcases hj with hj | rfl
    · exact hj.2.1.1
    · exact h

theorem event_ledger (n producer : Nat) : s.Keeps ledgerParts ledgerReg (s.event Reg.ERR_EVT Reg.ERR_EVTEN n producer) :=
  event_keeps s _ _ _ _ _ _ (by simp [ledgerParts]) (by decide)

theorem recordedFlags_ledger (cls : Nat) : s.Keeps ledgerParts ledgerReg (s.recordedFlags cls) :=
  ((event_ledger s cls 27).trans (hwSet_keeps _ _ _ _ _ (by decide))).trans (hwSet_keeps _ _ _ _ _ (by decide))

theorem droppedFlags_ledger (cls : Nat) : s.Keeps ledgerParts ledgerReg (s.droppedFlags cls) := by
  have h : s.Keeps ledgerParts ledgerReg ((s.bump Reg.ERR_DROP).event Reg.ERR_EVT Reg.ERR_EVTEN 3 27) :=
    (bump_keeps s _ _ _ (by decide)).trans (event_ledger _ 3 27)
  unfold State.droppedFlags
  simp only
  split
  · exact h
  · exact (h.trans (hwSet_keeps _ _ _ _ _ (by decide))).trans (hwSet_keeps _ _ _ _ _ (by decide))

/-- Entering an error in the ledger changes the ledger and its attention bits only. -/
theorem logEntry_ledger (code cls source : Nat) (d : Word) : s.Keeps ledgerParts ledgerReg (s.logEntry code cls source d) := by
  unfold State.logEntry
  split
  · next j hj =>
    have hj : j < 32 := by
      split at hj
      · exact repeats_lt s hj
      · cases hj
    exact setFld_keeps s _ _ _ _ _ (ledgerReg_slot j hj).2.2.2.2.1
  · split
    · next i hi =>
      exact ((err_ledger s _).trans (recordIn_ledger _ i code cls source d (freeSlot_lt s hi))).trans (recordedFlags_ledger _ cls)
    · split
      · next i hi =>
        have hi : i < 32 := by
          split at hi
          · cases hi
          · exact heldSlots_lt s (List.mem_filter.mp (oldestOf_mem s hi)).1
        exact ((bump_keeps s _ _ _ (by decide)).trans (recordIn_ledger _ i code cls source d hi)).trans (recordedFlags_ledger _ cls)
      · exact droppedFlags_ledger s cls

/-- A Notice changes the ledger and its attention bits only. -/
theorem notice_ledger (code source detail : Nat) : s.Keeps ledgerParts ledgerReg (s.notice code source detail) := by
  unfold State.notice State.record
  simp only [true_or, if_true]
  exact logEntry_ledger s code 0 source _

/-- A Notice under a frame that admits the ledger. -/
theorem notice_keeps (code source detail : Nat) {P : List Part} {r : Nat → Bool} (hp : ∀ p ∈ ledgerParts, p ∈ P)
    (hr : ∀ a, r a = false → ledgerReg a = false) : s.Keeps P r (s.notice code source detail) :=
  (notice_ledger s code source detail).mono hp hr

end Sys2Proof.Machine
end

