-- ==== Sys2Proof/Laws/Hb.lean ====
section
/-! SUPPORT. HB (R504): its condition depends on few registers, and its update makes its rule hold. -/

namespace Sys2Proof.Machine

variable (s : State)

theorem anyCongr {α : Type} {l : List α} {p q : α → Bool} (h : ∀ x ∈ l, p x = q x) : l.any p = l.any q := by
  induction l with
  | nil => rfl
  | cons x r ih => simp only [List.any_cons, h x (by simp), ih fun y hy => h y (by simp [hy])]

theorem allCongr {α : Type} {l : List α} {p q : α → Bool} (h : ∀ x ∈ l, p x = q x) : l.all p = l.all q := by
  induction l with
  | nil => rfl
  | cons x r ih => simp only [List.all_cons, h x (by simp), ih fun y hy => h y (by simp [hy])]

/-- Registers that HB's condition reads beside RED_STATUS. -/
def hbReads (a : Nat) : Bool :=
  a == Reg.ERR_STATUS || a == Reg.RED_CTRL || decide (Reg.ACC_CQRATE 0 ≤ a ∧ a < Reg.ACC_STREAM 8) || a == Reg.CARD_CTRL
    || decide (Reg.CARD_ROUTE 0 ≤ a ∧ a < Reg.CARD_ROUTE 64) || (decide (0x330000 ≤ a) && decide (a % 0x10000 = 4))
    || decide (Reg.CQ_CFG 0 ≤ a ∧ a < Reg.STR_CFG 8 ∧ a % 16 = 0)

theorem hbReads_iff (a : Nat) : hbReads a = true ↔ a = 0x20004 ∨ a = 0x90000 ∨ (0xA0050 ≤ a ∧ a < 0xA0090) ∨ a = 0xD0000
    ∨ (0xD0100 ≤ a ∧ a < 0xD0200) ∨ (0x330000 ≤ a ∧ a % 0x10000 = 4) ∨ (0x350100 ≤ a ∧ a < 0x350280 ∧ a % 16 = 0) := by
  simp [hbReads, Reg.ERR_STATUS, Reg.RED_CTRL, Reg.ACC_CQRATE, Reg.ACC_STREAM, Reg.CARD_CTRL, Reg.CARD_ROUTE, Reg.CQ_CFG, Reg.STR_CFG,
    or_assoc]

/-- Where the mode, the registers it reads and two fields of RED_STATUS agree, HB's condition is the same. -/
theorem hbCondition_congr (u v : State) (hm : v.mode = u.mode) (hr : ∀ a, hbReads a = true → v.reg a = u.reg a)
    (h1 : v.fld Reg.RED_STATUS Fld.RED_STATUS_ROLEIN = u.fld Reg.RED_STATUS Fld.RED_STATUS_ROLEIN)
    (h2 : v.fld Reg.RED_STATUS Fld.RED_STATUS_SYNCED = u.fld Reg.RED_STATUS Fld.RED_STATUS_SYNCED) :
    v.hbCondition = u.hbCondition := by
  have hf (a : Nat) (f : Bits) (h : hbReads a = true) : v.fld a f = u.fld a f := by simp [State.fld, hr a h]
  have hq (q : Nat) (h : q < 4) (f : Bits) : v.fld (Reg.CQ_CFG q) f = u.fld (Reg.CQ_CFG q) f :=
    hf _ f (by rw [hbReads_iff, Reg.CQ_CFG]; omega)
  have hrate (q : Nat) (h : q < 4) (f : Bits) : v.fld (Reg.ACC_CQRATE q) f = u.fld (Reg.ACC_CQRATE q) f :=
    hf _ f (by rw [hbReads_iff, Reg.ACC_CQRATE]; omega)
  have hst (q : Nat) (h : q < 8) (f : Bits) : v.fld (Reg.ACC_STREAM q) f = u.fld (Reg.ACC_STREAM q) f :=
    hf _ f (by rw [hbReads_iff, Reg.ACC_STREAM]; omega)
  have hcfg (q : Nat) (h : q < 8) (f : Bits) : v.fld (Reg.STR_CFG q) f = u.fld (Reg.STR_CFG q) f :=
    hf _ f (by rw [hbReads_iff, Reg.STR_CFG]; omega)
  have hroute (c : Nat) (h : c < 64) (f : Bits) : v.fld (Reg.CARD_ROUTE c) f = u.fld (Reg.CARD_ROUTE c) f :=
    hf _ f (by rw [hbReads_iff, Reg.CARD_ROUTE]; omega)
  have hlink (ps : Nat) : v.subLink ps = u.subLink ps := by
    have : v.fld (Reg.HOST_STATUS (ps / 4)) Fld.HOST_STATUS_LINK = u.fld (Reg.HOST_STATUS (ps / 4)) Fld.HOST_STATUS_LINK :=
      hf _ _ (by rw [hbReads_iff, Reg.HOST_STATUS]; omega)
    simp [State.subLink, this]
  have hrole : v.standbyRole = u.standbyRole := by
    simp [State.standbyRole, State.flag, h1, hf Reg.RED_CTRL _ (by decide)]
  have hrouted : v.routedQueues = u.routedQueues := by
    unfold State.routedQueues
    apply List.filter_congr
    intro q _
    congr 1
    · rw [hf Reg.CARD_CTRL _ (by decide)]
    · apply anyCongr
      intro c hc
      simp [State.flag, hroute c (List.mem_range.mp hc)]
  have hused (q : Nat) (h : q < 4) : v.cqUsed q = u.cqUsed q := by simp [State.cqUsed, hrate q h, hrouted]
  unfold State.hbCondition
  rw [hm, hrole]
  have herr : v.flag Reg.ERR_STATUS Fld.ERR_STATUS_HALTING = u.flag Reg.ERR_STATUS Fld.ERR_STATUS_HALTING := by
    simp [State.flag, hf Reg.ERR_STATUS _ (by decide)]
  have hsync : v.flag Reg.RED_STATUS Fld.RED_STATUS_SYNCED = u.flag Reg.RED_STATUS Fld.RED_STATUS_SYNCED := by simp [State.flag, h2]
  have ha : (List.range 4).all (fun q => !v.cqUsed q || v.subLink (4 * (v.cqPort q).1 + (v.cqPort q).2))
      = (List.range 4).all (fun q => !u.cqUsed q || u.subLink (4 * (u.cqPort q).1 + (u.cqPort q).2)) := by
    apply allCongr
    intro q hmem
    have h := List.mem_range.mp hmem
    simp [hused q h, State.cqPort, hq q h, hlink]
  have hb : (List.range 8).all (fun i => !v.streamUsed i || (v.streamPorts i).all fun p => v.subLink (4 * p + v.fld (Reg.STR_CFG i) Fld.STR_CFG_SUB))
      = (List.range 8).all (fun i => !u.streamUsed i || (u.streamPorts i).all fun p => u.subLink (4 * p + u.fld (Reg.STR_CFG i) Fld.STR_CFG_SUB)) := by
    apply allCongr
    intro i hmem
    have h := List.mem_range.mp hmem
    simp [State.streamUsed, State.streamPorts, hst i h, hcfg i h, hlink]
  rw [herr, hsync, ha, hb]

/-- HB's rule holds once it has been applied. -/
theorem hbUpdate_rule : s.hbUpdate.HbRule := by
  unfold State.hbUpdate State.HbRule
  simp only
  split
  · next h => simpa using h
  · have hc (v : State) (hm : v.mode = s.mode)
        (hr : ∀ a, hbReads a = true → v.reg a = (s.setFld Reg.RED_STATUS Fld.RED_STATUS_HBRUN (b2n s.hbCondition)).reg a)
        (h1 : v.reg Reg.RED_STATUS = (s.setFld Reg.RED_STATUS Fld.RED_STATUS_HBRUN (b2n s.hbCondition)).reg Reg.RED_STATUS) :
        v.flag Reg.RED_STATUS Fld.RED_STATUS_HBRUN = v.hbCondition := by
      have e : v.hbCondition = s.hbCondition := by
        apply hbCondition_congr s v hm
        · intro a ha
          rw [hr a ha, reg_setFld_ne]
          rintro rfl
          revert ha; decide
        · simp only [State.fld, h1, reg_setFld_self]
          exact getBits_setBits_apart _ _ _ _ (by decide) (by decide)
        · simp only [State.fld, h1, reg_setFld_self]
          exact getBits_setBits_apart _ _ _ _ (by decide) (by decide)
      rw [e]
      simp only [State.flag, State.fld, h1, reg_setFld_self]
      rw [getBits_setBits_self _ _ _ (by decide)]
      cases s.hbCondition <;> decide
    split
    · exact hc _ rfl (fun _ _ => rfl) rfl
    · refine hc _ rfl (fun a ha => ?_) ?_
      · have : a ≠ Reg.TWI_ATTN := by rintro rfl; revert ha; decide
        exact reg_setFld_ne (s.setFld Reg.RED_STATUS Fld.RED_STATUS_HBRUN (b2n s.hbCondition)) this ⟨4, 1⟩ 1
      · exact reg_setFld_ne (s.setFld Reg.RED_STATUS Fld.RED_STATUS_HBRUN (b2n s.hbCondition)) (by decide) ⟨4, 1⟩ 1

/-- Where HB follows its rule, its update changes nothing. -/
theorem hbUpdate_of_rule (h : s.HbRule) : s.hbUpdate = s := by
  unfold State.hbUpdate
  simp [show s.flag Reg.RED_STATUS Fld.RED_STATUS_HBRUN = s.hbCondition from h]

/-- What follows every command leaves HB's rule standing. -/
theorem settle_rule (v : State) : (v.settle s).HbRule := hbUpdate_rule _

end Sys2Proof.Machine
end

