-- ==== Sys2Proof/Laws/Exec.lean ====
section
/-! SUPPORT. What `exec` can answer: a settled state, or the results of one folio instruction. -/

namespace Sys2Proof.Machine

/-- Every command answers a next state, which what follows every command has settled, or is a folio instruction. -/
theorem exec_shape (c : Instr) (s : State) :
    (∃ v, exec c s = .next (State.settle v s)) ∨ ∃ e ws, exec c s = .next (s.folioWrites e ws) := by
  cases c
  all_goals first
    | exact .inl ⟨_, rfl⟩
    | exact .inr ⟨_, _, rfl⟩

end Sys2Proof.Machine
end

