-- ==== Sys2Proof/Laws/Folio.lean ====
section
/-! SUPPORT. The folio engines: what the results of a bundle can change. -/

namespace Sys2Proof.Machine

variable (s : State)

theorem setEngine_keeps (e : Nat) (h : FolioHid) (P : List Part) (r : Nat → Bool) (hp : Part.folio ∈ P) : s.Keeps P r (s.setEngine e h) :=
  .of_regs r rfl fun p _ hq => by cases p <;> first | rfl | exact absurd hp hq

@[simp] theorem engine_setEngine_self (e : Nat) (h : FolioHid) : (s.setEngine e h).engine e = h := by
  simp [State.engine, State.setEngine]

theorem engine_setEngine_ne {e f : Nat} (hf : f ≠ e) (h : FolioHid) : (s.setEngine e h).engine f = s.engine f :=
  Store.get_set_ne folio0 hf h s.folio

/-- A result of a slot changes its engine, or counts a plane index out of range. -/
theorem folioWrite_keeps (e : Nat) (w : FolioWrite) (P : List Part) (r : Nat → Bool) (hp : Part.folio ∈ P)
    (hr : r (Reg.FOLIO_PLNERR e) = true) : s.Keeps P r (State.folioWrite e s w) := by
  unfold State.folioWrite
  split
  · exact setEngine_keeps s e _ P r hp
  · exact setEngine_keeps s e _ P r hp
  · exact setEngine_keeps s e _ P r hp
  · exact setEngine_keeps s e _ P r hp
  · exact bump_keeps s _ P r hr

/-- The results of a bundle change their engine and nothing else, but for the count of plane indexes out of range. -/
theorem folioWrites_keeps (e : Nat) (ws : List FolioWrite) (P : List Part) (r : Nat → Bool) (hp : Part.folio ∈ P)
    (hr : r (Reg.FOLIO_PLNERR e) = true) : s.Keeps P r (s.folioWrites e ws) :=
  State.Keeps.foldl _ ws s fun s w _ => folioWrite_keeps s e w P r hp hr

theorem engine_bump (f a : Nat) : (s.bump a).engine f = s.engine f := rfl

/-- The results of a bundle leave every other engine as it was. -/
theorem folioWrites_engine_ne {e f : Nat} (hf : f ≠ e) (ws : List FolioWrite) : (s.folioWrites e ws).engine f = s.engine f := by
  unfold State.folioWrites
  induction ws generalizing s with
  | nil => rfl
  | cons w r ih =>
    rw [List.foldl_cons, ih]
    unfold State.folioWrite
    split <;> first | exact engine_setEngine_ne s hf _ | rfl

/-- HB's rule stands over the results of a bundle. -/
theorem folioWrites_rule (e : Nat) (ws : List FolioWrite) (h : s.HbRule) : (s.folioWrites e ws).HbRule := by
  obtain ⟨k1, k2⟩ := folioWrites_keeps s e ws [.folio] (theRegs [Reg.FOLIO_PLNERR e]) (by simp) (by simp [theRegs])
  have hr (a : Nat) (ha : a ≠ Reg.FOLIO_PLNERR e) : (s.folioWrites e ws).reg a = s.reg a := k2 a (by simpa [theRegs] using ha)
  have hs : Reg.RED_STATUS ≠ Reg.FOLIO_PLNERR e := by rw [Reg.RED_STATUS, Reg.FOLIO_PLNERR]; omega
  unfold State.HbRule at *
  rw [State.flag, State.fld, hr _ hs, hbCondition_congr s (s.folioWrites e ws) (k1 .mode (by simp) (by simp)) _ _ _]
  · exact h
  · intro a ha
    apply hr
    rintro rfl
    rw [hbReads_iff, Reg.FOLIO_PLNERR] at ha
    omega
  · rw [State.fld, State.fld, hr _ hs]
  · rw [State.fld, State.fld, hr _ hs]

/-- A table of lanes written one after the other. -/
theorem get_lanes (ls : List Nat) (k r i : Nat) (m : Store Nat) :
    Store.get (fun _ => 0) i ((ls.zipIdx k).foldl (fun m x => Store.set (fun _ => 0) (32 * r + x.2) (x.1 % 65536) m) m)
      = if 32 * r + k ≤ i ∧ i < 32 * r + k + ls.length then ((ls[i - (32 * r + k)]?).getD 0) % 65536 else Store.get (fun _ => 0) i m := by
  induction ls generalizing k m with
  | nil => simp
  | cons x ls ih =>
    simp only [List.zipIdx_cons, List.foldl_cons, ih, List.length_cons]
    by_cases h : i = 32 * r + k
    · subst h
      simp
    · rw [Store.get_set_ne (fun _ => 0) h]
      by_cases h1 : 32 * r + (k + 1) ≤ i ∧ i < 32 * r + (k + 1) + ls.length
      · rw [if_pos h1, if_pos (by omega)]
        obtain ⟨j, hj⟩ : ∃ j, i - (32 * r + k) = j + 1 := ⟨i - (32 * r + k) - 1, by omega⟩
        rw [hj, List.getElem?_cons_succ]
        congr 4; omega
      · rw [if_neg h1, if_neg (by omega)]

/-- A vector result writes its register's lanes and nothing else. -/
theorem folioWrites_vec (e d : Nat) (f : Nat → Nat) : s.VecResult e d f (s.folioWrites e [.vec d (lanes32 f)]) := by
  have k : s.Keeps [.folio] noReg (s.folioWrites e [.vec d (lanes32 f)]) := setEngine_keeps s e _ _ _ (by simp)
  have hv (r l : Nat) : (s.folioWrites e [.vec d (lanes32 f)]).vreg e r l
      = if 32 * d + 0 ≤ 32 * r + l ∧ 32 * r + l < 32 * d + 0 + (lanes32 f).length then (((lanes32 f)[32 * r + l - (32 * d + 0)]?).getD 0) % 65536 else s.vreg e r l := by
    simp only [State.folioWrites, List.foldl_cons, List.foldl_nil, State.folioWrite, State.vreg, engine_setEngine_self]
    exact get_lanes _ _ _ _ _
  have hl : (lanes32 f).length = 32 := by simp [lanes32]
  refine ⟨fun l h => ?_, fun r l h hr => ?_, ?_, ?_, ?_, ⟨?_, fun g hg => folioWrites_engine_ne s hg _⟩, k⟩
  · rw [hv, hl, if_pos (by omega)]
    have : 32 * d + l - (32 * d + 0) = l := by omega
    rw [this]; simp [lanes32, h]
  · rw [hv, hl, if_neg (by omega)]
  all_goals simp [State.folioWrites, State.folioWrite]

/-- A scalar result writes its register and nothing else. -/
theorem folioWrites_scal (e d n : Nat) : s.ScalResult e d n (s.folioWrites e [.scal d n]) := by
  refine ⟨?_, fun r hr => ?_, ?_, ?_, ?_, ⟨?_, fun g hg => folioWrites_engine_ne s hg _⟩, setEngine_keeps s e _ _ _ (by simp)⟩
  all_goals simp [State.folioWrites, State.folioWrite, State.sreg, Store.get_set_ne (fun _ => 0), *]

end Sys2Proof.Machine
end

