-- ==== Sys2Proof/Laws/Access.lean ====
section
/-! SUPPORT. Writes and reads through a path: what the commands that are one access become. -/

namespace Sys2Proof.Machine

variable (s : State)

/-- No block of registers lies at or above folio memory (R31). -/
theorem blockAt_high {a : Nat} (h : 0x400000 ≤ a) : blockAt a = none := by
  have : 0x40 ≤ a / 0x10000 := by omega
  unfold blockAt
  simp only
  repeat rw [if_neg (by omega)]

/-- An address of a block lies below folio memory and the SRAM window. -/
theorem blockAt_low {a : Nat} (h : (blockAt a).isSome = true) : inFolio a = false ∧ inWindow a = false := by
  by_contra hc
  have : 0x400000 ≤ a := by
    simp only [inFolio, inWindow, decide_eq_false_iff_not, not_and_or] at hc
    omega
  simp [blockAt_high this] at h

/-- A write that is performed takes effect. -/
theorem busWriteIn_performs (p : Path) (a : Nat) (w : Word) (n : Nat) (h : s.performs a w = true) :
    (s.busWriteIn p a w (some n)).2 = s.writeNow p a w n := by
  simp only [State.performs, Bool.and_eq_true, decide_eq_true_eq, Bool.not_eq_true', Bool.and_eq_false_iff, Bool.or_eq_false_iff] at h
  obtain ⟨⟨⟨h1, h2⟩, h3⟩, h4⟩ := h
  simp only [State.busWriteIn, h1, h2, h3, State.prepFor]
  rcases h4 with h4 | ⟨h4, h5⟩
  · simp [h4]
  · simp [h4, h5]

/-- The same for a write that starts no preparation. -/
theorem busWrite_performs (p : Path) (a : Nat) (w : Word) (h : s.performs a w = true) (h1 : a ≠ Reg.PWR_CTRL) (h2 : a ≠ Reg.ERR_CTRL) :
    (s.busWrite p a w).2 = s.writeNow p a w 0 := by
  rw [← busWriteIn_performs s p a w 0 h]
  simp [State.busWrite, State.busWriteIn, State.prepFor, h1, h2]

/-- A rejected write ends its path's hold (R6, R12). -/
theorem busWriteIn_rejected (p : Path) (a : Nat) (w : Word) (n : Option Nat)
    (h : a % 4 ≠ 0 ∨ s.answersWrite a w = false ∨ badPort a = true) :
    (s.busWriteIn p a w n).2 = (s.rejectAccess a).endHold p a := by
  have h4 : (decide (a % 4 ≠ 0) || !s.answersWrite a w || badPort a) = true := by
    rcases h with h | h | h <;> simp [h]
  simp only [State.busWriteIn, h4, if_true]

theorem writeAt_reaches (t : Nat) (p : Path) (a : Nat) (w : Word) (h : (s.advanceTo t).reaches p = true) :
    s.writeAt t p a w = ((s.advanceTo t).busWrite p a w).2.settle s := by simp [State.writeAt, State.during, State.when, h]

theorem readAt_reaches (t : Nat) (p : Path) (a : Nat) (h : (s.advanceTo t).reaches p = true) :
    s.readAt t p a = ((s.advanceTo t).readAlone p a).settle s := by simp [State.readAt, State.during, State.when, h]

end Sys2Proof.Machine
end

