-- ==== Sys2Proof/Laws/Queues.lean ====
section
/-! SUPPORT. The queues: what an operation of a queue can change. -/

namespace Sys2Proof.Machine

variable (s : State)

theorem blockRegs_iff (b a : Nat) : blockRegs b a = true ↔ b ≤ a ∧ a < b + 0x10000 := by simp [blockRegs]

/-- A frame that admits what an operation of a queue changes. -/
structure AdmitsQueue (P : List Part) (r : Nat → Bool) : Prop where
  sram : Part.sram ∈ P
  queues : Part.queues ∈ P
  evrQ : Part.evrQ ∈ P
  regs : ∀ a, blockRegs 0xF0000 a = true → r a = true
  attn : r Reg.OHT_ATTN = true

variable {P : List Part} {r : Nat → Bool}

theorem setQueue_keeps (q : Nat) (h : QueueHid) (a : AdmitsQueue P r) : s.Keeps P r (s.setQueue q h) :=
  .of_regs r rfl fun p _ hq => by cases p <;> first | rfl | exact absurd a.queues hq

theorem ringWrite_keeps (q idx : Nat) (b : List Byte) (a : AdmitsQueue P r) : s.Keeps P r (s.ringWrite q idx b) :=
  .of_regs r rfl fun p _ hq => by cases p <;> first | rfl | exact absurd a.sram hq

/-- The registers of queue `q`. -/
theorem AdmitsQueue.queue (a : AdmitsQueue P r) {q : Nat} (h : q < 64) :
    r (Reg.Q_STATUS q) = true ∧ r (Reg.Q_OCC q) = true ∧ r (Reg.Q_PEAK q) = true ∧ r (Reg.Q_RLEN q) = true ∧ r (Reg.Q_RPTR q) = true
      ∧ r (Reg.Q_FPTR q) = true ∧ r (Reg.Q_WPTR q) = true ∧ r (Reg.Q_DROP q) = true ∧ r (Reg.Q_BMPTR q) = true := by
  refine ⟨?_, ?_, ?_, ?_, ?_, ?_, ?_, ?_, ?_⟩ <;> apply a.regs <;> rw [blockRegs_iff]
  · rw [Reg.Q_STATUS]; omega
  · rw [Reg.Q_OCC]; omega
  · rw [Reg.Q_PEAK]; omega
  · rw [Reg.Q_RLEN]; omega
  · rw [Reg.Q_RPTR]; omega
  · rw [Reg.Q_FPTR]; omega
  · rw [Reg.Q_WPTR]; omega
  · rw [Reg.Q_DROP]; omega
  · rw [Reg.Q_BMPTR]; omega

theorem qEvent_keeps (evt en : Nat) {q : Nat} (h : q < 64) (he : 0xF0000 ≤ evt ∧ evt < 0xF0100) (a : AdmitsQueue P r) :
    s.Keeps P r (s.qEvent evt en q) :=
  event_keeps s _ _ _ _ _ _ a.evrQ (a.regs _ (by rw [blockRegs_iff]; omega))

theorem qWatermarks_keeps {q : Nat} (h : q < 64) (a : AdmitsQueue P r) : s.Keeps P r (s.qWatermarks q) := by
  obtain ⟨h0, -⟩ := a.queue h
  unfold State.qWatermarks
  simp only
  split
  · exact .refl ..
  · split
    · split
      · exact (setFld_keeps s _ _ _ _ _ h0).trans (qEvent_keeps _ _ _ h (by decide) a)
      · exact .refl ..
    · split
      · have k : s.Keeps P r ((s.setFld (Reg.Q_STATUS q) Fld.Q_STATUS_HIGHST 1).qEvent Reg.QUE_HIEVT_LO Reg.QUE_HIEN_LO q) :=
          (setFld_keeps s _ _ _ _ _ h0).trans (qEvent_keeps _ _ _ h (by decide) a)
        split
        · exact k.trans (hwSet_keeps _ _ _ _ _ a.attn)
        · exact k
      · exact .refl ..

theorem qShow_keeps {q : Nat} (h : q < 64) (a : AdmitsQueue P r) : s.Keeps P r (s.qShow q) := by
  obtain ⟨h0, h1, h2, h3, -⟩ := a.queue h
  unfold State.qShow
  refine State.Keeps.ite ?_ ?_
  · refine State.Keeps.trans ?_ (set64_keeps _ _ _ _ _ ?_ ?_)
    · refine State.Keeps.trans ?_ (setNum_keeps _ _ _ _ _ h3)
      refine State.Keeps.trans ?_ (setFld_keeps _ _ _ _ _ _ h2)
      refine State.Keeps.trans ?_ (setFld_keeps _ _ _ _ _ _ h1)
      exact State.Keeps.trans (setFld_keeps _ _ _ _ _ _ h0) (setFld_keeps _ _ _ _ _ _ h0)
    all_goals apply a.regs; rw [blockRegs_iff, Reg.PQ_HEADKEY_LO]; omega
  · refine State.Keeps.trans ?_ (setNum_keeps _ _ _ _ _ h3)
    refine State.Keeps.trans ?_ (setFld_keeps _ _ _ _ _ _ h2)
    refine State.Keeps.trans ?_ (setFld_keeps _ _ _ _ _ _ h1)
    exact State.Keeps.trans (setFld_keeps _ _ _ _ _ _ h0) (setFld_keeps _ _ _ _ _ _ h0)

theorem qRefresh_keeps {q : Nat} (h : q < 64) (a : AdmitsQueue P r) : s.Keeps P r (s.qRefresh q) :=
  (qShow_keeps s h a).trans (qWatermarks_keeps _ h a)

/-- Taking the packet at S changes the queue, its registers and its events. -/
theorem qTake_keeps {q : Nat} (h : q < 64) (a : AdmitsQueue P r) : s.Keeps P r (s.qTake q) := by
  obtain ⟨-, -, -, -, h4, h5, -⟩ := a.queue h
  unfold State.qTake
  split
  · exact .refl ..
  · simp only
    have k (n : Nat) : s.Keeps P r (s.qMove q (Reg.Q_RPTR q) n) := setNum_keeps s _ _ _ _ h4
    split
    · exact ((k _).trans (setQueue_keeps _ _ _ a)).trans (qShow_keeps _ h a)
    · exact (((k _).trans (setNum_keeps _ _ _ _ _ h5)).trans (setQueue_keeps _ _ _ a)).trans (qRefresh_keeps _ h a)

/-- Committing a packet changes the queue, its ring, its registers and its events. -/
theorem qCommit_keeps {q : Nat} (b : List Byte) (key kind : Nat) (due : Option Nat) (h : q < 64) (a : AdmitsQueue P r) :
    s.Keeps P r (s.qCommit q b key kind due) := by
  have h6 := (a.queue h).2.2.2.2.2.2.1
  unfold State.qCommit
  simp only
  have k (i : Nat) (n : Nat) (x : QueueHid) : s.Keeps P r ((((s.ringWrite q i b).qMove q (Reg.Q_WPTR q) n).setQueue q x).qRefresh q) :=
    (((ringWrite_keeps s _ _ _ a).trans (setNum_keeps _ _ _ _ _ h6)).trans (setQueue_keeps _ _ _ a)).trans (qRefresh_keeps _ h a)
  exact .ite ((k _ _ _).trans (qTake_keeps _ h a)) (k _ _ _)

/-- A packet of firmware: committed, or dropped, counted and noted. -/
theorem qFirmware_keeps {q : Nat} (b : List Byte) (h : q < 64) (a : AdmitsQueue P r) (hp : ∀ p ∈ ledgerParts, p ∈ P)
    (hr : ∀ a, r a = false → ledgerReg a = false) : s.Keeps P r (s.qFirmware q b) := by
  unfold State.qFirmware
  split
  · exact qCommit_keeps s b 0 0 none h a
  · exact (bump_keeps s _ _ _ (a.queue h).2.2.2.2.2.2.2.1).trans (notice_keeps _ _ _ _ hp hr)

end Sys2Proof.Machine
end

