-- ==== Sys2Proof/Laws/Advance.lean ====
section
/-! SUPPORT. The passing of time: where a command at `t` starts. -/

namespace Sys2Proof.Machine

variable (s : State)

/-- The bucket registers of the cards. -/
def bucketRegs : List Nat := [Reg.CARD_BUCKET 0, Reg.CARD_BUCKET 1, Reg.CARD_BUCKET 2, Reg.CARD_BUCKET 3]

theorem showBuckets_keeps (P : List Part) : s.Keeps P (theRegs bucketRegs) s.showBuckets := by
  unfold State.showBuckets
  apply State.Keeps.foldl
  intro s q hq
  have h : theRegs bucketRegs (Reg.CARD_BUCKET q) = true := by
    simp only [List.mem_range] at hq
    interval_cases q <;> decide
  exact (setFld_keeps s _ _ _ _ _ h).trans (setFld_keeps _ _ _ _ _ _ h)

/-- The buckets fill; nothing else changes (R278, R287). -/
theorem refill_keeps : s.Keeps [.card] (theRegs bucketRegs) s.refill := by
  unfold State.refill
  refine State.Keeps.trans ?_ (showBuckets_keeps _ _)
  exact .of_regs _ rfl fun p _ hp => by cases p <;> first | rfl | simp at hp

theorem refill_now : s.refill.now = s.now := (refill_keeps s).1 .now (by simp) (by simp)

theorem commitNotices_now : s.commitNotices.now = s.now := by
  have k : s.Keeps [.sram, .queues, .evrQ, .err, .notices] (fun _ => true) s.commitNotices := by
    unfold State.commitNotices
    refine State.Keeps.trans (v := { s with notices := [] }) ?_ (State.Keeps.foldl _ _ _ fun s b _ => ?_)
    · exact .of_regs _ rfl fun p _ hp => by cases p <;> first | rfl | simp at hp
    · exact qFirmware_keeps s b (by norm_num) ⟨by simp, by simp, by simp, fun _ _ => rfl, rfl⟩ (by simp [ledgerParts]) (fun _ h => by simp at h)
  exact k.1 .now (by simp) (by simp)

theorem prepared_now : s.prepared.now = s.now := by
  unfold State.prepared
  split
  · rfl
  · split <;> rfl

/-- A command at `t` finds the time at the later of `t` and the present. -/
theorem advanceTo_now (t : Nat) : (s.advanceTo t).now = max s.now t := by
  unfold State.advanceTo
  simp only [prepared_now, commitNotices_now, refill_now]
  rfl

theorem earliest_mem {l : List EvrWait} {w : EvrWait} (h : earliest l = some w) : w ∈ l := by
  induction l generalizing w with
  | nil => simp [earliest] at h
  | cons x r ih =>
    simp only [earliest] at h
    split at h
    · next y hy =>
      split at h
      · cases h; exact List.mem_cons_of_mem _ (ih hy)
      · cases h; simp
    · cases h; simp

theorem arriveUntil_quiet (n t : Nat) (h : ∀ w ∈ s.evrQ, t < w.due) : s.arriveUntil n t = s := by
  cases n with
  | zero => rfl
  | succ n =>
    unfold State.arriveUntil
    split
    · next w hw =>
      have := h w (earliest_mem hw)
      simp [Nat.not_le.mpr this]
    · rfl

theorem commitNotices_nil (h : s.notices = []) : s.commitNotices = s := by
  have e : ({ s with notices := [] } : State) = s := by rw [← h]
  unfold State.commitNotices
  rw [h, e]
  rfl

/-- With nothing due, time passes and the buckets fill. -/
theorem advanceTo_quiet (t : Nat) (h : ∀ w ∈ s.evrQ, max s.now t < w.due) (hn : s.notices = []) (hp : s.pwr.prep = none) :
    s.advanceTo t = (s.passTime (max s.now t)).refill := by
  unfold State.advanceTo
  simp only [arriveUntil_quiet s routerFuel _ h]
  have h1 : ((s.passTime (max s.now t)).refill).notices = [] := by
    have := (refill_keeps (s.passTime (max s.now t))).1 .notices (by simp) (by simp)
    exact this.trans hn
  have h2 : ((s.passTime (max s.now t)).refill).pwr.prep = none := by
    have := (refill_keeps (s.passTime (max s.now t))).1 .pwr (by simp) (by simp)
    have h3 : (s.passTime (max s.now t)).refill.pwr = (s.passTime (max s.now t)).pwr := this
    rw [h3]; exact hp
  have h4 : ((s.passTime (max s.now t)).refill).commitNotices = (s.passTime (max s.now t)).refill := by
    exact commitNotices_nil _ h1
  rw [h4]
  unfold State.prepared
  rw [h2]

end Sys2Proof.Machine
end

