-- ==== Sys2Proof/Laws/Position.lean ====
section
/-! SUPPORT. The trigger generator: what a step of the position source can change beside the counter. -/

namespace Sys2Proof.Machine

/-- The registers that a step's triggers use: those of TRG and of the line links. -/
def trigReg (a : Nat) : Bool := decide ((0x60000 ≤ a ∧ a < 0x70000) ∨ (0x100000 ≤ a ∧ a < 0x1F0000))

theorem trigReg_iff (a : Nat) : trigReg a = true ↔ (0x60000 ≤ a ∧ a < 0x70000) ∨ (0x100000 ≤ a ∧ a < 0x1F0000) := by simp [trigReg]

/-- The parts that a step's triggers use. -/
def trigParts : List Part := [.out, .err, .evrQ, .trg, .trgCam, .slots, .ports, .links, .corr, .stitch, .acc, .prof, .card, .outPins]

variable (s : State)

/-- A state that differs in parts of the list only. -/
theorem parts_trig {v : State} (h : ∀ p, p ≠ .regs → p ∉ trigParts → s.agree v p) (hr : v.regs = s.regs) : s.Keeps trigParts trigReg v :=
  .of_regs _ hr h

theorem reg_trig (a : Nat) (w : Word) (h : (0x60000 ≤ a ∧ a < 0x70000) ∨ (0x100000 ≤ a ∧ a < 0x1F0000)) :
    s.Keeps trigParts trigReg (s.setReg a w) := setReg_keeps s a w _ _ ((trigReg_iff a).mpr h)

theorem emit_trig (o : Output) : s.Keeps trigParts trigReg (s.emit o) := emit_keeps s o _ _ (by simp [trigParts])

theorem giveRows_trig (m cls t : Nat) (rows : List (List (Nat × BitVec 64))) : s.Keeps trigParts trigReg (s.giveRows m cls t rows) := by
  unfold State.giveRows
  exact .ite (parts_trig s (fun p _ h => by cases p <;> first | rfl | simp [trigParts] at h) rfl) (.refl ..)

theorem sendMgmt_trig (m sub part : Nat) (d : BitVec 48) : s.Keeps trigParts trigReg (s.sendMgmt m sub part d) :=
  (giveRows_trig s _ _ _ _).trans (emit_trig _ _)

theorem sendToken_trig (n tseq phase : Nat) (c : Int) (t : Nat) : s.Keeps trigParts trigReg (s.sendToken n tseq phase c t) :=
  (giveRows_trig s _ _ _ _).trans (emit_trig _ _)

theorem setTrgCam_trig (n : Nat) (c : TrgCam) : s.Keeps trigParts trigReg (s.setTrgCam n c) :=
  parts_trig s (fun p _ h => by cases p <;> first | rfl | simp [trigParts] at h) rfl

theorem setNextLine_trig (n : Nat) (j : Int) : s.Keeps trigParts trigReg (s.setNextLine n j) := by
  unfold State.setNextLine
  split
  · next h =>
    exact (reg_trig s _ _ (.inl (by rw [Reg.TRG_NEXT_LO]; omega))).trans (reg_trig _ _ _ (.inl (by rw [Reg.TRG_NEXT_LO]; omega)))
  · exact setTrgCam_trig s _ _

theorem armCamera_trig (n : Nat) : s.Keeps trigParts trigReg (s.armCamera n) := by
  unfold State.armCamera
  exact State.Keeps.ite ((setTrgCam_trig s _ _).trans (setNextLine_trig _ _ _)) (.refl ..)

theorem armCameras_trig : s.Keeps trigParts trigReg s.armCameras := by
  unfold State.armCameras
  refine State.Keeps.ite ?_ (.refl ..)
  refine State.Keeps.trans (v := (List.range 13).foldl State.armCamera s) (State.Keeps.foldl State.armCamera (List.range 13) s fun s n _ => armCamera_trig s n) ?_
  exact parts_trig _ (fun p _ h => by cases p <;> first | rfl | simp [trigParts] at h) rfl

theorem breach_trig (code unit : Nat) (l : Option Int) : s.Keeps trigParts trigReg (s.breach code unit l) := by
  unfold State.breach
  refine State.Keeps.ite ?_ (.refl ..)
  have h1 : s.Keeps trigParts trigReg { s with err := { s.err with breaches := s.err.breaches ++ [⟨code, unit, l, true, s.now⟩] } } :=
    parts_trig s (fun p _ h => by cases p <;> first | rfl | simp [trigParts] at h) rfl
  cases l with
  | none => exact h1
  | some k =>
    refine State.Keeps.ite (h1.trans ?_) h1
    exact parts_trig _ (fun p _ h => by cases p <;> first | rfl | simp [trigParts] at h) rfl

theorem fireTrig_trig (k : Nat) : s.Keeps trigParts trigReg (s.fireTrig k) := by
  have pins (v : State) (o : OutPins) : v.Keeps trigParts trigReg { v with outPins := o } :=
    parts_trig v (fun p _ h => by cases p <;> first | rfl | simp [trigParts] at h) rfl
  unfold State.fireTrig
  refine State.Keeps.ite (.refl ..) ?_
  simp only
  split
  · refine State.Keeps.ite (State.Keeps.trans (reg_trig s _ _ (.inl (by decide))) (pins _ _)) ?_
    exact (emit_trig s _).trans (pins _ _)
  · exact (emit_trig s _).trans (pins _ _)

theorem openWindow_trig (n : Nat) (j : Int) (at_ : Nat) (hn : n < 12) : s.Keeps trigParts trigReg (s.openWindow n j at_) := by
  have port (v : State) (h : PortHid) : v.Keeps trigParts trigReg (v.setPort n h) :=
    parts_trig v (fun p _ h => by cases p <;> first | rfl | simp [trigParts] at h) rfl
  have tseq (v : State) (x : Nat) : v.Keeps trigParts trigReg (v.setFld (Reg.CAM_TSEQ n) Fld.CAM_TSEQ_NEXT x) :=
    reg_trig v _ _ (.inr (by rw [Reg.CAM_TSEQ]; omega))
  unfold State.openWindow
  simp only
  have h1 (c : Bool) (w : Window) : s.Keeps trigParts trigReg (if c = true then s.setPort n { s.port n with windows := (s.port n).windows ++ [w] } else s) :=
    State.Keeps.ite (port s _) (.refl ..)
  refine State.Keeps.ite ?_ (h1 _ _)
  refine State.Keeps.ite ((h1 _ _).trans (tseq _ _)) ?_
  exact ((h1 _ _).trans (tseq _ _)).trans (sendToken_trig _ _ _ _ _ _)

theorem fireCamera_trig (n : Nat) (j : Int) (k : Nat) (hn : n < 12) : s.Keeps trigParts trigReg (s.fireCamera n j k) := by
  unfold State.fireCamera
  simp only
  refine State.Keeps.trans ?_ (State.Keeps.foldl _ _ _ fun s x _ => fireTrig_trig s x)
  refine State.Keeps.trans ?_ (openWindow_trig _ _ _ _ hn)
  have h1 (c : Prop) [Decidable c] : s.Keeps trigParts trigReg (if c then (s.bumpBy Reg.TRG_SKIP k).breach 3 n (some j) else s) :=
    State.Keeps.ite (State.Keeps.trans (reg_trig s _ _ (.inl (by decide))) (breach_trig _ _ _ _)) (.refl ..)
  have h2 (v : State) (c : Bool) : v.Keeps trigParts trigReg (if c = true then (v.bump Reg.TRG_OVERRATE).breach 2 n (some j) else v) :=
    State.Keeps.ite (State.Keeps.trans (reg_trig v _ _ (.inl (by decide))) (breach_trig _ _ _ _)) (.refl ..)
  have h3 (v : State) : v.Keeps trigParts trigReg (v.corrTrigger n j) :=
    parts_trig v (fun p _ h => by cases p <;> first | rfl | simp [trigParts] at h) rfl
  refine State.Keeps.trans ?_ (h3 _)
  refine State.Keeps.trans ?_ (setTrgCam_trig _ _ _)
  exact (h1 _).trans (h2 _ _)

theorem refSwitches_trig (j : Int) : s.Keeps trigParts trigReg (s.refSwitches j) := by
  have h1 (v : State) : v.Keeps trigParts trigReg (v.remapDue j) := by
    unfold State.remapDue
    exact State.Keeps.ite (parts_trig v (fun p _ h => by cases p <;> first | rfl | simp [trigParts] at h) rfl) (.refl ..)
  have h2 (v : State) : v.Keeps trigParts trigReg (v.switchDue j) := by
    unfold State.switchDue
    split
    · exact .refl ..
    · exact State.Keeps.ite (parts_trig v (fun p _ h => by cases p <;> first | rfl | simp [trigParts] at h) rfl) (.refl ..)
  have h3 (v : State) : v.Keeps trigParts trigReg (v.syncLineDue j) := by
    unfold State.syncLineDue
    refine State.Keeps.ite ?_ (.refl ..)
    have k : v.Keeps trigParts trigReg { v with prof := { v.prof with pend := some (j + 4, v.trg.edge + trigLatency), waitRef := false } } :=
      parts_trig v (fun p _ h => by cases p <;> first | rfl | simp [trigParts] at h) rfl
    exact State.Keeps.ite (k.trans (sendMgmt_trig _ _ _ _ _)) k
  exact ((h1 s).trans (h2 _)).trans (h3 _)

theorem refTrigger_trig (j : Int) : s.Keeps trigParts trigReg (s.refTrigger j) := by
  unfold State.refTrigger
  simp only
  have hb (c : Bool) : s.Keeps trigParts trigReg (if c = true then s.breach 1 0 (some j) else s) :=
    State.Keeps.ite (breach_trig s _ _ _) (.refl ..)
  have ht (v : State) (x : TrgHid) : v.Keeps trigParts trigReg { v with trg := x } :=
    parts_trig v (fun p _ h => by cases p <;> first | rfl | simp [trigParts] at h) rfl
  have he (v : State) (c : Bool) (x : ErrHid) : v.Keeps trigParts trigReg (if c = true then { v with err := x } else v) :=
    State.Keeps.ite (parts_trig v (fun p _ h => by cases p <;> first | rfl | simp [trigParts] at h) rfl) (.refl ..)
  have hp (v : State) (c : Bool) (x : OutPins) : v.Keeps trigParts trigReg (if c = true then { v with outPins := x } else v) :=
    State.Keeps.ite (parts_trig v (fun p _ h => by cases p <;> first | rfl | simp [trigParts] at h) rfl) (.refl ..)
  have hm (v : State) (c : Bool) (m : LineMark) : v.Keeps trigParts trigReg (if c = true then v.noteMark j m else v) :=
    State.Keeps.ite (parts_trig v (fun p _ h => by cases p <;> first | rfl | simp [trigParts] at h) rfl) (.refl ..)
  have hs (v : State) (c : Bool) (l : List Slot) : v.Keeps trigParts trigReg (if c = true then { v with slots := l } else v) :=
    State.Keeps.ite (parts_trig v (fun p _ h => by cases p <;> first | rfl | simp [trigParts] at h) rfl) (.refl ..)
  refine State.Keeps.trans ?_ (hs _ _ _)
  refine State.Keeps.trans ?_ (hm _ _ _)
  refine State.Keeps.trans ?_ (hp _ _ _)
  refine State.Keeps.trans ?_ (he _ _ _)
  refine State.Keeps.trans ?_ (refSwitches_trig _ _)
  refine State.Keeps.trans ?_ (ht _ _)
  exact hb _

theorem stepCamera_trig (down : Bool) (n : Nat) : s.Keeps trigParts trigReg (State.stepCamera down s n) := by
  unfold State.stepCamera
  refine State.Keeps.ite ?_ (.refl ..)
  simp only
  refine State.Keeps.ite (State.Keeps.ite ?_ (.refl ..)) (State.Keeps.ite (setNextLine_trig s _ _) (.refl ..))
  split
  · next h => exact (setNextLine_trig s _ _).trans (fireCamera_trig _ _ _ _ h)
  · exact (setNextLine_trig s _ _).trans (refTrigger_trig _ _)

theorem stepCompare_trig (prev : Int) (down : Bool) (k : Nat) (hk : k < 16) : s.Keeps trigParts trigReg (State.stepCompare prev down s k) := by
  have c (v : State) (b : Bits) (x : Nat) : v.Keeps trigParts trigReg (v.setFld (Reg.TRIG_CMPCTL k) b x) :=
    reg_trig v _ _ (.inl (by rw [Reg.TRIG_CMPCTL]; omega))
  unfold State.stepCompare
  simp only
  refine State.Keeps.ite ?_ (.refl ..)
  refine State.Keeps.trans ?_ (route_keeps _ _ _ _ _ (by simp [trigParts]))
  refine State.Keeps.trans ?_ (fireTrig_trig _ _)
  refine State.Keeps.trans ?_ (reg_trig _ _ _ (.inl (by rw [Reg.TRIG_CMPTS2]; omega)))
  refine State.Keeps.trans ?_ (reg_trig _ _ _ (.inl (by rw [Reg.TRIG_CMPTS1]; omega)))
  refine State.Keeps.trans ?_ (reg_trig _ _ _ (.inl (by rw [Reg.TRIG_CMPTS0]; omega)))
  exact (c s _ _).trans (hwSet_keeps _ _ _ _ _ ((trigReg_iff _).mpr (.inl (by rw [Reg.TRIG_CMPCTL]; omega))))

/-- What a step of the source triggers changes the trigger generator, the line links and what hangs on a fired line, and no counter. -/
theorem stepTriggers_trig (prev : Int) (down : Bool) : s.Keeps trigParts trigReg (s.stepTriggers prev down) := by
  unfold State.stepTriggers
  refine State.Keeps.ite ?_ (.refl ..)
  simp only
  refine State.Keeps.trans ?_ (State.Keeps.foldl _ _ _ fun s k hk => stepCompare_trig s prev down k (List.mem_range.mp hk))
  exact State.Keeps.ite (State.Keeps.foldl (State.stepCamera down) (List.range 13) s fun s n _ => stepCamera_trig s down n) (.refl ..)

end Sys2Proof.Machine
end

