-- ==== Sys2Proof/Laws/Settle.lean ====
section
/-! SUPPORT. What follows every command: what it can change, and when it changes nothing. -/

namespace Sys2Proof.Machine

variable (s : State)

/-- The parts that what follows a command can change, beside registers. -/
def settleParts : List Part := [.out, .queues, .sram, .err, .notices, .evrQ, .links, .ports, .calRun, .corr, .stk, .outPins]

theorem admitsQueue_settle : AdmitsQueue settleParts anyReg :=
  ⟨by simp [settleParts], by simp [settleParts], by simp [settleParts], fun _ _ => rfl, rfl⟩

theorem notice_settle (code source detail : Nat) : s.Keeps settleParts anyReg (s.notice code source detail) :=
  notice_keeps s _ _ _ (by simp [ledgerParts, settleParts]) (fun _ h => by simp [anyReg] at h)

theorem reg_settle (a : Nat) (w : Word) : s.Keeps settleParts anyReg (s.setReg a w) := setReg_keeps s a w _ _ rfl

theorem emit_settle (o : Output) : s.Keeps settleParts anyReg (s.emit o) := emit_keeps s o _ _ (by simp [settleParts])

theorem event_settle (evt en n p : Nat) : s.Keeps settleParts anyReg (s.event evt en n p) :=
  event_keeps s _ _ _ _ _ _ (by simp [settleParts]) rfl

theorem setLink_keeps (m : Nat) (h : LinkHid) (P : List Part) (r : Nat → Bool) (hp : Part.links ∈ P) : s.Keeps P r (s.setLink m h) :=
  .of_regs r rfl fun p _ hq => by cases p <;> first | rfl | exact absurd hp hq

theorem setPort_keeps (m : Nat) (h : PortHid) (P : List Part) (r : Nat → Bool) (hp : Part.ports ∈ P) : s.Keeps P r (s.setPort m h) :=
  .of_regs r rfl fun p _ hq => by cases p <;> first | rfl | exact absurd hp hq

theorem setCorr_keeps (m : Nat) (h : CorrHid) (P : List Part) (r : Nat → Bool) (hp : Part.corr ∈ P) : s.Keeps P r (s.setCorr m h) :=
  .of_regs r rfl fun p _ hq => by cases p <;> first | rfl | exact absurd hp hq

theorem giveRows_settle (m cls t : Nat) (rows : List (List (Nat × BitVec 64))) : s.Keeps settleParts anyReg (s.giveRows m cls t rows) := by
  unfold State.giveRows
  exact .ite (setLink_keeps s _ _ _ _ (by simp [settleParts])) (.refl ..)

theorem sendSeam_settle (m kind chunk : Nat) (last : Bool) (line : Int) (blocks : List (BitVec 64)) :
    s.Keeps settleParts anyReg (s.sendSeam m kind chunk last line blocks) :=
  (((giveRows_settle s _ _ _ _).trans (emit_settle _ _)).trans (giveRows_settle _ _ _ _ _)).trans (emit_settle _ _)

theorem twinFrame_settle (epoch : Nat) (b : List Byte) : s.Keeps settleParts anyReg (s.twinFrame epoch b) :=
  sendSeam_settle s _ _ _ _ _ _

theorem twinFlush_settle : s.Keeps settleParts anyReg s.twinFlush :=
  State.Keeps.foldl _ _ s fun s _ _ => (twinFrame_settle s _ _).trans (qTake_keeps (q := 59) _ (by norm_num) admitsQueue_settle)

theorem tqCommit_settle (epoch : Nat) (b : List Byte) : s.Keeps settleParts anyReg (s.tqCommit epoch b).1 := by
  unfold State.tqCommit
  split
  · refine State.Keeps.trans (qCommit_keeps (q := 59) s b epoch 0 none (by norm_num) admitsQueue_settle) ?_
    refine State.Keeps.ite ?_ (.refl ..)
    exact (twinFrame_settle _ _ _).trans (qTake_keeps (q := 59) _ (by norm_num) admitsQueue_settle)
  · exact .refl ..

theorem redNotice_settle (n : Nat) : s.Keeps settleParts anyReg (s.redNotice n) := by
  unfold State.redNotice
  exact notice_settle _ _ _ _

theorem enterSolo_settle (n : Nat) : s.Keeps settleParts anyReg (s.enterSolo n) := by
  unfold State.enterSolo
  split
  · exact .refl ..
  · exact ((reg_settle s _ _).trans (hwSet_keeps _ Reg.RED_EVT 3 _ _ rfl)).trans (redNotice_settle _ _)

theorem sendRecords_settle (ns : List Nat) : s.Keeps settleParts anyReg (s.sendRecords ns) := by
  unfold State.sendRecords
  split
  · refine State.Keeps.foldl _ _ s fun s n _ => ?_
    have k := tqCommit_settle s s.red.num (s.portRecord n)
    refine State.Keeps.ite k ?_
    exact (k.trans (redNotice_settle _ _)).trans (enterSolo_settle _ _)
  · exact .refl ..

theorem linkUp_settle (m : Nat) : s.Keeps settleParts anyReg (s.linkUp m) := by
  unfold State.linkUp
  refine State.Keeps.trans ?_ (event_settle _ _ _ _ _)
  have k (h : LinkHid) : s.Keeps settleParts anyReg ((s.setFld (Reg.CAM_STATE m) Fld.CAM_STATE_LSTATE 5).setLink m h) :=
    (reg_settle s _ _).trans (setLink_keeps _ _ _ _ _ (by simp [settleParts]))
  refine State.Keeps.ite ?_ (k _)
  exact (k _).trans (reg_settle _ _ _)

theorem shadowReady_settle (n : Nat) : s.Keeps settleParts anyReg (s.shadowReady n) := by
  unfold State.shadowReady
  split
  · exact .refl ..
  · refine State.Keeps.ite ?_ (.refl ..)
    refine State.Keeps.ite ?_ (.refl ..)
    refine State.Keeps.trans ?_ (setPort_keeps _ _ _ _ _ (by simp [settleParts]))
    refine State.Keeps.trans ?_ (linkUp_settle _ _)
    refine State.Keeps.trans ?_ (reg_settle _ _ _)
    exact State.Keeps.foldl _ _ s fun s x _ => reg_settle s _ _

theorem corrDiscard_settle (p : Nat) : s.Keeps settleParts anyReg (s.corrDiscard p) :=
  ((setCorr_keeps s _ _ _ _ (by simp [settleParts])).trans (reg_settle _ _ _)).trans (reg_settle _ _ _)

theorem endPulses_settle (r : CalRun) : s.Keeps settleParts anyReg (s.endPulses r) := by
  unfold State.endPulses
  refine State.Keeps.ite (State.Keeps.trans (State.Keeps.foldl _ _ s fun s i _ => ?_) (reg_settle _ _ _)) (.refl ..)
  exact State.Keeps.foldl _ _ s fun s k _ => State.Keeps.ite (emit_settle s _) (.refl ..)

theorem calEnd_settle (a b : Nat) : s.Keeps settleParts anyReg (s.calEnd a b) := by
  unfold State.calEnd
  have last (v : State) : v.Keeps settleParts anyReg { v with calRun := none } :=
    .of_regs _ rfl fun p _ hq => by cases p <;> first | rfl | simp [settleParts] at hq
  refine State.Keeps.trans ?_ (last _)
  refine State.Keeps.trans ?_ (reg_settle _ _ _)
  refine State.Keeps.trans ?_ (reg_settle _ _ _)
  refine State.Keeps.trans ?_ (reg_settle _ _ _)
  split
  · exact State.Keeps.ite ((reg_settle _ _ _).trans (corrDiscard_settle _ _)) (endPulses_settle _ _)
  · exact .refl ..

theorem calWatch_settle (b : State) : s.Keeps settleParts anyReg (s.calWatch b) := by
  unfold State.calWatch
  split
  · repeat' refine State.Keeps.ite ?_ ?_
    all_goals first
      | exact .refl ..
      | exact calEnd_settle ..
  · exact .refl ..

theorem relayWatch_settle : s.Keeps settleParts anyReg s.relayWatch := by
  unfold State.relayWatch
  refine State.Keeps.ite (.refl ..) ?_
  exact .of_regs _ rfl fun p _ hq => by cases p <;> first | rfl | simp [settleParts] at hq

theorem hbUpdate_settle : s.Keeps settleParts anyReg s.hbUpdate := by
  unfold State.hbUpdate
  refine State.Keeps.ite (.refl ..) (State.Keeps.ite (reg_settle _ _ _) ?_)
  refine State.Keeps.trans (v := (s.setFld Reg.RED_STATUS Fld.RED_STATUS_HBRUN (b2n s.hbCondition)).twiAttn 4)
    ((reg_settle _ _ _).trans (hwSet_keeps _ _ _ _ _ rfl)) ?_
  exact .of_regs _ rfl fun p _ hq => by cases p <;> first | rfl | simp [settleParts] at hq

/-- What follows a command changes registers and the parts of a list, and nothing else. -/
theorem settle_keeps (b : State) : s.Keeps settleParts anyReg (s.settle b) := by
  unfold State.settle
  refine State.Keeps.trans ?_ (hbUpdate_settle _)
  refine State.Keeps.trans ?_ (relayWatch_settle _)
  refine State.Keeps.trans ?_ (calWatch_settle _ _)
  have h1 : s.Keeps settleParts anyReg (if (!b.twinReady && s.twinReady) = true then s.twinFlush else s) :=
    State.Keeps.ite (twinFlush_settle s) (.refl ..)
  have h2 (v : State) (c : Bool) (ns : List Nat) (h : s.Keeps settleParts anyReg v) :
      s.Keeps settleParts anyReg (if c = true then v else v.sendRecords ns) :=
    State.Keeps.ite h (h.trans (sendRecords_settle v ns))
  refine State.Keeps.ite ?_ (h2 _ _ _ h1)
  exact (h2 _ _ _ h1).trans (State.Keeps.foldl _ _ _ fun s n _ => shadowReady_settle s n)

/-- Where there is nothing to follow, nothing changes. -/
theorem settle_quiet (b : State) (hl : ∀ m, s.linkReady m = b.linkReady m) (hs : s.standbyRole = false) (hc : s.calRun = none)
    (hr : s.relayOn = s.stk.relay.isSome)
    (hb : s.HbRule) : s.settle b = s := by
  have h1 : (!b.twinReady && s.twinReady) = false := by simp [State.twinReady, hl]
  have h2 : ((List.range 12).filter fun n => s.camBound n && (b.linkReady n != s.linkReady n)) = [] := by simp [hl]
  have h3 : s.calWatch b = s := by
    unfold State.calWatch
    rw [hc]
    split
    · next h => cases h
    · rfl
  have h4 : s.relayWatch = s := by
    unfold State.relayWatch
    simp [hr]
  unfold State.settle
  simp only [h1, h2, hs, List.isEmpty_nil, Bool.not_false, Bool.and_self, if_true, Bool.false_eq_true, if_false, h3, h4]
  exact hbUpdate_of_rule s hb

end Sys2Proof.Machine
end

