-- ==== Sys2Proof/Machine/Pins.lean ====
section
/-! DEFINITION. The levels of the output pins that follow from the state: ATTN_N, the TRIG pins and the EVOUT pins. HB, HOST_RDY,
TEMP_ALERT_N and PG stand in the state itself. -/

namespace Sys2Proof.Machine

/-- Is ATTN_N pulled low (R403): an enabled attention bit is set, or the module is Frozen; in Off and in reset it is released. -/
def State.attnLow (s : State) : Bool :=
  s.mode.powered && (s.mode == .frozen || decide (s.reg Reg.OHT_ATTN &&& s.reg Reg.OHT_ATTNEN ≠ 0))

/-- Is TRIG `k` active: a pulse is in progress (R114)? -/
def State.trigActive (s : State) (k : Nat) : Bool :=
  match Store.get (fun _ => none) k s.outPins.trigEnd with
  | some (b, e) => decide (b ≤ s.now ∧ s.now < e)
  | none => false

/-- The level of TRIG `k` (R114, R116; the pin table of chapter 22): none where released, low before the first Poised, and otherwise
its active level, high when POL = 0, during a pulse. -/
def State.trigLevel (s : State) (k : Nat) : Option Bool :=
  if !s.mode.powered then none
  else if !s.mode.allOn then some false
  else some (s.trigActive k != s.flag (Reg.TRIG_CFG k) Fld.TRIG_CFG_POL)

/-- The level of EVOUT `k` (R449): none where released, and otherwise high while active when POL = 0. -/
def State.evoutLevel (s : State) (k : Nat) : Option Bool :=
  if s.mode.powered then some (s.flag (Reg.EVOUT_CFG k) Fld.EVOUT_CFG_STATE != s.flag (Reg.EVOUT_CFG k) Fld.EVOUT_CFG_POL) else none

end Sys2Proof.Machine
end

