-- ==== Sys2Proof/Tests/Slice0.lean ====
section
/-! SUPPORT. Tests of the model, each on small states: well-formedness (ill-formed terms are
refused), and for every statement states and operands that meet its hypotheses, clause by clause, with what the command does there.
Expected values are the spec's, or worked out by hand from its rules. -/

namespace Sys2Proof.Tests

open Sys2Proof Sys2Proof.Machine

-- One theorem at a time: each holds a large evaluation, and a thread for each at once needs too much memory.
set_option Elab.async false

/-! ### Helpers -/

/-- A state in an operating state, no request under way, with some register fields set. -/
def at_ (m : Mode) (fs : List (Nat × Bits × Nat)) : State :=
  fs.foldl (fun s f => s.setFld f.1 f.2.1 f.2.2) (({ State.reset with mode := m } : State).setFld Reg.PWR_STATUS Fld.PWR_STATUS_BUSY 0)

/-- From a state that meets `h`, does a command answer a next state that meets `f`? -/
def shows (s : State) (c : Instr) (h f : State → Bool) : Bool :=
  h (s.advanceTo 0) && match exec c s with
    | .next v => f v
    | _ => false

/-- Do all hold? -/
def allOf (l : List Bool) : Bool := l.all id

/-- A ledger whose slots all hold an entry of a class. -/
def fullLedger (cls : Nat) : State :=
  (List.range 32).foldl (fun s i => (s.setNum (Reg.ERR_E0 i) (0x80000 + cls * 0x10000 + 0x0701)).setNum (Reg.ERR_E7 i) i) (at_ .poised [])

/-- Poised with link `m` in a state. -/
def link (m st : Nat) (fs : List (Nat × Bits × Nat)) : State := at_ .poised ((Reg.CAM_STATE m, Fld.CAM_STATE_LSTATE, st) :: fs)

/-- Inspecting at a line rate of 10⁶ per second, with one slot of line 3 at a stage, `now` ps after its reference trigger. -/
def slotAt (stage now : Nat) (fs : List (Nat × Bits × Nat)) : State :=
  let s := at_ .inspecting ((Reg.ACC_LRMAX, Fld.ACC_LRMAX_LRMAX, 10 ^ 6) :: fs)
  { s with now := now, slots := [⟨3, 0, 0, 0, 0, stage, s.regs, 0, 1⟩] }

/-- The machine with the registers the open slot works by. -/
def slotView (s : State) : State := { s with regs := mixRegs ((s.slots.head?).elim [] Slot.regs) s.regs }

/-- The same with the line open and pipeline 0 running one column, its folio at a state. -/
def open3 (stage now : Nat) (f : FolioHid) (fs : List (Nat × Bits × Nat)) : State :=
  { slotAt stage now ((Reg.FOLIO_GEOM 0, Fld.FOLIO_GEOM_EN, 1) :: (Reg.TERR_LEN 0, ⟨0, 16⟩, 1) :: fs) with
      stitch := { State.reset.stitch with cur := some ⟨3, [], []⟩ }, folio := [(0, f)] }

/-- Queue `q` with a size. -/
def sized (m : Mode) (q size : Nat) (fs : List (Nat × Bits × Nat)) : State := at_ m ((Reg.Q_CFG q, Fld.Q_CFG_SIZE, size) :: fs)

/-- Sub-port 0 of host port A with link, and the control channel. -/
def host (m : Mode) (fs : List (Nat × Bits × Nat)) : State :=
  let s := at_ m ([(Reg.SP_IPV4 0 0, ⟨0, 32⟩, 0x0100000A), (Reg.HOST_CTRL 0, Fld.HOST_CTRL_EN, 1), (Reg.HOST_STATUS 0, Fld.HOST_STATUS_LINK, 1), (Reg.OHT_CTRL, Fld.OHT_CTRL_EN, 1)] ++ fs)
  { s with regs := Store.put (Reg.SP_MAC_LO 0 0) 0x44332210 (Store.put (Reg.SP_MAC_HI 0 0) 0 s.regs) }

/-- Does a state meet a statement's hypotheses at once? Used where the next state holds a free value, which cannot be evaluated. -/
def meets (s : State) (h : State → Bool) : Bool := h (s.advanceTo 0)

/-- With an item of the event router next, does the step that takes it answer a next state that meets `f`? -/
def arrives (s : State) (w : EvrWait) (h f : State → Bool) : Bool :=
  let s := { s with evrQ := [w] }
  h (s.passTime (max s.now w.due)) && match step s with
    | .next v => f v
    | _ => false
/-! ### The machine, accesses, the ledger, power and starting -/

/-- Witness of StepTakesTheFrontCommand, TimePasses, WhatFollowsACommand, HbRuleIsKept. -/
theorem witness_machine :
    (State.reset.pending = [] ∧ State.reset.evrQ = []) ∧
    (earliest (at_ .poised []).evrQ = none ∧ earliest ((at_ .poised []).route 5 (.task 0)).evrQ = some ⟨5, .task 0⟩) ∧
    ((∀ w ∈ (at_ .poised []).evrQ, max 0 7 < w.due) ∧ (at_ .poised []).notices = [] ∧ (at_ .poised []).pwr.prep = none) ∧
    ((at_ .poised []).standbyRole = false ∧ (at_ .poised []).calRun = none ∧ (at_ .poised []).relayOn = (at_ .poised []).stk.relay.isSome) ∧
    (at_ .poised []).flag Reg.RED_STATUS Fld.RED_STATUS_HBRUN = (at_ .poised []).hbCondition ∧
    (at_ .inspecting [(Reg.RED_STATUS, Fld.RED_STATUS_HBRUN, 1)]).flag Reg.RED_STATUS Fld.RED_STATUS_HBRUN
      = (at_ .inspecting [(Reg.RED_STATUS, Fld.RED_STATUS_HBRUN, 1)]).hbCondition := by decide +kernel

/-- Witness of RejectedAccess. -/
theorem witness_rejected : allOf [
    shows (at_ .poised []) (.captureRead 0 (.oht 0) 0x10001) (fun u => u.reaches (.oht 0) && !u.readable 0x10001)
      fun v => v.out == [.readWord 0x10001 0] && v.fld (Reg.ERR_E0 0) Fld.ERR_E0_CODE == 0x0101,
    shows (at_ .standby []) (.captureRead 0 .twi 0x100000) (fun u => u.reaches .twi && !u.readable 0x100000) fun v => v.out == [.readWord 0x100000 0],
    shows (at_ .frozen []) (.registerWrite 0 .twi 0x50000 1) (fun u => !u.answersWrite 0x50000 1) fun v => v.fld (Reg.ERR_E0 0) Fld.ERR_E0_CODE == 0x0102,
    shows (at_ .poised []) (.registerWrite 0 .twi 0x10002 1) (fun u => u.reaches .twi) fun v => v.reg (Reg.ERR_E1 0) == 0x10002#32,
    shows (at_ .poised []) (.registerWrite 0 .twi (0xF0134 + 0x40 * 59) 1) (fun _ => badPort (0xF0134 + 0x40 * 59))
      fun v => v.fld (Reg.ERR_E0 0) Fld.ERR_E0_CODE == 0x0102] = true := by decide +kernel

/-- Witness of WhereAccessIsAnswered. -/
theorem witness_where : allOf [
    blockAt 0x360000 == none && !inFolio 0x360000 && !inWindow 0x360000,
    shows (at_ .standby []) (.registerWrite 0 .twi 0x320000 1) (fun u => !u.mode.allOn && blockAt 0x320000 == some (.memc, 0x320000) && !isAo .memc)
      fun v => v.fld (Reg.ERR_E0 0) Fld.ERR_E0_CODE == 0x0102,
    shows (at_ .frozen []) (.registerWrite 0 .twi 0x50000 1) (fun _ => blockAt 0x50000 == some (.pos, 0x50000)) fun v => v.heldSlots == [0],
    shows (at_ .inspecting []) (.registerWrite 0 (.oht 0) 0x800000 1) (fun _ => inWindow 0x800000) fun v => v.sram == [] && v.heldSlots == [0],
    shows (at_ .standby []) (.registerWrite 0 (.oht 0) 0x50000 1) (fun u => !u.reaches (.oht 0)) fun v => v.heldSlots == []] = true := by decide +kernel

/-- Witness of UndefinedRegister: an address of the block SYS at which no register stands. -/
theorem witness_undefined : allOf [
    shows (at_ .poised []) (.captureRead 0 (.oht 1) 0xFFF0) (fun u => u.readable 0xFFF0 && (blockAt 0xFFF0).isSome && kindAt 0xFFF0 == none)
      fun v => v.out == [.readWord 0xFFF0 0] && v.heldSlots == [],
    shows (at_ .poised []) (.registerWrite 0 (.oht 1) 0xFFF0 0xFFFFFFFF) (fun u => u.performs 0xFFF0 0xFFFFFFFF)
      fun v => v.regs == (at_ .poised []).regs && v.heldSlots == []] = true := by decide +kernel

/-- Witness of SramWindow: the last word of the page 5, the page 6, a write in Inspecting. -/
theorem witness_window : allOf [
    shows (at_ .poised [(Reg.SYS_SRAMPG, Fld.SYS_SRAMPG_PAGE, 5)]) (.registerWrite 0 (.oht 0) 0xFFFFFC 0x04030201) (fun _ => true)
      fun v => v.sram == [(0x2FFFFFC, 1), (0x2FFFFFD, 2), (0x2FFFFFE, 3), (0x2FFFFFF, 4)],
    shows { at_ .frozen [] with sram := [(0, 0x11), (3, 0x44)] } (.captureRead 0 .twi 0x800000) (fun u => u.pwr.refclk && u.mode == .frozen)
      fun v => v.out == [.readWord 0x800000 0x44000011],
    shows (at_ .halted [(Reg.SYS_SRAMPG, Fld.SYS_SRAMPG_PAGE, 6)]) (.registerWrite 0 (.oht 0) 0x800000 1) (fun u => u.mode.active) fun v => v.sram == [],
    shows (at_ .inspecting [(Reg.SYS_SRAMPG, Fld.SYS_SRAMPG_PAGE, 6)]) (.captureRead 0 .twi 0x800000) (fun u => u.mode.active)
      fun v => v.out == [.readWord 0x800000 0]] = true := by decide +kernel

/-- Witness of FieldsFollowTheirAccess and RegisterWriteSetsFields: PTP, PWR, TWI, CARD and SEG registers, a pair of OHT, a refused RWH field. -/
theorem witness_fields : allOf [
    (kindAt Reg.TWI_ATTN).isSome && (kindAt Reg.RED_CFG).isSome && ((at_ .inspecting []).written Reg.RED_CFG 1).hold && !((at_ .poised []).written Reg.RED_CFG 1).hold,
    ((at_ .poised [(Reg.ACC_STATUS, Fld.ACC_STATUS_SSTATE, 2)]).written (Reg.CARD_ROUTE 0) 0x1).stage == ((at_ .poised [(Reg.ACC_STATUS, Fld.ACC_STATUS_SSTATE, 2)]).sealed (Reg.CARD_ROUTE 0)),
    (({ at_ .poised [] with raised := (0, [(Reg.POS_EVT, 3)]) } : State).setNum Reg.POS_EVT 0x18 |>.written Reg.POS_EVT 0x18).word == 8 &&
      ((at_ .poised []).setNum Reg.POS_EVT 0x18 |>.written Reg.POS_EVT 0x10).word == 8,
    shows (at_ .poised []) (.registerWrite 0 (.oht 0) Reg.TWI_CTRL 0x3)
      (fun u => u.performs Reg.TWI_CTRL 3 && (match blockAt Reg.TWI_CTRL with | some (b, base) => plainBlock b && clearsOf b (Reg.TWI_CTRL - base) == none | none => false))
      fun v => v.num Reg.TWI_CTRL == 3] = true := by decide +kernel

/-- Witness of CaptureRead: a pair and a group, and the second path that still sees the moment. -/
theorem witness_capture : allOf [
    shows (at_ .poised []) (.captureRead 0 (.oht 0) Reg.RED_EPOCH_LO) (fun u => u.readable Reg.RED_EPOCH_LO && !stepsOnRead Reg.RED_EPOCH_LO &&
      ((kindAt Reg.RED_EPOCH_LO).map RegKind.tie) == some .lo) fun v => v.captured.length == 1 && v.out == [.readWord Reg.RED_EPOCH_LO 0],
    shows { at_ .poised [] with captured := [(latchKey (.oht 0) Reg.RED_EPOCH_LO, some 7)] } (.captureRead 0 (.oht 0) Reg.RED_EPOCH_LO) (fun u => u.readable Reg.RED_EPOCH_LO)
      fun v => v.captured.length == 1 && v.out == [.readWord Reg.RED_EPOCH_LO 7],
    shows (at_ .standby []) (.captureRead 0 .twi Reg.TWI_SUM) (fun u => u.readable Reg.TWI_SUM) fun v => v.captured == [] && v.out.length == 1,
    ((kindAt Reg.TIME_NOW_FRAC).map fun k => match k.tie with | .head _ => true | _ => false) == some true] = true := by decide +kernel

/-- Witness of CounterClear: bits 0 and 1 of ERR_CNTCLR, and a LANE_CLR. -/
theorem witness_clear : allOf [
    shows (at_ .halted [(Reg.ERR_DROP, ⟨0, 32⟩, 7), (Reg.ERR_OVWR, ⟨0, 32⟩, 9)]) (.counterClear 0 .twi 0x2001C 1)
      (fun u => u.performs 0x2001C 1 && (kindAt 0x2001C).isSome && clearsOf .err 0x1C == some (0x14, 2)) fun v => v.num 0x20014 == 0 && (v.num 0x20018 == 9 || v.num 0x20018 == 7),
    shows (at_ .poised [(Reg.LANE_BIP 0 1, ⟨0, 32⟩, 5), (Reg.LANE_LOCKLOSS 0 1, ⟨0, 32⟩, 6)]) (.counterClear 0 (.oht 2) 0x100130 8)
      (fun u => u.performs 0x100130 8 && (kindAt 0x100130).isSome) fun v => v.num (Reg.LANE_BIP 0 1) == 0 && v.num (Reg.LANE_LOCKLOSS 0 1) == 6] = true := by
  decide +kernel

/-- Witness of EntryIsRecorded, RepeatedNoticeCounts, FullLedger and ClassesAct. -/
theorem witness_ledger : allOf [
    (at_ .poised []).freeSlot == some 0 && (at_ .poised []).repeats 0x0102 0xFF 4 == none && (at_ .poised []).err.cycle == [],
    ((at_ .poised []).logEntry 0x0102 0 0xFF 4).num (Reg.ERR_E0 0) == 0xFF080102,
    (fullLedger 0).freeSlot == none && (fullLedger 0).oldestOf (fullLedger 0).heldSlots == some 0 && (fullLedger 0).newestOf (fullLedger 0).heldSlots == some 31,
    ((fullLedger 0).logEntry 0x0701 0 0 0).fld (Reg.ERR_E4 31) Fld.ERR_E4_REPEAT == 1,
    ((fullLedger 0).logEntry 0x0801 1 0 0).fld (Reg.ERR_E0 0) Fld.ERR_E0_CODE == 0x0801,
    ((fullLedger 1).logEntry 0x0801 1 0 0).num Reg.ERR_DROP == 1 && ((fullLedger 1).heldSlots.filter fun i => (fullLedger 1).fld (Reg.ERR_E0 i) Fld.ERR_E0_CLASS == 0) == [],
    (at_ .frozen []).handled 2 && (at_ .inspecting [(Reg.ERR_STATUS, Fld.ERR_STATUS_HALTING, 1)]).handled 1,
    ((at_ .poised []).record 0x0801 1 0 0).mode == .halted && ((at_ .inspecting []).record 0x0801 1 0 0).err.breaches.length == 1,
    ((at_ .standby []).record 0x0801 1 0 0).mode == .standby && ((at_ .starting []).record 0x0801 2 0 0).mode == .frozen,
    ((at_ .halted []).record 0x0702 2 0 0).fld Reg.MEMC_STATUS Fld.MEMC_STATUS_STATE == 3] = true := by decide +kernel

/-- Halted, with the room that a restart asks of circulation queue 0 and GDDR6 ready. -/
def restartable : State := at_ .halted [(Reg.MEMC_STATUS, Fld.MEMC_STATUS_STATE, 2), (Reg.Q_CFG 60, Fld.Q_CFG_SIZE, 8192)]

/-- Witness of ErrorRows. -/
theorem witness_errors : allOf [
    shows (fullLedger 0) (.errAck 0 .twi 30) (fun u => u.performs Reg.ERR_ACK 30) fun v => v.heldSlots == [31],
    shows (at_ .poised []) (.restart 0 (.oht 0) 0 5) (fun u => u.performs Reg.ERR_CTRL 1 && (u.writeReg (.oht 0) Reg.ERR_CTRL 1).restartFault != 0)
      fun v => v.fld Reg.ERR_CTRL Fld.ERR_CTRL_RSTRES == 1,
    shows restartable (.restart 0 (.oht 0) 0 5) (fun u => (u.writeReg (.oht 0) Reg.ERR_CTRL 1).restartFault == 0 && !u.flag Reg.PWR_STATUS Fld.PWR_STATUS_BUSY)
      fun v => v.err.restarting && v.pwr.prep == some 5000,
    shows (at_ .poised []) (.watchdog 0 3) (fun u => u.mode.allOn) fun v => v.mode == .frozen && v.reg (Reg.ERR_E1 0) == 3,
    shows (at_ .halted []) (.sramEccError 0 64 false) (fun u => u.mode.allOn) fun v => v.mode == .frozen,
    shows (at_ .halted []) (.sramEccError 0 64 true) (fun u => u.mode.allOn) fun v => v.mode == .halted && v.fld (Reg.ERR_E0 0) Fld.ERR_E0_CODE == 0x0705,
    shows (at_ .poised []) (.fwFault 0 9 true) (fun u => u.mode.allOn) fun v => v.mode == .halted,
    shows (at_ .poised []) (.fwFault 0 9 false) (fun u => u.mode.allOn) fun v => v.mode == .poised] = true := by decide +kernel

/-- Poised with a card that the host has not returned. -/
def holding : State := (at_ .poised []).setQueue 60 { (at_ .poised []).queue 60 with packets := [⟨128, 1, 1, none, none, false⟩] }

/-- Witness of WhatTurnsOff. -/
theorem witness_off : allOf [
    shows (at_ .inspecting []) (.enFall 0) (fun u => u.mode != .off) fun v => v.mode == .off && v.regs == [],
    shows (at_ .off []) (.enFall 0) (fun u => u.mode == .off) fun v => v.pwr.enLowAt == some 0,
    shows (at_ .frozen []) (.resetAssert 0) (fun u => u.pins.en) fun v => v.mode == .inReset && !v.pins.resetN,
    shows (at_ .standby []) (.powerFault 0) (fun u => u.mode.powered) fun v => v.mode == .off,
    shows (at_ .poised []) (.vioFault 0) (fun u => u.mode.powered) fun v => v.mode == .off,
    shows (at_ .frozen []) (.reqOff 0 .twi 0) (fun u => u.answersWrite Reg.PWR_CTRL (reqWord 0 4) && !u.holdsCards) fun v => v.mode == .off && v.pwr.offHeld,
    shows holding (.reqOff 0 (.oht 0) 8) (fun u => u.holdsCards && getBits 8 Fld.PWR_CTRL_FORCE == 1) fun v => v.mode == .off,
    shows holding (.reqOff 0 (.oht 0) 0) (fun u => u.holdsCards && u.reaches (.oht 0) && !u.flag Reg.PWR_STATUS Fld.PWR_STATUS_BUSY)
      fun v => v.mode == .poised && v.fld Reg.PWR_STATUS Fld.PWR_STATUS_REQRES == 7] = true := by decide +kernel

/-- Witness of SupplyAndClocks: the temperatures 104, 105 and 115 °C. -/
theorem witness_supply : allOf [
    shows (at_ .poised []) (.railWindowExit 0 0) (fun u => u.mode.powered && bit u.neededRails 0) fun v => !v.outPins.pg,
    shows (at_ .poised [(Reg.PWR_RAILS, ⟨0, 7⟩, 0x7E)]) (.railWindowReturn 0 0)
      (fun u => bit u.neededRails 0 && (List.range 7).all fun r => r == 0 || !bit u.neededRails r || u.flag Reg.PWR_RAILS ⟨r, 1⟩) fun v => v.outPins.pg,
    shows (at_ .inspecting []) (.refclkLoss 0 false) (fun u => u.mode.active) fun v => v.mode == .standby && !v.pwr.refclk,
    shows (at_ .halted []) (.refclkLoss 0 true) (fun u => u.mode.active) fun v => v.flag Reg.PWR_CAUSE Fld.PWR_CAUSE_PLLUNLOCK,
    shows (at_ .standby []) (.refclkReturn 0) (fun _ => true) fun v => v.pwr.refclk,
    shows (at_ .standby []) (.aoclkLoss 0) (fun u => u.mode.powered) fun v => v.flag Reg.PWR_CAUSE Fld.PWR_CAUSE_AOFALLBACK,
    shows (at_ .poised [(Reg.PWR_CAUSE, Fld.PWR_CAUSE_AOFALLBACK, 1)]) (.aoclkRecovery 0) (fun u => u.mode.powered) fun v => !v.flag Reg.PWR_CAUSE Fld.PWR_CAUSE_AOFALLBACK,
    shows (at_ .poised []) (.tempMeasure 0 104 5000 9000) (fun u => u.mode.powered) fun v => v.outPins.tempAlert && signed 8 (v.fld Reg.PWR_TEMP Fld.PWR_TEMP_TJ) == 104,
    shows (at_ .poised []) (.tempMeasure 0 (-40) 5000 9000) (fun u => u.mode.powered) fun v => !v.outPins.tempAlert && signed 8 (v.fld Reg.PWR_TEMP Fld.PWR_TEMP_TJ) == -40,
    shows (at_ .poised []) (.tempMeasure 0 105 5000 9000) (fun u => !u.pwr.hot) fun v => v.mode == .halted && v.pwr.hot,
    shows (at_ .poised []) (.tempMeasure 0 115 5000 9000) (fun u => u.mode.powered) fun v => v.mode == .off] = true := by decide +kernel

/-- Poised, with a collection accepted and live in which no camera and no seam is bound, and GDDR6 ready. -/
def ready : State := at_ .poised [(Reg.MEMC_STATUS, Fld.MEMC_STATUS_STATE, 2), (Reg.ACC_STATUS, Fld.ACC_STATUS_LIVE, 1)]

/-- One slot of line 5. -/
def slot5 : Slot := ⟨5, 0, 0, 0, 0, 0, [], 0, 1⟩

/-- A start in which everything goes well. -/
def run0 : StartRun := ⟨0, true, none, none, false, 0, true, [], true, true⟩

/-- Witness of Requests. -/
theorem witness_requests : allOf [
    shows (at_ .standby [(Reg.PWR_STATUS, Fld.PWR_STATUS_BUSY, 1)]) (.reqStandby 0 .twi 0) (fun u => u.reaches .twi && u.flag Reg.PWR_STATUS Fld.PWR_STATUS_BUSY)
      fun v => v.fld Reg.PWR_STATUS Fld.PWR_STATUS_REQRES == 8,
    shows (at_ .inspecting [(Reg.PWR_STATUS, Fld.PWR_STATUS_BUSY, 1)]) (.reqOff 0 (.oht 0) 0) (fun u => !u.flag Reg.PWR_STATUS Fld.PWR_STATUS_WAITTRIG)
      fun v => v.mode == .inspecting && v.fld Reg.PWR_STATUS Fld.PWR_STATUS_REQRES == 8,
    shows (at_ .inspecting []) (.reqStandby 0 (.oht 0) 0) (fun u => u.mode == .inspecting) fun v => v.fld Reg.PWR_STATUS Fld.PWR_STATUS_REQRES == 1,
    shows (at_ .halted []) (.reqStandby 0 (.oht 0) 0) (fun u => !u.holdsCards) fun v => v.mode == .standby,
    shows (at_ .inspecting []) (.reqPoised 0 (.oht 0) 0 run0) (fun u => u.reaches (.oht 0)) fun v => v.err.stopReq && v.flag Reg.PWR_STATUS Fld.PWR_STATUS_BUSY,
    shows (at_ .halted []) (.reqPoised 0 (.oht 0) 0 run0) (fun u => u.err.boundary.isNone && u.acc.pool.isNone) fun v => v.mode == .poised,
    shows (at_ .poised []) (.reqPoised 0 (.oht 0) 0 run0) (fun u => !u.flag Reg.PWR_STATUS Fld.PWR_STATUS_WAITTRIG) fun v => v.fld Reg.PWR_STATUS Fld.PWR_STATUS_REQRES == 1,
    shows (at_ .poised []) (.reqInspect 0 (.oht 0) 0 7) (fun u => (u.writeReg (.oht 0) Reg.PWR_CTRL (reqWord 0 3)).inspectFault == 2)
      fun v => v.mode == .poised && v.fld Reg.PWR_STATUS Fld.PWR_STATUS_REQRES == 2,
    shows ready (.reqInspect 0 (.oht 0) 0 7) (fun u => (u.writeReg (.oht 0) Reg.PWR_CTRL (reqWord 0 3)).inspectFault == 0)
      fun v => v.pwr.prep == some 7000 && v.num Reg.PWR_TINSP == 7,
    shows (at_ .poised [(Reg.PWR_STATUS, Fld.PWR_STATUS_FAILS, 3)]) (.clrfail 0 .twi 0) (fun u => u.mode != .frozen && getBits 0 Fld.PWR_CTRL_REQ == 0)
      fun v => v.fld Reg.PWR_STATUS Fld.PWR_STATUS_FAILS == 0,
    shows { at_ .inspecting [] with err := { State.reset.err with boundary := some 5, stopReq := true } } (.inspectionStop 0) (fun u => u.dueBreaches 5 == [])
      fun v => v.mode == .poised,
    shows { at_ .poised [(Reg.PWR_STATUS, Fld.PWR_STATUS_WAITTRIG, 1)] with slots := [slot5] } (.inspectEntry 0) (fun u => u.mode.allOn)
      fun v => v.mode == .inspecting && v.prof.atNext] = true := by decide +kernel

/-- Witness of Starting. -/
theorem witness_starting : allOf [
    shows (at_ .starting []) (.coldStart 0 3 5 run0) (fun u => u.mayStart) fun v => v.mode == .standby && v.pins.twAddr == 5,
    shows { at_ .off [] with pwr := { State.reset.pwr with offHeld := true } } (.coldStart 0 0 0 run0) (fun u => !u.mayStart) fun v => v.mode == .off,
    shows (at_ .standby [(Reg.PWR_STATUS, Fld.PWR_STATUS_BUSY, 1), (Reg.PWR_STATUS, Fld.PWR_STATUS_TARGET, 2)]) (.coldStart 0 0 0 { run0 with pll := false })
      (fun u => u.pwr.bootWait.isNone) fun v => v.fld Reg.PWR_STATUS Fld.PWR_STATUS_STARTRES == 1,
    run0.memOk && run0.fwOk,
    shows { at_ .standby [] with pwr := { State.reset.pwr with bootWait := some 0 } } (.bootGo 0 .twi 1 [] true run0)
      (fun u => u.reaches .twi && u.answersWrite Reg.SYS_BOOTCTL 1 && u.pwr.go.isNone) fun v => v.pwr.bootWait != some 0 || v.mode == .standby,
    shows { at_ .standby [] with now := 60 * 10 ^ 12, pwr := { State.reset.pwr with bootWait := some 0 } } (.hosttmo 0) (fun u => u.pwr.go.isNone)
      fun v => v.fld Reg.PWR_STATUS Fld.PWR_STATUS_STARTRES == 7] = true := by decide +kernel

/-! ### Position, triggers and links -/

/-- Poised with every position input enabled. -/
def enc (fs : List (Nat × Bits × Nat)) : State := at_ .poised ((Reg.POS_CTRL, Fld.POS_CTRL_INEN, 63) :: fs)

/-- Its count at 5 between soft limits 5 and 6. -/
def limited : State :=
  ((((enc []).set48 (Reg.IN_CNT_LO 0) 5).set48 (Reg.IN_SOFTLO_LO 0) 5).set48 (Reg.IN_SOFTHI_LO 0) 6)

/-- An edge on A of input 0, or on B, to a level, at time 0, the other signal low. -/
def edge0 (onB level : Bool) : EvrWait := ⟨2000, .edge 0 onB level false 0⟩

/-- Witness of PositionInputs, quadrature: an edge that comes, beside an undecided one, one that is decided up and into the limit, pairs, a disabled input. -/
theorem witness_quadrature : allOf [
    shows limited (.quadratureEdge 0 0 true false 0 false) (fun u => u.inputEnabled 0 && u.evrQ == []) fun v => v.evrQ == [edge0 false true] && (v.posIn 0).a && v.get48 (Reg.IN_CNT_LO 0) == 5,
    shows limited (.quadratureEdge 0 0 false true 0 false) (fun u => !(u.posIn 0).b) fun v => v.evrQ == [edge0 true true],
    shows { limited with now := 1999, evrQ := [edge0 true true] } (.quadratureEdge 0 0 true false 0 false) (fun u => u.inputEnabled 0) fun v => v.evrQ == [] && v.num (Reg.IN_QERR 0) == 1,
    shows { limited with now := 1999, evrQ := [edge0 false true] } (.quadratureEdge 0 0 false true 0 false) (fun u => u.now < 0 + 2000) fun v => v.evrQ == [] && v.num (Reg.IN_QERR 0) == 1,
    shows (enc []) (.quadratureEdge 0 3 true true 1999 false) (fun u => u.inputEnabled 3) fun v => v.num (Reg.IN_QERR 3) == 1 && v.get48 (Reg.IN_CNT_LO 3) == 0 && v.evrQ == [],
    shows (enc []) (.quadratureEdge 0 0 true true 20000 true) (fun u => u.inputEnabled 0) fun v => v.evrQ == [edge0 true true, ⟨22000, .edge 0 false true true 20000⟩],
    shows (at_ .poised []) (.quadratureEdge 0 1 true false 0 false) (fun u => !u.inputEnabled 1) fun v => v.evrQ == [] && (v.posIn 1).a,
    arrives limited (edge0 false true) (fun y => y.get48 (Reg.IN_CNT_LO 0) + 1 ≤ y.get48 (Reg.IN_SOFTHI_LO 0)) fun v => v.get48 (Reg.IN_CNT_LO 0) == 6 && !v.flag (Reg.IN_STATUS 0) Fld.IN_STATUS_DIR,
    arrives limited (edge0 true true) (fun y => y.get48 (Reg.IN_CNT_LO 0) - 1 < y.get48 (Reg.IN_SOFTLO_LO 0))
      fun v => v.get48 (Reg.IN_CNT_LO 0) == 5 && v.num (Reg.IN_SATCNT 0) == 1 && v.flag (Reg.IN_STATUS 0) Fld.IN_STATUS_SATLO,
    arrives (at_ .poised []) (edge0 false true) (fun y => !y.inputEnabled 0) fun v => v.get48 (Reg.IN_CNT_LO 0) == 0,
    shows { enc [(Reg.IN_CFG 0, Fld.IN_CFG_STALL, 0), (Reg.IN_SPEED 0, ⟨0, 32⟩, 9)] with now := 10 ^ 6, pos := [(0, { posIn0 0 with moved := some 0 })] } (.stall 0 0)
      (fun u => u.now == 10 ^ 6) fun v => v.num (Reg.IN_SPEED 0) == 0] = true := by decide +kernel

/-- A Z edge of input 0, and a frame of port 0 whose latch pulse came at time 0. -/
def zEdge : EvrWait := ⟨2000, .index 0⟩
/-- The same for a frame. -/
def frame4 (pos check : Nat) : EvrWait := ⟨2000, .frame 4 false pos check 0⟩

/-- A serial port 0 of 8 bits that stood at a position, its count at 5 between -2 and 6. -/
def serial (prev : Option Nat) (fs : List (Nat × Bits × Nat)) : State :=
  { ((((enc ((Reg.SPOS_CFG 0, Fld.SPOS_CFG_POSBITS, 8) :: fs)).set48 (Reg.IN_CNT_LO 4) 5).set48 (Reg.IN_SOFTLO_LO 4) (-2)).set48 (Reg.IN_SOFTHI_LO 4) 6) with
      pos := [(4, { posIn0 4 with prevPos := prev })] }

/-- Witness of PositionInputs, index and serial ports: home, no period, within the tolerance, beyond it with both policies; frames. -/
theorem witness_index : allOf [
    shows (enc []) (.indexEdge 0 0 true) (fun u => !(u.posIn 0).z && u.inputEnabled 0) fun v => v.evrQ == [zEdge] && (v.posIn 0).z,
    shows (at_ .poised []) (.indexEdge 0 0 true) (fun u => !u.inputEnabled 0) fun v => v.evrQ == [] && (v.posIn 0).z,
    arrives ((enc [(Reg.IN_CFG 0, Fld.IN_CFG_HOME, 1)]).set48 (Reg.IN_IDXREF_LO 0) 77) zEdge (fun y => y.mode.powered)
      fun v => v.get48 (Reg.IN_CNT_LO 0) == 77 && !v.flag (Reg.IN_CFG 0) Fld.IN_CFG_HOME,
    arrives ((enc []).set48 (Reg.IN_CNT_LO 0) 9) zEdge (fun y => y.num (Reg.IN_IDXPER 0) == 0) fun v => v.get48 (Reg.IN_IDXACT_LO 0) == 9,
    arrives ((enc [(Reg.IN_IDXPER 0, ⟨0, 32⟩, 100), (Reg.IN_IDXTOL 0, ⟨0, 16⟩, 2)]).set48 (Reg.IN_CNT_LO 0) 198) zEdge (fun _ => true) fun v => v.num (Reg.IN_IDXERR 0) == 0,
    arrives ((enc [(Reg.IN_IDXPER 0, ⟨0, 32⟩, 100), (Reg.IN_IDXTOL 0, ⟨0, 16⟩, 1)]).set48 (Reg.IN_CNT_LO 0) 198) zEdge (fun _ => true)
      fun v => v.num (Reg.IN_IDXERR 0) == 1 && v.get48 (Reg.IN_CNT_LO 0) == 198,
    arrives ((enc [(Reg.IN_IDXPER 0, ⟨0, 32⟩, 100), (Reg.IN_IDXTOL 0, ⟨0, 16⟩, 1), (Reg.IN_CFG 0, Fld.IN_CFG_IDXPOL, 1)]).set48 (Reg.IN_CNT_LO 0) 198) zEdge (fun _ => true)
      fun v => v.get48 (Reg.IN_CNT_LO 0) == 200 && v.num (Reg.IN_IDXERR 0) == 1,
    shows (enc []) (.sposPoll 0 4) (fun u => (u.posIn 4).frameAt.isNone) fun v => (v.posIn 4).frameAt == some 0 && v.out == [.sposClk 0 500],
    shows { enc [] with pos := [(4, { posIn0 4 with frameAt := some 0 })] } (.sposFrame 0 4 false 7 0) (fun u => u.inputEnabled 4) fun v => v.evrQ == [frame4 7 0] && (v.posIn 4).frameAt == none,
    arrives (serial none []) (frame4 4 0) (fun y => !y.frameBad 4 false 4 0) fun v => v.get48 (Reg.IN_CNT_LO 4) == 4 && (v.posIn 4).prevPos == some 4,
    arrives (serial (some 255) []) (frame4 0 0) (fun y => !y.frameBad 4 false 0 0) fun v => v.get48 (Reg.IN_CNT_LO 4) == 6 && (v.posIn 4).prevPos == some 0,
    arrives (serial (some 8) []) (frame4 0 0) (fun y => !y.frameBad 4 false 0 0) fun v => v.get48 (Reg.IN_CNT_LO 4) == -2 && v.num (Reg.IN_SATCNT 4) == 1,
    arrives (serial (some 0) []) (frame4 3 0) (fun y => !y.frameBad 4 false 3 0) fun v => v.get48 (Reg.IN_CNT_LO 4) == 6 && v.num (Reg.IN_SATCNT 4) == 2,
    arrives (serial none [(Reg.SPOS_CFG 0, Fld.SPOS_CFG_CRC, 1)]) (frame4 7 0xF) (fun y => y.frameBad 4 false 7 0xF) fun v => v.num (Reg.IN_FRAMEERR 4) == 1 && v.get48 (Reg.IN_CNT_LO 4) == 5,
    shows { enc [] with now := 10 ^ 9, pos := [(5, { posIn0 5 with frameAt := some 0 })] } (.leadinTimeout 0 5)
      (fun u => u.inputEnabled 5)
      fun v => v.num (Reg.IN_TMOCNT 5) == 1] = true := by decide +kernel

/-- Lines of 10 counts each. -/
def pitched (m : Mode) (fs : List (Nat × Bits × Nat)) : State := at_ m ((Reg.TRG_PITCH_NUM, ⟨0, 32⟩, 10) :: (Reg.TRG_PITCH_DEN, ⟨0, 32⟩, 1) :: fs)

/-- Witness of ArmedLineIsTheNext and TriggerRows. -/
theorem witness_triggers : allOf [
    (pitched .poised []).pitchOk && (pitched .poised []).lineAbove 12 9 == 1 && (pitched .poised []).lineAbove 12 10 == 2,
    shows (pitched .poised [(Reg.TRG_CAMCFG 3, Fld.TRG_CAMCFG_EN, 1)]) (.triggerEnable 0 (.oht 0) 0) (fun u => u.performs Reg.TRG_CTRL 1 && u.trgEnabled 3)
      fun v => (v.trgCamOf 3).armed && v.getS64 (Reg.TRG_NEXT_LO 3) == 1,
    shows (at_ .inspecting []) (.arm 0 (.oht 0) 15 0) (fun u => u.performs (Reg.TRIG_CMPCTL 15) 1) fun v => v.flag (Reg.TRIG_CMPCTL 15) Fld.TRIG_CMPCTL_ARMED,
    shows (at_ .standby []) (.home 0 .twi 2 0) (fun u => u.performs (Reg.IN_CFG 2) 0x10) fun v => v.flag (Reg.IN_CFG 2) Fld.IN_CFG_HOME,
    shows (at_ .halted []) (.softLimitWrite 0 (.oht 0) 1 true 0x8000 0x9) (fun u => u.reaches (.oht 0))
      fun v => v.num (Reg.IN_SOFTHI_LO 1) == 9 && v.num (Reg.IN_SOFTHI_LO 1 + 4) == 0xFFFF8000 || v.num (Reg.IN_SOFTHI_LO 1) == 0x8000,
    shows { at_ .poised [] with outPins := { State.reset.outPins with trigEnd := [(2, some (0, 5))] }, now := 5 } (.trigPulseEnd 0 2) (fun _ => true) fun v => v.out == [.trigEnd 2] && v.outPins.trigEnd == [],
    shows { at_ .poised [] with outPins := { State.reset.outPins with trigEnd := [(2, some (0, 5))] }, now := 4 } (.trigPulseEnd 0 2) (fun _ => true) fun v => v.out == [],
    shows (at_ .poised [(Reg.POS_CTRL, Fld.POS_CTRL_SRC, 6)]) (.arm 0 (.oht 0) 15 0) (fun u => u.source.isNone && u.performs (Reg.TRIG_CMPCTL 15) 1) fun v => !v.flag (Reg.TRIG_CMPCTL 15) Fld.TRIG_CMPCTL_ARMED,
    (at_ .poised [(Reg.CAM_STATE 1, Fld.CAM_STATE_LSTATE, 5)]).linkReady 1 && !(at_ .poised []).gated,
    (let u := pitched .poised [(Reg.CAM_STATE 1, Fld.CAM_STATE_LSTATE, 5), (Reg.CAM_TSEQ 1, Fld.CAM_TSEQ_NEXT, 65535)];
      !u.gated && (u.openWindow 1 4 0).out == [.token 1 65535 0 0 40] && (u.openWindow 1 4 0).fld (Reg.CAM_TSEQ 1) Fld.CAM_TSEQ_NEXT == 0),
    (let u := at_ .poised [(Reg.TRG_CTRL, Fld.TRG_CTRL_ROLEGATE, 1), (Reg.CAM_STATE 1, Fld.CAM_STATE_LSTATE, 5)];
      u.gated && (u.openWindow 1 0 0).out == [] && (u.openWindow 1 0 0).fld (Reg.CAM_TSEQ 1) Fld.CAM_TSEQ_NEXT == 1)] = true := by decide +kernel

/-- A good AM row of one lane. -/
def am1 : List AmLane := [⟨2, amBody 0 0, 0⟩]

/-- 64 valid sync headers, and 16 invalid ones among 64. -/
def goodHeads : List (BitVec 2) := List.replicate 64 1
/-- The same, invalid. -/
def badHeads16 : List (BitVec 2) := List.replicate 16 0 ++ List.replicate 48 2

/-- Bits of PRBS9 with one of them wrong. -/
def prbs40 : List Bool := let b := prbsBits 1 40 1; b.take 35 ++ [!(b.getD 35 false)] ++ b.drop 36

/-- Witness of LinkBringUp. -/
theorem witness_bringup : allOf [
    ((link 0 1 []).failAttempt 0).fld (Reg.CAM_STATE 0) Fld.CAM_STATE_TRIES == 1 && ((link 0 1 [(Reg.CAM_STATE 0, Fld.CAM_STATE_TRIES, 3)]).failAttempt 0).lstate 0 == 6,
    shows (link 0 1 []) (.clockRecovered 0 0) (fun u => u.lstate 0 == 1) fun v => v.lstate 0 == 2,
    shows (link 0 1 [(Reg.CAM_STATE 0, Fld.CAM_STATE_LOCK, 1)]) (.clockRecovered 0 0) (fun u => u.lanes 0 == 1) fun v => v.lstate 0 == 3,
    shows (link 3 3 [(Reg.CAM_CTRL 3, Fld.CAM_CTRL_LANES, 1), (Reg.CAM_STATE 3, Fld.CAM_STATE_LOCK, 3)]) (.signalLoss 0 ⟨3, 3⟩) (fun u => u.lanes 3 == 2)
      fun v => v.lstate 3 == 1 && v.fld (Reg.CAM_STATE 3) Fld.CAM_STATE_LOCK == 0 && v.num (Reg.LANE_LOCKLOSS 3 0) == 1 && v.num (Reg.LANE_LOCKLOSS 3 1) == 1,
    shows (link 3 1 []) (.signalLoss 0 ⟨3, 1⟩) (fun u => u.lstate 3 == 1) fun v => v.lstate 3 == 1 && v.fld (Reg.CAM_STATE 3) Fld.CAM_STATE_TRIES == 0,
    gainsLock goodHeads && !gainsLock badHeads16 && losesLock badHeads16 && !losesLock (badHeads16.drop 1) && badCount badHeads16 == 16,
    shows (link 0 2 []) (.blockLockGained 0 0 0 (badHeads16 ++ goodHeads)) (fun u => u.lanes 0 == 1) fun v => v.lstate 0 == 3 && v.num (Reg.LANE_SHERR 0 0) == 16,
    shows (link 0 2 []) (.blockLockGained 0 0 0 badHeads16) (fun u => u.lanes 0 == 1) fun v => v.lstate 0 == 2 && v.num (Reg.LANE_SHERR 0 0) == 16,
    shows (link 0 3 [(Reg.CAM_STATE 0, Fld.CAM_STATE_LOCK, 1)]) (.blockLockLost 0 0 0 badHeads16) (fun u => bit (u.fld (Reg.CAM_STATE 0) Fld.CAM_STATE_LOCK) 0)
      fun v => v.lstate 0 == 1 && v.num (Reg.LANE_LOCKLOSS 0 0) == 1,
    shows (link 0 2 []) (.blockLockLost 0 0 0 badHeads16) (fun u => u.fld (Reg.CAM_STATE 0) Fld.CAM_STATE_LOCK == 0) fun v => v.lstate 0 == 2 && v.num (Reg.LANE_LOCKLOSS 0 0) == 0,
    shows ((link 0 3 []).setLink 0 { link0 0 with goodAm := 1 }) (.alignmentMarker 0 0 am1 180) (fun u => amRowGood (u.lanes 0) am1 && am1.all AmLane.bipOk)
      fun v => v.lstate 0 == 4 && v.fld (Reg.CAM_STATE 0) Fld.CAM_STATE_SKEW == 180,
    shows ((link 0 3 []).setLink 0 { link0 0 with goodAm := 1 }) (.alignmentMarker 0 0 am1 181) (fun u => u.lstate 0 == 3) fun v => v.lstate 0 == 1,
    shows ((link 0 5 []).setLink 0 { link0 0 with badAm := 3 }) (.alignmentMarker 0 0 [] 0) (fun u => !amRowGood (u.lanes 0) []) fun v => v.lstate 0 == 1,
    shows (link 0 5 []) (.upstreamAmRow 0 0) (fun u => (u.link 0).up.startAt.isNone) fun v => v.out == [],
    shows { (link 0 5 [(Reg.CAM_CTRL 0, Fld.CAM_CTRL_RATE, 0)]).setLink 0 { link0 0 with up := ⟨some 0, 0, [0], []⟩ } with now := 104857536 } (.upstreamAmRow 0 0) (fun u => u.upUi 0 u.now + 1 == 66 * 16384) fun v => v.out == [],
    meets { (link 0 5 [(Reg.CAM_CTRL 0, Fld.CAM_CTRL_RATE, 0)]).setLink 0 { link0 0 with up := ⟨some 0, 0, [0], [⟨16384, 0, [[(2, tokenBody 0 0 0 0)]]⟩]⟩ } with now := 104857600 } fun u => (u.link 0).up.startAt.isSome && u.upUi 0 u.now == 66 * 16384,
    shows { link 0 4 [] with now := 20 * 10 ^ 9 } (.handshakeTimeout 0 0) (fun u => !u.standbyRole && (u.link 0).attemptAt + 20 * 10 ^ 9 ≤ u.now) fun v => v.lstate 0 == 1,
    shows { link 0 5 [(Reg.CAM_STATE 0, Fld.CAM_STATE_TRIES, 2)] with now := 10 ^ 12 } (.triesReset 0 0) (fun u => (u.link 0).readyAt + 10 ^ 12 ≤ u.now)
      fun v => v.fld (Reg.CAM_STATE 0) Fld.CAM_STATE_TRIES == 0,
    shows (link 0 6 []) (.retrain 0 (.oht 0) 0 1) (fun u => u.performs (Reg.CAM_CTRL 0) 0x10001 && (u.writeReg (.oht 0) (Reg.CAM_CTRL 0) 0x10001).linkEnabled 0)
      fun v => v.lstate 0 == 1,
    shows (link 14 7 [(Reg.LANE_CTRL 14 1, Fld.LANE_CTRL_PRBS_RX, 1)]) (.prbsCheckerLock 0 14 1 prbs40) (fun u => u.lstate 14 == 7)
      fun v => v.flag (Reg.LANE_CTRL 14 1) Fld.LANE_CTRL_PRBS_LOCK && v.num (Reg.LANE_PRBSERR 14 1) == 1,
    shows (link 14 7 [(Reg.LANE_CTRL 14 1, Fld.LANE_CTRL_PRBS_RX, 1)]) (.prbsCheckerLock 0 14 1 (prbs40.take 30)) (fun u => u.lstate 14 == 7) fun v => !v.flag (Reg.LANE_CTRL 14 1) Fld.LANE_CTRL_PRBS_LOCK] = true := by decide +kernel

/-- A HELLO with these DATA parts. -/
def helloOf (d0 d1 d2 d3 : BitVec 48) : List (Nat × BitVec 48) := [(0, d0), (1, d1), (2, d2), (3, d3)]

/-- Witness of CameraHandshake. -/
theorem witness_handshake : allOf [
    shows (link 2 4 []) (.hello 0 2 (helloOf 0 0 0 0)) (fun u => !((u.storeHello 2 (helloOf 0 0 0 0)).helloRestored 2).helloFits 2) fun v => v.lstate 2 == 6,
    shows (link 2 4 []) (.hello 0 2 (helloOf 0 0 0x7FFFFFFFFFF 0)) (fun u => !u.standbyRole)
      fun v => v.lstate 2 == 4 && (v.link 2).helloOk && v.out.length == 1,
    shows ((link 2 4 []).setLink 2 { link0 2 with config := some (5, 0) }) (.configAck 0 2 6) (fun u => ((u.link 2).config.map Prod.fst) != some 6) fun v => v.lstate 2 == 1,
    shows ((link 2 4 []).setLink 2 { link0 2 with config := some (5, 0) }) (.configAck 0 2 5) (fun u => !(u.link 2).configAcked) fun v => (v.link 2).configAcked && (v.link 2).echo.isSome,
    shows { (link 2 4 []).setLink 2 { link0 2 with echo := some (3, 0) } with now := 5001 } (.echoReply 0 2 ⟨true, 3⟩) (fun u => (u.link 2).echoes < 7)
      fun v => v.fld (Reg.CAM_RTT 2) Fld.CAM_RTT_RTT == 6 && v.lstate 2 == 4,
    shows ((link 2 4 []).setLink 2 { link0 2 with echo := some (3, 0), echoes := 7 }) (.echoReply 0 2 ⟨true, 3⟩) (fun u => 7 ≤ (u.link 2).echoes) fun v => v.lstate 2 == 5,
    shows (link 2 5 [(Reg.CREG_CTRL 2, Fld.CREG_CTRL_BUSY, 1)]) (.cregGo 0 (.oht 0) 2 0) (fun u => u.performs (Reg.CREG_CTRL 2) 1)
      fun v => v.flag (Reg.CREG_CTRL 2) Fld.CREG_CTRL_COLL,
    shows (link 2 5 []) (.cregGo 0 (.oht 0) 2 0) (fun u => !u.flag (Reg.CREG_CTRL 2) Fld.CREG_CTRL_BUSY) fun v => v.out.length == 1 && (v.link 2).cregTag == 1,
    shows (link 2 6 []) (.cregGo 0 (.oht 0) 2 0) (fun u => u.lstate 2 != 5) fun v => v.fld (Reg.CREG_CTRL 2) Fld.CREG_CTRL_STATUS == 4,
    shows ((link 2 5 []).setLink 2 { link0 2 with cregAt := some 0, cregTag := 9 }) (.rsp 0 2 9 0 0xABCD) (fun u => (u.link 2).cregAt.isSome)
      fun v => v.reg (Reg.CREG_RDATA 2) == 0xABCD && (v.link 2).cregAt.isNone,
    shows { (link 2 5 []).setLink 2 { link0 2 with cregAt := some 0 } with now := 10 ^ 8 } (.cregTimeout 0 2) (fun u => (u.link 2).cregAt == some 0)
      fun v => v.fld (Reg.CREG_CTRL 2) Fld.CREG_CTRL_STATUS == 3] = true := by decide +kernel

/-- A window without a packet, of 2 pixels at 100,000 lines per second. -/
def win7 : Window := ⟨7, 3, 0, 0, 0, 0, true, none, [], 0, 0, 0, 2, 0, 100000, []⟩

/-- A SOL of TSEQ 7 and some pixels with a good HCRC. -/
def sol7 (npix : Nat) : BitVec 64 :=
  let low := 0x33 + 7 * 2 ^ 8 + (npix - 1) * 2 ^ 32
  BitVec.ofNat 64 (low + crc16 (bitsOf 48 low) * 2 ^ 48)

/-- A packet of one data block with its EOL. -/
def pk7 (npix : Nat) : LinePacket := ⟨sol7 npix, [0x1122], some (BitVec.ofNat 64 (0x55 + 1 * 2 ^ 8 + crc32 (bitsOf 64 0x1122) * 2 ^ 32)), false⟩

/-- How it comes over two lanes whose scramblers hold something. -/
def rx7 (npix : Nat) : PacketRows := (pk7 npix).sent 2 [0x155, 0x2AA]

/-- The same with a wrong HCRC. -/
def rxBad : PacketRows := { pk7 2 with sol := (pk7 2).sol ^^^ 0x8000000000000000 }.sent 2 [0x155, 0x2AA]

/-- Witness of LinePackets. -/
theorem witness_packets : allOf [
    (rx7 2).packet == some (pk7 2) && (rx7 2).rows.length == 2 && (rx7 2).rows.all (fun r => !isAmRow r) && (rx7 2).badHeads 0 == 0 && (rx7 2).rows != rowsOf 2 (pk7 2).stream,
    shows (link 1 5 []) (.linePacket 0 1 rxBad) (fun u => (rxBad.packet.map hcrcOk) == some false && u.mode.active) fun v => v.num (Reg.CAM_CNT 1 5) == 1,
    shows (link 1 5 []) (.linePacket 0 1 (rx7 2)) (fun u => hcrcOk (pk7 2) && !(u.port 1).adopting) fun v => v.num (Reg.CAM_CNT 1 5) == 1,
    shows (link 1 5 []) (.linePacket 0 1 ⟨[0], [[(0, 0)]]⟩) (fun _ => (⟨[0], [[(0, 0)]]⟩ : PacketRows).packet.isNone) fun v => v.num (Reg.CAM_CNT 1 5) == 0 && v.num (Reg.LANE_SHERR 1 0) == 1,
    shows ((link 1 5 []).setPort 1 ⟨[win7], [], false, 0⟩) (.linePacket 0 1 (rx7 2)) (fun u => named (pk7 2) win7 && u.onTime win7 && !u.inspects)
      fun v => (v.port 1).windows == [{ win7 with pk := some (pk7 2) }],
    shows { (link 1 5 []).setPort 1 ⟨[win7], [], false, 0⟩ with now := 10 ^ 7 } (.arrivalWindowClose 0 1 7) (fun u => 10 ^ 12 ≤ (u.now - win7.at_) * win7.lrmax)
      fun v => (v.port 1).windows == [] && v.num (Reg.CAM_CNT 1 3) == 1,
    outcome win7 == 4 && outcome { win7 with pk := some { pk7 2 with eol := none } } == 8 && outcome { win7 with pk := some (pk7 2) } == 0 && outcome { win7 with pk := some (pk7 1) } == 1 &&
      outcome { win7 with pk := some (pk7 3) } == 2 && outcome { win7 with pk := some (pk7 2), fmt := 1 } == 8] = true := by decide +kernel

/-! ### Correction, calibration, stitching, seam links -/

/-- Poised with pipeline 2's index at `i`. -/
def table (m : Mode) (i : Nat) (fs : List (Nat × Bits × Nat)) : State := at_ m ((Reg.CORR_TIDX 2, Fld.CORR_TIDX_IDX, i) :: fs)

/-- Witness of PixelTables: writes and reads at the ends of the index, a sealed shadow, seals, DISCARD, the bank change, the copies. -/
theorem witness_pixelTables : allOf [
    shows (table .poised 5 [(Reg.CORR_TCTL 2, Fld.CORR_TCTL_TSEL, 1)]) (.corrTableWrite 0 (.oht 0) 2 0x1234) (fun u => u.reaches (.oht 0) && u.performs (Reg.CORR_TDATA 2) 0x1234 && !u.corrShut 2)
      fun v => v.corrShadow 2 1 0 5 == 0x1234 && v.corrLive 2 1 0 5 == 0x4000 && v.flag (Reg.CORR_STATUS 2) Fld.CORR_STATUS_DIRTY && v.fld (Reg.CORR_TIDX 2) Fld.CORR_TIDX_IDX == 6,
    shows (table .poised 1025 [(Reg.CORR_TCTL 2, Fld.CORR_TCTL_TSEL, 2), (Reg.CORR_TCTL 2, Fld.CORR_TCTL_AUTOINC, 1)]) (.corrTableWrite 0 (.oht 0) 2 9)
      (fun u => u.performs (Reg.CORR_TDATA 2) 9) fun v => v.num (Reg.CORR_TWREJ 2) == 1 && v.corr == [] && v.fld (Reg.CORR_TIDX 2) Fld.CORR_TIDX_IDX == 0,
    shows (table .poised 0 [(Reg.CORR_STATUS 2, Fld.CORR_STATUS_SEALED, 1)]) (.corrTableWrite 0 (.oht 0) 2 9) (fun u => u.corrShut 2) fun v => v.num (Reg.CORR_TWREJ 2) == 1,
    shows (table .poised 7 [(Reg.CORR_TCTL 2, Fld.CORR_TCTL_TSEL, 2), (Reg.CORR_TCTL 2, Fld.CORR_TCTL_AUTOINC, 1)]) (.corrTableRead 0 (.oht 0) 2)
      (fun u => u.readable (Reg.CORR_TDATA 2)) fun v => v.out == [.readWord (Reg.CORR_TDATA 2) 448] && v.fld (Reg.CORR_TIDX 2) Fld.CORR_TIDX_IDX == 8,
    shows (table .poised 0 [(Reg.CORR_STATUS 2, Fld.CORR_STATUS_SEALED, 1)]) (.corrSeal 0 (.oht 0) 2 0) (fun u => u.performs (Reg.CORR_TCTL 2) (withBits 0 0x100)) fun v => v.num (Reg.CORR_TWREJ 2) == 1,
    shows (table .poised 0 [(Reg.CORR_STATUS 2, Fld.CORR_STATUS_PENDING, 1)]) (.corrSeal 0 (.oht 0) 2 0) (fun u => u.flag (Reg.CORR_STATUS 2) Fld.CORR_STATUS_PENDING) fun v => v.num (Reg.CORR_TWREJ 2) == 1 && v.corr == [],
    shows ((table .inspecting 0 [(Reg.TRG_CAMCFG 2, Fld.TRG_CAMCFG_EN, 1)]).setCorr 2 { corr0 2 with lastLine := some 6 }) (.corrSeal 0 (.oht 0) 2 0) (fun u => !u.joinActive)
      fun v => (v.corrOf 2).jh == some 7 && v.flag (Reg.CORR_STATUS 2) Fld.CORR_STATUS_SEALED,
    shows ((table .poised 0 [(Reg.TRG_CAMCFG 2, Fld.TRG_CAMCFG_EN, 0)]).setCorr 2 { corr0 2 with shadow := [(3, 8)] }) (.corrSeal 0 (.oht 0) 2 0) (fun u => !u.flag (Reg.TRG_CAMCFG 2) Fld.TRG_CAMCFG_EN)
      fun v => v.corrLive 2 0 0 3 == 8 && v.fld (Reg.CORR_STATUS 2) Fld.CORR_STATUS_BANK == 1,
    shows ((table .inspecting 0 [(Reg.TRG_CAMCFG 2, Fld.TRG_CAMCFG_EN, 1)]).setCorr 2 { corr0 2 with lastLine := some (-1) }) (.calSeal 0 (.oht 0) 4) (fun u => u.performs Reg.CAL_SEAL 4)
      fun v => (v.corrOf 2).jh == some 0,
    shows (at_ .poised ((List.range 12).map fun n => (Reg.TRG_CAMCFG n, Fld.TRG_CAMCFG_EN, 1))) (.calSeal 0 (.oht 0) 0xA05)
      (fun u => (List.range 12).all fun n => u.flag (Reg.TRG_CAMCFG n) Fld.TRG_CAMCFG_EN && !u.flag (Reg.CORR_STATUS n) Fld.CORR_STATUS_SEALED && !u.flag (Reg.CORR_STATUS n) Fld.CORR_STATUS_COPYING)
      fun v => (List.range 12).all fun n => v.flag (Reg.CORR_STATUS n) Fld.CORR_STATUS_SEALED == (n == 0 || n == 2 || n == 9 || n == 11),
    shows ((table .poised 0 [(Reg.CORR_STATUS 2, Fld.CORR_STATUS_DIRTY, 1)]).setCorr 2 { corr0 2 with shadow := [(3, 8)], marks := [(3, true)] }) (.corrDiscard 0 (.oht 0) 2 0) (fun u => !u.joinActive)
      fun v => v.corrOf 2 == corr0 2 && !v.flag (Reg.CORR_STATUS 2) Fld.CORR_STATUS_DIRTY,
    shows (table .poised 0 [(Reg.CORR_STATUS 2, Fld.CORR_STATUS_SEALED, 1)]) (.corrDiscard 0 (.oht 0) 2 0) (fun u => u.flag (Reg.CORR_STATUS 2) Fld.CORR_STATUS_SEALED) fun v => v.num (Reg.CORR_TWREJ 2) == 1,
    shows (table .poised 0 [(Reg.CORR_STATUS 2, Fld.CORR_STATUS_CALBUSY, 1), (Reg.CORR_STATUS 2, Fld.CORR_STATUS_DIRTY, 1)]) (.corrDiscard 0 (.oht 0) 2 0) (fun u => u.performs (Reg.CORR_TCTL 2) (withBits 0 0x200)) fun v => v.num (Reg.CORR_TWREJ 2) == 0 && !v.flag (Reg.CORR_STATUS 2) Fld.CORR_STATUS_DIRTY,
    shows ((table .inspecting 0 []).setCorr 2 { corr0 2 with live := [(1, 4)], shadow := [(3, 8)], due := some (-2) }) (.corrBankChange 0 2) (fun u => (u.corrOf 2).due == some (-2))
      fun v => (v.corrOf 2).live == [(3, 8)] && (v.corrOf 2).shadow == [(1, 4)] && v.fld (Reg.CORR_STATUS 2) Fld.CORR_STATUS_BANK == 1 && (v.corrOf 2).due == none && v.getS64 (Reg.CORR_HOLINE_LO 2) == -(2 ^ 63),
    shows ((table .inspecting 0 [(Reg.CORR_STATUS 2, Fld.CORR_STATUS_COPYING, 1)]).setCorr 2 { corr0 2 with live := [(1, 4)], shadow := [(3, 8), (9, 1)], marks := [(3, true)] }) (.bankCopyDone 0 2)
      (fun u => u.mode.active) fun v => v.corrShadow 2 0 0 1 == 4 && v.corrShadow 2 0 0 3 == 8 && v.corrShadow 2 0 0 9 == 0,
    shows { at_ .halted [(Reg.RMP_TCTL, Fld.RMP_TCTL_COPYING, 1)] with stitch := { State.reset.stitch with live := [(1, 4)], shadow := [(3, 8), (9, 1)], marks := [(3, true)] } } (.bankCopyDone 0 12)
      (fun u => u.mode.active) fun v => v.stitch.shadow == [(1, 4), (3, 8)] && !v.flag Reg.RMP_TCTL Fld.RMP_TCTL_COPYING] = true := by decide +kernel

/-- A run of a kind on a target, with its lines taken. -/
def calOf (kind tgt lines : Nat) : CalRun := ⟨kind, tgt, 0, 0, 0, 0, 0, 0, 0, [], [], lines⟩

/-- A good lane: 100 mV, 30/64 UI. -/
def lane1 (delayUi delayPs : Nat) : LaneMeas := ⟨1, 2, 3, 100, 30, 0, delayUi, delayPs, 0⟩

/-- Witness of CalibrationRuns: BUSY, each refusal, a start of each kind, ABORT, TIMEOUT, the judged ends. -/
theorem witness_calibration : allOf [
    shows { at_ .poised [(Reg.CAL_STATUS, Fld.CAL_STATUS_BUSY, 1)] with calRun := some (calOf 1 0 0) } (.calDark 0 (.oht 0) 0) (fun u => u.performs Reg.CAL_CMD (calWord 0 1))
      fun v => v.flag Reg.CAL_STATUS Fld.CAL_STATUS_COLL && v.calRun == some (calOf 1 0 0),
    shows (at_ .poised []) (.calFlat 0 (.oht 0) (setBits 0 Fld.CAL_CMD_TARGET 12)) (fun u => !u.flag Reg.CAL_STATUS Fld.CAL_STATUS_BUSY) fun v => v.fld Reg.CAL_STATUS Fld.CAL_STATUS_RESULT == 7,
    shows (at_ .inspecting []) (.calLinkeq 0 (.oht 0) 0) (fun u => !u.calAllowed 4) fun v => v.fld Reg.CAL_STATUS Fld.CAL_STATUS_RESULT == 6 && v.calRun == none,
    shows (at_ .halted []) (.calTrigdly 0 (.oht 0) 0) (fun u => !u.calAllowed 6) fun v => v.fld Reg.CAL_STATUS Fld.CAL_STATUS_RESULT == 6,
    shows (at_ .poised [(Reg.CORR_STATUS 0, Fld.CORR_STATUS_DIRTY, 1)]) (.calBadpix 0 (.oht 0) 0) (fun u => u.calAllowed 3) fun v => v.fld Reg.CAL_STATUS Fld.CAL_STATUS_RESULT == 4,
    shows (at_ .inspecting []) (.calFlat 0 (.oht 0) (setBits (setBits 0 Fld.CAL_CMD_TARGET 11) Fld.CAL_CMD_PHASE 3)) (fun u => u.calAllowed 2)
      fun v => v.flag Reg.CAL_STATUS Fld.CAL_STATUS_BUSY && v.flag (Reg.CORR_STATUS 11) Fld.CORR_STATUS_CALBUSY &&
        v.calRun.map (fun r => (r.kind, r.target, r.phase, r.lines)) == some (2, 11, 3, 0),
    shows (at_ .halted []) (.calDeskew 0 (.oht 0) (setBits 0 Fld.CAL_CMD_TARGET 14)) (fun u => u.calAllowed 5) fun v => v.calRun.map (fun r => (r.kind, r.target)) == some (5, 14),
    shows { at_ .poised [(Reg.CAL_STATUS, Fld.CAL_STATUS_BUSY, 1)] with calRun := some (calOf 5 14 0) } (.calAbort 0 (.oht 0) 0) (fun u => u.performs Reg.CAL_CMD (withBits 0 0x20000))
      fun v => v.calRun == none && v.fld Reg.CAL_STATUS Fld.CAL_STATUS_RESULT == 3,
    shows { at_ .poised [(Reg.CAL_TMO, Fld.CAL_TMO_TMO, 0)] with calRun := some (calOf 3 11 15), now := 10 ^ 9 } (.calTimeout 0) (fun u => u.mode.active && calLines (calOf 3 11 15) == 16)
      fun v => v.calRun == none && v.fld Reg.CAL_STATUS Fld.CAL_STATUS_RESULT == 5,
    shows { at_ .poised [(Reg.CAM_CTRL 12, Fld.CAM_CTRL_EN, 1)] with calRun := some (calOf 5 0 0) } (.calRunEnd 0 [lane1 7 100] []) (fun u => u.calEnded (calOf 5 0 0) [lane1 7 100] [] && laneLimit (calOf 5 0 0) [lane1 7 100] == 0)
      fun v => v.fld Reg.CAL_STATUS Fld.CAL_STATUS_RESULT == 0 && v.num Reg.CAL_PASSCNT == 1 && v.num (Reg.DSK 0 0) == 7,
    let v := (at_ .poised []).calComplete (calOf 5 14 0) [lane1 0 0, lane1 0 180001] []
    v.fld Reg.CAL_STATUS Fld.CAL_STATUS_RESULT == 1 && v.fld Reg.CAL_STATUS Fld.CAL_STATUS_LIMIT == 13 && v.num Reg.CAL_FAILCNT == 1,
    laneLimit (calOf 5 0 0) [lane1 0 0, lane1 0 180000] == 0 && laneLimit { calOf 4 0 0 with lim2 := setBits 0 Fld.CAL_LIM2_EYE_MIN 101 } [lane1 0 0] == 10] = true := by decide +kernel

/-- Witness of CalibrationImage; the last line's word is the CRC of an image of four words. -/
theorem witness_image : allOf [
    shows (at_ .inspecting []) (.snap 0 (.oht 0) 0) (fun u => u.performs Reg.CAL_IMGCTL (withBits 0 1)) fun v => v.imgOp == some false && v.flag Reg.CAL_IMGCTL Fld.CAL_IMGCTL_BUSY,
    shows (at_ .halted []) (.apply 0 (.oht 0) 0) (fun u => u.performs Reg.CAL_IMGCTL (withBits 0 2)) fun v => v.imgOp == some true,
    shows (at_ .inspecting []) (.apply 0 (.oht 0) 0) (fun u => u.mode == .inspecting) fun v => v.imgOp == none && v.fld Reg.CAL_IMGCTL Fld.CAL_IMGCTL_RESULT == 6,
    shows { at_ .poised [] with imgOp := some false } (.snapComplete 0) (fun u => u.mode.active) fun v => v.num Reg.CAL_IMGLEN == 4 * v.calImage.length && v.fld Reg.CAL_IMGCTL Fld.CAL_IMGCTL_RESULT == 0,
    shows { at_ .poised [] with imgOp := some true } (.applyComplete 0) (fun u => u.mode.active) fun v => v.fld Reg.CAL_IMGCTL Fld.CAL_IMGCTL_RESULT == 5 && v.imgOp == none,
    shows { at_ .poised [] with imgOp := some true, sram := writeBytes [] 0x2800008 [4] } (.applyComplete 0) (fun u => u.imgOp == some true) fun v => v.fld Reg.CAL_IMGCTL Fld.CAL_IMGCTL_RESULT == 1] = true := by decide +kernel

/-- Is the oldest slot's time come, by its own registers? -/
def reached (u : State) (pmins ps : Nat) : Bool := (u.slots.head?).elim false fun sl => u.slotReached sl pmins ps

/-- Witness of SlotsOfALine. -/
theorem witness_slots : allOf [
    shows (slotAt 0 1000000 []) (.processingSlotOpen 0) (fun u => u.inspects && reached u 1 0)
      fun v => v.slots.map Slot.stage == [1] && v.stitch.cur.map OpenLine.line == some 3 && v.flag Reg.PWR_GATE Fld.PWR_GATE_STITCH,
    shows (slotAt 0 999999 []) (.processingSlotOpen 0) (fun u => !reached u 1 0) fun v => v.slots.map Slot.stage == [0],
    shows (open3 1 1060000 (folio0 0) []) (.territoryReady 0 0) (fun u => u.openSlot.isSome && (slotView u).engineRuns 0 && (slotView u).readyNs 0 == 60) fun v => (v.engine 0).ready,
    shows (open3 1 1059999 (folio0 0) []) (.territoryReady 0 0) (fun u => u.openSlot.isSome) fun v => !(v.engine 0).ready,
    shows (open3 1 1800000 { folio0 0 with ready := true } []) (.folioLineEnd 0 0) (fun u => reached u 1 (1000 * (slotView u).folioEndNs 0 60))
      fun v => (v.engine 0).done && v.flag Reg.PWR_GATE Fld.PWR_GATE_SEG && !v.flag (Reg.FOLIO_STATUS 0) Fld.FOLIO_STATUS_RUNNING,
    shows (open3 1 1900000 { folio0 0 with ready := true, done := true } []) (.segmentationLineEnd 0) (fun u => (slotView u).foliosDone) fun v => v.slots.map Slot.stage == [2],
    shows (open3 1 1900000 (folio0 0) []) (.segmentationLineEnd 0) (fun u => !(slotView u).foliosDone) fun v => v.slots.map Slot.stage == [1],
    shows (slotAt 2 2000000 []) (.processingSlotEnd 0) (fun u => u.openSlot.isSome && reached u 2 0) fun v => v.slots == [],
    shows (open3 2 1999999 (folio0 0) []) (.processingSlotEnd 0) (fun u => u.openSlot.isSome) fun v => v.slots.length == 1,
    shows { slotAt 2 0 [] with folio := [(12, { folio0 12 with ready := true })], stk := { State.reset.stk with replays := [(0, some ⟨0, 1, 0, 1, 0, 1, none, none, none, [], none, []⟩)] } }
      (.folioLineEnd 0 12) (fun u => (u.replay 0).isSome && u.inspects && (u.engine 12).ready) fun v => !(v.engine 12).done] = true := by decide +kernel

/-- Witness of RemapTables. -/
theorem witness_remap : allOf [
    shows (at_ .poised [(Reg.RMP_TCTL, Fld.RMP_TCTL_AUTOINC, 1), (Reg.RMP_TIDX, Fld.RMP_TIDX_IDX, 6)]) (.rmpTableWrite 0 (.oht 0) 0x55) (fun u => u.performs Reg.RMP_TDATA 0x55)
      fun v => v.stitch.shadow == [(6, 0x55)] && v.flag Reg.RMP_TCTL Fld.RMP_TCTL_DIRTY && v.fld Reg.RMP_TIDX Fld.RMP_TIDX_IDX == 7,
    shows (at_ .poised [(Reg.RMP_TCTL, Fld.RMP_TCTL_SEALED, 1)]) (.rmpTableWrite 0 (.oht 0) 0x55) (fun u => u.reaches (.oht 0)) fun v => v.num Reg.STITCH_TWREJ == 1 && v.stitch == State.reset.stitch,
    shows { at_ .poised [(Reg.RMP_TIDX, Fld.RMP_TIDX_IDX, 1)] with stitch := { State.reset.stitch with live := [(1, 7)] } } (.rmpTableRead 0 (.oht 0)) (fun u => u.readable Reg.RMP_TDATA)
      fun v => v.out == [.readWord Reg.RMP_TDATA 7],
    shows (at_ .poised [(Reg.RMP_TCTL, Fld.RMP_TCTL_SEALED, 1)]) (.rmpSeal 0 (.oht 0) 0) (fun u => u.performs Reg.RMP_TCTL (withBits 0 0x100)) fun v => v.num Reg.STITCH_TWREJ == 1,
    shows { at_ .inspecting [(Reg.RMP_AT_LO, ⟨0, 32⟩, 8)] with trg := ⟨some (8, 0), none, some 8, 0⟩ } (.rmpSeal 0 (.oht 0) 0x400) (fun u => u.refCame 8) fun v => !v.flag Reg.RMP_TCTL Fld.RMP_TCTL_SEALED,
    shows { at_ .inspecting [(Reg.RMP_AT_LO, ⟨0, 32⟩, 9)] with trg := ⟨some (8, 0), none, some 8, 0⟩ } (.rmpSeal 0 (.oht 0) 0x400) (fun u => !u.refCame 9)
      fun v => v.flag Reg.RMP_TCTL Fld.RMP_TCTL_SEALED && v.stitch.atLine == some 9,
    shows (at_ .inspecting []) (.rmpSeal 0 (.oht 0) 0) (fun u => u.reaches (.oht 0)) fun v => v.flag Reg.RMP_TCTL Fld.RMP_TCTL_SEALED && v.stitch.atLine == none,
    shows { at_ .poised [(Reg.RMP_TCTL, Fld.RMP_TCTL_DIRTY, 1)] with stitch := { State.reset.stitch with shadow := [(1, 7)], marks := [(1, true)] } } (.rmpDiscard 0 (.oht 0) 0) (fun u => u.performs Reg.RMP_TCTL (withBits 0 0x200))
      fun v => v.stitch == State.reset.stitch && !v.flag Reg.RMP_TCTL Fld.RMP_TCTL_DIRTY,
    shows (at_ .poised [(Reg.RMP_TCTL, Fld.RMP_TCTL_SEALED, 1)]) (.rmpDiscard 0 (.oht 0) 0) (fun u => u.performs Reg.RMP_TCTL (withBits 0 0x200)) fun v => v.num Reg.STITCH_TWREJ == 1,
    shows { at_ .inspecting [(Reg.RMP_TCTL, Fld.RMP_TCTL_SEALED, 1)] with stitch := { State.reset.stitch with shadow := [(1, 7)], live := [(2, 8)], due := some 4 } } (.remapBankChange 0) (fun u => u.mode.active)
      fun v => v.stitch.live == [(1, 7)] && v.stitch.shadow == [(2, 8)] && v.flag Reg.RMP_TCTL Fld.RMP_TCTL_COPYING && v.fld Reg.RMP_TCTL Fld.RMP_TCTL_BANK == 1] = true := by decide +kernel

/-- A seam frame of a line with a right CRC. -/
def seamOf (j : Int) (chunk : Nat) (last : Bool) (bs : List (BitVec 64)) : SeamFrame :=
  ⟨unsignedOf 32 j, 0, last, chunk, bs.length, bs, crc32 (bs.flatMap fun b => bitsOf 64 b.toNat)⟩

/-- A seam side in READY while line 3's slot waits or is open. -/
def seam (m stage now : Nat) (fs : List (Nat × Bits × Nat)) : State := slotAt stage now ((Reg.CAM_STATE m, Fld.CAM_STATE_LSTATE, 5) :: (Reg.CAM_CTRL m, Fld.CAM_CTRL_EN, 1) :: fs)

/-- An export of 4 columns on the west side. -/
def xlen4 : Nat × Bits × Nat := (Reg.SEAM_XCFG 0, Fld.SEAM_XCFG_XLEN, 4)

/-- Witness of SeamLinks. -/
theorem witness_seams : allOf [
    shows (link 12 4 []) (.seamHello 0 12 0x5) (fun u => u.lstate 12 == 4) fun v => v.lstate 12 == 6 && v.num (Reg.SEAM_PEER 0) == 0x8005,
    shows (link 12 4 []) (.seamHello 0 12 0xABCD00004005) (fun u => !(u.link 12).helloOk)
      fun v => (v.link 12).helloOk && v.num (Reg.SEAM_PEER 0) == 0xC005 && v.num (Reg.SEAM_PEERDIG 0) == 0xABCD0000 && v.out == [.mgmt 12 3 0 0],
    shows (link 12 4 []) (.echoReply 0 12 ⟨false, 0x77⟩) (fun u => u.lstate 12 == 4) fun v => v.out == [.mgmt 12 4 0 0x77] && v.lstate 12 == 4,
    shows (link 13 5 []) (.echoReply 0 13 ⟨false, 0x77⟩) (fun u => u.lstate 13 == 5) fun v => v.out == [.mgmt 13 4 0 0x77],
    shows (seam 12 0 0 [xlen4]) (.xFrame 0 12 (seamOf 3 0 true [0x0004000300020001])) (fun u => u.frameLine == some 3 && frameOk (seamOf 3 0 true [0x0004000300020001]) 3)
      fun v => v.num (Reg.SEAM_CNT 0 0) == 1 && v.stitch.frames == [⟨12, false, 3, 0, [1, 2, 3, 4]⟩],
    shows (seam 12 0 0 [xlen4]) (.xFrame 0 12 (seamOf 3 0 true [1, 2])) (fun u => frameOk (seamOf 3 0 true [1, 2]) 3 && u.slots.map (fun sl => (u.seenBy sl).xlen 12) == [4]) fun v => v.num (Reg.SEAM_CNT 0 1) == 1,
    shows { seam 12 0 0 [xlen4] with stitch := { State.reset.stitch with frames := [⟨12, false, 3, 0, []⟩] } } (.xFrame 0 12 (seamOf 3 0 true [1])) (fun u => (u.seamRow 12 false 3).isSome)
      fun v => v.num (Reg.SEAM_CNT 0 0) == 0 && v.stitch.frames.length == 1,
    shows (seam 13 0 0 []) (.xFrame 0 13 (seamOf 4 0 true [])) (fun u => !frameOk (seamOf 4 0 true []) 3 && u.lstate 13 == 5) fun v => v.num (Reg.SEAM_CNT 1 1) == 1,
    shows (seam 13 0 0 []) (.hFrame 0 13 (seamOf 4 0 true [])) (fun u => u.mode == .inspecting) fun v => v.num (Reg.SEAM_CNT 1 1) == 1,
    shows (seam 13 0 0 [(Reg.STITCH_CTRL, Fld.STITCH_CTRL_HALO, 1)]) (.hFrame 0 13 (seamOf 3 0 true [3, 0x21, 9])) (fun u => u.halo == 1 && (u.seamRow 13 true 3).isNone)
      fun v => v.stitch.frames == [⟨13, true, 3, 0x21, [9, 0, 0, 0]⟩] && v.num (Reg.SEAM_CNT 1 0) == 1,
    shows (seam 12 0 0 []) (.sFrame 0 12 (seamOf 3 0 true [])) (fun u => u.seg.times.all fun x => !frameOk (seamOf 3 0 true []) x.line) fun v => v.num (Reg.SEAM_CNT 0 1) == 1,
    shows { seam 13 0 0 [] with seg := { State.reset.seg with times := [⟨3, 0, 0, 0, []⟩] } } (.sFrame 0 13 (seamOf 3 0 true [1, 0, 0, 0])) (fun u => u.seg.got == [])
      fun v => v.num (Reg.SEAM_CNT 1 0) == 1 && v.seg.got == [⟨13, 3, 0, true, hasContact [1, 0, 0, 0]⟩] && v.num (Reg.SEAM_CNT 1 4) == 1,
    shows { seam 12 0 0 [] with seg := { State.reset.seg with times := [⟨3, 0, 0, 0, []⟩] } } (.sFrame 0 12 (seamOf 3 0 true [1, 0, 0, 0])) (fun u => u.seg.got == [])
      fun v => v.num (Reg.SEAM_CNT 0 0) == 1 && v.num (Reg.SEAM_CNT 0 4) == 1 && v.seg.got.length == 1,
    shows (open3 1 1260000 (folio0 0) [(Reg.CAM_CTRL 12, Fld.CAM_CTRL_EN, 1), (Reg.CAM_STATE 12, Fld.CAM_STATE_LSTATE, 5)]) (.seamFrameDeadline 0 12 1 3) (fun u => !u.frameMissing 12 true 3) fun v => v.num (Reg.SEAM_CNT 0 2) == 0,
    shows (open3 1 1440000 (folio0 0) [(Reg.CAM_CTRL 12, Fld.CAM_CTRL_EN, 1), (Reg.CAM_STATE 12, Fld.CAM_STATE_LSTATE, 5)]) (.seamFrameDeadline 0 12 1 3) (fun u => u.frameMissing 12 true 3 && u.seamSides == [12])
      fun v => v.num (Reg.SEAM_CNT 0 2) == 1 && v.flag (Reg.CAM_EVT 12) ⟨4, 1⟩ && v.err.breaches == [⟨7, 12, some 3, true, 1440000⟩],
    shows { slotAt 2 4000000 [(Reg.CAM_CTRL 13, Fld.CAM_CTRL_EN, 1)] with seg := { State.reset.seg with times := [⟨3, 0, 0, 0, (slotAt 2 0 []).regs⟩] } } (.seamFrameDeadline 0 13 2 3) (fun u => u.sFrameMissing 13 3)
      fun v => v.num (Reg.SEAM_CNT 1 2) == 1] = true := by decide +kernel

/-! ### Folio instructions -/

/-- Engine 0 with a territory of 40 columns: V1, V2, V3 begin with 65520, 17, 0x8001; S1 is 0x80000005, S2 is 3; a table 10, 30, 20, 50; planes and a ring of one row. -/
def fo : State :=
  (at_ .poised [(Reg.TERR_LEN 0, ⟨0, 16⟩, 40), (Reg.FOLIO_GEOM 0, Fld.FOLIO_GEOM_NPL, 3), (Reg.FOLIO_GEOM 0, Fld.FOLIO_GEOM_MASKBITS, 2)]).setEngine 0
    { folio0 0 with
        v := [(32, 65520), (64, 17), (96, 0x8001)], sc := [(1, 0x80000005), (2, 3)], mem := [(0x4000, 0x001E000A), (0x4001, 0x00320014), (0xC000, 0x00010061), (0xC001, 0xFFFF0003)]
        planes := [(0x10000, 9), (0x10001, 8)], ring := [⟨7, 2, 0, 0, 0, 0, 0, 0, 0, 0, [], [100, 200, 65535]⟩], params := [11, 12] }

/-- Lane 0 of V5 after an instruction. -/
def vec (c : Instr) (x : Nat) : Bool := match exec c fo with
  | .next v => v.vreg 0 5 0 == x && v.vreg 0 1 0 == 65520 && v.sreg 0 1 == 0x80000005
  | _ => false

/-- S5 after an instruction. -/
def scal (c : Instr) (x : Nat) : Bool := match exec c fo with
  | .next v => v.sreg 0 5 == x && v.sreg 0 2 == 3 && v.vreg 0 1 0 == 65520
  | _ => false

/-- An instruction that changes nothing. -/
def nop (c : Instr) : Bool := match exec c fo with
  | .next v => v.folio == fo.folio && v.num (Reg.FOLIO_PLNERR 0) == 0
  | _ => false

/-- Witness of VectorOperations: every operation by hand, and a refused MODE or BK. -/
theorem witness_vectors : allOf [
    vec (.vAdd 0 5 1 2 0 0 0) 1 && vec (.vAdd 0 5 1 2 0 0 1) 65535 && vec (.vAdd 0 5 1 2 0 0 2) 1 && vec (.vAdd 0 5 2 1 0 0 4) 1 && nop (.vAdd 0 5 1 2 0 0 5) && nop (.vAdd 0 5 1 2 0 3 0),
    vec (.vSub 0 5 2 1 0 0 0) 33 && vec (.vSub 0 5 2 1 0 0 1) 0 && vec (.vSub 0 5 1 2 0 0 3) 32767 && vec (.vSub 0 5 3 2 0 0 2) 0x8000 && nop (.vSub 0 5 1 2 0 0 5),
    vec (.vMul 0 5 1 2 4 0 1) 65535 && vec (.vMul 0 5 1 2 4 0 2) 65519 && vec (.vMul 0 5 2 2 1 0 0) 145 && nop (.vMul 0 5 1 2 0 2 0),
    vec (.vAbs 0 5 1 0 0 0 0) 16 && vec (.vAbs 0 5 3 0 0 0 0) 32767 && nop (.vAbs 0 5 1 0 0 0 1),
    vec (.vMin 0 5 1 2 0 0 0) 17 && vec (.vMin 0 5 1 2 0 0 2) 65520 && nop (.vMin 0 5 1 2 0 0 1),
    vec (.vMax 0 5 1 2 0 0 0) 65520 && vec (.vMax 0 5 1 2 0 0 2) 17 && nop (.vMax 0 5 1 2 0 0 3),
    vec (.avg 0 5 1 2 0 0 1) 32769 && vec (.avg 0 5 1 2 0 0 2) 1 && nop (.avg 0 5 1 2 0 0 3),
    vec (.shr 0 5 1 4 0 2 0) 4095 && vec (.shr 0 5 1 2 0 0 0) 0 && nop (.shr 0 5 1 2 0 0 1),
    vec (.sar 0 5 1 4 0 2 0) 65535 && vec (.sar 0 5 3 2 0 0 0) 65535 && nop (.sar 0 5 1 2 0 0 1),
    vec (.shl 0 5 2 4 0 2 0) 272 && vec (.shl 0 5 1 2 0 0 2) 32768 && vec (.shl 0 5 2 2 0 0 1) 65535 && nop (.shl 0 5 1 2 0 0 3),
    vec (.vAnd 0 5 1 2 0 0 0) 16 && vec (.vOr 0 5 1 2 0 0 0) 65521 && vec (.vXor 0 5 1 2 0 0 0) 65505 && vec (.andn 0 5 1 2 0 0 0) 65504,
    nop (.vAnd 0 5 1 2 0 0 1) && nop (.vOr 0 5 1 2 0 0 1) && nop (.vXor 0 5 1 2 0 0 1) && nop (.andn 0 5 1 2 0 0 1),
    vec (.mov 0 5 1 15 15 2 0) 65535 && vec (.mov 0 5 1 1 0 1 0) 5 && nop (.mov 0 5 1 2 0 0 1),
    vec (.cmpeq 0 5 1 1 0 0 0) 1 && vec (.cmpne 0 5 1 1 0 0 2) 0 && vec (.cmplt 0 5 1 2 0 0 0) 0 && vec (.cmplt 0 5 1 2 0 0 2) 1 && vec (.cmple 0 5 2 1 0 0 0) 1,
    vec (.cmpgt 0 5 1 2 0 0 0) 1 && vec (.cmpgt 0 5 1 1 0 0 0) 0 && vec (.cmpge 0 5 1 1 0 0 2) 1 && vec (.cmpge 0 5 1 2 0 0 2) 0,
    nop (.cmpeq 0 5 1 1 0 0 1) && nop (.cmpne 0 5 1 1 0 0 1) && nop (.cmplt 0 5 1 1 0 0 1) && nop (.cmple 0 5 1 1 0 0 1) && nop (.cmpgt 0 5 1 1 0 0 1) && nop (.cmpge 0 5 1 1 0 0 1),
    vec (.vSel 0 5 1 2 3 0 0) 65520 && vec (.vSel 0 5 1 2 9 0 0) 17 && nop (.vSel 0 5 1 2 3 2 0)] = true := by decide +kernel

/-- Witness of ScalarOperations. -/
theorem witness_scalars : allOf [
    scal (.sadd 0 5 1 1 0 1 0) 10 && scal (.sadd 0 5 1 1 0 1 1) 0xFFFFFFFF && scal (.sadd 0 5 1 1 0 1 2) 0x80000000 && nop (.sadd 0 5 1 1 0 0 0) && nop (.sadd 0 5 1 1 0 1 3),
    scal (.ssub 0 5 2 1 0 1 1) 0 && scal (.ssub 0 5 2 1 0 1 2) 0x7FFFFFFE && nop (.ssub 0 5 2 1 0 1 3),
    scal (.smul 0 5 1 2 0 1 0) 0x8000000F && scal (.smul 0 5 1 2 0 1 2) 0x80000000 && nop (.smul 0 5 1 2 0 0 0),
    scal (.sdivu 0 5 1 2 0 1 0) 715827884 && scal (.sdivu 0 5 1 9 0 1 0) 0xFFFFFFFF && nop (.sdivu 0 5 1 2 0 1 1),
    scal (.sshr 0 5 1 2 0 1 0) 0x10000000 && scal (.sshr 0 5 1 0 2 2 0) 0 && nop (.sshr 0 5 1 2 0 1 1),
    scal (.ssar 0 5 1 2 0 1 0) 0xF0000000 && scal (.ssar 0 5 1 0 2 2 0) 0xFFFFFFFF && nop (.ssar 0 5 1 2 0 1 1),
    scal (.sshl 0 5 2 2 0 1 0) 24 && scal (.sshl 0 5 2 15 15 2 1) 0xFFFFFFFF && scal (.sshl 0 5 1 1 0 2 2) 0x80000000 && nop (.sshl 0 5 2 2 0 0 0),
    scal (.sand 0 5 1 2 0 1 0) 1 && scal (.sor 0 5 1 2 0 1 0) 0x80000007 && scal (.sxor 0 5 1 2 0 1 0) 0x80000006 && nop (.sand 0 5 1 2 0 1 1) && nop (.sor 0 5 1 2 0 1 1) && nop (.sxor 0 5 1 2 0 1 1),
    scal (.smin 0 5 1 2 0 1 0) 3 && scal (.smin 0 5 1 2 0 1 2) 0x80000005 && scal (.smax 0 5 1 2 0 1 2) 3 && nop (.smin 0 5 1 2 0 1 1) && nop (.smax 0 5 1 2 0 1 1),
    scal (.smov 0 5 1 15 15 2 0) 0xFFFFFFFF && nop (.smov 0 5 1 2 0 1 1) && scal (.smovi 0 5 0x200000) 0xFFE00000 && scal (.sorhi 0 1 0x3FFFFF) 0,
    scal (.ssel 0 5 1 2 2 1 0) 0x80000005 && scal (.ssel 0 5 1 2 9 1 0) 3 && nop (.ssel 0 5 1 2 2 2 0),
    scal (.scmpeq 0 5 1 1 0 1 0) 1 && scal (.scmplt 0 5 1 2 0 1 0) 0 && scal (.scmplt 0 5 1 2 0 1 2) 1 && nop (.scmpeq 0 5 1 1 0 1 1) && nop (.scmplt 0 5 1 1 0 1 1),
    scal (.sabs 0 5 1 0 0 0 0) 0x7FFFFFFB && nop (.sabs 0 5 1 1 0 0 0)] = true := by decide +kernel

/-- Witness of WindowOperations over the ring row 100, 200, 65535, 0 and the plane 9, 8, 0: at lane 0 the window of one column each side is 100, 100, 200. -/
theorem witness_windows : allOf [
    fo.winSamples 0 ⟨2, 5, 0, 0, 0, 1, 0, 0, 0⟩ 0 == [100, 100, 200] && fo.winSamples 0 ⟨2, 5, 1, 1, 0, 1, 0, 0, 0⟩ 0 == [9, 9, 8],
    vec (.box 0 5 0 0 0 1 0 0 0) 133 && vec (.box 0 5 2 0 0 1 0 0 0) 0 && nop (.box 0 5 3 0 0 1 0 0 0) && nop (.box 0 5 0 1 0 1 0 0 0),
    vec (.rank 0 5 0 0 0 1 0 0 2) 200 && nop (.rank 0 5 0 0 0 1 0 0 3) && vec (.srank 0 5 1 1 0 1 0 0 0) 8 && nop (.srank 0 5 1 1 1 1 0 0 0),
    vec (.winMin 0 5 1 1 0 1 0 0 0) 8 && vec (.winMax 0 5 0 0 0 2 0 0 0) 65535 && vec (.winSmax 0 5 0 0 0 2 0 0 0) 200 && vec (.winSmin 0 5 0 0 0 2 0 0 0) 65535 && vec (.sbox 0 5 0 0 0 2 0 0 0) 100,
    nop (.winMin 0 5 1 1 0 1 1 0 0) && nop (.winMax 0 5 3 0 0 2 0 0 0) && nop (.winSmax 0 5 3 0 0 2 0 0 0) && nop (.winSmin 0 5 3 0 0 2 0 0 0) && nop (.sbox 0 5 3 0 0 2 0 0 0),
    vec (.lvar 0 5 1 1 0 1 0 0 0) 0 && vec (.lvar 0 5 0 0 0 1 0 0 0) 2222 && nop (.lvar 0 5 3 1 0 1 0 0 0),
    vec (.conv 0 5 0 0 0 1 0 0 0) 100 && nop (.conv 0 5 3 0 0 1 0 0 0) && vec (.erode 0 5 0 0 0 1 0 0 0) 100 && vec (.dilate 0 5 0 0 0 1 0 0 1) 0 && vec (.erode 0 5 0 0 0 1 0 0 1) 65535,
    nop (.erode 0 5 3 0 0 1 0 0 0) && nop (.dilate 0 5 3 0 0 1 0 0 0) && sortSamples [3, -1, 2, -1] == [-1, -1, 2, 3],
    match exec (.winMax 0 5 2 2 0 1 0 0 0) fo with
      | .next v => v.num (Reg.FOLIO_PLNERR 0) == 1 && v.vreg 0 5 0 == 0
      | _ => false] = true := by decide +kernel

/-- Witness of TableLookups: the table 10, 30, 20, 50. -/
theorem witness_tables : allOf [
    vec (.lut 0 5 2 0 2 3) 20 && vec (.lut 0 5 1 0 2 3) 50 && vec (.luts 0 5 1 0 2 4) 30 && vec (.luts 0 5 3 0 2 4) 10 && vec (.luti 0 5 2 0 2 4) 29 && vec (.luti 0 5 1 0 2 4) 50 && scal (.slut 0 5 2 0 2 1) 30,
    nop (.lut 0 5 2 0 0 3) && nop (.luts 0 5 2 0 0 3) && nop (.luti 0 5 2 0 0 3) && nop (.slut 0 5 2 0 0 3),
    vec (.lut2 0 5 3 2 0 1 1) 20] = true := by decide +kernel

/-- Witness of Transfers. -/
theorem witness_transfers : allOf [
    vec (.rrow 0 5 0 0 0x10) 200 && vec (.rrow 0 5 0 0 0xF0) 100 && nop (.rrow 0 5 0 0 8) && nop (.rrow 0 5 0 0 0x80),
    vec (.pld 0 5 0 0 5) 9 && vec (.pld 0 5 0 0 0x45) 8 && nop (.pld 0 5 0 0 4) && nop (.pld 0 5 0 0 0x205) && vec (.pld 0 5 0 0 10) 0,
    match exec (.pld 0 5 0 0 10) fo with
      | .next v => v.num (Reg.FOLIO_PLNERR 0) == 1
      | _ => false,
    match exec (.pst 0 5 2 0 5) fo, exec (.pst 0 5 2 0 10) fo with
      | .next v, .next x => v.planeAt 0 1 0 == 17 && v.planeAt 0 1 1 == 0 && v.planeAt 0 1 32 == 0 && v.vreg 0 2 0 == 17 && x.num (Reg.FOLIO_PLNERR 0) == 1 && x.folio == fo.folio
      | _, _ => false,
    nop (.pst 0 5 2 0 4) && nop (.pst 0 5 2 0 0x45),
    match exec (.omask 0 5 3 0 0) fo, exec (.oval 0 5 3 0 0) fo, exec (.otap 0 5 3 0 3) fo with
      | .next v, .next x, .next y => v.folioOut 0 0 0 == 1 && x.folioOut 0 1 0 == 0x8001 && y.folioOut 0 5 0 == 0x8001 && y.folioOut 0 1 0 == 0
      | _, _, _ => false,
    vec (.lcol 0 5 0 0 0) 0 && vec (.vmov 0 5 2 0 0) 17 && vec (.vbc 0 5 1 0 0) 5 && scal (.smovx 0 5 2 0 0) 3,
    scal (.ctx 0 5 0 0 0) 7 && scal (.ctx 0 5 0 0 1) 2 && scal (.ctx 0 5 0 0 2) 2 && scal (.ctx 0 5 0 0 3) 0 && scal (.ctx 0 5 0 0 4) 40 && nop (.ctx 0 5 0 0 5) && nop (.ctx 0 5 0 0 7) && scal (.ctx 0 5 0 0 9) 12] = true := by decide +kernel

/-- Witness of Reductions, with 32 territory lanes at stage 0 and none at stage 1. -/
theorem witness_reductions : allOf [
    scal (.rsum 0 5 1 0) 65520 && scal (.rsums 0 5 1 0) 0xFFFFFFF0 && scal (.rsumsq 0 5 2 0) 289 && scal (.rmin 0 5 1 0) 0 && scal (.rmax 0 5 1 0) 65520 && scal (.rsmin 0 5 1 0) 0xFFFFFFF0 &&
      scal (.rsmax 0 5 1 0) 0 && scal (.rcnt 0 5 1 0) 1,
    nop (.rsum 0 5 1 1) && nop (.rsums 0 5 1 1) && nop (.rsumsq 0 5 1 1) && nop (.rmin 0 5 1 1) && nop (.rmax 0 5 1 1) && nop (.rsmin 0 5 1 1) && nop (.rsmax 0 5 1 1) && nop (.rcnt 0 5 1 1)] = true := by decide +kernel

/-! ### Accession, profile, stacks, DMA -/

/-- Poised with a staged set that accession accepts: one pipeline of 32 columns, a pitch, a line rate, host port A. -/
def goodSet (fs : List (Nat × Bits × Nat)) : State :=
  let s := at_ .poised (fs ++ [(Reg.HOST_CTRL 0, Fld.HOST_CTRL_EN, 1), (Reg.FOLIO_GEOM 0, Fld.FOLIO_GEOM_EN, 1), (Reg.STITCH_WIDTH, Fld.STITCH_WIDTH_WS, 32), (Reg.TERR_LEN 0, ⟨0, 32⟩, 32),
    (Reg.SYS_NODE, Fld.SYS_NODE_NLOCK, 1), (Reg.TRG_PITCH_NUM, ⟨0, 32⟩, 10), (Reg.TRG_PITCH_DEN, ⟨0, 32⟩, 1), (Reg.ACC_LRMAX, Fld.ACC_LRMAX_LRMAX, 10000)])
  { s with shadow := s.regs }

/-- Inspecting or Poised with the staged set at a state. -/
def staged (m : Mode) (st : Nat) (fs : List (Nat × Bits × Nat)) : State := at_ m ((Reg.ACC_STATUS, Fld.ACC_STATUS_SSTATE, st) :: fs)

/-- Witness of StagedSet. -/
theorem witness_staged : allOf [
    shows (staged .poised 0 []) (.folioMemoryWrite 0 (.oht 0) 0x440010 5) (fun u => folioBankOf 0x10 == u.folioBank 1) fun v => v.num (Reg.FOLIO_MEMREJ 1) == 1 && v.folio == [],
    shows (staged .poised 1 []) (.folioMemoryWrite 0 (.oht 0) 0x448010 5) (fun u => folioBankOf 0x8010 != u.folioBank 1) fun v => v.num Reg.ACC_SHREJ == 1 && v.folio == [],
    shows (staged .poised 0 []) (.folioMemoryWrite 0 (.oht 0) 0x448010 5) (fun u => u.performs 0x448010 5) fun v => v.folioMemRead 0x448010 == 5 && v.folioMemRead 0x448014 == 0,
    shows (staged .halted 0 []) (.commit 0 (.oht 0) 0) (fun u => u.performs Reg.ACC_CTRL (withBits 0 1)) fun v => v.fld Reg.ACC_STATUS Fld.ACC_STATUS_SSTATE == 1,
    shows (staged .poised 2 []) (.commit 0 (.oht 0) 0) (fun u => u.reaches (.oht 0)) fun v => v.fld Reg.ACC_STATUS Fld.ACC_STATUS_SSTATE == 2 && v.num Reg.ACC_SHREJ == 1,
    shows (staged .poised 1 []) (.accessionComplete 0) (fun u => accessionFault u (u.wouldBe false) == some (0x0202, some 0, some 0))
      fun v => v.fld Reg.ACC_STATUS Fld.ACC_STATUS_SSTATE == 0 && v.num Reg.ACC_REASON == 0x0202,
    shows (goodSet [(Reg.ACC_STATUS, Fld.ACC_STATUS_SSTATE, 1)]) (.accessionComplete 0) (fun u => (accessionFault u (u.wouldBe false)).isNone)
      fun v => v.fld Reg.ACC_STATUS Fld.ACC_STATUS_SSTATE == 2 && v.num Reg.ACC_REASON == 0,
    shows (staged .poised 2 []) (.unseal 0 (.oht 0) 0) (fun u => u.performs Reg.ACC_CTRL (withBits 0 2)) fun v => v.fld Reg.ACC_STATUS Fld.ACC_STATUS_SSTATE == 0,
    shows (staged .inspecting 2 [(Reg.ACC_STATUS, Fld.ACC_STATUS_ARMED, 1)]) (.unseal 0 (.oht 0) 0) (fun u => u.reaches (.oht 0)) fun v => v.fld Reg.ACC_STATUS Fld.ACC_STATUS_SSTATE == 2 && v.num Reg.ACC_SHREJ == 1,
    shows (staged .poised 0 [(Reg.CAT_TIDX, Fld.CAT_TIDX_IDX, 8191), (Reg.CAT_TCTL, Fld.CAT_TCTL_AUTOINC, 1)]) (.catTableWrite 0 (.oht 0) 7) (fun u => u.performs Reg.CAT_TDATA 7 && u.catBank == 0)
      fun v => v.card.cat == [(16383, 7)] && v.fld Reg.CAT_TIDX Fld.CAT_TIDX_IDX == 0,
    shows (staged .poised 2 []) (.catTableWrite 0 (.oht 0) 7) (fun u => u.reaches (.oht 0)) fun v => v.card.cat == [] && v.num Reg.ACC_SHREJ == 1,
    shows { staged .poised 0 [(Reg.CAT_TCTL, Fld.CAT_TCTL_RBANK, 1)] with card := { State.reset.card with cat := [(8192, 7)] } } (.catTableRead 0 (.oht 0)) (fun u => u.readable Reg.CAT_TDATA)
      fun v => v.out == [.readWord Reg.CAT_TDATA 7]] = true := by decide +kernel

/-- Witness of SwitchesAndBreaches. -/
theorem witness_switches : allOf [
    shows (staged .poised 2 []) (.switchArm 0 (.oht 0) 0) (fun u => u.performs Reg.ACC_CTRL (withBits 0 4)) fun v => !v.flag Reg.ACC_STATUS Fld.ACC_STATUS_ARMED,
    shows { staged .inspecting 2 [(Reg.ACC_SWITCH_LO, ⟨0, 32⟩, 8)] with trg := ⟨some (8, 0), none, some 8, 0⟩ } (.switchArm 0 (.oht 0) (setBits 0 Fld.ACC_CTRL_ATEN 1)) (fun u => u.refCame 8) fun v => v.acc.arm == none,
    shows { staged .inspecting 2 [(Reg.CAM_CTRL 12, Fld.CAM_CTRL_EN, 1)] with shadow := ((at_ .poised []).setFld Reg.ACC_CHAIN Fld.ACC_CHAIN_MEMBERS 2).regs } (.switchArm 0 (.oht 0) 0)
      (fun u => 1 < (u.wouldBe false).members) fun v => v.num Reg.ACC_REASON == 0x0401 && v.acc.arm == none,
    shows (staged .inspecting 2 [(Reg.ACC_SWITCH_LO, ⟨0, 32⟩, 9)]) (.switchArm 0 (.oht 0) (setBits 0 Fld.ACC_CTRL_ATEN 1)) (fun u => !u.refCame 9 && (u.wouldBe false).members == 1)
      fun v => v.acc.arm == some (some 9) && v.flag Reg.ACC_STATUS Fld.ACC_STATUS_ARMED,
    shows { staged .inspecting 2 [(Reg.ACC_STATUS, Fld.ACC_STATUS_ARMED, 1)] with acc := { State.reset.acc with arm := some none } } (.switchCancel 0 (.oht 0) 0) (fun u => u.performs Reg.ACC_CTRL (withBits 0 8))
      fun v => v.acc.arm == none && !v.flag Reg.ACC_STATUS Fld.ACC_STATUS_ARMED,
    shows { staged .inspecting 2 [(Reg.ACC_SBOUND 4, ⟨0, 32⟩, 77)] with acc := { State.reset.acc with due := some 9 } } (.handOver 0) (fun u => u.mode == .inspecting && u.acc.due == some 9 && !u.boundaryBy 9)
      fun v => v.fld Reg.ACC_STATUS Fld.ACC_STATUS_SSTATE == 0 && v.num (Reg.ACC_BOUND 4) == 77 && v.acc.due == none,
    shows { staged .inspecting 2 [] with acc := { State.reset.acc with due := some 9 }, err := { State.reset.err with boundary := some 9 } } (.handOver 0) (fun u => u.boundaryBy 9)
      fun v => v.fld Reg.ACC_STATUS Fld.ACC_STATUS_SSTATE == 2 && v.acc.due == some 9,
    shows (link 13 5 []) (.digest 0 13 0x100000007 0) (fun u => u.mode.active && u.lstate 13 == 5) fun v => v.acc.livePeers == [(13, some 7)],
    shows (link 12 5 []) (.digest 0 12 0x600000007 0xFFFFFFFF) (fun u => u.lstate 12 == 5) fun v => v.acc.peers == [(12, 7, 3, -1)] && v.acc.livePeers == [],
    shows (link 12 5 [(Reg.ACC_LIVEDIG, ⟨0, 32⟩, 7)]) (.digestPeriod 0) (fun u => u.linkReady 12 && !u.linkReady 13) fun v => v.out == [.mgmt 12 9 1 0, .mgmt 12 9 0 0x100000007, .mgmt 12 9 1 0, .mgmt 12 9 0 0],
    shows (at_ .poised []) (.digestPeriod 0) (fun u => !u.linkReady 12 && !u.linkReady 13) fun v => v.out == [],
    shows { at_ .inspecting [] with now := 2 * 10 ^ 9 + 1, acc := { State.reset.acc with differ := [(12, some 0)] } } (.seamDigest 0 12) (fun u => Store.get (fun _ => none) 12 u.acc.differ == some 0)
      fun v => v.err.breaches == [⟨8, 12, none, true, 2 * 10 ^ 9 + 1⟩],
    shows { at_ .inspecting [] with now := 2 * 10 ^ 9, acc := { State.reset.acc with differ := [(12, some 0)] } } (.seamDigest 0 12) (fun u => u.mode == .inspecting) fun v => v.err.breaches == [],
    shows { at_ .inspecting [] with err := { State.reset.err with boundary := some 4, breaches := [⟨7, 12, some 4, true, 0⟩] } } (.breach 0) (fun u => u.dueBreaches 4 == [⟨7, 12, some 4, true, 0⟩])
      fun v => v.mode == .halted && v.fld Reg.ACC_BREACH Fld.ACC_BREACH_CODE == 7 && v.err.haltLine == some 4 && v.flag Reg.ERR_STATUS Fld.ERR_STATUS_FROMINSP,
    shows { at_ .inspecting [] with err := { State.reset.err with boundary := some 4, breaches := [⟨7, 12, some 5, true, 0⟩] } } (.breach 0) (fun u => u.dueBreaches 4 == []) fun v => v.mode == .inspecting] = true := by decide +kernel

/-- Witness of ProfileSyncs. -/
theorem witness_profile : allOf [
    shows { at_ .inspecting [(Reg.PROF_SYNCAT_LO, ⟨0, 32⟩, 8)] with trg := ⟨some (8, 0), none, some 8, 0⟩ } (.profSync 0 (.oht 0) 2) (fun u => u.performs Reg.PROF_SYNC (withBits 2 1) && u.refCame 8)
      fun v => v.num (Reg.PROF_CNT 3) == 1 && v.prof.pend == none,
    shows { at_ .inspecting [(Reg.PROF_SYNCAT_LO, ⟨0, 32⟩, 9)] with trg := ⟨some (8, 0), none, some 8, 0⟩ } (.profSync 0 (.oht 0) 2) (fun u => !u.refCame 9) fun v => v.prof.pend == some (9, 0) && v.flag Reg.PROF_SYNC Fld.PROF_SYNC_PENDING,
    shows (at_ .poised []) (.profSync 0 (.oht 0) 0) (fun u => u.fld Reg.ACC_CHAIN Fld.ACC_CHAIN_INDEX == 0) fun v => v.prof.waitRef && v.prof.pend == none,
    shows (at_ .poised [(Reg.ACC_CHAIN, Fld.ACC_CHAIN_INDEX, 1)]) (.profSync 0 (.oht 0) 0) (fun u => u.fld Reg.ACC_CHAIN Fld.ACC_CHAIN_INDEX == 1) fun v => v.num (Reg.PROF_CNT 3) == 1 && !v.prof.waitRef,
    shows { at_ .poised [(Reg.PROF_CTRL, Fld.PROF_CTRL_PINEN, 1)] with now := 10 ^ 6, prof := { State.reset.prof with edgeAt := some 1 } } (.profsyncEdge 0 true) (fun u => !u.pins.profSync && !u.flag Reg.PROF_CTRL Fld.PROF_CTRL_PINPOL)
      fun v => v.num (Reg.PROF_CNT 3) == 1 && v.prof.edgeAt == some (10 ^ 6),
    shows { at_ .poised [(Reg.PROF_CTRL, Fld.PROF_CTRL_PINEN, 1)] with now := 10 ^ 6, prof := { State.reset.prof with edgeAt := some 0 } } (.profsyncEdge 0 true) (fun u => u.mode.active)
      fun v => v.prof.waitRef && v.pins.profSync && v.prof.edgeAt == some (10 ^ 6),
    shows { at_ .poised [(Reg.PROF_CTRL, Fld.PROF_CTRL_PINEN, 0)] with now := 10 ^ 6 } (.profsyncEdge 0 true) (fun u => !u.flag Reg.PROF_CTRL Fld.PROF_CTRL_PINEN) fun v => !v.prof.waitRef && v.prof.edgeAt == some (10 ^ 6),
    shows { at_ .inspecting [(Reg.CAM_STATE 12, Fld.CAM_STATE_LSTATE, 5)] with trg := ⟨some (8, 0), none, some 8, 0⟩ } (.profsyncMessage 0 8) (fun u => u.lineOf48 8 == 8 && u.lstate 12 == 5)
      fun v => v.num (Reg.PROF_CNT 3) == 1 && v.prof.pend == none,
    shows { at_ .inspecting [(Reg.CAM_STATE 12, Fld.CAM_STATE_LSTATE, 5), (Reg.CAM_STATE 13, Fld.CAM_STATE_LSTATE, 5), (Reg.CAM_CTRL 13, Fld.CAM_CTRL_EN, 1)] with trg := ⟨some (8, 0), none, some 8, 0⟩ } (.profsyncMessage 0 9)
      (fun u => !u.refCame (u.lineOf48 9)) fun v => v.prof.pend == some (9, 0) && v.out == [.mgmt 13 10 0 9],
    shows { open3 1 0 (folio0 0) [] with prof := { State.reset.prof with inputs := 5, pend := some (3, 0) }, seg := { State.reset.seg with times := [⟨3, 0, 0, 5, []⟩] } } (.profileSyncApply 0)
      (fun u => (slotView u).delivers && !(slotView u).foliosDone && u.syncDue 3 5) fun v => v.prof.inputs == 0 && v.getS64 Reg.PROF_SYNCLINE_LO == 3 && v.flag Reg.PROF_EVT ⟨1, 1⟩,
    shows (at_ .poised [(Reg.PROF_TIDX, Fld.PROF_TIDX_IDX, 49151), (Reg.PROF_TCTL, Fld.PROF_TCTL_AUTOINC, 1)]) (.profTableWrite 0 (.oht 0) 5) (fun u => u.performs Reg.PROF_TDATA 5 && u.profBank == 0)
      fun v => v.prof.tables == [(2 ^ 18 + 49151, 5)] && v.fld Reg.PROF_TIDX Fld.PROF_TIDX_IDX == 0,
    shows (at_ .poised [(Reg.PROF_TIDX, Fld.PROF_TIDX_IDX, 256), (Reg.PROF_TCTL, Fld.PROF_TCTL_TSEL, 2), (Reg.PROF_TCTL, Fld.PROF_TCTL_AUTOINC, 0)]) (.profTableWrite 0 (.oht 0) 5) (fun u => u.reaches (.oht 0))
      fun v => v.prof.tables == [] && v.num Reg.ACC_SHREJ == 0,
    shows (staged .poised 1 []) (.profTableWrite 0 (.oht 0) 5) (fun u => u.reaches (.oht 0)) fun v => v.prof.tables == [] && v.num Reg.ACC_SHREJ == 1,
    shows (at_ .poised [(Reg.PROF_TCTL, Fld.PROF_TCTL_TSEL, 1)]) (.profTableRead 0 (.oht 0)) (fun u => u.readable Reg.PROF_TDATA) fun v => v.out == [.readWord Reg.PROF_TDATA 0x10000]] = true := by decide +kernel

/-- A crop request of the first crop list that is ready. -/
def crop1 (dropped : Bool) : CropReq := ⟨0, 4, 0, 0, 8, 8, 0, false, false, true, dropped⟩

/-- Queue 60 of a size with a crop request in front, the rows 0 to `head` held, whose headers all read as row 0 and line 0. -/
def cropping (size head : Nat) (c : CropReq) : State :=
  { sized .poised 60 size [(Reg.DMA_CTRL, Fld.DMA_CTRL_EN, 1), (Reg.STACKS_NROWS, Fld.STACKS_NROWS_NROWS, 1024), (Reg.STACKS_STRIDE, ⟨0, 32⟩, 128), (Reg.STACKS_HEADROW_LO, ⟨0, 32⟩, head)] with
      cropReqs := [(0, [c])], stk := { State.reset.stk with empty := false } }

/-- A relay on stream 0 without reservation, its next row, the newest row. -/
def relaying (size row head : Nat) : State :=
  { sized .poised 48 size [(Reg.STR_CFG 0, Fld.STR_CFG_SRC, 1), (Reg.STACKS_CTRL, Fld.STACKS_CTRL_EN, 1), (Reg.ACC_STREAM 0, Fld.ACC_STREAM_PORT, 3), (Reg.STACKS_HEADROW_LO, ⟨0, 32⟩, head)] with
      stk := { State.reset.stk with relay := some row, empty := false } }

/-- Witness of RowsAndCrops. -/
theorem witness_rows : allOf [
    shows { at_ .inspecting [(Reg.STACKS_NROWS, Fld.STACKS_NROWS_NROWS, 1024), (Reg.STACKS_STRIDE, ⟨0, 32⟩, 128)] with stk := { State.reset.stk with pending := [⟨1025, -3, some [0xAB]⟩] } } (.stacksRowCommit 0)
      (fun u => u.mode.active && u.stk.empty) fun v => v.ram == [(128, 0xAB)] && v.get64 Reg.STACKS_HEADROW_LO == 1025 && v.get64 Reg.STACKS_OLDROW_LO == 1025 && v.getS64 Reg.STACKS_HEADLINE_LO == -3 && v.stk.pending == [],
    shows { at_ .poised [(Reg.STACKS_NROWS, Fld.STACKS_NROWS_NROWS, 1024)] with stk := { State.reset.stk with pending := [⟨7, 3, some []⟩], empty := false }, cropReqs := [(0, [{ crop1 false with ready := false }])] } (.stacksRowCommit 0)
      (fun u => !u.stk.empty) fun v => v.get64 Reg.STACKS_OLDROW_LO == 0 && v.cropReqs == [(0, [crop1 false])],
    shows (at_ .poised []) (.stacksRowCommit 0) (fun u => u.stk.pending == []) fun v => v.num (Reg.STACKS_CNT 0) == 0,
    meets (cropping 64 0 (crop1 true)) (fun u => !u.shadowTakes && u.qFits 60 (u.cropRecord (crop1 true)).1.1.length && (u.cropRecord (crop1 true)).1.2.1 == 2),
    meets (cropping 64 0 (crop1 false)) (fun u => u.qFits 60 (u.cropRecord (crop1 false)).1.1.length && (u.cropRecord (crop1 false)).1.2 == (0, true)),
    meets (cropping 64 1 (crop1 false)) (fun u => u.qFits 60 (u.cropRecord (crop1 false)).1.1.length && (u.cropRecord (crop1 false)).1.2.1 == 1),
    meets { cropping 0 0 (crop1 true) with mode := .inspecting } (fun u => !u.qFits 60 (u.cropRecord (crop1 true)).1.1.length),
    shows (relaying 64 1 1) (.unreservedRelayRead 0) (fun u => u.relayChan == some (0, false) && u.headerRow 1 != 1) fun v => v.stk.relay == some 2 && (v.queue 48).packets == [],
    shows (relaying 64 0 0) (.unreservedRelayRead 0) (fun u => u.headerRow 0 == 0 && u.headerLine 0 == 0 && u.qFits 48 (u.relayRecord 0).length && !u.shadowTakes) fun v => v.stk.relay == some 1 && (v.queue 48).packets.length == 1,
    shows (relaying 0 0 0) (.unreservedRelayRead 0) (fun u => !u.qFits 48 (u.relayRecord 0).length) fun v => v.stk.relay == some 1 && v.num (Reg.Q_DROP 48) == 1] = true := by decide +kernel

/-- A replay of two rows from row 5 with no lag, at a tick. -/
def replay1 (tick : Nat) (fetching : Option Nat) (last : Option (Nat × RingRow)) : ReplayHid := ⟨5, 2, 0, 1000, 0, tick, fetching, last, none, [], none, []⟩

/-- Inspecting with replay 0 in progress. -/
def replaying (now : Nat) (h : ReplayHid) : State :=
  { at_ .inspecting [(Reg.STACKS_NROWS, Fld.STACKS_NROWS_NROWS, 1024), (Reg.STACKS_STRIDE, ⟨0, 32⟩, 128)] with now := now, stk := { State.reset.stk with replays := [(0, some h)], empty := false } }

/-- Witness of Replays. -/
theorem witness_replays : allOf [
    shows { at_ .inspecting [(Reg.ACC_REPLAY 0, Fld.ACC_REPLAY_RATE, 1000), (Reg.FOLIO_GEOM 12, Fld.FOLIO_GEOM_EN, 1), (Reg.RP_FIRST_LO 0, ⟨0, 32⟩, 5), (Reg.RP_COUNT 0, ⟨0, 32⟩, 2), (Reg.STACKS_OLDROW_LO, ⟨0, 32⟩, 5),
        (Reg.STACKS_HEADROW_LO, ⟨0, 32⟩, 6)] with stk := { State.reset.stk with empty := false } } (.rpGo 0 (.oht 0) 0 0) (fun u => u.performs (Reg.RP_CTRL 0) (withBits 0 1) && u.replayAllowed 0)
      fun v => v.flag (Reg.RP_CTRL 0) Fld.RP_CTRL_RUNNING && (v.replay 0).map (fun h => (h.first, h.count, h.q0, h.rate)) == some (5, 2, 10 ^ 7, 1000),
    shows (at_ .poised []) (.rpGo 0 (.oht 0) 3 0) (fun u => !u.replayAllowed 3) fun v => v.fld (Reg.RP_CTRL 3) Fld.RP_CTRL_STATUS == 7,
    shows (at_ .poised []) (.rpAbort 0 (.oht 0) 3 0) (fun u => (u.replay 3).isNone && u.performs (Reg.RP_CTRL 3) (withBits 0 2)) fun v => v.fld (Reg.RP_CTRL 3) Fld.RP_CTRL_STATUS == 0,
    shows (replaying 0 (replay1 2 none none)) (.rpAbort 0 (.oht 0) 0 0) (fun u => (u.replay 0).isSome) fun v => (v.replay 0).bind ReplayHid.stop == some 4,
    shows (replaying 0 (replay1 1 none none)) (.rpAbort 0 (.oht 0) 0 0) (fun u => (u.replay 0).isSome) fun v => v.replay 0 == none && v.fld (Reg.RP_CTRL 0) Fld.RP_CTRL_STATUS == 4,
    shows (replaying (10 ^ 9 - 1) (replay1 1 none none)) (.replayTick 0 0) (fun u => (u.replay 0).isSome) fun v => v.num (Reg.RP_TICK 0) == 0,
    shows (replaying 0 (replay1 0 none none)) (.replayTick 0 0) (fun u => (u.replay 0).isSome) fun v => v.num (Reg.RP_TICK 0) == 1 && (v.replay 0).bind ReplayHid.fetching == some 5,
    shows (replaying (10 ^ 10) (replay1 4 none none)) (.replayTick 0 0) (fun u => (u.replay 0).isSome) fun v => v.replay 0 == none && v.fld (Reg.RP_CTRL 0) Fld.RP_CTRL_STATUS == 2,
    shows { replaying 0 (replay1 1 (some 5) none) with ram := [(5 * 128 + 40, 5)] } (.replayFetchDone 0 0) (fun u => u.headerRow 5 == 5) fun v => v.get64 (Reg.RP_ROW_LO 0) == 5 && ((v.replay 0).bind ReplayHid.last).map Prod.fst == some 5,
    shows (replaying 0 (replay1 1 (some 5) none)) (.replayFetchDone 0 0) (fun u => u.headerRow 5 != 5) fun v => v.replay 0 == none && v.fld (Reg.RP_CTRL 0) Fld.RP_CTRL_STATUS == 3 && v.num (Reg.STACKS_CNT 5) == 1,
    shows (replaying 0 (replay1 2 (some 6) (some (5, ⟨0, 0, 0, 0, 0, 0, 0, 0, 0, 0, [], []⟩)))) (.replayFetchDone 0 0) (fun u => u.headerRow 6 != 6) fun v => (v.replay 0).map ReplayHid.count == some 1,
    shows (replaying 0 (replay1 2 none none)) (.replayFetchDone 0 0) (fun u => (u.replay 0).isSome) fun v => v.replay 0 == some (replay1 2 none none)] = true := by decide +kernel

/-- Channel 0 busy with a descriptor: words 0 to 9. -/
def dma (fs : List (Nat × Bits × Nat)) (ws : List Nat) (h : DmaChan) : State :=
  let s := at_ .poised ((Reg.DMA_CTRL, Fld.DMA_CTRL_EN, 1) :: (Reg.CH_STATUS 0, Fld.CH_STATUS_BUSY, 1) :: fs)
  { ws.zipIdx.foldl (fun s w => s.setNum (dscReg 0 w.2) w.1) s with dma := { State.reset.dma with chans := [(0, h)] } }

/-- Witness of DmaControl. -/
theorem witness_dmaControl : allOf [
    shows (at_ .poised []) (.load 0 (.oht 0) 28 0) (fun u => u.performs (Reg.CH_CTRL 28) (withBits 0 1)) fun v => v.num Reg.DMA_REJ == 1,
    shows (dma [] [1] (dma0 0)) (.load 0 (.oht 0) 0 0) (fun u => u.flag (Reg.CH_STATUS 0) Fld.CH_STATUS_BUSY) fun v => v.flag (Reg.CH_STATUS 0) Fld.CH_STATUS_SEALED,
    shows { at_ .poised [] with shadow := [(dscReg 27 4, 64)] } (.load 0 (.oht 0) 27 0) (fun u => !u.flag (Reg.CH_STATUS 27) Fld.CH_STATUS_BUSY)
      fun v => v.flag (Reg.CH_STATUS 27) Fld.CH_STATUS_BUSY && v.num (Reg.CH_CURDESC 27) == 0xFFFFFFFF && v.dsc 27 4 == 64,
    shows (dma [] [1] (dma0 0)) (.dmaStop 0 (.oht 0) 0 0) (fun u => u.performs (Reg.CH_CTRL 0) (withBits 0 2)) fun v => (v.chan 0).stop,
    shows (dma [] [1] (dma0 0)) (.dmaAbort 0 (.oht 0) 0 0) (fun u => u.performs (Reg.CH_CTRL 0) (withBits 0 4)) fun v => (v.chan 0).fin == some 5 && (v.chan 0).abort,
    shows (at_ .poised []) (.dmaAbort 0 (.oht 0) 31 0) (fun u => !u.flag (Reg.CH_STATUS 31) Fld.CH_STATUS_BUSY) fun v => v.chan 31 == dma0 31,
    shows (dma [] [3, 0, 0, 0, 4, 1, 0, 0, 0, 0xAB] (dma0 0)) (.bufferGrant 0) (fun u => (((List.range 28).map fun i => (u.dma.turn + 1 + i) % 28).find? u.wantsBurst) == some 0)
      fun v => (v.chan 0).pos == 4 && (v.chan 0).bursts.map (fun b => (b.1, b.2.2)) == [(0, [0xAB, 0, 0, 0])],
    shows (dma [] [1, 0x2FFFFFE, 0x10, 0, 4] (dma0 0)) (.bufferGrant 0) (fun u => u.readBurst 0 0 == none) fun v => (v.chan 0).fin == some 2,
    shows (dma [(Reg.Q_CFG 3, Fld.Q_CFG_SIZE, 2)] [3, 0, 0x2000, 3, 65, 1] { dma0 0 with waiting := true }) (.queueRoom 0 0) (fun u => u.dscDst 0 % 2 ^ 36 == 3 && u.qFree 3 == 2) fun v => (v.queue 3).resv == 2 && !(v.chan 0).waiting,
    shows (dma [(Reg.Q_CFG 3, Fld.Q_CFG_SIZE, 1)] [3, 0, 0x2000, 3, 65, 1] { dma0 0 with waiting := true }) (.queueRoom 0 0) (fun u => u.qFree 3 == 1) fun v => (v.queue 3).resv == 0 && (v.chan 0).waiting,
    shows (dma [] [1] { dma0 0 with fin := some 2 }) (.dmaDescriptorComplete 0 0) (fun u => spaceOf (u.dscDst 0) < 2) fun v => v.fld (Reg.CH_STATUS 0) Fld.CH_STATUS_RESULT == 2 && v.num Reg.DMA_ERR == 1 && v.num Reg.DMA_DONE == 1,
    shows (dma [] [1] { dma0 0 with fin := some 0, stop := true }) (.dmaDescriptorComplete 0 0) (fun u => (u.chan 0).stop) fun v => v.fld (Reg.CH_STATUS 0) Fld.CH_STATUS_RESULT == 7 && v.fld (Reg.CH_STATUS 0) Fld.CH_STATUS_DESCS == 1,
    shows (dma [] [17] { dma0 0 with fin := some 0 }) (.dmaDescriptorComplete 0 0) (fun u => u.dscLast 0) fun v => v.num Reg.DMA_DONE == 1 && v.num Reg.DMA_ERR == 0 && !v.flag (Reg.CH_STATUS 0) Fld.CH_STATUS_BUSY,
    shows (dma [(Reg.CH_CTRL 0, Fld.CH_CTRL_MAXDESC, 1)] [1] { dma0 0 with fin := some 0 }) (.dmaDescriptorComplete 0 0) (fun u => !u.dscLast 0) fun v => v.fld (Reg.CH_STATUS 0) Fld.CH_STATUS_RESULT == 4,
    shows (dma [(Reg.CH_CTRL 0, Fld.CH_CTRL_MAXDESC, 2)] [1, 0, 0, 0, 0, 0, 0, 0, 0x3000000] { dma0 0 with fin := some 0 }) (.dmaDescriptorComplete 0 0) (fun u => u.dsc 0 8 == 0x3000000) fun v => v.fld (Reg.CH_STATUS 0) Fld.CH_STATUS_RESULT == 6,
    shows { dma [(Reg.CH_CTRL 0, Fld.CH_CTRL_MAXDESC, 2)] [1, 0, 0, 0, 0, 0, 0, 0, 0x40] { dma0 0 with fin := some 0 } with sram := writeBytes [] 0x40 [0x13] } (.dmaDescriptorComplete 0 0) (fun u => descOk (u.sramDesc 0x40))
      fun v => v.flag (Reg.CH_STATUS 0) Fld.CH_STATUS_BUSY && v.num (Reg.CH_CURDESC 0) == 0x40 && v.dsc 0 0 == 0x13,
    shows { dma [(Reg.CH_STATUS 0, Fld.CH_STATUS_SEALED, 1)] [1] { dma0 0 with fin := some 0 } with shadow := [(dscReg 0 4, 9)] } (.dmaDescriptorComplete 0 0) (fun u => !u.dscLast 0)
      fun v => v.flag (Reg.CH_STATUS 0) Fld.CH_STATUS_CHAINCUT && v.dsc 0 4 == 9 && !v.flag (Reg.CH_STATUS 0) Fld.CH_STATUS_SEALED,
    let u := (dma [] [1] (dma0 0)).advanceTo 0;
      u.reaches (.oht 0) && u.flag Reg.DMA_CTRL Fld.DMA_CTRL_EN && u.performs Reg.DMA_CTRL (setBits 0 Fld.DMA_CTRL_EN 0)] = true := by decide +kernel

/-- Witness of DmaMovesBytes: a row copied from SRAM to GDDR6, two rows gathered with a stride, a pattern, a comparison that differs at byte 2. -/
theorem witness_dmaBytes : allOf [
    shows { dma [] [1, 0x10, 0x10, 0x20, 3] (dma0 0) with sram := [(0x10, 1), (0x11, 2), (0x12, 3)] } (.copy 0 0) (fun u => u.hasSpace 0 && u.burstBytes 0 ≤ 0x40000 && spaceOf (u.dscSrc 0) == 1 && spaceOf (u.dscDst 0) == 0 && u.dscTotal 0 == 3)
      fun v => v.ram == [(0x20, 1), (0x21, 2), (0x22, 3)] && (v.chan 0).fin == some 0 && v.num (Reg.CH_DONEB 0) == 3,
    shows { dma [] [2, 0x10, 0x10, 0x20, 1, 2, 2, 1] (dma0 0) with sram := [(0x10, 1), (0x11, 2), (0x12, 3)] } (.gather 0 0) (fun u => u.dscOp 0 == 2 && u.dscTotal 0 == 2) fun v => v.ram == [(0x20, 1), (0x21, 3)],
    shows (dma [] [3, 0, 0x1000, 0x20, 5, 1, 0, 0, 0, 0x44332211] (dma0 0)) (.fill 0 0) (fun u => u.dscOp 0 == 3 && spaceOf (u.dscDst 0) == 1) fun v => v.sram == [(0x20, 0x11), (0x21, 0x22), (0x22, 0x33), (0x23, 0x44), (0x24, 0x11)],
    shows { dma [] [4, 0x10, 0x10, 0x20, 3, 1] (dma0 0) with sram := [(0x10, 1), (0x11, 2), (0x12, 3)], ram := [(0x20, 1), (0x21, 2)] } (.compare 0 0) (fun u => u.dscOp 0 == 4) fun v => (v.chan 0).fin == some 1 && v.num (Reg.CH_MISS 0) == 2,
    shows (dma [] [4, 0x10, 0x10, 0x20, 3, 1] (dma0 0)) (.compare 0 0) (fun u => u.dscOp 0 == 4) fun v => (v.chan 0).fin == some 0] = true := by decide +kernel

/-! ### Queues and host ports -/

/-- A queue of size 4 with packets in it. -/
def queued (m : Mode) (q : Nat) (h : QueueHid) (fs : List (Nat × Bits × Nat)) : State :=
  { sized m q 4 fs with queues := [(q, h)], sram := writeBytes [] ((sized m q 4 fs).qBase q) [1, 2, 3, 4, 5, 6, 7, 8] }

/-- A packet with a key, sent at a time. -/
def pkt (len key : Nat) (sentAt : Option Nat) : QPacket := ⟨len, key, 1, none, sentAt, false⟩

/-- Witness of QueuePorts. -/
theorem witness_queues : allOf [
    shows (queued .poised 5 { queue0 5 with lastRead := 9 } []) (.qRdataRead 0 (.oht 0) 5) (fun u => u.readable (Reg.Q_RDATA 5) && u.qHead 5 == none)
      fun v => v.out == [.readWord (Reg.Q_RDATA 5) 9] && v.flag (Reg.Q_STATUS 5) Fld.Q_STATUS_UNDERRUN,
    shows (queued .poised 5 { queue0 5 with packets := [pkt 8 0 none] } []) (.qRdataRead 0 (.oht 0) 5) (fun u => (u.qHead 5).isSome)
      fun v => v.out == [.readWord (Reg.Q_RDATA 5) 0x04030201] && (v.queue 5).part == 4 && (v.queue 5).packets.length == 1,
    shows (queued .poised 5 { queue0 5 with packets := [pkt 8 0 none], part := 4 } []) (.qRdataRead 0 (.oht 0) 5) (fun u => (u.qHead 5).isSome)
      fun v => v.out == [.readWord (Reg.Q_RDATA 5) 0x08070605] && (v.queue 5).packets == [] && v.num (Reg.Q_RPTR 5) == 1,
    shows (at_ .poised []) (.qRdataRead 0 (.oht 0) 48) (fun u => u.readable (Reg.Q_RDATA 48)) fun v => v.out == [.readWord (Reg.Q_RDATA 48) 0],
    shows (queued .poised 5 (queue0 5) []) (.qWdataWrite 0 (.oht 0) 5 0x0A0B0C0D) (fun u => u.performs (Reg.Q_WDATA 5) 0x0A0B0C0D && u.qFree 5 == 4) fun v => (v.queue 5).port == [0xD, 0xC, 0xB, 0xA],
    shows (at_ .poised []) (.qWdataWrite 0 (.oht 0) 5 1) (fun u => u.qFree 5 == 0) fun v => (v.queue 5).port == [] && v.num (Reg.Q_DROP 5) == 1,
    shows (queued .poised 5 (queue0 5) []) (.weop 0 (.oht 0) 5 0) (fun u => u.performs (Reg.Q_CMD 5) (withBits 0 32)) fun v => (v.queue 5).packets == [],
    shows (queued .poised 5 { queue0 5 with port := [9, 8, 7, 6] } [(Reg.Q_WPTR 5, ⟨0, 20⟩, 3)]) (.weop 0 (.oht 0) 5 0) (fun u => portWrites 5 && u.reaches (.oht 0))
      fun v => (v.queue 5).packets == [⟨4, 0, 0, none, none, false⟩] && v.num (Reg.Q_WPTR 5) == 0x80000,
    shows (queued .poised 57 { queue0 57 with port := [9, 8, 7, 6] } []) (.weop 0 (.oht 0) 57 0) (fun u => !portWrites 57 && u.performs (Reg.Q_CMD 57) (withBits 0 32)) fun v => (v.queue 57).port.length == 4,
    shows (at_ .poised []) (.flush 0 (.oht 0) 5 0) (fun u => u.performs (Reg.Q_CMD 5) (withBits 0 1) && !isPriv 5) fun v => v.flag (Reg.Q_STATUS 5) Fld.Q_STATUS_FLUSHPEND,
    shows (at_ .poised []) (.flush 0 (.oht 0) 60 0) (fun u => u.performs (Reg.Q_CMD 60) (withBits 0 1) && isPriv 60) fun v => v.num (Reg.Q_DROP 60) == 1,
    shows (queued .poised 5 { queue0 5 with packets := [pkt 8 0 none, pkt 8 0 none] } [(Reg.Q_WPTR 5, ⟨0, 20⟩, 2), (Reg.Q_STATUS 5, Fld.Q_STATUS_FLUSHPEND, 1)]) (.flushApply 0 5) (fun u => u.flushMay 5)
      fun v => (v.queue 5).packets == [] && v.num (Reg.Q_RPTR 5) == 2 && v.num (Reg.Q_DROP 5) == 2,
    shows (at_ .poised []) (.flushApply 0 5) (fun u => !u.flushMay 5) fun v => v.num (Reg.Q_DROP 5) == 0,
    shows (queued .poised 5 { queue0 5 with packets := [pkt 8 0 none] } [(Reg.Q_WPTR 5, ⟨0, 20⟩, 1), (Reg.Q_DROP 5, ⟨0, 32⟩, 7)]) (.peakclr 0 (.oht 0) 5 0) (fun u => u.performs (Reg.Q_CMD 5) (withBits 0 16))
      fun v => v.num (Reg.Q_DROP 5) == 0 && v.fld (Reg.Q_PEAK 5) Fld.Q_PEAK_V == v.qOcc 5] = true := by decide +kernel

/-- Queue 61 with three packets of one unit, two of them sent. -/
def sent2 (bm : Option Nat) (rewind : Option Bool) : State :=
  queued .poised 61 { queue0 61 with packets := [pkt 8 4 (some 0), pkt 8 6 (some 0), pkt 8 7 none], sent := 2, bm := bm, rewind := rewind, lastTaken := 6 }
    [(Reg.Q_WPTR 61, ⟨0, 20⟩, 3), (Reg.Q_RPTR 61, ⟨0, 20⟩, 2), (Reg.Q_BMPTR 61, Fld.Q_BMPTR_PTR, 1)]

/-- Witness of PrivilegedQueues. -/
theorem witness_privileged : allOf [
    shows (sent2 none none) (.bookmark 0 (.oht 0) 61 0) (fun u => u.performs (Reg.Q_CMD 61) (withBits 0 2)) fun v => (v.queue 61).bm == some 2 && v.fld (Reg.Q_BMPTR 61) Fld.Q_BMPTR_PTR == 2,
    shows (sent2 none none) (.rewind 0 (.oht 0) 61 0) (fun u => u.performs (Reg.Q_CMD 61) (withBits 0 4)) fun v => (v.queue 61).rewind == some false,
    shows (sent2 none (some true)) (.rewind 0 (.oht 0) 61 0) (fun u => u.reaches (.oht 0)) fun v => (v.queue 61).rewind == some true,
    shows (sent2 none none) (.rewfree 0 (.oht 0) 61 0) (fun u => u.performs (Reg.Q_CMD 61) (withBits 0 8)) fun v => (v.queue 61).rewind == some true,
    shows (sent2 (some 1) (some false)) (.rewindApply 0 61) (fun u => u.mode.active && (u.queue 61).part == 0)
      fun v => (v.queue 61).sent == 1 && v.num (Reg.Q_RPTR 61) == 1 && (v.queue 61).packets.map QPacket.again == [false, true, false] && v.num (Reg.PQ_REWINDS 2) == 1,
    shows (sent2 (some 1) (some true)) (.rewindApply 0 61) (fun u => u.mode.active) fun v => (v.queue 61).sent == 0 && v.num (Reg.Q_RPTR 61) == 0 && (v.queue 61).packets.map QPacket.again == [true, true, false],
    shows (sent2 none none) (.pqRelease 0 (.oht 0) 61 0 0) (fun u => u.performs (Reg.PQ_RELEASE_HI 2) 0 && u.performs (Reg.PQ_RELEASE_LO 2) 0) fun v => (v.queue 61).packets.length == 3,
    shows (sent2 (some 1) none) (.pqRelease 0 (.oht 0) 61 4 0) (fun u => u.get64 (Reg.PQ_RELKEY_LO 2) < 4) fun v => (v.queue 61).packets.length == 2 && (v.queue 61).sent == 1 && (v.queue 61).bm == some 0 && v.num (Reg.Q_FPTR 61) == 1,
    shows (sent2 (some 1) none) (.pqRelease 0 (.oht 0) 61 9 0) (fun u => (u.queue 61).lastTaken < 9) fun v => (v.queue 61).packets.length == 1 && v.num (Reg.PQ_BEYOND 2) == 1 && (v.queue 61).bm == none] = true := by decide +kernel

/-- A frame to the sub-port's own address, of a length. -/
def rx (len : Nat) : RxFrame := ⟨0x44332210, none, len⟩

/-- A host. -/
def hostA : Peer := ⟨1, false, 2, 3⟩

/-- A datagram of it with a SEQ. -/
def dgram (seq : Nat) : OhtRx := ⟨0, 0, rx 64, hostA, 0, seq, 0⟩

/-- A Pdelay_Req over Ethernet as a frame. -/
def pdelay : FwdFrame := ⟨1, List.replicate 12 0 ++ [0x88, 0xF7, 2], none⟩

/-- Witness of HostLinks. -/
theorem witness_hostLinks : allOf [
    shows (at_ .poised [(Reg.HOST_CTRL 1, Fld.HOST_CTRL_EN, 1)]) (.subportLinkUp 0 4) (fun u => u.hasSub 4 && !u.subLink 4) fun v => v.subLink 4 && v.flag Reg.TWI_SUM Fld.TWI_SUM_LINKUP,
    shows (host .inspecting [(Reg.ACC_CQRATE 0, Fld.ACC_CQRATE_RATE, 1)]) (.subportLinkDown 0 0 true) (fun u => u.hasSub 0 && u.subLink 0 && u.carries 0)
      fun v => !v.subLink 0 && v.flag (Reg.HOST_STATUS 0) ⟨4, 1⟩ && v.err.breaches == [⟨11, 0, none, true, 0⟩],
    shows (host .poised []) (.arpRequest 0 0 ⟨broadcastMac, none, 46⟩ 1 2 0x0100000A) (fun u => u.accepts 0 ⟨broadcastMac, none, 46⟩ [broadcastMac] && u.ip4Of 0 == 0x0100000A)
      fun v => (v.replyList 0).length == 1 && v.num (Reg.SP_CNT 0 3 0) == 0,
    shows (host .poised []) (.arpRequest 0 0 ⟨broadcastMac, none, 46⟩ 1 2 3) (fun u => u.ip4Of 0 != 3) fun v => v.replyList 0 == [] && v.num (Reg.SP_CNT 0 3 0) == 1,
    shows (host .poised []) (.icmpEchoRequest 0 0 (rx 46) 1 2 0x0100000A 7 [1, 2]) (fun u => u.accepts 0 (rx 46) []) fun v => (v.replyList 0).length == 1 && v.num (Reg.SP_CNT 0 0 0) == 1,
    shows (host .poised []) (.icmpEchoRequest 0 0 (rx 46) 1 2 3 7 []) (fun u => u.accepts 0 (rx 46) []) fun v => v.replyList 0 == [] && v.num (Reg.SP_CNT 0 3 0) == 1,
    shows (host .poised []) (.icmpv6EchoRequest 0 0 (rx 46) 1 2 ((host .poised []).linkLocal 0) 7 [1, 2]) (fun u => (u.ip6All 0).contains (u.linkLocal 0)) fun v => (v.replyList 0).length == 1,
    shows (host .poised []) (.icmpv6EchoRequest 0 0 (rx 46) 1 2 3 7 []) (fun u => !(u.ip6All 0).contains 3) fun v => v.num (Reg.SP_CNT 0 3 0) == 1,
    shows (host .poised []) (.neighbourSolicitation 0 0 (rx 46) 1 2 ((host .poised []).linkLocal 0)) (fun u => u.accepts 0 (rx 46) (u.solicitedMacs 0)) fun v => (v.replyList 0).length == 1,
    shows (host .poised []) (.neighbourSolicitation 0 0 (rx 46) 1 2 3) (fun u => !(u.ip6All 0).contains 3) fun v => v.num (Reg.SP_CNT 0 3 0) == 1,
    shows (host .poised []) (.frameDiscard 0 0 (rx 1501) .fcs) (fun u => u.subLink 0) fun v => v.num (Reg.SP_CNT 0 2 0) == 1,
    shows (host .poised []) (.frameDiscard 0 0 (rx 46) .macControl) (fun u => u.subLink 0) fun v => v.num (Reg.SP_CNT 0 4 0) == 1,
    shows (host .poised []) (.frameDiscard 0 0 (rx 1501) .other) (fun u => u.mtuOf 0 == 1500) fun v => v.num (Reg.SP_CNT 0 3 0) == 1 && v.num (Reg.SP_CNT 0 0 0) == 0,
    shows (host .poised []) (.frameDiscard 0 0 (rx 1500) .ptp) (fun u => u.accepts 0 (rx 1500) [0x44332210]) fun v => v.num (Reg.TIME_CNT 2) == 1,
    shows (host .poised []) (.frameDiscard 0 0 (rx 1500) .badDatagram) (fun u => u.accepts 0 (rx 1500) []) fun v => v.num (Reg.OHT_CNT 3) == 1,
    shows (host .poised [(Reg.OHT_CTRL, Fld.OHT_CTRL_EN, 0)]) (.frameDiscard 0 0 (rx 1500) .badDatagram) (fun u => !u.flag Reg.OHT_CTRL Fld.OHT_CTRL_EN) fun v => v.num (Reg.OHT_CNT 3) == 0 && v.num (Reg.SP_CNT 0 3 0) == 1,
    shows (host .poised []) (.frameDiscard 0 0 { rx 46 with dst := 7 } .other) (fun u => !u.accepts 0 { rx 46 with dst := 7 } (broadcastMac :: u.solicitedMacs 0 ++ ptpMacs)) fun v => v.num (Reg.SP_CNT 0 3 0) == 0,
    shows (host .poised []) (.frameDiscard 0 0 (rx 46) (.badOp (dgram 5) 9 0)) (fun u => u.sessionOf hostA == none) fun v => (v.controlList 0).length == 1,
    shows (host .poised [(Reg.HOST_CTRL 0, Fld.HOST_CTRL_FWD, 1), (Reg.HOST_CTRL 1, Fld.HOST_CTRL_EN, 1)]) (.frameForward 0 0 pdelay) (fun u => u.forwards && isPdelay pdelay) fun v => v.forwardList 4 == [],
    shows (host .poised [(Reg.HOST_CTRL 0, Fld.HOST_CTRL_FWD, 1), (Reg.HOST_CTRL 1, Fld.HOST_CTRL_EN, 1)]) (.frameForward 0 0 ⟨1, [5, 6], none⟩) (fun u => u.forwards && isGroup 1)
      fun v => (v.forwardList 4).map (fun x => x.1.bytes) == [[5, 6]],
    shows { host .poised [(Reg.HOST_CTRL 0, Fld.HOST_CTRL_FWD, 1), (Reg.HOST_CTRL 1, Fld.HOST_CTRL_EN, 1)] with host := { State.reset.host with forward := [(4, [(⟨1, List.replicate 1024 0, none⟩, 0)])] } }
      (.frameForward 0 0 ⟨1, [5, 6], none⟩) (fun u => u.forwards) fun v => (v.forwardList 4).length == 2] = true := by decide +kernel

/-- Its session. -/
def sessionA (e : Session) (s : State) : State := { s with host := { s.host with sessions := [(0, some e)] } }

/-- A request under way. -/
def req (op : OhtOp) : HeldReq := ⟨5, 0, 0, 1, op⟩

/-- A session with a request under way. -/
def busyWith (op : OhtOp) : Session := ⟨hostA, 6, [], [], 0, some (req op)⟩

/-- A request of the session performed, and how many answers then wait. -/
def performed (s : State) (op : OhtOp) (f : State → Bool) : Bool :=
  let y := sessionA (busyWith op) s
  y.mode.active && y.session 0 == some (busyWith op) && f (y.perform 0 hostA (req op))

/-- Witness of ControlRequests. -/
theorem witness_controlRequests : allOf [
    shows (host .poised []) (.ident 0 (dgram 5)) (fun u => u.accepts 0 (rx 64) [] && !u.flag Reg.SYS_NODE Fld.SYS_NODE_NLOCK && u.sessionOf hostA == none) fun v => (v.controlList 0).length == 1,
    shows (sessionA ⟨hostA, 5, [], [], 0, none⟩ (host .poised [])) (.write 0 (dgram 5) false (Reg.SP_IPV4 1 0) 1 [7]) (fun u => u.sessionOf hostA == some 0 && u.host.block.isNone)
      fun v => v.num (Reg.SP_IPV4 1 0) == 7 && (v.session 0).map Session.expected == some 6,
    shows (sessionA ⟨hostA, 5, [], [], 0, none⟩ (host .poised [])) (.read 0 (dgram 21) false 0 1) (fun u => u.sessionOf hostA == some 0) fun v => v.num (Reg.OHT_CNT 2) == 1 && (v.controlList 0).length == 1,
    shows (sessionA ⟨hostA, 5, [(4, [9])], [], 0, none⟩ (host .poised [])) (.modify 0 (dgram 4) 0 0 0) (fun u => u.sessionOf hostA == some 0) fun v => v.num (Reg.OHT_CNT 1) == 1 && (v.controlList 0).length == 1,
    performed (host .poised []) (.read false Reg.SYS_ID 1) fun v => (v.controlList 0).length == 1 && v.num (Reg.OHT_CNT 0) == 1 && (v.session 0).map Session.busy == some none,
    performed (host .poised []) (.read false 2 1) fun v => (v.controlList 0).length == 1 && !v.readable 2,
    performed (host .poised []) (.write false (Reg.SP_IPV4 1 0) 1 [9]) fun v => v.num (Reg.SP_IPV4 1 0) == 9 && (v.controlList 0).length == 1,
    performed (host .poised []) (.modify 2 1 1) fun v => (v.controlList 0).length == 1,
    performed (host .poised [((Reg.SP_IPV4 1 0), ⟨0, 32⟩, 0xF0)]) (.modify (Reg.SP_IPV4 1 0) 0xFF 0x1F) fun v => v.num (Reg.SP_IPV4 1 0) == 0x1F,
    performed (host .poised []) .ident fun v => (v.controlList 0).length == 1,
    performed (host .poised []) (.blkwrite 0x1000000010 2 [7, 8]) fun v => v.sram == [(0x10, 7), (0x11, 8)] && v.host.block == some ⟨0, 5, true, 0x1000000010, 2, 0⟩,
    performed (host .poised []) (.blkread 0x1000000010 2) fun v => v.host.block == some ⟨0, 5, false, 0x1000000010, 2, 0⟩ && (v.controlList 0).length == 1,
    performed (host .poised []) .commit fun v => v.host.commit == some (0, 5) && v.fld Reg.ACC_STATUS Fld.ACC_STATUS_SSTATE == 1,
    performed (host .poised [(Reg.ACC_STATUS, Fld.ACC_STATUS_SSTATE, 2)]) .commit fun v => (v.controlList 0).length == 1 && v.host.commit == none] = true := by decide +kernel

/-- Queue 60 with a card sent at time 0, at a later time. -/
def outstanding (m : Mode) (now : Nat) (fs : List (Nat × Bits × Nat)) : State :=
  { queued m 60 { queue0 60 with packets := [pkt 8 4 (some 0)], sent := 1, lastTaken := 4 } fs with now := now }

/-- Witness of ReturnsAndArbitration. -/
theorem witness_returns : allOf [
    shows { sessionA ⟨hostA, 5, [], [⟨7, 0, 0, 1, .ident⟩, ⟨8, 1, 0, 1, .ident⟩], 0, none⟩ (host .poised []) with now := 10 ^ 11 } (.requestHoldTimeout 0 0) (fun u => (u.session 0).isSome)
      fun v => (v.session 0).map (fun e => e.held.map HeldReq.seq) == some [8],
    shows { sessionA (busyWith (.blkwrite 0 1 [7])) (host .poised []) with host := { State.reset.host with sessions := [(0, some (busyWith (.blkwrite 0 1 [7])))], block := some ⟨0, 5, true, 0, 1, 0⟩ } } (.blockTransferComplete 0)
      (fun u => u.host.block.isSome) fun v => v.host.block == none && (v.controlList 0).length == 1,
    shows (host .poised []) (.blockTransferComplete 0) (fun u => u.host.block.isNone) fun v => v.controlList 0 == [],
    shows (let s := outstanding .poised 0 []; { host .poised [(Reg.Q_CFG 60, Fld.Q_CFG_SIZE, 4)] with queues := s.queues }) (.cardReturn 0 (dgram 0) 0 4 false) (fun u => u.accepts 0 (rx 64) [] && u.get64 (Reg.PQ_RELKEY_LO 1) < 4)
      fun v => (v.queue 60).packets == [] && v.get64 (Reg.PQ_RELKEY_LO 1) == 4 && v.num (Reg.OHT_CNT 4) == 1,
    shows (let s := outstanding .poised 0 []; { host .poised [(Reg.Q_CFG 60, Fld.Q_CFG_SIZE, 4)] with queues := s.queues }) (.cardReturn 0 (dgram 0) 0 0 true) (fun u => !u.qInside 60) fun v => (v.queue 60).sent == 0,
    shows (outstanding .poised (5 * 10 ^ 6) [(Reg.CQ_CFG 0, Fld.CQ_CFG_RETX, 5)]) (.automaticRewind 0 0) (fun u => (u.firstSent 60).isSome && !u.qInside 60)
      fun v => (v.queue 60).sent == 0 && v.num (Reg.OHT_CNT 5) == 1,
    shows (outstanding .poised (5 * 10 ^ 6 - 1) [(Reg.CQ_CFG 0, Fld.CQ_CFG_RETX, 5)]) (.automaticRewind 0 0) (fun u => (u.firstSent 60).isSome) fun v => (v.queue 60).sent == 1,
    shows (outstanding .inspecting (5 * 10 ^ 6 + 1) [(Reg.ACC_RET, Fld.ACC_RET_RET, 5)]) (.returnLate 0 0) (fun u => !u.standbyRole && u.mode == .inspecting) fun v => v.err.breaches == [⟨10, 0, none, true, 5 * 10 ^ 6 + 1⟩],
    shows (outstanding .inspecting (5 * 10 ^ 6) [(Reg.ACC_RET, Fld.ACC_RET_RET, 5)]) (.returnLate 0 0) (fun u => u.mode == .inspecting) fun v => v.err.breaches == [],
    shows (host .poised []) (.portArbitration 0 0) (fun u => u.hostRuns 0 && (List.range 6).all fun c => u.readySources 0 c == []) fun v => v.out == [],
    shows { host .poised [] with host := { State.reset.host with replies := [(0, [[1, 2, 3], [4]])] } } (.portArbitration 0 0) (fun u => u.chooseSource 0 5 == some 11 && (List.range 4).all fun d => u.chooseSource 0 (d + 1) == none)
      fun v => v.out == [.frame 0 0 0 [1, 2, 3]] && v.replyList 0 == [[4]],
    shows (host .poised []) (.timedLaunch 0 0) (fun u => u.chooseSource 0 1 == none && u.subLink 0) fun v => v.out == []] = true := by decide +kernel

/-! ### Time -/

/-- A link in READY under a time source, with time updates long gone. -/
def timed (m src st : Nat) (fs : List (Nat × Bits × Nat)) : State :=
  { link m 5 ((Reg.CAM_CTRL m, Fld.CAM_CTRL_EN, 1) :: (Reg.TIME_CTRL, Fld.TIME_CTRL_SRC, src) :: (Reg.TIME_STATUS, Fld.TIME_STATUS_STATE, st) :: fs) with now := 10 ^ 9, t40 := 3 * secondUnits + 2 ^ 40 }

/-- Witness of Timekeeper. -/
theorem witness_time : allOf [
    shows { at_ .poised [(Reg.TIME_SET_NS, ⟨0, 32⟩, 7), (Reg.TIME_SET_SEC_LO, ⟨0, 32⟩, 5)] with now := 999 } (.timeSet 0 (.oht 0) 0) (fun u => u.performs Reg.TIME_CMD (withBits 0 1))
      fun v => v.evrQ == [⟨1000, .setTime 5 7⟩] && v.t40 == 0,
    shows (at_ .poised [(Reg.TIME_STEP_LO, ⟨0, 32⟩, 0xFFFFFFFF), (Reg.TIME_STEP_LO + 4, ⟨0, 32⟩, 0xFFFFFFFF)]) (.timeStep 0 (.oht 0) 0) (fun u => u.performs Reg.TIME_CMD (withBits 0 2))
      fun v => v.evrQ == [⟨1000, .stepTime (-1)⟩],
    arrives (at_ .inspecting []) ⟨0, .setTime 5 7⟩ (fun y => y.mode == .inspecting) fun v => v.num (Reg.TIME_CNT 6) == 1 && v.t40 == 0,
    arrives (at_ .poised []) ⟨0, .setTime 5 (10 ^ 9)⟩ (fun y => y.mode != .inspecting) fun v => v.num (Reg.TIME_CNT 6) == 1,
    arrives (at_ .poised []) ⟨0, .setTime 5 (10 ^ 9 - 1)⟩ (fun y => y.mode != .inspecting)
      fun v => v.t40 == 5 * secondUnits + (10 ^ 9 - 1) * 2 ^ 40 && v.time.second == 5 && v.flag Reg.TIME_EVT ⟨3, 1⟩,
    arrives (at_ .inspecting []) ⟨0, .stepTime 1⟩ (fun y => y.mode == .inspecting) fun v => v.num (Reg.TIME_CNT 6) == 1,
    arrives (at_ .poised []) ⟨0, .stepTime (-1)⟩ (fun y => y.t40 == 0) fun v => v.num (Reg.TIME_CNT 6) == 1 && v.t40 == 0,
    arrives { at_ .poised [] with t40 := secondUnits } ⟨0, .stepTime (-1)⟩ (fun y => y.t40 == secondUnits) fun v => v.t40 == secondUnits - 2 ^ 40 && v.time.second == 0,
    shows (timed 12 2 2 []) (.timeHoldover 0) (fun u => u.timeSrc == 2 && u.sourceGone) fun v => v.fld Reg.TIME_STATUS Fld.TIME_STATUS_STATE == 3 && v.flag Reg.TIME_EVT ⟨2, 1⟩,
    shows (timed 12 0 2 []) (.timeHoldover 0) (fun u => u.timeSrc == 0) fun v => v.fld Reg.TIME_STATUS Fld.TIME_STATUS_STATE == 2,
    shows { at_ .poised [] with pwr := { State.reset.pwr with refclk := true } } (.aorateUpdate 0 9) (fun u => u.pwr.refclk && !u.flag Reg.PWR_CAUSE Fld.PWR_CAUSE_AOFALLBACK) fun v => v.reg Reg.TIME_AORATE == 9,
    shows { at_ .poised [] with pwr := { State.reset.pwr with refclk := false } } (.aorateUpdate 0 9) (fun u => !u.pwr.refclk) fun v => v.reg Reg.TIME_AORATE != 9,
    shows { at_ .standby [] with t40 := secondUnits } (.secondBoundary 0) (fun u => u.mode.powered && u.time.second < secOf u.t40) fun v => v.time.second == 1 && v.flag Reg.TIME_EVT ⟨4, 1⟩,
    shows { at_ .standby [] with t40 := secondUnits - 1 } (.secondBoundary 0) (fun u => secOf u.t40 ≤ u.time.second) fun v => !v.flag Reg.TIME_EVT ⟨4, 1⟩,
    shows (timed 13 0 0 [(Reg.SEAMT_CTRL, Fld.SEAMT_CTRL_SENDE, 1)]) (.seamTimeExchange 0 13) (fun u => u.exchanges 13) fun v => v.out == [.mgmt 13 11 1 1, .mgmt 13 11 0 3],
    shows (timed 13 0 0 [(Reg.SEAMT_CTRL, Fld.SEAMT_CTRL_SENDE, 1)]) (.treq 0 13) (fun u => u.exchanges 13) fun v => v.out == [.mgmt 13 13 1 1, .mgmt 13 13 0 3],
    shows (timed 12 0 0 []) (.treq 0 12) (fun u => !u.exchanges 12 && u.linkReady 12) fun v => v.out == [],
    shows (timed 12 2 0 []) (.tsync 0 12 3 0) (fun u => u.follows 12) fun v => v.out == [.mgmt 12 12 0 0] && v.time.exch == some (3 * 65536 * 10 ^ 9, v.stamp, v.stamp, 10 ^ 9),
    shows (timed 13 2 0 []) (.tsync 0 13 3 0) (fun u => !u.follows 13) fun v => v.out == [],
    meets { timed 12 2 1 [] with time := { State.reset.time with exch := some (1, 2, 3, 10 ^ 9 - 2 * 10 ^ 7), lock := 15 } } fun u => u.follows 12 && u.linkReady 12 && u.now ≤ 10 ^ 9 - 2 * 10 ^ 7 + 2 * 10 ^ 7,
    shows (timed 12 2 0 []) (.tresp 0 12 0 0) (fun u => u.time.exch.isNone) fun v => v.time.exch == none,
    shows { timed 12 2 1 [] with time := { State.reset.time with exch := some (1, 2, 3, 10 ^ 9 - 2 * 10 ^ 7) } } (.trespTimeout 0) (fun u => u.mode.active) fun v => v.time.exch == none && v.time.missed == 1 && v.num (Reg.TIME_CNT 3) == 1,
    shows { timed 12 2 1 [] with time := { State.reset.time with exch := some (1, 2, 3, 10 ^ 9 - 2 * 10 ^ 7 + 1) } } (.trespTimeout 0) (fun u => u.mode.active) fun v => v.num (Reg.TIME_CNT 3) == 0] = true := by decide +kernel

/-- The PTP port on sub-port 0 in a state, with a parent and latencies of nothing. -/
def ptp (st : Nat) (x : TimeHid) (fs : List (Nat × Bits × Nat)) : State :=
  let s := host .poised ((Reg.TIME_STATUS, Fld.TIME_STATUS_PORTST, st) :: fs)
  { s with regs := Store.put (Reg.TP_INLAT 0 0) 0 (Store.put (Reg.TP_EGLAT 0 0) 0 s.regs), time := x }

/-- A message from port 1 of clock 9. -/
def msg (twoStep : Bool) (reqClock : Nat) : PtpMsg := ⟨0, 7, twoStep, 0, 0, 1, 9, 1, reqClock, 1, 1⟩

/-- Time beside the registers, with a parent. -/
def child : TimeHid := { State.reset.time with parent := some (9, 1) }

/-- What a clock of a class announces. -/
def announced (cls : Nat) : PtpSet := ⟨128, cls, 0, 0, 128, 9, 0, 37, true⟩

/-- Witness of PtpPort. -/
theorem witness_ptp : allOf [
    (ptp 8 child [(Reg.PTP_CTRL, Fld.PTP_CTRL_TRANSPORT, 1)]).ptpTransport == 1,
    shows (ptp 0 child [(Reg.PTP_CTRL, Fld.PTP_CTRL_TRANSPORT, 1)]) (.sync 0 0 (msg false 0)) (fun u => !u.ptpTakes 0 (msg false 0) && u.hasSub 0 && u.subLink 0) fun v => v.num (Reg.TIME_CNT 0) == 0,
    shows (ptp 6 child [(Reg.PTP_CTRL, Fld.PTP_CTRL_TRANSPORT, 1)]) (.sync 0 0 (msg false 0)) (fun u => u.ptpTakes 0 (msg false 0)) fun v => v.num (Reg.TIME_CNT 0) == 1 && v.time == child,
    shows (ptp 8 child [(Reg.PTP_CTRL, Fld.PTP_CTRL_TRANSPORT, 1)]) (.sync 0 0 (msg true 0)) (fun u => u.portState == 8) fun v => v.time.syncHalf == some (7, 0, 0),
    shows (ptp 9 child [(Reg.PTP_CTRL, Fld.PTP_CTRL_TRANSPORT, 1)]) (.sync 0 0 (msg false 0)) (fun u => u.time.mean.isNone) fun v => v.time.sync == some (7, 65536, 0, 0),
    meets (ptp 9 { child with mean := some 5 } [(Reg.PTP_CTRL, Fld.PTP_CTRL_TRANSPORT, 1)]) fun u => u.ptpTakes 0 (msg false 0) && u.time.mean == some 5 && u.time.parent == some (9, 1),
    meets (ptp 9 { child with mean := some 5, syncHalf := some (7, 3, 0) } [(Reg.PTP_CTRL, Fld.PTP_CTRL_TRANSPORT, 1)]) fun u => u.ptpTakes 0 (msg false 0) && u.time.syncHalf == some (7, 3, 0),
    shows (ptp 9 { child with syncHalf := some (7, 3, 0) } [(Reg.PTP_CTRL, Fld.PTP_CTRL_TRANSPORT, 1)]) (.followUp 0 0 (msg false 0)) (fun u => u.time.mean.isNone) fun v => v.time.sync == some (7, 65536, 3, 0) && v.time.syncHalf == none,
    shows (ptp 6 child [(Reg.PTP_CTRL, Fld.PTP_CTRL_TRANSPORT, 1)]) (.delayReq 0 0 (msg false 0)) (fun u => u.portState == 6) fun v => v.ptpList 0 == [⟨9, 7, 0, 0, 9, 1⟩],
    shows (ptp 8 child [(Reg.PTP_CTRL, Fld.PTP_CTRL_TRANSPORT, 1)]) (.delayReq 0 0 (msg false 0)) (fun u => u.portState == 8) fun v => v.ptpList 0 == [],
    shows (ptp 4 child [(Reg.PTP_CTRL, Fld.PTP_CTRL_TRANSPORT, 1)]) (.pdelayReq 0 0 (msg false 0)) (fun u => u.ptpTakes 0 (msg false 0)) fun v => v.ptpList 0 == [⟨3, 7, 0, 0, 9, 1⟩],
    meets (ptp 9 { child with dreq := some (7, 1), sync := some (1, 2, 3, 4) } [(Reg.PTP_CTRL, Fld.PTP_CTRL_TRANSPORT, 1), (Reg.PTP_CTRL, Fld.PTP_CTRL_P2P, 0)])
      fun u => u.ptpTakes 0 (msg false u.clockId) && !u.flag Reg.PTP_CTRL Fld.PTP_CTRL_P2P && u.time.sync == some (1, 2, 3, 4),
    shows (ptp 9 child [(Reg.PTP_CTRL, Fld.PTP_CTRL_TRANSPORT, 1)]) (.delayResp 0 0 (msg false 0)) (fun u => u.time.dreq.isNone) fun v => v.num (Reg.TIME_CNT 1) == 1 && v.time == child,
    (let s := ptp 9 { child with dreq := some (7, 1) } [(Reg.PTP_CTRL, Fld.PTP_CTRL_TRANSPORT, 1), (Reg.PTP_CTRL, Fld.PTP_CTRL_P2P, 1)];
      shows s (.pdelayResp 0 0 (msg true s.clockId)) (fun u => u.ptpTakes 0 (msg true 0)) fun v => v.time.pdelayHalf == some (7, 65536, 0, 0)),
    (let s := ptp 9 { child with dreq := some (7, 1) } [(Reg.PTP_CTRL, Fld.PTP_CTRL_TRANSPORT, 1), (Reg.PTP_CTRL, Fld.PTP_CTRL_P2P, 1)];
      shows s (.pdelayResp 0 0 (msg false s.clockId)) (fun u => u.ptpTakes 0 (msg true 0)) fun v => v.time.mean == some (-1) && v.time.dreq == none),
    (let s := ptp 9 { child with dreq := some (7, 1), pdelayHalf := some (7, 10, 20, 0) } [(Reg.PTP_CTRL, Fld.PTP_CTRL_TRANSPORT, 1), (Reg.PTP_CTRL, Fld.PTP_CTRL_P2P, 1)];
      shows s (.pdelayRespFollowUp 0 0 (msg false s.clockId)) (fun u => u.ptpTakes 0 (msg true 0)) fun v => v.time.mean == some (Int.fdiv (19 - 65526) 2)),
    shows (ptp 4 child [(Reg.PTP_CTRL, Fld.PTP_CTRL_TRANSPORT, 1)]) (.announce 0 0 (msg false 0) (announced 6)) (fun u => (msg false 0).src != u.clockId && u.time.masters == [])
      fun v => v.time.masters == [⟨9, 1, announced 6, 0, 1⟩] && v.flag Reg.TIME_STATUS Fld.TIME_STATUS_UTCVALID,
    (let s := ptp 4 child [(Reg.PTP_CTRL, Fld.PTP_CTRL_TRANSPORT, 1)];
      shows s (.announce 0 0 { msg false 0 with src := s.clockId } (announced 6)) (fun u => u.ptpTakes 0 (msg false 0)) fun v => v.time == child),
    meets (ptp 4 { child with masters := [⟨9, 1, announced 255, 0, 2⟩] } [(Reg.PTP_PRIO, Fld.PTP_PRIO_PRI1, 1)]) fun u => (bestMaster u.qualified).isSome && ptpBetter u.ownSet (announced 255) && u.decidePort.portState == 6,
    meets (ptp 4 { child with masters := [⟨9, 1, announced 6, 0, 2⟩] } [(Reg.PTP_PRIO, Fld.PTP_PRIO_PRI1, 128), (Reg.PTP_PRIO, Fld.PTP_PRIO_CLASS, 127)]) fun u => !ptpBetter u.ownSet (announced 6) && u.decidePort.portState == 7,
    meets (ptp 4 { child with parent := none, masters := [⟨9, 1, announced 6, 0, 2⟩] } [(Reg.PTP_PRIO, Fld.PTP_PRIO_PRI1, 128), (Reg.PTP_PRIO, Fld.PTP_PRIO_CLASS, 128), (Reg.TIME_CTRL, Fld.TIME_CTRL_SRC, 1)])
      fun u => u.fld Reg.PTP_CTRL Fld.PTP_CTRL_ROLE != 1 && u.decidePort.portState == 8 && u.decidePort.time.parent == some (9, 1),
    shows (ptp 6 { child with seqs := [(0, 65535)] } []) (.ptpMessageInterval 0 0) (fun u => u.portState == 6) fun v => v.ptpList 0 == [⟨0, 65535, 0, 0, v.clockId, 1⟩] && Store.get (fun _ => 0) 0 v.time.seqs == 0,
    shows (ptp 8 child []) (.ptpMessageInterval 0 1) (fun u => u.portState == 8) fun v => v.ptpList 0 == [],
    shows (ptp 8 child [(Reg.PTP_CTRL, Fld.PTP_CTRL_P2P, 0)]) (.ptpMessageInterval 0 2) (fun u => !u.flag Reg.PTP_CTRL Fld.PTP_CTRL_P2P) fun v => (v.ptpList 0).map PtpTx.kind == [1],
    shows (ptp 8 child []) (.announceReceiptTimeout 0) (fun u => u.time.masters == []) fun v => v.portState == 6 && v.time.parent == none,
    shows (ptp 6 child []) (.announceReceiptTimeout 0) (fun u => u.portState == 6) fun v => v.time == child] = true := by decide +kernel

/-! ### GDDR6, event router -/

/-- The controller at a state, with what it holds beside its registers. -/
def memc (m : Mode) (st : Nat) (h : MemcHid) (fs : List (Nat × Bits × Nat)) : State := { at_ m ((Reg.MEMC_STATUS, Fld.MEMC_STATUS_STATE, st) :: (Reg.MEMC_STATUS, Fld.MEMC_STATUS_SELFREF, 0) :: fs) with memc := h }

/-- What the controller holds after reset. -/
def memc0 : MemcHid := State.reset.memc

/-- A real-time request to bank 0 of channel 7, and to another row there; a request of the background class to bank 1 of channel 7. -/
def rt7 : List MemOp := [.request 0x700 0 true]
/-- The other row: channel and bank are folded with the row's low bits. -/
def bg7 : List MemOp := [.request 0xF00 20 false]

/-- What the controller has after some requests and turns. -/
def after (ops : List MemOp) : State := (memc .poised 2 memc0 []).memWork ops

/-- Witness of Gddr6: requests and turns. Bank 1 is served before the real-time head of bank 0 only where device timing holds that one up. -/
theorem witness_gddr6Turns : allOf [
    memChannel 0x700 == 7 && memBank 0x700 == 0 && memChannel 0xF00 == 7 && memBank 0xF00 == 1,
    ((memc .poised 0 memc0 []).memOp (.request 0x700 0 true)).memc == memc0,
    (after rt7).bankQueue 7 0 == [⟨0x700, 0, 0, true⟩] && (after (rt7 ++ bg7)).fld (Reg.MEMC_CHST 7) Fld.MEMC_CHST_QDEPTH == 2 && (after rt7).realTimeWaits 7 && !(after bg7).realTimeWaits 7,
    (after (bg7 ++ rt7)).memOp (.turn 7 0 false) |> fun y => y.bankQueue 7 0 == [] && (y.bankQueue 7 1).length == 1 && Store.get (fun _ => none) 112 y.memc.rows == some 0,
    (after (bg7 ++ rt7)).memOp (.turn 7 1 false) |> fun y => (y.bankQueue 7 0).length == 1 && y.bankQueue 7 1 == [] && Store.get (fun _ => 15) 7 y.memc.served == 1,
    (after (bg7 ++ rt7)).memOp (.turn 7 0 true) == after (bg7 ++ rt7),
    ((after bg7).setFld (Reg.MEMC_CHST 7) Fld.MEMC_CHST_OWED 3).memOp (.turn 7 0 false) |> fun y => y.fld (Reg.MEMC_CHST 7) Fld.MEMC_CHST_OWED == 0 && (y.bankQueue 7 1).length == 1] = true := by decide +kernel

/-- Witness of Gddr6: refresh, real-time writes, errors. -/
theorem witness_gddr6Errors : allOf [
    shows (memc .poised 1 memc0 []) (.refreshDue 0 7 rt7) (fun u => u.fld Reg.MEMC_STATUS Fld.MEMC_STATUS_STATE != 2) fun v => v.fld (Reg.MEMC_CHST 7) Fld.MEMC_CHST_OWED == 0,
    shows (memc .poised 2 memc0 [(Reg.MEMC_CHST 7, Fld.MEMC_CHST_OWED, 4)]) (.refreshDue 0 7 bg7) (fun u => !u.flag Reg.MEMC_STATUS Fld.MEMC_STATUS_SELFREF) fun v => v.fld (Reg.MEMC_CHST 7) Fld.MEMC_CHST_OWED == 0,
    shows (memc .poised 2 memc0 [(Reg.MEMC_CHST 7, Fld.MEMC_CHST_OWED, 7)]) (.refreshDue 0 7 rt7) (fun u => u.fld (Reg.MEMC_CHST 7) Fld.MEMC_CHST_OWED < 8)
      fun v => v.fld (Reg.MEMC_CHST 7) Fld.MEMC_CHST_OWED == 8 && v.fld (Reg.MEMC_CHST 7) Fld.MEMC_CHST_MAXOWED == 8,
    shows (memc .poised 2 memc0 [(Reg.MEMC_CHST 7, Fld.MEMC_CHST_OWED, 8)]) (.refreshDue 0 7 rt7) (fun u => u.memc.forced.isNone) fun v => v.memc.forced == some 7 && v.num (Reg.MEMC_CNT 2) == 1,
    shows (memc .poised 2 { memc0 with forced := some 3 } [(Reg.MEMC_CHST 7, Fld.MEMC_CHST_OWED, 8)]) (.refreshDue 0 7 rt7) (fun u => u.memc.forced == some 3) fun v => v.memc.forcedWait == [7] && v.num (Reg.MEMC_CNT 2) == 0,
    shows (memc .poised 2 memc0 []) (.forcedRefreshDone 0 7) (fun u => u.memc.forced.isNone) fun v => v.memc.forced == none,
    shows (memc .poised 2 { memc0 with forced := some 7 } [(Reg.MEMC_CHST 7, Fld.MEMC_CHST_OWED, 9)]) (.forcedRefreshDone 0 7) (fun u => u.memc.forcedWait == []) fun v => v.memc.forced == none && v.fld (Reg.MEMC_CHST 7) Fld.MEMC_CHST_OWED == 0,
    shows (memc .poised 2 { memc0 with forced := some 7, forcedWait := [1, 2] } []) (.forcedRefreshDone 0 7) (fun u => u.memc.forcedWait == [1, 2]) fun v => v.memc.forced == some 1 && v.memc.forcedWait == [2] && v.num (Reg.MEMC_CNT 2) == 1,
    shows { memc .poised 2 memc0 [(Reg.MEMC_STATUS, Fld.MEMC_STATUS_SELFREF, 1)] with now := 5 } (.realtimeWriteRequest 0 [] ⟨0xC0700, 0⟩ 4 false) (fun u => u.memc.forced.isNone)
      fun v => v.memc.lastReq == 5 && v.memc.fill == 0 && Store.get (fun _ => none) 64 v.memc.rows == some 3 && !v.flag Reg.MEMC_STATUS Fld.MEMC_STATUS_SELFREF,
    shows (memc .inspecting 2 memc0 []) (.realtimeWriteRequest 0 [] ⟨0, 0⟩ ((memc .inspecting 2 memc0 []).wbuf + 1) true) (fun u => u.mode == .inspecting)
      fun v => v.err.breaches == [⟨12, 0, none, true, 0⟩] && v.memc.fill == 0,
    shows (memc .inspecting 2 { memc0 with forced := some 0 } []) (.realtimeWriteRequest 0 [] ⟨0, 0⟩ ((memc .inspecting 2 memc0 []).wbuf) false) (fun u => u.memc.forced == some 0)
      fun v => v.memc.fill == v.wbuf && v.err.breaches == [] && v.bankQueue 0 0 == [⟨0, 0, v.wbuf, true⟩],
    shows (memc .poised 0 memc0 []) (.realtimeWriteRequest 0 [] ⟨0, 0⟩ 4 true) (fun u => u.fld Reg.MEMC_STATUS Fld.MEMC_STATUS_STATE == 0) fun v => v.memc == memc0,
    shows (memc .poised 2 memc0 []) (.gddr6ReadReturn 0 [] ⟨0, 0⟩ 8 0) (fun u => u.mode.allOn) fun v => v.num (Reg.MEMC_CNT 1) == 8 && v.mode == .poised,
    shows (memc .poised 2 memc0 []) (.gddr6ReadReturn 0 [] ⟨0, 0⟩ 0 1) (fun u => u.mode.allOn) fun v => v.num (Reg.MEMC_CNT 0) == 1 && v.flag Reg.MEMC_EVT ⟨0, 1⟩ && v.mode == .poised,
    shows (memc .poised 2 memc0 []) (.gddr6ReadReturn 0 [] ⟨0x700, 17⟩ 9 0) (fun u => u.mode.powered)
      fun v => v.mode == .frozen && v.fld Reg.MEMC_ERRINFO Fld.MEMC_ERRINFO_KIND == 3 && v.fld Reg.MEMC_ERRINFO Fld.MEMC_ERRINFO_CHAN == 7 && v.fld Reg.MEMC_ERRINFO Fld.MEMC_ERRINFO_REPLAYS == 9,
    shows (memc .poised 2 memc0 []) (.gddr6ReadReturn 0 [] ⟨0x700, 17⟩ 0 2) (fun u => u.mode != .frozen) fun v => v.mode == .frozen && v.fld Reg.MEMC_ERRINFO Fld.MEMC_ERRINFO_KIND == 1 && v.get64 Reg.MEMC_ERRADDR_LO == 0x700,
    shows (memc .poised 2 memc0 []) (.writeEdcReport 0 0 0 8 false) (fun u => u.mode.allOn) fun v => v.num (Reg.MEMC_CNT 1) == 8 && v.mode == .poised,
    shows (memc .poised 2 memc0 []) (.writeEdcReport 0 0 0 0 true) (fun u => u.mode.allOn) fun v => v.mode == .frozen && v.fld Reg.MEMC_ERRINFO Fld.MEMC_ERRINFO_WRITE == 1,
    shows (memc .poised 1 memc0 []) (.writeEdcReport 0 0 0 9 true) (fun u => u.fld Reg.MEMC_STATUS Fld.MEMC_STATUS_STATE == 1) fun v => v.mode == .poised] = true := by decide +kernel

/-- Witness of Gddr6: training, frequency, self-refresh. -/
theorem witness_gddr6Training : allOf [
    shows (memc .poised 2 memc0 []) (.trainingComplete 0 0 [7]) (fun u => u.memc.train == 0) fun v => v.training == State.reset.training,
    shows (memc .poised 1 { memc0 with train := 2 } []) (.trainingComplete 0 0x81 [7]) (fun u => u.memc.pend.isNone)
      fun v => v.training == [7] && v.memc.train == 0 && v.fld Reg.MEMC_STATUS Fld.MEMC_STATUS_STATE == 2 && v.num (Reg.MEMC_CNT 3) == 2 && v.fld Reg.MEMC_TRAIN Fld.MEMC_TRAIN_QFAIL == 0x81,
    shows (memc .poised 4 { memc0 with train := 1, freq := true, pend := some 1 } []) (.trainingComplete 0 0 [7]) (fun u => u.memc.pend == some 1) fun v => v.memc.rate == 1 && v.memc.train != 0 && v.num (Reg.MEMC_CNT 4) == 1,
    shows (memc .poised 2 memc0 []) (.memcRetrain 0 (.oht 0) 0) (fun u => u.performs Reg.MEMC_TRAIN (withBits 0 0x200)) fun v => v.fld Reg.MEMC_STATUS Fld.MEMC_STATUS_STATE == 1 && v.memc.train == 1,
    shows (memc .inspecting 2 memc0 []) (.memcRetrain 0 (.oht 0) 0) (fun u => u.performs Reg.MEMC_TRAIN (withBits 0 0x200)) fun v => v.memc == memc0,
    shows (memc .poised 2 memc0 [(Reg.MEMC_FREQ, Fld.MEMC_FREQ_RATE, 0)]) (.frequencyRequest 0 (.oht 0) 3) (fun u => u.performs Reg.MEMC_FREQ 3) fun v => v.memc == memc0 && v.fld Reg.MEMC_FREQ Fld.MEMC_FREQ_RATE == 0,
    shows (memc .poised 1 { memc0 with train := 1, rate := 0 } [(Reg.MEMC_FREQ, Fld.MEMC_FREQ_RATE, 0)]) (.frequencyRequest 0 (.oht 0) 1) (fun u => u.performs Reg.MEMC_FREQ 1) fun v => v.memc.pend == some 1 && v.flag Reg.MEMC_STATUS Fld.MEMC_STATUS_FPEND,
    shows (memc .poised 2 { memc0 with rate := 0 } [(Reg.MEMC_FREQ, Fld.MEMC_FREQ_RATE, 0)]) (.frequencyRequest 0 (.oht 0) 1) (fun u => u.memc.train == 0) fun v => v.memc.rate == 1 && v.memc.freq && v.fld Reg.MEMC_STATUS Fld.MEMC_STATUS_STATE == 4,
    shows { memc .poised 2 memc0 [] with now := 10 ^ 8 } (.selfRefreshEntry 0) (fun u => u.memc.lastReq == 0) fun v => v.flag Reg.MEMC_STATUS Fld.MEMC_STATUS_SELFREF,
    shows { memc .poised 2 memc0 [] with now := 10 ^ 8 - 1 } (.selfRefreshEntry 0) (fun u => u.memc.lastReq == 0) fun v => !v.flag Reg.MEMC_STATUS Fld.MEMC_STATUS_SELFREF] = true := by decide +kernel

/-- Channel 5 enabled with a history, at 1 µs. -/
def evr (h : EvrChan) (fs : List (Nat × Bits × Nat)) : State := { at_ .poised ((Reg.CH_CFG 5, Fld.CH_CFG_EN, 1) :: fs) with now := 10 ^ 6, evr := [(5, h)] }

/-- Witness of EventRouter. -/
theorem witness_router : allOf [
    (at_ .poised []).chanRequest 5 == at_ .poised [],
    ((evr ⟨none, [], false⟩ [(Reg.CH_CFG 5, Fld.CH_CFG_MODE, 1), (Reg.CH_CFG 5, Fld.CH_CFG_GSEL, 1)]).chanRequest 5).num (Reg.CH_GATED 5) == 1,
    ((evr ⟨some (10 ^ 6 - 1999), [], false⟩ []).chanRequest 5).num (Reg.CH_MERGE 5) == 1,
    ((evr ⟨some (10 ^ 6 - 2000), [], false⟩ [(Reg.CH_CFG 5, Fld.CH_CFG_SPACE, 1)]).chanRequest 5).evrChan 5 == ⟨some (10 ^ 6 - 2000), [], true⟩,
    ((evr ⟨some (10 ^ 6 - 20000), [], false⟩ [(Reg.CH_CFG 5, Fld.CH_CFG_SPACE, 1)]).chanRequest 5).num (Reg.CH_FIRES 5) == 1,
    ((evr ⟨none, [], false⟩ [(Reg.TASK_SEL 60, Fld.TASK_SEL_EN, 1), (Reg.TASK_SEL 60, Fld.TASK_SEL_CHAN, 5)]).chanFire 5).evrQ == [⟨10 ^ 6 + 6000, .task 60⟩, ⟨10 ^ 6 + 6000, .request 69⟩],
    !((evr ⟨none, List.replicate 64 1, false⟩ []).chanFire 5).chanEnabled 5 && ((evr ⟨none, List.replicate 64 0, false⟩ []).chanFire 5).chanEnabled 5,
    shows (evr ⟨none, [], false⟩ []) (.evrFire 0 (.oht 0) false 0x20) (fun u => u.performs Reg.EVR_FIRE_LO 0x20 && !(u.producers 5).contains 1) fun v => v.num (Reg.CH_FIRES 5) == 0,
    shows (evr ⟨none, [], false⟩ [(Reg.CH_PROD0 5, ⟨0, 8⟩, 1)]) (.evrFire 0 (.oht 0) false 0x20) (fun u => (u.producers 5).contains 1) fun v => v.num (Reg.CH_FIRES 5) == 1,
    shows (evr ⟨none, [], false⟩ [(Reg.EVIN_CFG 7, Fld.EVIN_CFG_EDGE, 1), (Reg.CH_PROD1 5, ⟨24, 8⟩, 39)]) (.evinEdge 0 7 true) (fun u => u.mode.powered) fun v => bit v.pins.evin 7 && v.num (Reg.CH_FIRES 5) == 1,
    shows (evr ⟨none, [], false⟩ [(Reg.EVIN_CFG 7, Fld.EVIN_CFG_EDGE, 2), (Reg.CH_PROD1 5, ⟨24, 8⟩, 39)]) (.evinEdge 0 7 true) (fun u => u.mode.powered) fun v => bit v.pins.evin 7 && v.num (Reg.CH_FIRES 5) == 0,
    shows (evr ⟨some 0, [], true⟩ [(Reg.CH_CFG 5, Fld.CH_CFG_SPACE, 50)]) (.spacingEnd 0 5) (fun u => u.chanEnabled 5) fun v => v.num (Reg.CH_FIRES 5) == 1 && !(v.evrChan 5).deferred,
    shows (evr ⟨some 1, [], true⟩ [(Reg.CH_CFG 5, Fld.CH_CFG_SPACE, 50)]) (.spacingEnd 0 5) (fun u => u.now < 1 + 1000000) fun v => (v.evrChan 5).deferred,
    shows (evr ⟨some 0, [], true⟩ [(Reg.CH_CFG 5, Fld.CH_CFG_EN, 0)]) (.spacingEnd 0 5) (fun u => !u.chanEnabled 5) fun v => v.evrChan 5 == ⟨some 0, [], false⟩,
    shows { at_ .poised [(Reg.EVOUT_CFG 7, Fld.EVOUT_CFG_STATE, 1)] with outPins := { State.reset.outPins with evoutEnd := [(7, some 5)] }, now := 5 } (.evoutPulseEnd 0 7) (fun u => u.now == 5) fun v => v.out == [.evout 7 false],
    shows { at_ .poised [(Reg.EVOUT_CFG 7, Fld.EVOUT_CFG_STATE, 1)] with outPins := { State.reset.outPins with evoutEnd := [(7, some 5)] }, now := 4 } (.evoutPulseEnd 0 7) (fun u => u.now == 4) fun v => v.out == [],
    Store.get (fun _ => none) 7 ((at_ .poised [(Reg.EVOUT_CFG 7, Fld.EVOUT_CFG_WIDTH, 7)]).activateEvout 7).outPins.evoutEnd == some 8000,
    !((at_ .poised [(Reg.EVOUT_CFG 7, Fld.EVOUT_CFG_MODE, 1), (Reg.EVOUT_CFG 7, Fld.EVOUT_CFG_STATE, 1)]).activateEvout 7).flag (Reg.EVOUT_CFG 7) Fld.EVOUT_CFG_STATE] = true := by decide +kernel

/-! ### Two-wire port, JTAG, pair -/

/-- Standby with the two-wire target in a state. -/
def wire (h : TwiHid) (fs : List (Nat × Bits × Nat)) : State := { at_ .standby fs with twi := h, pins := { State.reset.pins with twRstN := true } }

/-- A target with a transaction open on a register. -/
def twiOn (read : Bool) (addr words : Nat) (pec : Bool) : TwiHid := ⟨true, read, addr, words, pec, false, 0, none, 0⟩

/-- A target at rest. -/
def twiOff : TwiHid := ⟨false, false, 0, 0, false, false, 0, none, 0⟩

/-- Witness of ManagementPorts, the two-wire port. -/
theorem witness_twoWire : allOf [
    shows (wire (twiOn false Reg.TWI_ATTNEN 0 true) []) (.twiWriteWord 0 5 256) (fun u => u.twiHears) fun v => v.num (Reg.TWI_CNT 2) == 1 && v.twi.deaf,
    shows (wire (twiOn false Reg.TWI_ATTNEN 0 false) []) (.twiWriteWord 0 5 0) (fun u => u.twiHears) fun v => v.num Reg.TWI_ATTNEN == 5 && v.twi.addr == Reg.TWI_ATTNEN + 4 && v.num (Reg.TWI_CNT 1) == 1,
    shows (wire twiOff []) (.twiWriteWord 0 5 0) (fun u => u.twiHears) fun v => v.num (Reg.TWI_CNT 1) == 0,
    shows (wire (twiOn true Reg.TWI_ATTNEN 3 false) [(Reg.TWI_ATTNEN, ⟨0, 7⟩, 0x21)]) (.twiReadWord 0 true) (fun u => u.twiHears) fun v => v.out == [.twiByte 0, .twiByte 0, .twiByte 0, .twiByte 0x21] && v.twi.words == 4,
    shows (wire (twiOn false Reg.TWI_ATTNEN 0 false) []) (.twiReadWord 0 true) (fun u => u.twiHears) fun v => v.out == [],
    shows (wire (twiOn false 0 2 false) []) (.twiReset 0 false) (fun u => u.pins.twRstN && u.mode.powered) fun v => !v.pins.twRstN && !v.twi.open_ && v.num (Reg.TWI_CNT 7) == 1,
    shows { wire { twiOff with deaf := true } [] with pins := { State.reset.pins with twRstN := false } } (.twiReset 0 true) (fun u => u.mode.powered) fun v => v.pins.twRstN && !v.twi.deaf,
    shows { wire twiOff [] with mode := .off } (.twiReset 0 false) (fun u => !u.mode.powered) fun v => !v.pins.twRstN && v.num (Reg.TWI_CNT 7) == 0,
    shows (wire { twiOff with request := some 0 } []) (.inBandRequest 0 .delivered) (fun u => u.ibrMay && u.twiHears) fun v => v.out.length == 2 && v.num (Reg.TWI_CNT 4) == 1 && v.twi.request == none,
    shows (wire { twiOff with request := some 0 } []) (.inBandRequest 0 .lost) (fun u => u.ibrMay) fun v => v.num (Reg.TWI_CNT 5) == 1,
    shows (wire { twiOff with request := some 0 } []) (.inBandRequest 0 .nack) (fun u => u.ibrMay) fun v => v.num (Reg.TWI_CNT 6) == 1,
    shows (wire { twiOff with request := some 0 } []) (.inBandRequest 0 .noClock) (fun u => u.ibrMay) fun v => v.twi.request == some 0,
    shows (wire { twiOff with open_ := true } []) (.inBandRequest 0 .delivered) (fun u => !u.ibrMay) fun v => v.out == [],
    shows { wire { twiOff with request := some 0 } [] with now := 10 ^ 10 } (.ibrClockTimeout 0) (fun u => u.twiHears) fun v => v.num (Reg.TWI_CNT 6) == 1 && v.twi.notBefore == 11 * 10 ^ 10,
    shows { wire { twiOff with request := some 1 } [] with now := 10 ^ 10 } (.ibrClockTimeout 0) (fun u => u.twiHears) fun v => v.num (Reg.TWI_CNT 6) == 0,
    shows (wire twiOff [(Reg.TWI_CTRL, Fld.TWI_CTRL_PEC, 1)]) (.twiBusCondition 0 (.start false 0x70 (some 8)) false) (fun u => u.pins.twAddr == 0 && u.twiHears) fun v => v.twi == { twiOn false 8 0 true with notBefore := v.twi.notBefore },
    shows (wire (twiOn false 8 0 false) []) (.twiBusCondition 0 (.start true 0x71 none) false) (fun u => u.twiHears) fun v => v.twi.read && v.twi.open_ && v.twi.addr == 8,
    shows (wire (twiOn false 8 1 false) []) (.twiBusCondition 0 (.start true 0x71 none) false) (fun u => u.twiHears) fun v => !v.twi.open_ && v.twi.deaf,
    shows (wire (twiOn false 8 0 false) []) (.twiBusCondition 0 .stop false) (fun u => u.twiHears) fun v => !v.twi.open_ && v.twi.notBefore == 10 ^ 8,
    shows (wire (twiOn false 8 0 false) []) (.twiBusCondition 0 .stop true) (fun u => u.twiHears && u.twi.open_) fun v => v.num (Reg.TWI_CNT 3) == 1 && !v.twi.open_,
    shows { wire (twiOn false 8 0 false) [] with pins := { State.reset.pins with twRstN := false } } (.twiBusCondition 0 .stop false) (fun u => !u.twiHears) fun v => v.twi.open_] = true := by decide +kernel

/-- The TAP controller in a state. -/
def tap (x : Tap) (irShift drShift : List Bool) : State := { at_ .standby [] with jtag := ⟨x, [], irShift, drShift, none⟩ }

/-- Witness of ManagementPorts, JTAG. -/
theorem witness_jtag : allOf [
    shows (tap .shiftIr [true, false] []) (.jtagTapClock 0 true true true) (fun u => u.mode.powered) fun v => v.jtag.tap == .exit1Ir && v.jtag.irShift == [false, true],
    shows (tap .captureDr [] []) (.jtagTapClock 0 true false false) (fun u => u.jtagDr == .idcode) fun v => v.jtag.tap == .shiftDr && v.jtag.drShift.length == 32,
    shows (tap .shiftDr [] [true, false]) (.jtagTapClock 0 true false true) (fun u => u.mode.powered) fun v => v.jtag.drShift == [false, true],
    shows (tap .updateIr [true, true] []) (.jtagTapClock 0 false false true) (fun u => u.mode.powered) fun v => v.jtag.ir == [true, true] && v.jtag.tdo == none,
    shows (tap .shiftDr [] [true, false]) (.jtagTapClock 0 false false true) (fun u => u.mode.powered) fun v => v.jtag.tdo == some true,
    shows { tap .shiftDr [] [true] with mode := .off } (.jtagTapClock 0 true true true) (fun u => !u.mode.powered) fun v => v.jtag.tap == .shiftDr] = true := by decide +kernel

/-- A paired member, active or standby, with fields of RED_STATUS. -/
def pair (m : Mode) (active : Bool) (synced : Bool) (fs : List (Nat × Bits × Nat)) : State :=
  let s := at_ m ((Reg.RED_CTRL, Fld.RED_CTRL_EN, 1) :: (Reg.RED_STATUS, Fld.RED_STATUS_ROLEIN, b2n active) :: (Reg.RED_STATUS, Fld.RED_STATUS_SYNCED, b2n synced) :: fs)
  { s with pins := { s.pins with role := active }, red := { s.red with level := active } }

/-- The same with TWIN in READY. -/
def twin (m : Mode) (active : Bool) (fs : List (Nat × Bits × Nat)) : State := pair m active true ((Reg.CAM_STATE 14, Fld.CAM_STATE_LSTATE, 5) :: (Reg.CAM_CTRL 14, Fld.CAM_CTRL_EN, 1) :: fs)

/-- Witness of PairRoles: pairing and the ROLE pin. -/
theorem witness_roles : allOf [
    shows (let s := at_ .poised []; { s with pins := { s.pins with role := true } }) (.redEnable 0 (.oht 0) 0) (fun u => u.performs Reg.RED_CTRL (withBits 0 1)) fun v => v.flag Reg.RED_CTRL Fld.RED_CTRL_EN && v.flag Reg.RED_STATUS Fld.RED_STATUS_ROLEIN,
    shows (pair .poised true false []) (.roleEdge 0 true) (fun u => u.pins.role) fun v => v.num (Reg.RED_CNT 1) == 0,
    shows (at_ .poised []) (.roleEdge 0 (!State.reset.pins.role)) (fun u => !u.flag Reg.RED_CTRL Fld.RED_CTRL_EN) fun v => v.pins.role != State.reset.pins.role && v.num (Reg.RED_CNT 0) == 0 && v.flag Reg.TWI_ATTN ⟨4, 1⟩,
    shows { at_ .poised [(Reg.TRG_CTRL, Fld.TRG_CTRL_ROLEGATE, 1)] with pins := { State.reset.pins with role := true }, outPins := { State.reset.outPins with trigEnd := [(2, some (0, 5))] }, red := { State.reset.red with level := true } }
      (.roleEdge 0 false) (fun u => !u.flag Reg.RED_CTRL Fld.RED_CTRL_EN && u.pins.role) fun v => v.outPins.trigEnd == [] && v.out == [.trigEnd 2],
    shows (let s := pair .poised true false [(Reg.RED_STATUS, Fld.RED_STATUS_PINMIS, 1)]; { s with pins := { s.pins with role := false }, red := { s.red with level := false, misAt := some 0 } }) (.roleEdge 0 true)
      (fun u => u.flag Reg.RED_STATUS Fld.RED_STATUS_PINMIS) fun v => !v.flag Reg.RED_STATUS Fld.RED_STATUS_PINMIS && v.red.misAt == none,
    shows (pair .inspecting true false [(Reg.RED_STATUS, Fld.RED_STATUS_SWAPPEND, 1)]) (.roleEdge 0 false) (fun u => u.mode.active) fun v => !v.flag Reg.RED_STATUS Fld.RED_STATUS_SWAPPEND,
    shows (pair .poised false false []) (.roleEdge 0 true) (fun u => !u.flag Reg.RED_STATUS Fld.RED_STATUS_SYNCED) fun v => !v.flag Reg.RED_STATUS Fld.RED_STATUS_ROLEIN && v.num (Reg.RED_CNT 0) == 0,
    shows (pair .inspecting false true []) (.roleEdge 0 true) (fun u => u.flag Reg.RED_STATUS Fld.RED_STATUS_SYNCED) fun v => v.flag Reg.RED_STATUS Fld.RED_STATUS_ROLEIN && v.num (Reg.RED_CNT 0) == 1 && v.red.tkEnd == some (3 * 10 ^ 7),
    shows (pair .inspecting true false []) (.roleEdge 0 false) (fun u => u.mode.active) fun v => !v.flag Reg.RED_STATUS Fld.RED_STATUS_ROLEIN && v.flag Reg.RED_STATUS Fld.RED_STATUS_SYNCED && v.num (Reg.RED_CNT 1) == 1] = true := by decide +kernel

/-- Witness of PairRoles: what follows. -/
theorem witness_swaps : allOf [
    shows (let s := pair .poised true false [(Reg.RED_STATUS, Fld.RED_STATUS_TKWIN, 1)]; { s with red := { s.red with tkEnd := some 5 } }) (.takeoverWindowEnd 0) (fun u => u.now < 5) fun v => v.red.tkEnd == some 5,
    shows (let s := pair .poised true false [(Reg.RED_STATUS, Fld.RED_STATUS_TKWIN, 1)]; { s with now := 5, red := { s.red with tkEnd := some 5 } }) (.takeoverWindowEnd 0) (fun u => u.now == 5) fun v => !v.flag Reg.RED_STATUS Fld.RED_STATUS_TKWIN,
    shows (let s := twin .inspecting true []; { s with red := { s.red with partner := some ⟨0, true, 0, 0⟩ } }) (.swap 0 (.oht 0) 1) (fun u => u.performs Reg.RED_CTRL (withBits 1 4) && u.swapAllowed) fun v => v.red.writes == [(Reg.RED_CTRL, 4)],
    shows (pair .poised true false []) (.swap 0 (.oht 0) 1) (fun u => !u.swapAllowed) fun v => v.red.writes == [],
    shows (pair .inspecting true false []) (.swapLine 0) (fun u => !u.flag Reg.RED_STATUS Fld.RED_STATUS_SWAPPEND) fun v => v.num (Reg.RED_CNT 4) == 0,
    shows (let s := pair .inspecting true false [(Reg.RED_STATUS, Fld.RED_STATUS_SWAPPEND, 1), (Reg.RED_SWAP_LO, ⟨0, 32⟩, 9)]; { s with trg := ⟨some (9, 0), none, some 9, 0⟩ }) (.swapLine 0) (fun u => u.newestLine == 9)
      fun v => !v.flag Reg.RED_STATUS Fld.RED_STATUS_ROLEIN && v.num (Reg.RED_CNT 4) == 1 && v.flag Reg.RED_STATUS Fld.RED_STATUS_PINMIS,
    shows (pair .poised true false [(Reg.RED_STATUS, Fld.RED_STATUS_PINMIS, 1)]) (.pinmisTimeout 0) (fun u => u.red.misAt.isNone) fun v => !v.flag Reg.RED_EVT ⟨5, 1⟩,
    shows (let s := pair .poised true false [(Reg.RED_STATUS, Fld.RED_STATUS_PINMIS, 1)]; { s with now := 10 ^ 10, red := { s.red with misAt := some 0 } }) (.pinmisTimeout 0) (fun u => u.now == 10 ^ 10) fun v => v.flag Reg.RED_EVT ⟨5, 1⟩,
    shows (at_ .inspecting []) (.hbToggle 0) (fun u => u.hbCondition) fun v => v.outPins.hb != State.reset.outPins.hb && v.flag Reg.RED_STATUS Fld.RED_STATUS_HBRUN,
    shows (let s := at_ .poised [(Reg.RED_STATUS, Fld.RED_STATUS_HBRUN, 1)]; { s with outPins := { s.outPins with hb := true } }) (.hbToggle 0) (fun u => !u.hbCondition) fun v => !v.outPins.hb && v.flag Reg.TWI_ATTN ⟨4, 1⟩,
    shows (let s := twin .inspecting false []; { s with runsWaiting := [(2, 0, 5, 0), (2, 1, 5, 0)] }) (.status 0 0x500223) (fun u => u.lstate 14 == 5) fun v => v.err.breaches == [⟨2, 0, none, true, 0⟩] && v.runsWaiting == [(2, 1, 5, 0)],
    shows (pair .inspecting false true []) (.status 0 0x500223) (fun u => u.lstate 14 != 5) fun v => v.red.partner == none,
    shows (let s := twin .inspecting true [(Reg.RED_STATUS, Fld.RED_STATUS_HBRUN, 1)]; { s with trg := ⟨some (5, 0), none, some 5, 0⟩ }) (.statusPeriod 0) (fun u => u.linkReady 14) fun v => v.out == [.mgmt 14 14 0 0x500073],
    shows (pair .inspecting true false []) (.statusPeriod 0) (fun u => !u.linkReady 14) fun v => v.out == [],
    shows (let s := pair .inspecting false true []; { s with now := 25 * 10 ^ 7, red := { s.red with twinDown := some 0 } }) (.syncedTimeout 0) (fun u => u.standbyRole) fun v => !v.flag Reg.RED_STATUS Fld.RED_STATUS_SYNCED && v.flag Reg.RED_EVT ⟨2, 1⟩,
    shows (let s := pair .inspecting false true []; { s with now := 25 * 10 ^ 7 - 1, red := { s.red with twinDown := some 0 } }) (.syncedTimeout 0) (fun u => u.standbyRole) fun v => v.flag Reg.RED_STATUS Fld.RED_STATUS_SYNCED,
    shows (link 14 4 [(Reg.SYS_NODE, Fld.SYS_NODE_NODE_ID, 6)]) (.twinHello 0 5) (fun u => u.lstate 14 == 4) fun v => v.lstate 14 == 6 && v.num Reg.TWIN_PEER == 0x8005,
    shows (link 14 4 [(Reg.SYS_NODE, Fld.SYS_NODE_NODE_ID, 5)]) (.twinHello 0 5) (fun u => !(u.link 14).helloOk) fun v => (v.link 14).helloOk && v.out == [.mgmt 14 3 0 0]] = true := by decide +kernel

/-- A packet of bytes on TWIN with a right CRC. -/
def packet (b : List Byte) : SeamFrame :=
  let bs := byteBlocks (b.length / 8 + 1) b
  ⟨pktField bs 4 4, 0, true, 0, bs.length, bs, crc32 (bs.flatMap fun b => bitsOf 64 b.toNat)⟩

/-- An EPOCH packet with a number, an effect line and one write. -/
def epochOf (n effect : Nat) : List Byte := [1, 0, 0, 0] ++ leBytes 8 n ++ leBytes 8 effect ++ leBytes 8 0 ++ leBytes 24 0 ++ leBytes 2 1 ++ leBytes 10 0 ++ leBytes 4 (Reg.SEG_EVTEN) ++ leBytes 4 7

/-- The same as a member holds it. -/
def epoch5 (done : Bool) : Epoch := ⟨5, [(Reg.SEG_EVTEN, 7)], 9, [0, 0, 0, 0], done⟩

/-- A member in Inspecting with TWIN in READY and epochs that wait, at a line. -/
def epochs (active : Bool) (l : List Epoch) (line : Int) (fs : List (Nat × Bits × Nat)) : State :=
  let s := twin .inspecting active fs
  { s with trg := ⟨some (line, 0), none, some line, 0⟩, red := { s.red with closed := l, boundary := 16 } }

/-- Witness of PairEpochs: closing, EPACK, EPCOMMIT, deadlines, effect lines. -/
theorem witness_epochs : allOf [
    shows (epochs true [] 16 [(Reg.Q_CFG 59, Fld.Q_CFG_SIZE, 64)]) (.epochClose 0) (fun u => u.gathers && u.closeDue && !u.flag Reg.RED_STATUS Fld.RED_STATUS_SOLO)
      fun v => v.red.closed.length == 1 && v.out.length == 2 && (v.queue 59).packets.length == 1 && v.red.boundary == 64,
    shows (epochs true [] 16 []) (.epochClose 0) (fun u => u.gathers && u.closeDue && u.qSize 59 == 0) fun v => v.flag Reg.RED_STATUS Fld.RED_STATUS_SOLO && v.red.closed.map Epoch.done == [true],
    shows (let s := pair .inspecting true false [(Reg.RED_STATUS, Fld.RED_STATUS_SOLO, 1)]; { s with trg := ⟨some (16, 0), none, some 16, 0⟩ }) (.epochClose 0) (fun u => u.gathers && u.closeDue && !u.linkReady 14)
      fun v => v.red.closed.map Epoch.done == [true] && v.out == [],
    shows (epochs true [] 15 []) (.epochClose 0) (fun u => !u.closeDue) fun v => v.red.closed == [],
    shows (epochs true [epoch5 false] 0 []) (.epack 0 0x500001) (fun u => u.lstate 14 == 5 && !u.standbyRole) fun v => v.out.length == 3 && v.red.closed == [epoch5 true] && v.get64 Reg.RED_EPOCH_LO == 5 && v.num (Reg.RED_CNT 2) == 1,
    shows (epochs true [epoch5 false] 0 []) (.epack 0 0x600001) (fun u => !u.standbyRole) fun v => v.out == [],
    shows (epochs false [epoch5 false] 8 []) (.epcommit 0 0x500002) (fun u => u.standbyRole && u.newestLine < 9) fun v => v.red.closed == [epoch5 true] && v.get64 Reg.RED_EPOCH_LO == 5,
    shows (epochs false [epoch5 false] 9 []) (.epcommit 0 0x500002) (fun u => u.standbyRole && 9 ≤ u.newestLine) fun v => v.red.closed == [epoch5 false],
    shows (epochs true [epoch5 false] 0 []) (.epcommit 0 0x500001) (fun u => u.lstate 14 == 5) fun v => v.red.closed == [epoch5 false],
    shows (epochs true [epoch5 false] 0 []) (.epochCommitDeadline 0 5) (fun u => u.red.missed == 0) fun v => v.red.closed == [] && v.red.writes == [(Reg.SEG_EVTEN, 7)] && v.num (Reg.RED_CNT 3) == 1 && !v.flag Reg.RED_STATUS Fld.RED_STATUS_SOLO,
    shows (let s := epochs true [epoch5 false] 0 []; { s with red := { s.red with missed := 1 } }) (.epochCommitDeadline 0 5) (fun u => u.red.missed == 1) fun v => v.flag Reg.RED_STATUS Fld.RED_STATUS_SOLO,
    shows (epochs false [epoch5 false] 0 []) (.epochCommitDeadline 0 5) (fun u => u.standbyRole) fun v => v.red.closed == [epoch5 false],
    shows (epochs false [epoch5 true] 7 []) (.epochApply 0) (fun u => u.newestLine + 1 < 9) fun v => v.red.closed == [epoch5 true],
    shows (epochs false [epoch5 true] 8 []) (.epochApply 0) (fun u => u.mode == .inspecting) fun v => v.red.closed == [] && v.num (Reg.SEG_EVTEN) == 7,
    shows (epochs false [epoch5 false] 8 []) (.epochApply 0) (fun u => u.standbyRole) fun v => v.red.closed == [] && v.num (Reg.SEG_EVTEN) == 0 && v.num (Reg.RED_CNT 3) == 1,
    shows (epochs true [epoch5 false] 8 []) (.epochApply 0) (fun u => !u.standbyRole) fun v => v.red.closed == [epoch5 false]] = true := by decide +kernel

/-- A joining standby. -/
def joiner (fs : List (Nat × Bits × Nat)) : State := twin .inspecting false ((Reg.RED_STATUS, Fld.RED_STATUS_JOINING, 1) :: fs)

/-- Witness of PairEpochs: packets. -/
theorem witness_pairPackets : allOf [
    shows (twin .inspecting true []) (.epoch 0 (packet (epochOf 5 9)) none) (fun u => !u.standbyRole && twinFrameOk (packet (epochOf 5 9))) fun v => v.red.closed == [],
    shows (twin .inspecting false []) (.epoch 0 (packet (epochOf 5 9)) none) (fun u => u.standbyRole) fun v => v.red.closed == [epoch5 false] && v.out.length == 1,
    shows (twin .inspecting false []) (.epoch 0 (packet (epochOf 5 9)) (some 1)) (fun u => u.num Reg.ACC_REASON != 1) fun v => v.red.closed == [epoch5 false] && !v.flag Reg.RED_STATUS Fld.RED_STATUS_SYNCED,
    shows (twin .inspecting false []) (.portrec 0 (packet ([2, 0, 0, 0] ++ leBytes 8 0 ++ [7, 5, 0, 0] ++ leBytes 24 0x11 ++ [3, 0]))) (fun u => u.lstate 7 != 4) fun v => v.recordOf 7 == some ⟨7, 5, [0x11, 0, 0, 0, 0, 0], 3⟩,
    shows (twin .inspecting false []) (.jointab 0 (packet ([3, 0, 0, 0] ++ leBytes 8 0 ++ [1, 0, 0, 0] ++ leBytes 4 (Reg.SEG_EVTEN) ++ leBytes 4 7))) (fun u => !u.flag Reg.RED_STATUS Fld.RED_STATUS_JOINING) fun v => v.num (Reg.SEG_EVTEN) == 0,
    shows (joiner []) (.jointab 0 (packet ([3, 0, 0, 0] ++ leBytes 8 0 ++ [1, 0, 0, 0] ++ leBytes 4 (Reg.SEG_EVTEN) ++ leBytes 4 7))) (fun u => u.flag Reg.RED_STATUS Fld.RED_STATUS_JOINING) fun v => v.num (Reg.SEG_EVTEN) == 7,
    shows (joiner []) (.joincq 0 (packet ([4, 0, 0, 0] ++ leBytes 8 0 ++ [59, 0, 0, 0])) 8) (fun u => u.lstate 14 == 5) fun v => v.red.joinGot == [],
    shows (joiner [(Reg.Q_CFG 60, Fld.Q_CFG_SIZE, 4)]) (.joincq 0 (packet ([4, 0, 0, 0] ++ leBytes 8 0 ++ [60, 0, 0, 0] ++ leBytes 16 0)) 12) (fun u => !u.red.joinGot.contains 60) fun v => v.red.joinGot == [60] && (v.queue 60).packets.length ≤ 1,
    shows (let s := joiner [(Reg.Q_CFG 63, Fld.Q_CFG_SIZE, 4)]; { s with red := { s.red with joinGot := [63] } }) (.joincq 0 (packet ([4, 0, 0, 0] ++ leBytes 8 0 ++ [63, 0, 0, 0] ++ leBytes 6 0 ++ leBytes 10 7)) 12) (fun u => u.red.joinGot.contains 63 && u.qFits 63 12)
      fun v => (v.queue 63).packets.map (fun k => (k.len, k.key)) == [(12, 7)] && v.num (Reg.Q_WPTR 63) == 1,
    shows (twin .inspecting false []) (.joinstate 0 (packet ([5, 0, 0, 0] ++ leBytes 80 0)) 0) (fun u => !u.flag Reg.RED_STATUS Fld.RED_STATUS_JOINING) fun v => v.err.breaches == [],
    shows (joiner []) (.joinstate 0 (packet ([5, 0, 0, 0] ++ leBytes 80 0)) 1) (fun u => u.num Reg.ACC_LIVEDIG != 1) fun v => !v.flag Reg.RED_STATUS Fld.RED_STATUS_JOINING && v.err.breaches == [⟨0, 0, none, false, 0⟩],
    shows (joiner []) (.joinstate 0 (packet ([5, 0, 0, 0] ++ leBytes 8 0 ++ leBytes 64 3 ++ [9, 0, 0, 0, 8, 0, 0, 0])) 0) (fun u => u.red.joinCards == [])
      fun v => v.flag Reg.RED_STATUS Fld.RED_STATUS_SYNCED && v.seg.serial == 9 && v.card.cropSerial == 8 && v.get64 (Reg.CARD_NEXTSEQ_LO 0) == 3,
    shows (joiner []) (.joinstate 0 ⟨1, 0, true, 0, 0, [], 0⟩ 0) (fun _ => !twinFrameOk ⟨1, 0, true, 0, 0, [], 0⟩) fun v => v.num (Reg.SEAM_CNT 2 1) == 1 && v.flag (Reg.CAM_EVT 14) ⟨3, 1⟩,
    shows (pair .poised true false []) (.join 0 (.oht 0) 1) (fun u => u.performs Reg.RED_CTRL (withBits 1 2)) fun v => !v.joinActive,
    meets (twin .inspecting true []) fun u => u.performs Reg.RED_CTRL (withBits 1 2) && u.reaches (.oht 0) && u.linkReady 14 && !u.standbyRole && !u.joinActive && u.flag Reg.RED_CTRL Fld.RED_CTRL_EN] = true := by decide +kernel

/-! ### Checks -/

/-- The CRC-16 of R68 over "123456789" ends at 0x6F91. -/
theorem test_crc16_check : crc16 (byteBits [0x31, 0x32, 0x33, 0x34, 0x35, 0x36, 0x37, 0x38, 0x39]) = 0x6F91 := by decide +kernel

/-- The IEEE 802.3 CRC-32 of R68 over the same bytes (a standard's check value). -/
theorem test_crc32_check : crc32 (byteBits [0x31, 0x32, 0x33, 0x34, 0x35, 0x36, 0x37, 0x38, 0x39]) = 0xCBF43926 := by decide +kernel

/-- Are all refused? -/
def refused (l : List Instr) : Bool := l.all fun i => !wellFormed i

/-- Are all well formed? -/
def accepted (l : List Instr) : Bool := l.all wellFormed

/-- One command over each bound of an access path, a register address, a position axis, a link, a side. -/
theorem smoke_ports : refused [
    .registerWrite 0 (.oht 4) 0x10000 0, .registerWrite 0 .fw 0x1000000 0, .captureRead 0 .twi 0x1000000, .counterClear 0 (.oht 7) 0x40040 0,
    .quadratureEdge 0 4 true true 0 false, .trigPulseEnd 0 16, .indexEdge 0 4 true, .sposPoll 0 3, .sposFrame 0 4 true (2 ^ 48) 0,
    .sposFrame 0 5 true 0 (2 ^ 16), .sposFrame 0 6 true 0 0, .leadinTimeout 0 0, .stall 0 6, .softLimitWrite 0 .fw 6 true 0 0, .home 0 .fw 6 0,
    .triggerEnable 0 (.oht 4) 0, .arm 0 .fw 16 0, .linePacket 0 12 (rx7 2), .linePacket 0 0 ⟨[0, 0, 0, 0, 0], []⟩, .linePacket 0 0 ⟨[0], [[(4, 0)]]⟩, .linePacket 0 0 ⟨[0], [List.replicate 5 (1, 0)]⟩, .arrivalWindowClose 0 12 0, .arrivalWindowClose 0 0 65536,
    .clockRecovered 0 15, .signalLoss 0 ⟨15, 0⟩, .signalLoss 0 ⟨0, 16⟩, .blockLockGained 0 0 4 [], .blockLockLost 0 0 4 [], .alignmentMarker 0 15 [] 0, .upstreamAmRow 0 15,
    .hello 0 12 [], .configAck 0 12 0, .echoReply 0 15 ⟨true, 0⟩, .handshakeTimeout 0 15, .triesReset 0 15, .retrain 0 .fw 15 0, .cregGo 0 .fw 12 0,
    .rsp 0 0 64 0 0, .rsp 0 0 0 4 0, .cregTimeout 0 12, .seamHello 0 11 0, .xFrame 0 14 (seamOf 0 0 true []), .hFrame 0 0 (seamOf 0 0 true []),
    .sFrame 0 12 (seamOf 0 16 true []), .seamFrameDeadline 0 12 3 0, .digest 0 11 0 0, .seamDigest 0 14, .prbsCheckerLock 0 0 4 [],
    .corrTableWrite 0 .fw 12 0, .corrTableRead 0 .fw 12, .corrSeal 0 .fw 12 0, .corrDiscard 0 .fw 12 0, .corrBankChange 0 12, .bankCopyDone 0 13,
    .calRunEnd 0 [] [(16, 0, 0)], .territoryReady 0 12] = true := by decide +kernel

/-- The same for folio memory, instruction words, replays, channels, queues, sub-ports. -/
theorem smoke_engines : refused [
    .folioLineEnd 0 16, .folioMemoryWrite 0 .fw 0x3FFFFF 0, .folioMemoryWrite 0 .fw 0x800000 0, .conv 16 0 0 0 0 0 0 0 0, .conv 0 16 0 0 0 0 0 0 0,
    .box 0 0 4 0 0 0 0 0 0, .rank 0 0 0 16 0 0 0 0 0, .winMin 0 0 0 0 2 0 0 0 0, .winMax 0 0 0 0 0 8 0 0 0, .erode 0 0 0 0 0 0 8 0 0,
    .dilate 0 0 0 0 0 0 0 4 0, .lvar 0 0 0 0 0 0 0 0 512, .vAdd 0 0 16 0 0 0 0, .vSub 0 0 0 16 0 0 0, .vMul 0 0 0 0 16 0 0, .sadd 0 0 0 0 0 4 0,
    .smax 0 0 0 0 0 0 8, .smovi 0 0 (2 ^ 22), .sorhi 0 0 (2 ^ 22), .lut 0 0 0 512 0 0, .lut 0 0 0 0 16 0, .luts 0 0 0 0 0 16, .lut2 0 0 0 0 0 0 1,
    .lut2 0 0 0 0 0 9 1, .rrow 0 0 0 4 0, .pld 0 0 0 0 (2 ^ 17), .rsum 0 0 16 0, .rcnt 0 0 0 4, .lcol 0 0 16 0 0, .ctx 16 0 0 0 0,
    .cropRecordComplete 0 4, .rpGo 0 .fw 4 0, .replayTick 0 4, .load 0 .fw 32 0, .copy 0 28, .dmaDescriptorComplete 0 28, .queueRoom 0 28,
    .qRdataRead 0 .fw 64, .weop 0 .fw 64 0, .flushApply 0 64, .pqRelease 0 .fw 58 0 0, .pqRelease 0 .fw 64 0 0, .subportLinkUp 0 8,
    .subportLinkDown 0 8 true, .portArbitration 0 8, .timedLaunch 0 8] = true := by decide +kernel

/-- The same for received frames, requests, PTP messages, memory, the two-wire port, starting. -/
theorem smoke_outside : refused [
    .arpRequest 0 0 { rx 46 with dst := 2 ^ 48 } 0 0 0, .arpRequest 0 0 (rx 65536) 0 0 0, .arpRequest 0 0 { rx 46 with vid := some 4096 } 0 0 0,
    .arpRequest 0 0 (rx 46) (2 ^ 48) 0 0, .icmpEchoRequest 0 0 (rx 46) 0 (2 ^ 32) 0 0 [], .icmpv6EchoRequest 0 0 (rx 46) 0 (2 ^ 128) 0 0 [],
    .neighbourSolicitation 0 0 (rx 46) 0 0 (2 ^ 128), .frameDiscard 0 0 (rx 46) (.badOp (dgram 1) 256 0), .frameForward 0 2 ⟨0, [], none⟩,
    .ident 0 { dgram 1 with port := 2 }, .ident 0 { dgram 1 with sub := 4 }, .ident 0 { dgram 1 with node := 65536 }, .ident 0 { dgram (2 ^ 32) with sub := 0 },
    .ident 0 { dgram 1 with sender := { hostA with mac := 2 ^ 48 } }, .ident 0 { dgram 1 with sender := { hostA with ip := 2 ^ 32 } },
    .ident 0 { dgram 1 with sender := { hostA with udp := 65536 } }, .blkread 0 (dgram 1) (2 ^ 40) 0, .cardReturn 0 (dgram 1) 4 0 false,
    .cardReturn 0 (dgram 1) 0 (2 ^ 48) false, .requestHoldTimeout 0 4, .automaticRewind 0 4, .returnLate 0 4,
    .sync 0 0 { msg true 0 with domain := 256 }, .followUp 0 0 { msg true 0 with ns := 10 ^ 9 }, .delayReq 0 0 { msg true 0 with transport := 3 },
    .pdelayReq 0 0 { msg true 0 with corr := 2 ^ 63 }, .announce 0 0 (msg true 0) (announced 256), .announce 0 0 (msg true 0) { announced 0 with steps := 65536 },
    .seamTimeExchange 0 12, .tsync 0 11 0 0, .treq 0 15, .ptpMessageInterval 0 3, .refreshDue 0 8 [], .refreshDue 0 0 [.request 0x3C0000000 0 true], .refreshDue 0 0 [.turn 8 0 false], .gddr6ReadReturn 0 [] ⟨0x3C0000000, 0⟩ 0 0,
    .gddr6ReadReturn 0 [] ⟨0, 63⟩ 0 0, .gddr6ReadReturn 0 [] ⟨0, 0⟩ 10 0, .gddr6ReadReturn 0 [] ⟨0, 0⟩ 0 4, .realtimeWriteRequest 0 [] ⟨0x3C0000000, 0⟩ 0 false, .writeEdcReport 0 0 0 10 false, .trainingComplete 0 256 [],
    .evinEdge 0 8 true, .spacingEnd 0 64, .evoutPulseEnd 0 8, .twiWriteWord 0 0 256, .twiBusCondition 0 (.start false 256 none) false,
    .twiBusCondition 0 (.start false 0 (some (2 ^ 24))) false, .watchdog 0 4, .sramEccError 0 0x3000000 true, .joinstate 0 (packet []) (2 ^ 32),
    .coldStart 0 4 0 run0, .coldStart 0 0 8 run0, .bootGo 0 .fw 0 [] true run0, .tempMeasure 0 0 65536 0, .railWindowExit 0 7,
    .railWindowReturn 0 7] = true := by decide +kernel

/-- At the bounds themselves commands are well formed. -/
theorem smoke_bounds : accepted [
    .registerWrite 0 (.oht 3) 0xFFFFFF 0, .quadratureEdge 0 3 true true 0 false, .sposFrame 0 5 true (2 ^ 48 - 1) 65535, .linePacket 0 11 (rx7 2), .clockRecovered 0 14,
    .blockLockLost 0 14 3 badHeads16, .rsp 0 11 63 3 0, .hFrame 0 13 (seamOf 0 15 true []), .folioMemoryWrite 0 .fw 0x7FFFFC 0, .conv 15 15 3 15 1 7 7 3 511,
    .smovi 15 15 (2 ^ 22 - 1), .lut2 15 15 15 15 511 8 1, .pqRelease 0 .fw 63 0 0, .ident 0 (dgram (2 ^ 32 - 1)), .announce 0 7 (msg true 0) (announced 255),
    .gddr6ReadReturn 0 [.turn 7 65535 true] ⟨0x3BFFFFFFF, 62⟩ 9 3, .coldStart 0 3 7 run0] = true := by decide +kernel
end Sys2Proof.Tests
end

section
/-! The fields of a register under a write (R8, R9, R10, R567): what a write makes of each field, of the bits of no field, and which
writes are refused. -/

namespace Sys2Proof.Machine

/-- Two fields share no bit. -/
abbrev Bits.Apart (b c : Bits) : Prop := b.lo + b.len ≤ c.lo ∨ c.lo + c.len ≤ b.lo

/-- The fields of a register kind lie inside its word, and no two share a bit. -/
abbrev RegKind.FieldsApart (k : RegKind) : Prop :=
  (∀ f ∈ k.fields, f.bits.lo + f.bits.len ≤ 32) ∧ k.fields.Pairwise fun f g => Bits.Apart f.bits g.bits

/-- The register tables keep every register's fields apart. -/
theorem kindsOf_fieldsApart (b : Blk) : ∀ k ∈ kindsOf b, k.FieldsApart := by
  cases b <;> decide +kernel

/-- A register kind found at an address is one of its block's. -/
theorem kindAt_eq_some {a : Nat} {k : RegKind} (h : kindAt a = some k) : ∃ b base, blockAt a = some (b, base) ∧ k ∈ kindsOf b := by
  unfold kindAt at h
  split at h
  · cases h
  · next b base hb => exact ⟨b, base, hb, List.mem_of_find?_eq_some h⟩

theorem fieldsApart_of_kindAt {a : Nat} {k : RegKind} (h : kindAt a = some k) : k.FieldsApart := by
  obtain ⟨b, base, -, hk⟩ := kindAt_eq_some h
  exact kindsOf_fieldsApart b k hk

/-! ### One field -/

/-- What a write of `x` makes of a field of access type `acc` in the word in force, from its value `old` (R9, R10). -/
def forceValue (running locked : Bool) (just x old : Nat) (len : Nat) : Acc → Nat
  | .rw => x
  | .w1c => Nat.land old (Nat.lor (2 ^ len - 1 - x) just)
  | .w1s => Nat.lor old x
  | .rwl => if locked then old else x
  | .rwh => if running then old else x
  | .ro | .wo | .rws => old

/-- What it makes of the field in the staged word. -/
def stageValue (shut : Bool) (x old : Nat) (acc : Acc) : Nat := if acc = .rws ∧ shut = false then x else old

section
variable (running shut locked : Bool) (just v : Word) (r : Written) (f : FieldSpec)

/-- A write of one field leaves the bits outside it. -/
theorem writeField_apart (c : Bits) (hf : f.bits.lo + f.bits.len ≤ 32) (hc : Bits.Apart c f.bits) :
    getBits (writeField running shut locked just v r f).word c = getBits r.word c ∧
      getBits (writeField running shut locked just v r f).staged c = getBits r.staged c := by
  have keep (w : Word) (x : Nat) : getBits (setBits w f.bits x) c = getBits w c := getBits_setBits_apart w f.bits c x hf hc
  unfold writeField
  cases f.acc
  case ro | wo => exact ⟨rfl, rfl⟩
  case rwl => cases locked <;> simp [keep]
  case rws => cases shut <;> simp [keep]
  case rwh => cases running <;> simp [keep]
  all_goals simp [keep]

/-- A write of one field sets it by its access type. -/
theorem writeField_self (hf : f.bits.lo + f.bits.len ≤ 32) :
    getBits (writeField running shut locked just v r f).word f.bits =
        forceValue running locked (getBits just f.bits) (getBits v f.bits) (getBits r.word f.bits) f.bits.len f.acc ∧
      getBits (writeField running shut locked just v r f).staged f.bits = stageValue shut (getBits v f.bits) (getBits r.staged f.bits) f.acc := by
  have set (w : Word) (x : Nat) (hx : x < 2 ^ f.bits.len) : getBits (setBits w f.bits x) f.bits = x := by
    rw [getBits_setBits_self w f.bits x hf, Nat.mod_eq_of_lt hx]
  have hv := getBits_lt v f.bits
  have hw := getBits_lt r.word f.bits
  unfold writeField forceValue stageValue
  cases f.acc
  case ro | wo => exact ⟨rfl, rfl⟩
  case rw => simp [set _ _ hv]
  case w1c => simp [set _ _ (lt_of_le_of_lt Nat.and_le_left hw)]
  case w1s => simp [set _ _ (Nat.or_lt_two_pow hw hv)]
  case rwl => cases locked <;> simp [set _ _ hv]
  case rws => cases shut <;> simp [set _ _ hv]
  case rwh => cases running <;> simp [set _ _ hv]

/-- Writing one field refuses an RWH field of a running block, and an RWS field of a sealed set, that would change. -/
theorem writeField_refuses :
    ((writeField running shut locked just v r f).hold = true ↔
      r.hold = true ∨ (running = true ∧ f.acc = .rwh ∧ getBits r.word f.bits ≠ getBits v f.bits)) ∧
    ((writeField running shut locked just v r f).stage = true ↔
      r.stage = true ∨ (shut = true ∧ f.acc = .rws ∧ getBits r.staged f.bits ≠ getBits v f.bits)) := by
  unfold writeField
  cases f.acc
  case rwl => cases locked <;> simp
  case rws => cases shut <;> simp
  case rwh => cases running <;> simp
  all_goals simp

end

/-! ### All fields of a register -/

section
variable (running shut locked : Bool) (just v : Word)

/-- The bits of no field keep their values (R8). -/
theorem writeFold_outside (c : Bits) (l : List FieldSpec) (r : Written) (hl : ∀ f ∈ l, f.bits.lo + f.bits.len ≤ 32)
    (hc : ∀ f ∈ l, Bits.Apart c f.bits) :
    getBits (l.foldl (writeField running shut locked just v) r).word c = getBits r.word c ∧
      getBits (l.foldl (writeField running shut locked just v) r).staged c = getBits r.staged c := by
  induction l generalizing r with
  | nil => exact ⟨rfl, rfl⟩
  | cons f l ih =>
    obtain ⟨h1, h2⟩ := writeField_apart running shut locked just v r f c (hl f (by simp)) (hc f (by simp))
    obtain ⟨k1, k2⟩ := ih (writeField running shut locked just v r f) (fun g hg => hl g (by simp [hg])) fun g hg => hc g (by simp [hg])
    exact ⟨k1.trans h1, k2.trans h2⟩

/-- Each field takes what its access type makes of the write, whatever the other fields are. -/
theorem writeFold_at (l : List FieldSpec) (r : Written) (hl : ∀ f ∈ l, f.bits.lo + f.bits.len ≤ 32)
    (hp : l.Pairwise fun f g => Bits.Apart f.bits g.bits) (f : FieldSpec) (hf : f ∈ l) :
    getBits (l.foldl (writeField running shut locked just v) r).word f.bits =
        forceValue running locked (getBits just f.bits) (getBits v f.bits) (getBits r.word f.bits) f.bits.len f.acc ∧
      getBits (l.foldl (writeField running shut locked just v) r).staged f.bits =
        stageValue shut (getBits v f.bits) (getBits r.staged f.bits) f.acc := by
  induction l generalizing r with
  | nil => simp at hf
  | cons g l ih =>
    obtain ⟨hg, hp⟩ := List.pairwise_cons.mp hp
    have hl' : ∀ f ∈ l, f.bits.lo + f.bits.len ≤ 32 := fun f hf => hl f (by simp [hf])
    rcases List.mem_cons.mp hf with rfl | hf
    · obtain ⟨h1, h2⟩ := writeField_self running shut locked just v r f (hl f (by simp))
      obtain ⟨k1, k2⟩ := writeFold_outside running shut locked just v f.bits l (writeField running shut locked just v r f) hl' hg
      exact ⟨k1.trans h1, k2.trans h2⟩
    · obtain ⟨h1, h2⟩ := writeField_apart running shut locked just v r g f.bits (hl g (by simp)) (hg f hf).symm
      obtain ⟨k1, k2⟩ := ih (writeField running shut locked just v r g) hl' hp hf
      rw [h1] at k1
      rw [h2] at k2
      exact ⟨k1, k2⟩

/-- A write refuses a field exactly where the block runs and one of its RWH fields would change, or the shadow set is sealed and one of its
RWS fields would (R567). -/
theorem writeFold_refuses (l : List FieldSpec) (r : Written) (hl : ∀ f ∈ l, f.bits.lo + f.bits.len ≤ 32)
    (hp : l.Pairwise fun f g => Bits.Apart f.bits g.bits) :
    ((l.foldl (writeField running shut locked just v) r).hold = true ↔
      r.hold = true ∨ (running = true ∧ ∃ f ∈ l, f.acc = .rwh ∧ getBits r.word f.bits ≠ getBits v f.bits)) ∧
    ((l.foldl (writeField running shut locked just v) r).stage = true ↔
      r.stage = true ∨ (shut = true ∧ ∃ f ∈ l, f.acc = .rws ∧ getBits r.staged f.bits ≠ getBits v f.bits)) := by
  induction l generalizing r with
  | nil => simp
  | cons g l ih =>
    obtain ⟨hg, hp⟩ := List.pairwise_cons.mp hp
    have same (f : FieldSpec) (hf : f ∈ l) := writeField_apart running shut locked just v r g f.bits (hl g (by simp)) (hg f hf).symm
    obtain ⟨h1, h2⟩ := writeField_refuses running shut locked just v r g
    obtain ⟨k1, k2⟩ := ih (writeField running shut locked just v r g) (fun f hf => hl f (by simp [hf])) hp
    rw [h1, exists_congr fun f => and_congr_right fun hf => by rw [(same f hf).1]] at k1
    rw [h2, exists_congr fun f => and_congr_right fun hf => by rw [(same f hf).2]] at k2
    rw [List.foldl_cons, k1, k2]
    simp only [List.exists_mem_cons_iff, and_or_left, or_assoc, and_self]

end

/-! ### A register -/

variable (s : State)

/-- What a write makes of the register of a kind: its fields one after another. -/
theorem written_of_kind {a : Nat} {k : RegKind} (h : kindAt a = some k) (v : Word) :
    s.written a v = k.fields.foldl (writeField (s.running a) (s.sealed a) (s.locked a) (BitVec.ofNat 32 (s.justSet a)) v)
      ⟨s.reg a, s.stagedWord a, false, false⟩ := by
  unfold State.written
  rw [h]

/-- A field of the register after a write, in the word in force and in the staged one (R9, R10). -/
theorem written_at {a : Nat} {k : RegKind} (h : kindAt a = some k) (v : Word) (f : FieldSpec) (hf : f ∈ k.fields) :
    getBits (s.written a v).word f.bits =
        forceValue (s.running a) (s.locked a) (getBits (BitVec.ofNat 32 (s.justSet a)) f.bits) (getBits v f.bits) (getBits (s.reg a) f.bits)
          f.bits.len f.acc ∧
      getBits (s.written a v).staged f.bits = stageValue (s.sealed a) (getBits v f.bits) (getBits (s.stagedWord a) f.bits) f.acc := by
  obtain ⟨hl, hp⟩ := fieldsApart_of_kindAt h
  rw [written_of_kind s h]
  exact writeFold_at _ _ _ _ _ _ _ hl hp f hf

/-- Which writes of the register are refused a field (R567). -/
theorem written_refuses {a : Nat} {k : RegKind} (h : kindAt a = some k) (v : Word) :
    ((s.written a v).hold = true ↔
      s.running a = true ∧ ∃ f ∈ k.fields, f.acc = .rwh ∧ getBits (s.reg a) f.bits ≠ getBits v f.bits) ∧
    ((s.written a v).stage = true ↔
      s.sealed a = true ∧ ∃ f ∈ k.fields, f.acc = .rws ∧ getBits (s.stagedWord a) f.bits ≠ getBits v f.bits) := by
  obtain ⟨hl, hp⟩ := fieldsApart_of_kindAt h
  rw [written_of_kind s h]
  simpa only [Bool.false_eq_true, false_or] using writeFold_refuses _ _ _ _ v k.fields ⟨s.reg a, s.stagedWord a, false, false⟩ hl hp

/-- Settles O30: by induction over the fields of the register, which the register tables keep apart (`kindsOf_fieldsApart`). -/
theorem fieldsFollowTheirAccess : Obligations.FieldsFollowTheirAccess := by
  unfold Obligations.FieldsFollowTheirAccess
  intro u a x k hk r
  refine ⟨fun f hf => ?_, fun c hc => ?_, written_refuses u hk x⟩
  · obtain ⟨hw, hs⟩ := written_at u hk x f hf
    refine ⟨hw.trans ?_, hs⟩
    cases f.acc <;> rfl
  · obtain ⟨hl, -⟩ := fieldsApart_of_kindAt hk
    simp only [r, written_of_kind u hk]
    exact writeFold_outside _ _ _ _ _ c _ _ hl hc

end Sys2Proof.Machine
end

section
/-! Reads and writes of registers through a path (R6, R7, R12): what a rejected access leaves, what becomes of a register whose fields
start nothing, what the halves of a pair do, and what a read captures. -/

namespace Sys2Proof.Machine

variable (s : State)

/-! ### Commands that are one access -/

theorem exec_registerWrite (t : Nat) (p : Path) (a : Nat) (w : Word) (h : (s.advanceTo t).reaches p = true) :
    exec (.registerWrite t p a w) s = .next (((s.advanceTo t).busWrite p a w).2.settle s) :=
  congrArg Host.Outcome.next (writeAt_reaches s t p a w h)

theorem exec_captureRead (t : Nat) (p : Path) (a : Nat) (h : (s.advanceTo t).reaches p = true) :
    exec (.captureRead t p a) s = .next (((s.advanceTo t).readAlone p a).settle s) :=
  congrArg Host.Outcome.next (readAt_reaches s t p a h)

theorem readAlone_rejected (p : Path) (a : Nat) (h : s.readable a = false) : s.readAlone p a = (s.rejectAccess a).emit (.readWord a 0) := by
  simp [State.readAlone, State.busRead, h]

theorem readAlone_answered (p : Path) (a : Nat) (h : s.readable a = true) :
    s.readAlone p a = (s.readNow p a).2.emit (.readWord a (s.readNow p a).1) := by
  simp [State.readAlone, State.busRead, h]

/-- The code of a rejected access (R6). -/
theorem rejectAccess_eq (a : Nat) : s.rejectAccess a = s.notice (if a % 4 = 0 then 0x0102 else 0x0101) 0xFF a := by
  unfold State.rejectAccess
  by_cases h : a % 4 = 0 <;> simp [h]

theorem readable_misaligned (a : Nat) (h : a % 4 ≠ 0) : s.readable a = false := by simp [State.readable, h]

/-- Settles O26: a rejected read and a rejected write each reduce to `rejectAccess`. -/
theorem rejectedAccess : Obligations.RejectedAccess := by
  unfold Obligations.RejectedAccess
  intro s t p a w hp u r
  have hr : u.rejectAccess a = r := rejectAccess_eq u a
  refine ⟨readable_misaligned u a, fun h => ?_, fun h => ?_⟩
  · rw [exec_captureRead s t p a hp, readAlone_rejected u p a h, hr]
  · rw [exec_registerWrite s t p a w hp, State.busWrite, busWriteIn_rejected u p a w none h, hr]

/-! ### Where no register is defined -/

/-- A read where no register of a block is defined returns 0 and does nothing (R7). -/
theorem readNow_undefined (p : Path) (a : Nat) (hb : (blockAt a).isSome = true) (hk : kindAt a = none) : s.readNow p a = (0, s) := by
  obtain ⟨hf, hw⟩ := blockAt_low hb
  simp [State.readNow, hf, hw, hk]

/-- A write there changes nothing (R7). -/
theorem writeNow_undefined (p : Path) (a : Nat) (w : Word) (n : Nat) (hb : (blockAt a).isSome = true) (hk : kindAt a = none) :
    s.writeNow p a w n = s := by
  obtain ⟨hf, hw⟩ := blockAt_low hb
  simp [State.writeNow, hf, hw, hk]

theorem kindAt_requests : (kindAt Reg.PWR_CTRL).isSome = true ∧ (kindAt Reg.ERR_CTRL).isSome = true := by decide +kernel

/-- Settles O28: neither the read nor the write gets as far as a register. -/
theorem undefinedRegister : Obligations.UndefinedRegister := by
  unfold Obligations.UndefinedRegister
  intro s t p a w hp hb hk
  obtain ⟨hpwr, herr⟩ := kindAt_requests
  refine ⟨fun h => ?_, fun h => ?_⟩
  · rw [exec_captureRead s t p a hp, readAlone_answered _ p a h, readNow_undefined _ p a hb hk]
  · have h1 : a ≠ Reg.PWR_CTRL := by rintro rfl; simp [hk] at hpwr
    have h2 : a ≠ Reg.ERR_CTRL := by rintro rfl; simp [hk] at herr
    rw [exec_registerWrite s t p a w hp, busWrite_performs _ p a w h h1 h2, writeNow_undefined _ p a w 0 hb hk]

/-! ### Writes that go to the fields of a register -/

/-- Does a write of a register go to its fields: is it no request for another state, no port of a table, no descriptor of a crop channel? -/
def toFields (a : Nat) : Bool :=
  (kindAt a).isSome && !isCropDescriptor a && (corrPort a).isNone &&
    decide (a ≠ Reg.PWR_CTRL ∧ a ≠ Reg.ERR_CTRL ∧ a ≠ Reg.RMP_TDATA ∧ a ≠ Reg.CAT_TDATA ∧ a ≠ Reg.PROF_TDATA)

theorem blockAt_of_kindAt {a : Nat} {k : RegKind} (h : kindAt a = some k) : (blockAt a).isSome = true := by
  obtain ⟨b, base, hb, -⟩ := kindAt_eq_some h
  simp [hb]

/-- The word that a path holds for the _HI register after a _LO register (R12). -/
def State.heldHi (s : State) (p : Path) (a : Nat) : Option Word := Store.get (fun _ => none) (latchKey p (a + 4)) s.held

/-- A performed write of such a register: its fields, the counters it clears, and what it starts. -/
theorem busWrite_toFields (p : Path) (a : Nat) (w : Word) (h : s.performs a w = true) (ha : toFields a = true) :
    (s.busWrite p a w).2 = ((s.writeReg p a w).clearsBy a w).writeActs s a w 0 ((s.heldHi p a).getD 0).toNat := by
  simp only [toFields, Bool.and_eq_true, Bool.not_eq_true', decide_eq_true_eq, Option.isNone_iff_eq_none] at ha
  obtain ⟨⟨⟨hk, hcrop⟩, hcorr⟩, hpwr, herr, hrmp, hcat, hprof⟩ := ha
  obtain ⟨k, hk⟩ := Option.isSome_iff_exists.mp hk
  obtain ⟨hf, hw⟩ := blockAt_low (blockAt_of_kindAt hk)
  rw [busWrite_performs s p a w h hpwr herr]
  simp [State.writeNow, State.heldHi, hf, hw, hk, hcrop, hcorr, hpwr, hrmp, hcat, hprof]

/-- A write of a block that has no lanes clears the counters of its counter-clear register only. -/
theorem clearsBy_none {a base : Nat} {b : Blk} (w : Word) (hb : blockAt a = some (b, base))
    (hl : b ≠ .cam ∧ b ≠ .seam ∧ b ≠ .twin) (hc : clearsOf b (a - base) = none) : s.clearsBy a w = s := by
  obtain ⟨h1, h2, h3⟩ := hl
  simp [State.clearsBy, hb, h1, h2, h3, hc]

/-! ### Fields, and the halves of a pair -/

/-- The state with the words that a write of a register makes, in force and staged. -/
def State.takes (s : State) (a : Nat) (r : Written) : State := (s.setReg a r.word).setStaged a r.staged

/-- A write of a register outside the staging list: its words, and at most one entry (R567). -/
theorem writeFields_eq (a : Nat) (w : Word) (h : isStaging a = false) : s.writeFields a w =
    if (s.written a w).hold then (s.takes a (s.written a w)).notice 0x0103 (sourceOf a) a
    else if (s.written a w).stage then (s.takes a (s.written a w)).rejectStaged a else s.takes a (s.written a w) := by
  simp [State.writeFields, State.takes, h]

/-- A write that refuses no field. -/
theorem writeFields_accepted (a : Nat) (w : Word) (h : isStaging a = false) (hh : (s.written a w).hold = false)
    (hs : (s.written a w).stage = false) : s.writeFields a w = s.takes a (s.written a w) := by simp [writeFields_eq s a w h, hh, hs]

/-- A register that is no half of a pair, and a _LO half for which the path holds no _HI word, take the write alone (R12). -/
theorem writeReg_alone (p : Path) {a : Nat} {k : RegKind} (w : Word) (hk : kindAt a = some k) (hi : k.tie ≠ .hi)
    (lo : k.tie = .lo → s.heldHi p a = none) : s.writeReg p a w = s.writeFields a w := by
  unfold State.writeReg
  rw [hk]
  cases ht : k.tie with
  | none => simp [ht]
  | hi => exact absurd ht hi
  | head ms => simp [ht]
  | lo =>
    have := lo ht
    unfold State.heldHi at this
    simp [ht, this]

/-- The state in which a path holds a _HI word (R12). -/
def State.holds (s : State) (p : Path) (a : Nat) (w : Word) : State :=
  { s with held := Store.set (fun _ => none) (latchKey p a) (some (hiValue a w)) s.held }

theorem holds_keeps (p : Path) (a : Nat) (w : Word) (P : List Part) (q : Nat → Bool) (hp : Part.held ∈ P) : s.Keeps P q (s.holds p a w) :=
  .of_regs q rfl fun p _ hn => by cases p <;> first | rfl | exact absurd hp hn

theorem holds_held (p : Path) (a : Nat) (w : Word) :
    Store.get (fun _ => none) (latchKey p a) (s.holds p a w).held = some (hiValue a w) :=
  Store.get_set_self (fun _ => none) (latchKey p a) (some (hiValue a w)) s.held

/-- A _HI word is held for its path (R12). -/
theorem writeReg_hi (p : Path) {a : Nat} {k : RegKind} (w : Word) (hk : kindAt a = some k) (hi : k.tie = .hi) :
    s.writeReg p a w = s.holds p a w := by
  unfold State.writeReg
  rw [hk]
  simp [hi, State.holds]

/-- The _LO write takes the held word with it, where neither would change a refused field (R12). -/
theorem writeReg_pair (p : Path) {a : Nat} {k : RegKind} (w h : Word) (hk : kindAt a = some k) (lo : k.tie = .lo)
    (hh : s.heldHi p a = some h) (h1 : (s.written a w).hold = false) (h2 : (s.written (a + 4) h).hold = false)
    (h3 : (s.written a w).stage = false) (h4 : (s.written (a + 4) h).stage = false) :
    s.writeReg p a w = ((s.endHold p a).writeFields (a + 4) h).writeFields a w := by
  unfold State.heldHi at hh
  unfold State.writeReg
  rw [hk]
  simp [lo, hh, h1, h2, h3, h4, State.endHold]

/-- Is what a write of the register may change settled by the operating state and by the collection's seal alone: has it neither a lock (R11) nor
an equalizer's link (R145) nor a descriptor's seal (R340), and is it no part of the staging list? -/
def plainAccess (a : Nat) : Bool :=
  !isStaging a && !isDescriptor a && decide (a ≠ Reg.SYS_NODE ∧ ¬(0x30100 ≤ a ∧ a < 0x30900) ∧ ¬(0x81000 ≤ a ∧ a < 0x81780))

/-- What a write makes of such a register rests on its own words, the mode, the seal, and what hardware has set at this moment. -/
theorem written_congr {u v : State} {a : Nat} (w : Word) (ha : plainAccess a = true) (hr : v.reg a = u.reg a)
    (hst : v.stagedWord a = u.stagedWord a) (hm : v.mode = u.mode) (hacc : v.reg Reg.ACC_STATUS = u.reg Reg.ACC_STATUS)
    (hn : v.now = u.now) (hj : v.raised = u.raised) : v.written a w = u.written a w := by
  simp only [plainAccess, Bool.and_eq_true, Bool.not_eq_true', decide_eq_true_eq] at ha
  obtain ⟨⟨-, hd⟩, hnode, hchan, hcal⟩ := ha
  have h1 : v.running a = u.running a := by simp [State.running, hcal, hm]
  have h2 : v.sealed a = u.sealed a := by simp [State.sealed, hd, State.fld, hacc]
  have h3 : v.locked a = u.locked a := by simp only [State.locked, hnode, hchan, if_false]
  have h4 : v.justSet a = u.justSet a := by simp [State.justSet, hn, hj]
  unfold State.written
  rw [h1, h2, h3, h4, hr, hst]

theorem plainAccess_notStaging {a : Nat} (h : plainAccess a = true) : isStaging a = false := by
  simp only [plainAccess, Bool.and_eq_true, Bool.not_eq_true'] at h
  exact h.1.1

theorem takes_keeps {a : Nat} (r : Written) (P : List Part) (q : Nat → Bool) (hq : q a = true) (hp : Part.shadow ∈ P) :
    s.Keeps P q (s.takes a r) :=
  (setReg_keeps s a r.word P q hq).trans (.of_regs q rfl fun p _ hn => by cases p <;> first | rfl | exact absurd hp hn)

theorem endHold_keeps (p : Path) (a : Nat) (P : List Part) (q : Nat → Bool) (hp : Part.held ∈ P) : s.Keeps P q (s.endHold p a) :=
  .of_regs q rfl fun p _ hn => by cases p <;> first | rfl | exact absurd hp hn

theorem endHold_heldHi (p : Path) (a : Nat) : (s.endHold p a).heldHi p a = none :=
  Store.get_set_self (fun _ => none) _ none s.held

@[simp] theorem takes_reg_self (a : Nat) (r : Written) : (s.takes a r).reg a = r.word := reg_setReg_self s a r.word

theorem takes_reg_ne {a c : Nat} (h : c ≠ a) (r : Written) : (s.takes a r).reg c = s.reg c := reg_setReg_ne s h r.word

theorem takes_stagedWord_ne {a c : Nat} (h : c ≠ a) (r : Written) : (s.takes a r).stagedWord c = s.stagedWord c :=
  Store.get_set_ne _ h _ _

/-- The pair after the _LO write: both halves take what their access types make of their words, and the hold has ended (R12). -/
theorem writeReg_pair_takes (p : Path) {a : Nat} {k : RegKind} (w h : Word) (hk : kindAt a = some k) (lo : k.tie = .lo)
    (hh : s.heldHi p a = some h) (h1 : (s.written a w).hold = false) (h2 : (s.written (a + 4) h).hold = false)
    (h3 : (s.written a w).stage = false) (h4 : (s.written (a + 4) h).stage = false) (ha : plainAccess a = true)
    (hs : isStaging (a + 4) = false) (hacc : a + 4 ≠ Reg.ACC_STATUS) :
    s.writeReg p a w = ((s.endHold p a).takes (a + 4) (s.written (a + 4) h)).takes a (s.written a w) := by
  have hi : (s.endHold p a).written (a + 4) h = s.written (a + 4) h := rfl
  have hlo : ((s.endHold p a).takes (a + 4) (s.written (a + 4) h)).written a w = s.written a w :=
    written_congr w ha (takes_reg_ne _ (by omega) _) (takes_stagedWord_ne _ (by omega) _) rfl (takes_reg_ne _ (Ne.symm hacc) _) rfl rfl
  rw [writeReg_pair s p w h hk lo hh h1 h2 h3 h4, writeFields_accepted _ (a + 4) h hs (by rw [hi, h2]) (by rw [hi, h4]), hi,
    writeFields_accepted _ a w (plainAccess_notStaging ha) (by rw [hlo, h1]) (by rw [hlo, h3]), hlo]

/-! ### Blocks whose writes start nothing -/

/-- The block of an address is that of its window, or of the part of a pipeline's window, in which it lies (R31). -/
theorem blockAt_window (a : Nat) : blockAt a = blockAt (a / 0x10000 * 0x10000 + if a % 0x10000 < 0x100 then 0 else 0x100) := by
  have h1 : (a / 0x10000 * 0x10000 + if a % 0x10000 < 0x100 then 0 else 0x100) / 0x10000 = a / 0x10000 := by split <;> omega
  have h2 : (a / 0x10000 * 0x10000 + if a % 0x10000 < 0x100 then 0 else 0x100) % 0x10000 < 0x100 ↔ a % 0x10000 < 0x100 := by
    split <;> omega
  unfold blockAt
  simp only [h1, h2]

/-- The windows of the blocks whose writes start nothing (R31). -/
def plainWindow (w : Nat) (low : Bool) : Bool :=
  decide (w = 1 ∨ w = 4 ∨ w = 0xC ∨ w = 0xD ∨ w = 0x35) || decide (0x20 ≤ w ∧ w < 0x30) && (!low || decide (0x2C ≤ w))

theorem plainWindow_of_plainBlock : ∀ w < 0x40, ∀ low : Bool, (blockAt (w * 0x10000 + if low then 0 else 0x100)).all (fun b =>
    !plainBlock b.1 || plainWindow w low) = true := by decide +kernel

theorem blockAt_plainBlock {a base : Nat} {b : Blk} (hb : blockAt a = some (b, base)) (hp : plainBlock b = true) :
    plainWindow (a / 0x10000) (decide (a % 0x10000 < 0x100)) = true := by
  have hw : a / 0x10000 < 0x40 := by
    by_contra hc
    rw [blockAt_high (by omega)] at hb
    cases hb
  have h := plainWindow_of_plainBlock _ hw (decide (a % 0x10000 < 0x100))
  simp only [decide_eq_true_eq, ← blockAt_window, hb, Option.all_some, hp, Bool.not_true, Bool.false_or] at h
  exact h

/-- Where a block whose writes start nothing lies. -/
theorem plainBlock_range {a base : Nat} {b : Blk} (hb : blockAt a = some (b, base)) (hp : plainBlock b = true) :
    (a / 0x10000 = 1 ∨ a / 0x10000 = 4 ∨ a / 0x10000 = 0xC ∨ a / 0x10000 = 0xD ∨ a / 0x10000 = 0x35) ∨
      ((0x20 ≤ a / 0x10000 ∧ a / 0x10000 < 0x30) ∧ (0x100 ≤ a % 0x10000 ∨ 0x2C ≤ a / 0x10000)) := by
  simpa [plainWindow] using blockAt_plainBlock hb hp

/-- A write there goes to the fields of the register. -/
theorem plainBlock_toFields {a base : Nat} {b : Blk} (hb : blockAt a = some (b, base)) (hp : plainBlock b = true)
    (hk : (kindAt a).isSome = true) (h1 : a ≠ Reg.PWR_CTRL) (h2 : a ≠ Reg.CAT_TDATA) : toFields a = true := by
  have hr := plainBlock_range hb hp
  have hcorr : corrPort a = none := if_neg (by omega)
  have hcrop : isCropDescriptor a = false := by
    simp only [isCropDescriptor, isDescriptor, Bool.and_eq_false_iff, decide_eq_false_iff_not]
    omega
  simp only [toFields, hk, hcrop, hcorr, Option.isNone_none, Bool.not_false, Bool.and_self, Bool.true_and, decide_eq_true_eq]
  refine ⟨h1, ?_, ?_, h2, ?_⟩
  · rw [Reg.ERR_CTRL]; omega
  · rw [Reg.RMP_TDATA]; omega
  · rw [Reg.PROF_TDATA]; omega

theorem plainBlock_plainAccess {a base : Nat} {b : Blk} (hb : blockAt a = some (b, base)) (hp : plainBlock b = true) :
    plainAccess a = true := by
  have hr := plainBlock_range hb hp
  simp only [plainAccess, isStaging, isDescriptor, Bool.and_eq_true, Bool.not_eq_true', Bool.or_eq_false_iff, decide_eq_false_iff_not,
    decide_eq_true_eq]
  rw [Reg.ACC_STAGECNT, Reg.SYS_NODE]
  omega

/-- The register after one of such a block is neither in the staging list nor the status of accession. -/
theorem plainBlock_next {a base : Nat} {b : Blk} (hb : blockAt a = some (b, base)) (hp : plainBlock b = true) (h4 : a % 4 = 0) :
    isStaging (a + 4) = false ∧ a + 4 ≠ Reg.ACC_STATUS := by
  have hr := plainBlock_range hb hp
  simp only [isStaging, Bool.or_eq_false_iff, decide_eq_false_iff_not]
  rw [Reg.ACC_STAGECNT, Reg.ACC_STATUS]
  omega

/-- What a write in such a block does is its fields alone. -/
theorem busWrite_plainBlock (p : Path) {a base : Nat} {b : Blk} (w : Word) (hb : blockAt a = some (b, base)) (hp : plainBlock b = true)
    (h : s.performs a w = true) (hk : (kindAt a).isSome = true) (h1 : a ≠ Reg.PWR_CTRL) (h2 : a ≠ Reg.CAT_TDATA)
    (hc : clearsOf b (a - base) = none) : (s.busWrite p a w).2 = s.writeReg p a w := by
  have hl : b ≠ .cam ∧ b ≠ .seam ∧ b ≠ .twin := by refine ⟨?_, ?_, ?_⟩ <;> rintro rfl <;> cases hp
  rw [busWrite_toFields s p a w h (plainBlock_toFields hb hp hk h1 h2), clearsBy_none _ w hb hl hc]
  unfold State.writeActs
  rw [hb]
  cases b
  case pwr | twi | seg | card | oht | folio => rfl
  all_goals cases hp

theorem performs_aligned {a : Nat} {w : Word} (h : s.performs a w = true) : a % 4 = 0 := by
  simp only [State.performs, Bool.and_eq_true, decide_eq_true_eq] at h
  exact h.1.1.1

/-- Settles O31: the write is that of the register's fields (`busWrite_plainBlock`), alone, held, or with the held half. -/
theorem registerWriteSetsFields : Obligations.RegisterWriteSetsFields := by
  unfold Obligations.RegisterWriteSetsFields
  intro s t p a w b base k hr hperf hk hb hp hpwr hcat hc u x
  have hplain := plainBlock_plainAccess hb hp
  have hst := plainAccess_notStaging hplain
  have hexec : exec (.registerWrite t p a w) s = .next ((u.writeReg p a w).settle s) := by
    rw [exec_registerWrite s t p a w hr, busWrite_plainBlock _ p w hb hp hperf (by simp [hk]) hpwr hcat hc]
  refine ⟨fun hi lo => ?_, fun hi => ⟨_, hexec, ?_⟩, fun lo h hh h1 h2 h3 h4 => ⟨_, hexec, ?_⟩⟩
  · rw [hexec, writeReg_alone u p w hk hi lo, writeFields_eq u a w hst]
    rfl
  · rw [writeReg_hi u p w hk hi]
    exact ⟨holds_keeps u p a w _ _ (by simp), holds_held u p a w⟩
  · obtain ⟨hst', hacc⟩ := plainBlock_next hb hp (performs_aligned u hperf)
    rw [writeReg_pair_takes u p w h hk lo hh h1 h2 h3 h4 hplain hst' hacc]
    have k1 : u.Keeps [.held, .shadow] (theRegs [a, a + 4]) (u.endHold p a) := endHold_keeps u p a _ _ (by simp)
    have k2 (v : State) (r : Written) : v.Keeps [.held, .shadow] (theRegs [a, a + 4]) (v.takes (a + 4) r) :=
      takes_keeps v r _ _ (by simp [theRegs]) (by simp)
    have k3 (v : State) (r : Written) : v.Keeps [.held, .shadow] (theRegs [a, a + 4]) (v.takes a r) :=
      takes_keeps v r _ _ (by simp [theRegs]) (by simp)
    refine ⟨(k1.trans (k2 _ _)).trans (k3 _ _), takes_reg_self _ _ _, ?_, endHold_heldHi u p a⟩
    rw [takes_reg_ne _ (by omega), takes_reg_self]

end Sys2Proof.Machine
end

section
/-! Captures (R12): what a read captures for its path, and what it leaves of what other paths have captured. -/

namespace Sys2Proof.Machine

variable (s : State)

theorem oldestOf_congr {u v : State} (h : v.regs = u.regs) (l : List Nat) : v.oldestOf l = u.oldestOf l := by
  have hn : v.num = u.num := by
    funext a
    rw [State.num, State.num, State.reg, State.reg, h]
  induction l with
  | nil => rfl
  | cons i l ih => rw [State.oldestOf, State.oldestOf, ih, hn]

/-- Neither captured words nor what the module has sent enter the word of the moment. -/
theorem liveWord_of_latches (l : Store (Option Word)) (o : List Output) (c : Nat) :
    ({ s with captured := l, out := o } : State).liveWord c = s.liveWord c := by
  unfold State.liveWord
  rw [oldestOf_congr (u := s) (v := { s with captured := l, out := o }) rfl]
  rfl

theorem liveWord_capture (p : Path) (a c : Nat) : (s.capture p a).liveWord c = s.liveWord c := liveWord_of_latches s _ s.out c

theorem view_emit (o : Output) (p : Path) (c : Nat) : (s.emit o).view p c = s.view p c := by
  have h : (s.emit o).liveWord c = s.liveWord c := liveWord_of_latches s s.captured _ c
  unfold State.view
  rw [h]
  rfl

theorem view_capture_self (p : Path) (a : Nat) : (s.capture p a).view p a = s.liveWord a := by
  simp [State.view, State.capture]

theorem view_capture_ne (p q : Path) {a c : Nat} (h : latchKey q c ≠ latchKey p a) : (s.capture p a).view q c = s.view q c := by
  have e : Store.get (fun _ => none) (latchKey q c) (s.capture p a).captured = Store.get (fun _ => none) (latchKey q c) s.captured :=
    Store.get_set_ne (fun _ => none) h (some (s.liveWord a)) s.captured
  simp only [State.view, e, liveWord_capture]

/-- A register that shows the word of the moment still does after a capture of that moment. -/
theorem view_capture_live (p : Path) (a c : Nat) (h : s.view p c = s.liveWord c) : (s.capture p a).view p c = s.liveWord c := by
  by_cases hc : latchKey p c = latchKey p a
  · have : c = a := by simpa [latchKey] using hc
    rw [this, view_capture_self]
  · rw [view_capture_ne s p p hc, h]

/-! ### A group -/

/-- Capture the members of a group that starts at `a` (R12). -/
def State.captureGroup (s : State) (p : Path) (a : Nat) (ms : List Nat) : State := ms.foldl (fun (s : State) m => s.capture p (a + m)) s

theorem captureGroup_live (p : Path) (a c : Nat) (ms : List Nat) (h : s.view p c = s.liveWord c) :
    (s.captureGroup p a ms).view p c = s.liveWord c := by
  induction ms generalizing s with
  | nil => exact h
  | cons m ms ih =>
    have := ih (s.capture p (a + m)) (by rw [view_capture_live s p _ c h, liveWord_capture])
    rwa [liveWord_capture] at this

/-- Each member of a captured group shows the word of the moment. -/
theorem captureGroup_member (p : Path) (a : Nat) (ms : List Nat) (m : Nat) (hm : m ∈ ms) :
    (s.captureGroup p a ms).view p (a + m) = s.liveWord (a + m) := by
  induction ms generalizing s with
  | nil => cases hm
  | cons n ms ih =>
    rcases List.mem_cons.mp hm with rfl | hm
    · have := captureGroup_live (s.capture p (a + m)) p a (a + m) ms (by rw [view_capture_self, liveWord_capture])
      rwa [liveWord_capture] at this
    · have := ih (s.capture p (a + n)) hm
      rwa [liveWord_capture] at this

theorem captureGroup_other (p q : Path) (a c : Nat) (ms : List Nat) (h : ∀ m ∈ ms, latchKey q c ≠ latchKey p (a + m)) :
    (s.captureGroup p a ms).view q c = s.view q c := by
  induction ms generalizing s with
  | nil => rfl
  | cons m ms ih =>
    exact (ih (s.capture p (a + m)) fun n hn => h n (by simp [hn])).trans (view_capture_ne s p q (h m (by simp)))

/-! ### A read -/

/-- A read of a register that heads no pair and no group captures nothing (R12). -/
theorem captureFrom_untied (p : Path) {a : Nat} {k : RegKind} (hk : kindAt a = some k) (ht : k.tie = .none ∨ k.tie = .hi) :
    s.captureFrom p a = s := by
  unfold State.captureFrom
  rw [hk]
  rcases ht with ht | ht <;> simp [ht]

/-- A read of a _LO register captures its _HI register, unless the path has captured the _LO register with a group (R12). -/
theorem captureFrom_lo (p : Path) {a : Nat} {k : RegKind} (hk : kindAt a = some k) (ht : k.tie = .lo) :
    s.captureFrom p a = if (Store.get (fun _ => none) (latchKey p a) s.captured).isSome then s else s.capture p (a + 4) := by
  unfold State.captureFrom
  rw [hk]
  simp [ht]

/-- A read of the head of a group captures its members (R12). -/
theorem captureFrom_head (p : Path) {a : Nat} {k : RegKind} {ms : List Nat} (hk : kindAt a = some k) (ht : k.tie = .head ms) :
    s.captureFrom p a = s.captureGroup p a ms := by
  unfold State.captureFrom
  rw [hk]
  simp [ht, State.captureGroup]

theorem capture_keeps (p : Path) (a : Nat) : s.Keeps [.captured] noReg (s.capture p a) :=
  .of_regs _ rfl fun q _ hn => by cases q <;> first | rfl | simp at hn

theorem captureFrom_keeps (p : Path) (a : Nat) : s.Keeps [.captured] noReg (s.captureFrom p a) := by
  unfold State.captureFrom
  split
  · split
    · exact .ite (.refl ..) (capture_keeps s p _)
    · exact .foldl _ _ s fun s m _ => capture_keeps s p _
    · exact .refl ..
  · exact .refl ..

/-- The members of a group lie within 256 bytes of its head. -/
def Tie.near : Tie → Bool
  | .head ms => ms.all fun m => decide (m < 256)
  | _ => true

theorem kindsOf_near (b : Blk) : ∀ k ∈ kindsOf b, k.tie.near = true := by cases b <;> decide +kernel

theorem latchKey_ne {p q : Path} {a c : Nat} (h : pathKey q ≠ pathKey p) (hc : c < 2 ^ 24) (ha : a < 2 ^ 24) : latchKey q c ≠ latchKey p a := by
  unfold latchKey
  omega

/-- A read captures for its own path alone (R12). -/
theorem captureFrom_other {p q : Path} {a c : Nat} {k : RegKind} (hk : kindAt a = some k) (h : pathKey q ≠ pathKey p) (hc : c < 2 ^ 24)
    (ha : a + 256 < 2 ^ 24) : (s.captureFrom p a).view q c = s.view q c := by
  have key (m : Nat) (hm : m < 256) : latchKey q c ≠ latchKey p (a + m) := latchKey_ne h hc (by omega)
  obtain ⟨b, base, -, hb⟩ := kindAt_eq_some hk
  have hn := kindsOf_near b k hb
  cases ht : k.tie with
  | none => rw [captureFrom_untied s p hk (.inl ht)]
  | hi => rw [captureFrom_untied s p hk (.inr ht)]
  | lo =>
    rw [captureFrom_lo s p hk ht]
    split
    · rfl
    · exact view_capture_ne s p q (key 4 (by norm_num))
  | head ms =>
    rw [ht] at hn
    rw [captureFrom_head s p hk ht]
    exact captureGroup_other s p q a c ms fun m hm => key m (by simpa using List.all_eq_true.mp hn m hm)

/-- An answered read of a register that neither steps a table nor takes from a queue. -/
theorem readNow_register (p : Path) {a : Nat} {k : RegKind} (hk : kindAt a = some k) (h : stepsOnRead a = false) :
    s.readNow p a = (s.view p a, s.captureFrom p a) := by
  simp only [stepsOnRead, Bool.or_eq_false_iff, Option.isSome_eq_false_iff, Option.isNone_iff_eq_none, decide_eq_false_iff_not, not_or] at h
  obtain ⟨⟨hq, hc⟩, hrmp, hcat, hprof⟩ := h
  obtain ⟨hf, hw⟩ := blockAt_low (blockAt_of_kindAt hk)
  simp [State.readNow, hf, hw, hk, hq, hc, hrmp, hcat, hprof]

/-- Settles O32: the read is `captureFrom`, by the register's tie. -/
theorem captureRead : Obligations.CaptureRead := by
  unfold Obligations.CaptureRead
  intro s t p a k hp hr hk hstep u
  have hread : u.readAlone p a = (u.captureFrom p a).emit (.readWord a (u.view p a)) := by
    rw [readAlone_answered u p a hr, readNow_register u p hk hstep]
  have hkeep := captureFrom_keeps u p a
  refine ⟨(u.captureFrom p a).emit (.readWord a (u.view p a)), ?_, ?_, ?_, ?_, ?_, ?_, ?_⟩
  · rw [exec_captureRead s t p a hp, hread]
  · exact (hkeep.mono (by simp) fun _ h => h).trans (emit_keeps _ _ _ _ (by simp))
  · exact congrArg (_ :: ·) (hkeep.1 .out (by simp) (by simp))
  · intro ht
    rw [captureFrom_untied u p hk ht]
    rfl
  · intro ht
    have hc := captureFrom_lo u p hk ht
    refine ⟨fun h => ?_, fun h => ?_⟩
    · rw [h, Option.isSome_none, if_neg Bool.false_ne_true] at hc
      rw [view_emit, hc, view_capture_self]
    · rw [if_pos (Option.isSome_iff_ne_none.mpr h)] at hc
      rw [hc]
      rfl
  · intro ms ht m hm
    rw [view_emit, captureFrom_head u p hk ht]
    exact captureGroup_member u p a ms m hm
  · intro q c hq hc ha
    rw [view_emit]
    exact captureFrom_other u hk hq hc ha

end Sys2Proof.Machine
end

section
/-! Writes that set the fields of one register and are refused none (R9, R567): what the register then holds. -/

namespace Sys2Proof.Machine

variable (s : State)

/-- Does a write of the register set its fields, none of them staged, before it acts, and clear no counters? -/
def plainRegister (b : Blk) (base a : Nat) : Bool :=
  toFields a && plainAccess a && decide (blockAt a = some (b, base) ∧ clearsOf b (a - base) = none) &&
    (kindAt a).all fun k => k.fields.all fun f => decide (f.acc ≠ .rws)

/-- Does the register at the address stand in a pair or a group as `t` says (R12)? -/
def tiedAs (t : Tie) (a : Nat) : Bool := decide ((kindAt a).map RegKind.tie = some t)

/-- Does the register at the address have a field of the bits and the access type? -/
def hasField (a : Nat) (c : Bits) (acc : Acc) : Bool := (kindAt a).any fun k => k.fields.any fun f => decide (f.bits = c ∧ f.acc = acc)

/-- Is none of the register's fields protected while its block runs? -/
def neverHeld (a : Nat) : Bool := (kindAt a).all fun k => k.fields.all fun f => decide (f.acc ≠ .rwh)

section
variable {b : Blk} {base a : Nat}

theorem plainRegister_spec (h : plainRegister b base a = true) :
    (toFields a = true ∧ plainAccess a = true) ∧ (blockAt a = some (b, base) ∧ clearsOf b (a - base) = none) ∧
      ∃ k, kindAt a = some k ∧ ∀ f ∈ k.fields, f.acc ≠ .rws := by
  simp only [plainRegister, Bool.and_eq_true, decide_eq_true_eq] at h
  obtain ⟨⟨hf, hb⟩, hk⟩ := h
  refine ⟨hf, hb, ?_⟩
  have hs := hf.1
  simp only [toFields, Bool.and_eq_true] at hs
  obtain ⟨k, hk'⟩ := Option.isSome_iff_exists.mp hs.1.1.1
  refine ⟨k, hk', ?_⟩
  simpa [hk'] using hk

theorem plainRegister_block (h : plainRegister b base a = true) : blockAt a = some (b, base) := (plainRegister_spec h).2.1.1

theorem tiedAs_spec {t : Tie} (h : tiedAs t a = true) : ∃ k, kindAt a = some k ∧ k.tie = t := by
  simpa [tiedAs] using h

/-- Outside the equalizer registers the block runs in Inspecting only. -/
theorem running_eq (ha : plainAccess a = true) : s.running a = (s.mode == .inspecting) := by
  simp only [plainAccess, Bool.and_eq_true, decide_eq_true_eq] at ha
  exact if_neg ha.2.2.2

/-- A write is refused no field where none is protected or the module does not inspect. -/
theorem written_accepted (w : Word) (ha : plainRegister b base a = true) (hh : s.mode ≠ .inspecting ∨ neverHeld a = true) :
    (s.written a w).hold = false ∧ (s.written a w).stage = false := by
  obtain ⟨⟨-, hplain⟩, -, k, hk, hs⟩ := plainRegister_spec ha
  obtain ⟨h1, h2⟩ := written_refuses s hk w
  refine ⟨Bool.eq_false_iff.mpr fun h => ?_, Bool.eq_false_iff.mpr fun h => ?_⟩
  · obtain ⟨hr, f, hf, ha, -⟩ := h1.mp h
    rcases hh with hh | hh
    · simp [running_eq s hplain, hh] at hr
    · simp only [neverHeld, hk, Option.all_some, List.all_eq_true, decide_eq_true_eq] at hh
      exact hh f hf ha
  · obtain ⟨-, f, hf, ha, -⟩ := h2.mp h
    exact hs f hf ha

/-- A performed write of such a register: its fields, and then what it starts. -/
theorem busWrite_plain (p : Path) (w : Word) (h : s.performs a w = true) (ha : plainRegister b base a = true)
    (hl : b ≠ .cam ∧ b ≠ .seam ∧ b ≠ .twin) :
    (s.busWrite p a w).2 = (s.writeReg p a w).writeActs s a w 0 ((s.heldHi p a).getD 0).toNat := by
  obtain ⟨⟨hf, -⟩, ⟨hb, hc⟩, -⟩ := plainRegister_spec ha
  rw [busWrite_toFields s p a w h hf, clearsBy_none _ w hb hl hc]

/-- A register of no pair takes the words of a write that is refused no field. -/
theorem writeReg_sole (p : Path) (w : Word) (ha : plainRegister b base a = true) (ht : tiedAs .none a = true)
    (hh : s.mode ≠ .inspecting ∨ neverHeld a = true) : s.writeReg p a w = s.takes a (s.written a w) := by
  obtain ⟨⟨-, hplain⟩, -, -⟩ := plainRegister_spec ha
  obtain ⟨k, hk, hk'⟩ := tiedAs_spec ht
  obtain ⟨h1, h2⟩ := written_accepted s w ha hh
  rw [writeReg_alone s p w hk (by simp [hk']) (by simp [hk']), writeFields_accepted s a w (plainAccess_notStaging hplain) h1 h2]

/-- A _LO register takes its word and the word held for its _HI register, where the module does not inspect. -/
theorem writeReg_loHeld (p : Path) (w h : Word) (ha : plainRegister b base a = true) (ha' : plainRegister b base (a + 4) = true)
    (ht : tiedAs .lo a = true) (hh : s.heldHi p a = some h) (hm : s.mode ≠ .inspecting) (hacc : a + 4 ≠ Reg.ACC_STATUS) :
    s.writeReg p a w = ((s.endHold p a).takes (a + 4) (s.written (a + 4) h)).takes a (s.written a w) := by
  obtain ⟨⟨-, hplain⟩, -, -⟩ := plainRegister_spec ha
  obtain ⟨⟨-, hplain'⟩, -, -⟩ := plainRegister_spec ha'
  obtain ⟨k, hk, hk'⟩ := tiedAs_spec ht
  obtain ⟨h1, h2⟩ := written_accepted s w ha (.inl hm)
  obtain ⟨h3, h4⟩ := written_accepted s h ha' (.inl hm)
  exact writeReg_pair_takes s p w h hk hk' hh h1 h3 h2 h4 hplain (plainAccess_notStaging hplain') hacc

/-- A field of a register after a write. -/
theorem written_field {c : Bits} {acc : Acc} (w : Word) (h : hasField a c acc = true) :
    getBits (s.written a w).word c = forceValue (s.running a) (s.locked a) (getBits (BitVec.ofNat 32 (s.justSet a)) c)
      (getBits w c) (getBits (s.reg a) c) c.len acc := by
  unfold hasField at h
  cases hk : kindAt a with
  | none => simp [hk] at h
  | some k =>
    simp only [hk, Option.any_some, List.any_eq_true, decide_eq_true_eq] at h
    obtain ⟨f, hf, rfl, rfl⟩ := h
    exact (written_at s hk w f hf).1

/-- A field protected while the block runs takes the value written where the module does not inspect (R9). -/
theorem written_rwh {c : Bits} (w : Word) (ha : plainAccess a = true) (h : hasField a c .rwh = true) (hm : s.mode ≠ .inspecting) :
    getBits (s.written a w).word c = getBits w c := by
  rw [written_field s w h, running_eq s ha, beq_false_of_ne hm]
  rfl

/-- In Poised and Halted every aligned write inside a block is performed but that of a queue's missing port. -/
theorem performs_idle (w : Word) (hm : s.mode = .poised ∨ s.mode = .halted) (h4 : a % 4 = 0) (hb : (blockAt a).isSome = true)
    (hp : badPort a = false) : s.performs a w = true := by
  obtain ⟨hf, hw⟩ := blockAt_low hb
  rcases hm with hm | hm <;>
    simp [State.performs, State.answersWrite, State.answersRead, Mode.allOn, State.rejectsCopied, State.gathers, hm, h4, hf, hw, hb, hp]

end

theorem fld_takes_self (a : Nat) (r : Written) (f : Bits) : (s.takes a r).fld a f = getBits r.word f := by
  rw [State.fld, takes_reg_self]

/-! ### Single bits -/

/-- A row that names a bit writes it 1. -/
theorem bit_withBits (w : Word) {i : Nat} (hi : i < 32) : bit (withBits w (2 ^ i)).toNat i = true := by
  have h : (2 ^ i) % 2 ^ 32 = 2 ^ i := Nat.mod_eq_of_lt (Nat.pow_lt_pow_right (by norm_num) hi)
  have e : bit (withBits w (2 ^ i)).toNat i = (w.toNat ||| 2 ^ i).testBit i := by
    rw [bit, Nat.testBit_eq_decide_div_mod_eq, withBits, BitVec.toNat_or, BitVec.toNat_ofNat, h]
  rw [e, Nat.testBit_or, Nat.testBit_two_pow_self, Bool.or_true]

theorem getBits_bit (w : Word) (i : Nat) (h : bit w.toNat i = true) : getBits w ⟨i, 1⟩ = 1 := by
  simpa [bit, getBits] using h

/-- A whole word is its 32 bits. -/
theorem eq_of_getBits_word {w x : Word} (h : getBits w ⟨0, 32⟩ = getBits x ⟨0, 32⟩) : w = x := by
  have := w.isLt
  have := x.isLt
  simp only [getBits, pow_zero, Nat.div_one] at h
  exact BitVec.eq_of_toNat_eq (by omega)

/-! ### Pairs -/

theorem unsignedOf_lt (n : Nat) (x : Int) : unsignedOf n x < 2 ^ n := by
  have h1 : 0 ≤ x % ((2 ^ n : Nat) : Int) := Int.emod_nonneg _ (by positivity)
  have h2 : x % ((2 ^ n : Nat) : Int) < ((2 ^ n : Nat) : Int) := Int.emod_lt_of_pos _ (by positivity)
  unfold unsignedOf
  omega

/-- A pair reads as the 64-bit value stored in it. -/
theorem get64_set64 (a v : Nat) (h : v < 2 ^ 64) : (s.set64 a v).get64 a = v := by
  rw [State.get64, State.set64, num_setNum_self, num_setNum_ne _ (by omega), num_setNum_self]
  omega

theorem getS64_setS64 (a : Nat) (x : Int) : (s.setS64 a x).getS64 a = signed 64 (unsignedOf 64 x) := by
  rw [State.getS64, State.setS64, get64_set64 s a _ (unsignedOf_lt 64 x)]

end Sys2Proof.Machine
end

section
/-! The trigger generator: where a camera is armed (R106, R107), what arming sets, and the rows that write its registers (R100, R101, R107, R113). -/

namespace Sys2Proof.Machine

/-! ### What the line of a camera rests on -/

/-- The registers on which the targets of lines, the count and the cameras' enable bits rest. -/
def aimReg (a : Nat) : Bool :=
  decide ((0x50000 ≤ a ∧ a < 0x50400) ∨ (0x60004 ≤ a ∧ a < 0x60014) ∨ (0x60100 ≤ a ∧ a < 0x60200 ∧ a % 16 ≤ 4) ∨ a = 0x300008)

theorem aimReg_iff (a : Nat) : aimReg a = true ↔
    (0x50000 ≤ a ∧ a < 0x50400) ∨ (0x60004 ≤ a ∧ a < 0x60014) ∨ (0x60100 ≤ a ∧ a < 0x60200 ∧ a % 16 ≤ 4) ∨ a = 0x300008 := by
  simp [aimReg]

section
variable {u v : State} (h : ∀ a, aimReg a = true → v.reg a = u.reg a)
include h

theorem num_aim {a : Nat} (ha : aimReg a = true) : v.num a = u.num a := by rw [State.num, State.num, h a ha]

theorem get48_aim {a : Nat} (ha : aimReg a = true) (hb : aimReg (a + 4) = true) : v.get48 a = u.get48 a := by
  rw [State.get48, State.get48, State.get64, State.get64, num_aim h ha, num_aim h hb]

theorem source_aim : v.source = u.source := by
  have hf : v.fld Reg.POS_CTRL Fld.POS_CTRL_SRC = u.fld Reg.POS_CTRL Fld.POS_CTRL_SRC := by
    rw [State.fld, State.fld, h Reg.POS_CTRL (by decide)]
  rw [State.source, State.source, hf]

theorem count_aim : v.count = u.count := by
  unfold State.count
  rw [source_aim h]
  cases hs : u.source with
  | none => rfl
  | some k =>
    have hk : k < 6 := by
      simp only [State.source] at hs
      split at hs
      · cases hs; assumption
      · cases hs
    exact get48_aim h ((aimReg_iff _).mpr (.inl (by rw [Reg.IN_CNT_LO]; omega))) ((aimReg_iff _).mpr (.inl (by rw [Reg.IN_CNT_LO]; omega)))

theorem pitchOk_aim : v.pitchOk = u.pitchOk := by
  simp only [State.pitchOk, num_aim h (show aimReg Reg.TRG_PITCH_NUM = true by decide), num_aim h (show aimReg Reg.TRG_PITCH_DEN = true by decide)]

theorem offsetOf_aim (n : Nat) : v.offsetOf n = u.offsetOf n := by
  unfold State.offsetOf
  split
  · rw [num_aim h ((aimReg_iff _).mpr (.inr (.inr (.inl (by rw [Reg.TRG_CAMOFS]; omega)))))]
  · rw [num_aim h (by decide)]

theorem target_aim (j : Int) : v.target j = u.target j := by
  simp only [State.target, get48_aim h (show aimReg Reg.TRG_ORIGIN_LO = true by decide) (by decide),
    num_aim h (show aimReg Reg.TRG_PITCH_NUM = true by decide), num_aim h (show aimReg Reg.TRG_PITCH_DEN = true by decide)]

theorem lineAbove_aim (n : Nat) (c : Int) : v.lineAbove n c = u.lineAbove n c := by
  simp only [State.lineAbove, offsetOf_aim h, get48_aim h (show aimReg Reg.TRG_ORIGIN_LO = true by decide) (by decide),
    num_aim h (show aimReg Reg.TRG_PITCH_NUM = true by decide), num_aim h (show aimReg Reg.TRG_PITCH_DEN = true by decide)]

theorem trgEnabled_aim (n : Nat) : v.trgEnabled n = u.trgEnabled n := by
  unfold State.trgEnabled
  split
  · rw [State.flag, State.flag, State.fld, State.fld, h _ ((aimReg_iff _).mpr (.inr (.inr (.inl (by rw [Reg.TRG_CAMCFG]; omega)))))]
  · rfl

end

/-! ### Arming -/

variable (s : State)

/-- The registers that hold the cameras' next lines. -/
def nextReg (a : Nat) : Bool := decide (0x60100 ≤ a ∧ a < 0x60200 ∧ 8 ≤ a % 16)

theorem nextReg_next {n : Nat} (h : n < 12) : nextReg (Reg.TRG_NEXT_LO n) = true ∧ nextReg (Reg.TRG_NEXT_LO n + 4) = true := by
  simp only [nextReg, decide_eq_true_eq]
  rw [Reg.TRG_NEXT_LO]
  omega

theorem nextReg_of_aimReg {a : Nat} (h : aimReg a = true) : nextReg a = false := by
  rw [aimReg_iff] at h
  simp only [nextReg, decide_eq_false_iff_not]
  omega

theorem setTrgCam_keeps (n : Nat) (c : TrgCam) (P : List Part) (r : Nat → Bool) (h : Part.trgCam ∈ P) : s.Keeps P r (s.setTrgCam n c) :=
  .of_regs r rfl fun p _ hp => by cases p <;> first | rfl | exact absurd h hp

theorem trgCamOf_setTrgCam (n m : Nat) (c : TrgCam) : (s.setTrgCam n c).trgCamOf m = if m = n then c else s.trgCamOf m :=
  Store.get_set trgCam0 n m c s.trgCam

theorem setNextLine_keeps (n : Nat) (j : Int) : s.Keeps [.trgCam] nextReg (s.setNextLine n j) := by
  unfold State.setNextLine
  split
  · next h => exact set64_keeps s _ _ _ _ (nextReg_next h).1 (nextReg_next h).2
  · exact setTrgCam_keeps s _ _ _ _ (by simp)

/-- The next line of a camera is stored in its registers and touches no other camera's. -/
theorem setNextLine_camera {n : Nat} (j : Int) (h : n < 12) :
    (s.setNextLine n j).getS64 (Reg.TRG_NEXT_LO n) = signed 64 (unsignedOf 64 j) ∧ (s.setNextLine n j).trgCam = s.trgCam := by
  rw [State.setNextLine, if_pos h]
  exact ⟨getS64_setS64 s _ j, rfl⟩

theorem setNextLine_other {n m : Nat} (j : Int) (h : m ≠ n) (hm : m < 12) :
    (s.setNextLine n j).getS64 (Reg.TRG_NEXT_LO m) = s.getS64 (Reg.TRG_NEXT_LO m) ∧ (s.setNextLine n j).trgCamOf m = s.trgCamOf m := by
  unfold State.setNextLine
  split
  · refine ⟨?_, rfl⟩
    have ne (x y : Nat) (hx : x = Reg.TRG_NEXT_LO m ∨ x = Reg.TRG_NEXT_LO m + 4) (hy : y = Reg.TRG_NEXT_LO n ∨ y = Reg.TRG_NEXT_LO n + 4) :
        x ≠ y := by
      simp only [Reg.TRG_NEXT_LO] at hx hy
      omega
    simp only [State.getS64, State.get64, State.setS64, State.set64]
    rw [num_setNum_ne _ (ne _ _ (.inl rfl) (.inr rfl)), num_setNum_ne _ (ne _ _ (.inl rfl) (.inl rfl)),
      num_setNum_ne _ (ne _ _ (.inr rfl) (.inr rfl)), num_setNum_ne _ (ne _ _ (.inr rfl) (.inl rfl))]
  · exact ⟨rfl, (trgCamOf_setTrgCam s 12 m _).trans (if_neg (by omega))⟩

theorem armCamera_keeps (n : Nat) : s.Keeps [.trgCam] nextReg (s.armCamera n) := by
  unfold State.armCamera
  exact .ite ((setTrgCam_keeps s _ _ _ _ (by simp)).trans (setNextLine_keeps _ _ _)) (.refl ..)

/-- Arming one camera leaves the others as they were. -/
theorem armCamera_other {n m : Nat} (h : m ≠ n) (hm : m < 12) :
    (s.armCamera n).getS64 (Reg.TRG_NEXT_LO m) = s.getS64 (Reg.TRG_NEXT_LO m) ∧ (s.armCamera n).trgCamOf m = s.trgCamOf m := by
  unfold State.armCamera
  split
  · obtain ⟨h1, h2⟩ := setNextLine_other (s.setTrgCam n { s.trgCamOf n with armed := true }) (s.lineAbove n s.count) h hm
    exact ⟨h1, h2.trans ((trgCamOf_setTrgCam s n m _).trans (if_neg h))⟩
  · exact ⟨rfl, rfl⟩

/-- Is camera `n` armed at the line above the count (R107), by the targets and the count of `u`? -/
def State.ArmedAs (u v : State) (n : Nat) : Prop :=
  (v.trgCamOf n).armed = true ∧ v.getS64 (Reg.TRG_NEXT_LO n) = signed 64 (unsignedOf 64 (u.lineAbove n u.count))

theorem armCamera_self {n : Nat} (h : n < 12) (he : s.trgEnabled n = true) : s.ArmedAs (s.armCamera n) n := by
  rw [State.armCamera, if_pos he]
  obtain ⟨h1, h2⟩ := setNextLine_camera (s.setTrgCam n { s.trgCamOf n with armed := true }) (s.lineAbove n s.count) h
  refine ⟨?_, h1⟩
  rw [State.trgCamOf, h2]
  exact congrArg TrgCam.armed ((trgCamOf_setTrgCam s n n _).trans (if_pos rfl))

/-- Arming one camera after another arms each enabled one. -/
theorem armCamera_range (i : Nat) : let v := (List.range i).foldl State.armCamera s
    s.Keeps [.trgCam] nextReg v ∧ ∀ n, n < i → n < 12 → s.trgEnabled n = true → s.ArmedAs v n := by
  induction i with
  | zero => exact ⟨.refl .., fun n hn => absurd hn (by omega)⟩
  | succ i ih =>
    obtain ⟨hk, ha⟩ := ih
    simp only [List.range_succ, List.foldl_append, List.foldl_cons, List.foldl_nil]
    have aim (a : Nat) (h : aimReg a = true) := hk.2 a (nextReg_of_aimReg h)
    refine ⟨hk.trans (armCamera_keeps _ i), fun n hn hn12 he => ?_⟩
    by_cases hni : n = i
    · subst hni
      have := armCamera_self _ hn12 ((trgEnabled_aim aim n).trans he)
      unfold State.ArmedAs at this
      rwa [lineAbove_aim aim, count_aim aim] at this
    · obtain ⟨h1, h2⟩ := armCamera_other ((List.range i).foldl State.armCamera s) hni hn12
      obtain ⟨a1, a2⟩ := ha n (by omega) hn12 he
      exact ⟨by rw [h2, a1], by rw [h1, a2]⟩

/-- Where triggers are generated with a pitch and a source, every enabled camera is armed (R107). -/
theorem armCameras_arms (hm : s.mode.active = true) (hp : s.pitchOk = true) (hs : s.source.isSome = true)
    (he : s.flag Reg.TRG_CTRL Fld.TRG_CTRL_EN = true) :
    s.Keeps [.trgCam, .trg] nextReg s.armCameras ∧ ∀ n, n < 12 → s.trgEnabled n = true → s.ArmedAs s.armCameras n := by
  obtain ⟨hk, ha⟩ := armCamera_range s 13
  unfold State.armCameras
  simp only [hm, hp, hs, he, Bool.and_self, if_true]
  refine ⟨(hk.mono (by simp) fun _ h => h).trans (.of_regs _ rfl fun p _ hn => by cases p <;> first | rfl | simp at hn), ?_⟩
  exact fun n hn hen => ha n (by omega) hn hen

/-! ### Pulses -/

theorem outPins_keeps (o : OutPins) (P : List Part) (r : Nat → Bool) (h : Part.outPins ∈ P) : s.Keeps P r { s with outPins := o } :=
  .of_regs r rfl fun p _ hp => by cases p <;> first | rfl | exact absurd h hp

theorem cutPulses_keeps : s.Keeps [.outPins, .out] noReg s.cutPulses :=
  (State.Keeps.foldl _ _ s fun s p _ => emit_keeps s (.trigEnd p.1) _ _ (by simp)).trans (outPins_keeps _ _ _ _ (by simp))

theorem cutPulse_keeps (k : Nat) : s.Keeps [.outPins, .out] noReg (s.cutPulse k) := by
  unfold State.cutPulse
  split
  · exact (outPins_keeps s _ _ _ (by simp)).trans (emit_keeps _ _ _ _ (by simp))
  · exact .refl ..

/-- Holding outputs inactive changes pins and nothing else (R113, R116). -/
theorem holdPins_keeps : s.Keeps [.outPins, .out] noReg s.holdPins := by
  unfold State.holdPins
  exact .ite (cutPulses_keeps s) (.foldl _ _ s fun s k _ => .ite (cutPulse_keeps s k) (.refl ..))

theorem holdPins_mode : s.holdPins.mode = s.mode := (holdPins_keeps s).1 .mode (by simp) (by simp)

/-! ### The registers that the rows write -/

theorem trgCtrl_register : plainRegister .trg 0x60000 Reg.TRG_CTRL = true ∧ tiedAs .none Reg.TRG_CTRL = true ∧
    hasField Reg.TRG_CTRL Fld.TRG_CTRL_EN .rwh = true := by decide +kernel

theorem cmpctl_register : ∀ k < 16, plainRegister .trg 0x60000 (Reg.TRIG_CMPCTL k) = true ∧ tiedAs .none (Reg.TRIG_CMPCTL k) = true ∧
    neverHeld (Reg.TRIG_CMPCTL k) = true ∧ hasField (Reg.TRIG_CMPCTL k) Fld.TRIG_CMPCTL_ARMED .ro = true := by decide +kernel

theorem inCfg_register : ∀ k < 6, plainRegister .pos 0x50000 (Reg.IN_CFG k) = true ∧ tiedAs .none (Reg.IN_CFG k) = true ∧
    hasField (Reg.IN_CFG k) Fld.IN_CFG_HOME .w1s = true := by decide +kernel

theorem writeActs_trg {a base : Nat} (b : State) (v : Word) (prep hi : Nat) (h : blockAt a = some (.trg, base)) :
    s.writeActs b a v prep hi = s.trgWrite a v := by
  unfold State.writeActs
  rw [h]

theorem writeActs_pos {a base : Nat} (b : State) (v : Word) (prep hi : Nat) (h : blockAt a = some (.pos, base)) :
    s.writeActs b a v prep hi = s.posWrite b a := by
  unfold State.writeActs
  rw [h]

/-- The compare output whose registers an address belongs to. -/
theorem find_cmpctl : ∀ k < 16,
    (List.range 16).find? (fun i => decide (Reg.TRIG_CMPCTL k = Reg.TRIG_CMPCTL i ∨ Reg.TRIG_CMPCTL k = Reg.TRIG_CFG i)) = some k ∧ Reg.TRIG_CMPCTL k ≠ Reg.TRG_CTRL ∧ Reg.TRIG_CMPCTL k ≠ Reg.TRIG_CFG k := by decide +kernel

theorem trgWrite_cmpctl {k : Nat} (hk : k < 16) (v : Word) :
    s.trgWrite (Reg.TRIG_CMPCTL k) v = if bit v.toNat 0 then s.armCompare k else s := by
  obtain ⟨h1, h2, h3⟩ := find_cmpctl k hk
  unfold State.trgWrite
  rw [if_neg h2, h1]
  exact if_neg h3

/-- The input whose soft limits an address belongs to. -/
def softLimitAt (a : Nat) : Option Nat := (List.range 6).find? fun k => decide (a = Reg.IN_SOFTLO_LO k ∨ a = Reg.IN_SOFTHI_LO k)

theorem posWrite_elsewhere (b : State) {a : Nat} (h : a ≠ Reg.POS_CTRL) (hs : softLimitAt a = none) : s.posWrite b a = s := by
  unfold softLimitAt at hs
  rw [State.posWrite, if_neg h, hs]

theorem posWrite_softLimit (b : State) {a k : Nat} (h : a ≠ Reg.POS_CTRL) (hs : softLimitAt a = some k) :
    s.posWrite b a = s.clampToLimits k := by
  unfold softLimitAt at hs
  rw [State.posWrite, if_neg h, hs]

theorem softLimitAt_inCfg : ∀ k < 6, softLimitAt (Reg.IN_CFG k) = none ∧ Reg.IN_CFG k ≠ Reg.POS_CTRL := by decide +kernel

end Sys2Proof.Machine
end

section
/-! The rows of the trigger generator, clause by clause, and the token of a fire (R69, R72, R100, R101, R107, R112 to R114, R116). -/

namespace Sys2Proof.Machine

variable (s : State)

/-- No block of the position inputs or of the trigger generator has lanes. -/
theorem noLanes (b : Blk) (h : b = .pos ∨ b = .trg) : b ≠ .cam ∧ b ≠ .seam ∧ b ≠ .twin := by rcases h with rfl | rfl <;> decide

/-! ### TRIGGER_ENABLE -/

/-- TRG_CTRL written with EN where the module does not inspect: its fields, the pins it holds, and arming (R107, R113). -/
theorem busWrite_trgCtrl (p : Path) (w : Word) (h : s.performs Reg.TRG_CTRL w = true) (hm : s.mode ≠ .inspecting) (he : bit w.toNat 0 = true) :
    (s.busWrite p Reg.TRG_CTRL w).2 = (s.takes Reg.TRG_CTRL (s.written Reg.TRG_CTRL w)).holdPins.armCameras := by
  obtain ⟨hr, ht, -⟩ := trgCtrl_register
  have hm' : ((s.takes Reg.TRG_CTRL (s.written Reg.TRG_CTRL w)).holdPins.mode == .inspecting) = false :=
    beq_false_of_ne (by rw [holdPins_mode]; exact hm)
  rw [busWrite_plain s p w h hr (noLanes _ (.inr rfl)), writeReg_sole s p w hr ht (.inl hm), writeActs_trg _ _ _ _ _ (plainRegister_block hr),
    State.trgWrite, if_pos rfl]
  simp only [he, bne, hm', Bool.not_false, Bool.and_self, if_true]

/-- The clause of TRIGGER_ENABLE (R107). -/
theorem triggerEnable_arms (s : State) (t : Nat) (p : Path) (w : Word) : let u := s.advanceTo t
    u.reaches p = true → u.performs Reg.TRG_CTRL (withBits w 1) = true → u.mode = .poised ∨ u.mode = .halted → u.pitchOk = true →
    u.source.isSome = true →
      ∃ v : State, exec (.triggerEnable t p w) s = .next (v.settle s) ∧ v.flag Reg.TRG_CTRL Fld.TRG_CTRL_EN = true ∧
        ∀ n, n < 12 → u.trgEnabled n = true → u.ArmedAs v n := by
  intro u hp hperf hmode hpitch hsrc
  have hm : u.mode ≠ .inspecting := by rcases hmode with h | h <;> simp [h]
  have hbit : bit (withBits w 1).toNat 0 = true := bit_withBits w (i := 0) (by norm_num)
  obtain ⟨hr, -, hen⟩ := trgCtrl_register
  -- the state in which the cameras are armed
  let x := (u.takes Reg.TRG_CTRL (u.written Reg.TRG_CTRL (withBits w 1))).holdPins
  have hx : u.Keeps [.shadow, .outPins, .out] (theRegs [Reg.TRG_CTRL]) x :=
    (takes_keeps u _ _ _ (by simp [theRegs]) (by simp)).trans ((holdPins_keeps _).mono (by simp) fun _ _ => rfl)
  have aim (a : Nat) (h : aimReg a = true) : x.reg a = u.reg a := hx.2 a (by
    rw [aimReg_iff] at h
    simp only [theRegs, List.contains_cons, List.contains_nil, Bool.or_false, beq_eq_false_iff_ne]
    rw [Reg.TRG_CTRL]
    omega)
  have hfld : x.fld Reg.TRG_CTRL Fld.TRG_CTRL_EN = 1 := by
    rw [State.fld, (holdPins_keeps (u.takes Reg.TRG_CTRL _)).2 _ rfl, takes_reg_self,
      written_rwh u _ (plainRegister_spec hr).1.2 hen hm]
    exact getBits_bit _ 0 hbit
  have hflag : x.flag Reg.TRG_CTRL Fld.TRG_CTRL_EN = true := by simp [State.flag, hfld]
  have hmx : x.mode = u.mode := hx.1 .mode (by simp) (by simp)
  have hact : x.mode.active = true := by rw [hmx]; rcases hmode with h | h <;> rw [h] <;> rfl
  obtain ⟨hk, ha⟩ := armCameras_arms x hact ((pitchOk_aim aim).trans hpitch) (by rw [source_aim aim]; exact hsrc) hflag
  refine ⟨x.armCameras, ?_, ?_, fun n hn he => ?_⟩
  · have := busWrite_trgCtrl u p _ hperf hm hbit
    exact congrArg Host.Outcome.next (by rw [writeAt_reaches s t p _ _ hp, this])
  · rw [State.flag, State.fld, hk.2 Reg.TRG_CTRL (by decide)]
    exact hflag
  · have := ha n hn ((trgEnabled_aim aim n).trans he)
    unfold State.ArmedAs at this
    rwa [lineAbove_aim aim, count_aim aim] at this

/-! ### ARM -/

theorem armCompare_keeps (k : Nat) (P : List Part) : s.Keeps P (theRegs [Reg.TRIG_CMPCTL k]) (s.armCompare k) := by
  unfold State.armCompare
  exact .ite (setFld_keeps s _ _ _ _ _ (by simp [theRegs])) (.refl ..)

/-- The clause of ARM (R113, R568). -/
theorem arm_arms (s : State) (t : Nat) (p : Path) (w : Word) (k : Nat) (hk : k < 16) : let u := s.advanceTo t
    u.reaches p = true → u.performs (Reg.TRIG_CMPCTL k) (withBits w 1) = true →
      ∃ v : State, exec (.arm t p k w) s = .next (v.settle s) ∧
        (u.source.isSome = true → v.flag (Reg.TRIG_CMPCTL k) Fld.TRIG_CMPCTL_ARMED = true) ∧
        (u.source = none → v.flag (Reg.TRIG_CMPCTL k) Fld.TRIG_CMPCTL_ARMED = u.flag (Reg.TRIG_CMPCTL k) Fld.TRIG_CMPCTL_ARMED) ∧
        u.Keeps [.shadow] (theRegs [Reg.TRIG_CMPCTL k]) v := by
  intro u hp hperf
  obtain ⟨hr, ht, hnever, hro⟩ := cmpctl_register k hk
  have hbit : bit (withBits w 1).toNat 0 = true := bit_withBits w (i := 0) (by norm_num)
  let x := u.takes (Reg.TRIG_CMPCTL k) (u.written (Reg.TRIG_CMPCTL k) (withBits w 1))
  have hx : u.Keeps [.shadow] (theRegs [Reg.TRIG_CMPCTL k]) x := takes_keeps u _ _ _ (by simp [theRegs]) (by simp)
  have hsrc : x.source = u.source := source_aim fun a h => takes_reg_ne u (by
    rintro rfl
    rw [aimReg_iff, Reg.TRIG_CMPCTL] at h
    omega) _
  refine ⟨x.armCompare k, ?_, fun h => ?_, fun h => ?_, hx.trans (armCompare_keeps x k _)⟩
  · refine congrArg Host.Outcome.next ?_
    rw [writeAt_reaches s t p _ _ hp, busWrite_plain u p _ hperf hr (noLanes _ (.inr rfl)), writeReg_sole u p _ hr ht (.inr hnever),
      writeActs_trg _ _ _ _ _ (plainRegister_block hr), trgWrite_cmpctl _ hk, if_pos hbit]
  · rw [State.armCompare, hsrc, if_pos h, flag_setFld_self _ _ _ _ (by decide)]
    rfl
  · rw [State.armCompare, hsrc, h, Option.isSome_none, if_neg Bool.false_ne_true, State.flag, State.flag, fld_takes_self,
      written_field u _ hro]
    rfl

/-! ### HOME -/

/-- The clause of HOME (R101). -/
theorem home_sets (s : State) (t : Nat) (p : Path) (w : Word) (k : Nat) (hk : k < 6) : let u := s.advanceTo t
    u.reaches p = true → u.performs (Reg.IN_CFG k) (withBits w 0x10) = true → u.mode ≠ .inspecting →
      ∃ v : State, exec (.home t p k w) s = .next (v.settle s) ∧ v.flag (Reg.IN_CFG k) Fld.IN_CFG_HOME = true ∧
        u.Keeps [.shadow] (theRegs [Reg.IN_CFG k]) v := by
  intro u hp hperf hm
  obtain ⟨hr, ht, hhome⟩ := inCfg_register k hk
  obtain ⟨hnone, hne⟩ := softLimitAt_inCfg k hk
  refine ⟨u.takes (Reg.IN_CFG k) (u.written (Reg.IN_CFG k) (withBits w 0x10)), ?_, ?_, takes_keeps u _ _ _ (by simp [theRegs]) (by simp)⟩
  · refine congrArg Host.Outcome.next ?_
    rw [writeAt_reaches s t p _ _ hp, busWrite_plain u p _ hperf hr (noLanes _ (.inl rfl)), writeReg_sole u p _ hr ht (.inl hm),
      writeActs_pos _ _ _ _ _ (plainRegister_block hr), posWrite_elsewhere _ _ hne hnone]
  · have hone : getBits (withBits w 0x10) Fld.IN_CFG_HOME = 1 := getBits_bit _ 4 (bit_withBits w (i := 4) (by norm_num))
    have hor (n : Nat) : n ||| 1 ≠ 0 := Nat.ne_of_gt (lt_of_lt_of_le Nat.one_pos Nat.right_le_or)
    rw [State.flag, fld_takes_self, written_field u _ hhome, hone]
    exact decide_eq_true (hor _)

/-! ### SOFT_LIMIT_WRITE -/

/-- The _LO register of a soft limit of input `k`. -/
def softLimitReg (k : Nat) (high : Bool) : Nat := if high then Reg.IN_SOFTHI_LO k else Reg.IN_SOFTLO_LO k

/-- The two halves of a soft limit in the register table. -/
theorem softLimit_register : ∀ k < 6, ∀ high : Bool, let a := softLimitReg k high
    (plainRegister .pos 0x50000 a = true ∧ tiedAs .lo a = true ∧ hasField a ⟨0, 32⟩ .rwh = true) ∧
    (plainRegister .pos 0x50000 (a + 4) = true ∧ tiedAs .hi (a + 4) = true ∧ hasField (a + 4) ⟨0, 32⟩ .rwh = true) := by decide +kernel

/-- Their addresses: aligned, no port of a queue, and the _LO register is the one that has the limit acted on. -/
theorem softLimit_address : ∀ k < 6, ∀ high : Bool, let a := softLimitReg k high
    a % 4 = 0 ∧ (badPort a = false ∧ badPort (a + 4) = false) ∧ (softLimitAt a = some k ∧ softLimitAt (a + 4) = none) ∧
    (a ≠ Reg.POS_CTRL ∧ a + 4 ≠ Reg.POS_CTRL) ∧ a + 4 ≠ Reg.ACC_STATUS ∧ is48Hi (a + 4) = true := by decide +kernel

/-- The registers that a load of counter `k` uses. -/
def loadReg (k a : Nat) : Bool := trigReg a || theRegs [Reg.IN_CNT_LO k, Reg.IN_CNT_LO k + 4, Reg.IN_STATUS k, Reg.IN_SPEED k] a

/-- The parts that a load uses. -/
def loadParts : List Part := .pos :: trigParts

theorem loadReg_softLimit : ∀ k < 6, ∀ high : Bool, loadReg k (softLimitReg k high) = false ∧ loadReg k (softLimitReg k high + 4) = false := by
  decide +kernel

theorem setStatus_load (k : Nat) (f : Bits) (v : Nat) : s.Keeps loadParts (loadReg k) (s.setFld (Reg.IN_STATUS k) f v) :=
  setFld_keeps s _ _ _ _ _ (by simp [loadReg, theRegs])

theorem clearSpeed_load (k : Nat) : s.Keeps loadParts (loadReg k) (s.clearSpeed k) := by
  refine State.Keeps.trans (v := s.setPosIn k { s.posIn k with hist := [], lastStep := none }) ?_ ?_
  · exact .of_regs _ rfl fun p _ hn => by cases p <;> first | rfl | simp [loadParts] at hn
  · exact (setNum_keeps _ _ _ _ _ (by simp [loadReg, theRegs])).trans (setStatus_load _ _ _ _)

theorem loadCount_load (k : Nat) (c : Int) : s.Keeps loadParts (loadReg k) (s.loadCount k c) := by
  have hcnt (v : Int) : s.Keeps loadParts (loadReg k) (s.set48 (Reg.IN_CNT_LO k) v) :=
    set48_keeps s _ _ _ _ (by simp [loadReg, theRegs]) (by simp [loadReg, theRegs])
  have harm (v : State) (h : s.Keeps loadParts (loadReg k) v) : s.Keeps loadParts (loadReg k) (if v.isSource k = true then v.armCameras else v) :=
    .ite (h.trans ((armCameras_trig v).mono (fun _ h => List.mem_cons_of_mem _ h) fun a ha => (Bool.or_eq_false_iff.mp ha).1)) h
  exact harm _ ((((hcnt _).trans (setStatus_load _ k _ 0)).trans (setStatus_load _ k _ 0)).trans (clearSpeed_load _ k))

/-- A soft limit that is acted on changes no soft limit (R100). -/
theorem clampToLimits_load (k : Nat) : s.Keeps loadParts (loadReg k) (s.clampToLimits k) := by
  unfold State.clampToLimits
  refine .ite ?_ (loadCount_load s k _)
  have h1 : s.Keeps loadParts (loadReg k) (if s.get48 (Reg.IN_CNT_LO k) = (s.softLimits k).2 then s
      else s.setFld (Reg.IN_STATUS k) Fld.IN_STATUS_SATHI 0) := .ite (.refl ..) (setStatus_load s k _ 0)
  exact .ite h1 (h1.trans (setStatus_load _ k _ 0))

/-- The _HI half of a soft limit is held for its path (R12). -/
theorem busWrite_softLimitHi (p : Path) (k : Nat) (high : Bool) (w : Word) (hk : k < 6) (hm : s.mode = .poised ∨ s.mode = .halted) :
    (s.busWrite p (softLimitReg k high + 4) w).2 = s.holds p (softLimitReg k high + 4) w := by
  obtain ⟨-, hr, ht, -⟩ := softLimit_register k hk high
  obtain ⟨h4, ⟨-, hp⟩, ⟨-, hsl⟩, ⟨-, hne⟩, -⟩ := softLimit_address k hk high
  obtain ⟨x, hx, hx'⟩ := tiedAs_spec ht
  have hb := plainRegister_block hr
  have hperf := performs_idle s w hm (a := softLimitReg k high + 4) (by omega) (by simp [hb]) hp
  rw [busWrite_plain s p w hperf hr (noLanes _ (.inl rfl)), writeReg_hi s p w hx hx', writeActs_pos _ _ _ _ _ hb,
    posWrite_elsewhere _ _ hne hsl]

/-- The _LO half takes the held word with it, and the limit is acted on (R12, R100). -/
theorem busWrite_softLimitLo (p : Path) (k : Nat) (high : Bool) (w h : Word) (hk : k < 6) (hm : s.mode = .poised ∨ s.mode = .halted)
    (hh : s.heldHi p (softLimitReg k high) = some h) : let a := softLimitReg k high
    (s.busWrite p a w).2 = (((s.endHold p a).takes (a + 4) (s.written (a + 4) h)).takes a (s.written a w)).clampToLimits k := by
  intro a
  obtain ⟨⟨hr, ht, -⟩, hr', -⟩ := softLimit_register k hk high
  obtain ⟨h4, ⟨hp, -⟩, ⟨hsl, -⟩, ⟨hne, -⟩, hacc, -⟩ := softLimit_address k hk high
  have hb := plainRegister_block hr
  have hperf := performs_idle s w hm h4 (by simp [hb]) hp
  have hm' : s.mode ≠ .inspecting := by rcases hm with h | h <;> simp [h]
  rw [busWrite_plain s p w hperf hr (noLanes _ (.inl rfl)), writeReg_loHeld s p w h hr hr' ht hh hm' hacc, writeActs_pos _ _ _ _ _ hb,
    posWrite_softLimit _ _ hne hsl]

/-- The clause of SOFT_LIMIT_WRITE (R12, R100). -/
theorem softLimitWrite_writes (s : State) (t : Nat) (p : Path) (k : Nat) (high : Bool) (hi lo : Word) (hk : k < 6) :
    let u := s.advanceTo t
    u.reaches p = true → u.mode = .poised ∨ u.mode = .halted →
      ∃ v : State, exec (.softLimitWrite t p k high lo hi) s = .next (v.settle s) ∧ v.reg (softLimitReg k high) = lo ∧
        v.reg (softLimitReg k high + 4) = BitVec.ofNat 32 (unsignedOf 32 (signed 16 hi.toNat)) := by
  intro u hp hmode
  obtain ⟨⟨hr, -, hlo⟩, hr', -, hhi⟩ := softLimit_register k hk high
  obtain ⟨-, -, -, -, -, h48⟩ := softLimit_address k hk high
  obtain ⟨hload, hload'⟩ := loadReg_softLimit k hk high
  generalize ha : softLimitReg k high = a at *
  let y := u.holds p (a + 4) hi
  have hmy : y.mode = .poised ∨ y.mode = .halted := hmode
  have hm : y.mode ≠ .inspecting := by rcases hmy with h | h <;> simp [h]
  let h := hiValue (a + 4) hi
  have hheld : y.heldHi p a = some h := holds_held u p (a + 4) hi
  let z := ((y.endHold p a).takes (a + 4) (y.written (a + 4) h)).takes a (y.written a lo)
  refine ⟨z.clampToLimits k, ?_, ?_, ?_⟩
  · have e1 := busWrite_softLimitHi u p k high hi hk hmode
    have e2 := busWrite_softLimitLo y p k high lo h hk hmy (by rw [ha]; exact hheld)
    rw [ha] at e1 e2
    have e : exec (.softLimitWrite t p k high lo hi) s =
        .next (s.during t fun s => s.when (s.reaches p) fun s =>
          ((s.busWrite p (softLimitReg k high + 4) hi).2.busWrite p (softLimitReg k high) lo).2) := rfl
    rw [e, ha]
    refine congrArg Host.Outcome.next ?_
    rw [State.during, State.when, if_pos hp, e1, e2]
  · rw [(clampToLimits_load z k).2 a hload, takes_reg_self]
    exact eq_of_getBits_word (written_rwh y lo (plainRegister_spec hr).1.2 hlo hm)
  · rw [(clampToLimits_load z k).2 _ hload', takes_reg_ne _ (by omega), takes_reg_self,
      eq_of_getBits_word (written_rwh y h (plainRegister_spec hr').1.2 hhi hm)]
    exact if_pos h48

/-! ### TRIG_PULSE_END -/

/-- The clause of TRIG_PULSE_END (R114). -/
theorem trigPulseEnd_ends (s : State) (t k b e : Nat) : let u := s.advanceTo t
    Store.get (fun _ => none) k u.outPins.trigEnd = some (b, e) → e ≤ u.now →
      ∃ v : State, exec (.trigPulseEnd t k) s = .next (v.settle s) ∧ v.out = .trigEnd k :: u.out ∧
        Store.get (fun _ => none) k v.outPins.trigEnd = none ∧ u.Keeps [.outPins, .out] noReg v := by
  intro u hget hle
  let o := { u.outPins with trigEnd := Store.set (fun _ => none) k none u.outPins.trigEnd }
  refine ⟨({ u with outPins := o } : State).emit (.trigEnd k), ?_, rfl, Store.get_set_self (fun _ => none) k none u.outPins.trigEnd,
    (outPins_keeps u o _ _ (by simp)).trans (emit_keeps _ _ _ _ (by simp))⟩
  refine congrArg Host.Outcome.next ?_
  simp only [State.during]
  rw [show Store.get (fun _ => none) k (s.advanceTo t).outPins.trigEnd = _ from hget]
  exact congrArg (State.settle · s) (if_pos (decide_eq_true hle))

/-! ### Tokens -/

theorem giveRows_keeps (m cls t : Nat) (rows : List (List (Nat × BitVec 64))) : s.Keeps [.links] noReg (s.giveRows m cls t rows) := by
  unfold State.giveRows
  exact .ite (setLink_keeps s _ _ _ _ (by simp)) (.refl ..)

/-- What a token that leaves changes: the transmitter, and the record of what is sent (R69). -/
theorem sendToken_spec (n tseq phase : Nat) (c : Int) (t : Nat) : s.Keeps [.links, .out] noReg (s.sendToken n tseq phase c t) ∧
    (s.sendToken n tseq phase c t).out = .token n tseq phase (s.tokenHold n t) c :: s.out := by
  have k := giveRows_keeps s n 0 t [[(2, tokenBody tseq phase (s.tokenHold n t) c)]]
  exact ⟨(k.mono (by simp) fun _ h => h).trans (emit_keeps _ _ _ _ (by simp)), congrArg (_ :: ·) (k.1 .out (by simp) (by simp))⟩

/-- HOLD of a token rests on the port's link and its settings (R69). -/
theorem tokenHold_congr {u v : State} (n t : Nat) (hl : v.links = u.links) (hr : v.reg (Reg.CAM_CTRL n) = u.reg (Reg.CAM_CTRL n)) :
    v.tokenHold n t = u.tokenHold n t := by
  have hf : v.fld (Reg.CAM_CTRL n) Fld.CAM_CTRL_RATE = u.fld (Reg.CAM_CTRL n) Fld.CAM_CTRL_RATE := by rw [State.fld, State.fld, hr]
  have h1 : v.laneRate n = u.laneRate n := by rw [State.laneRate, State.laneRate, hf]
  have h2 : v.link n = u.link n := by rw [State.link, State.link, hl]
  rw [State.tokenHold, State.tokenHold, State.upUi, State.upUi, h1, h2]

/-- The state of a fire before its token: the port's window, and the next TSEQ. -/
theorem openWindow_ready (n : Nat) (j : Int) (at_ : Nat) (h : s.linkReady n = true) : ∃ x : State,
    s.Keeps [.ports] (theRegs [Reg.CAM_TSEQ n]) x ∧
    x.fld (Reg.CAM_TSEQ n) Fld.CAM_TSEQ_NEXT = (s.fld (Reg.CAM_TSEQ n) Fld.CAM_TSEQ_NEXT + 1) % 2 ^ Fld.CAM_TSEQ_NEXT.len ∧
    s.openWindow n j at_ = if x.gated then x
      else x.sendToken n (s.fld (Reg.CAM_TSEQ n) Fld.CAM_TSEQ_NEXT) (phaseOf j (s.phases n)) (x.target j + x.offsetOf n) (at_ + 12000) := by
  have hport (c : Bool) (q : PortHid) : s.Keeps [.ports] (theRegs [Reg.CAM_TSEQ n]) (if c then s.setPort n q else s) :=
    .ite (setPort_keeps s _ _ _ _ (by simp)) (.refl ..)
  have htseq (y : State) (v : Nat) : y.Keeps [.ports] (theRegs [Reg.CAM_TSEQ n]) (y.setFld (Reg.CAM_TSEQ n) Fld.CAM_TSEQ_NEXT v) :=
    setFld_keeps y _ _ _ _ _ (by simp [theRegs])
  unfold State.openWindow
  simp only [h, if_true]
  exact ⟨_, (hport _ _).trans (htseq _ _), fld_setFld_self _ _ _ _ (by decide), rfl⟩

/-- The clause of a fire's token (R112, R116). -/
theorem openWindow_token (n : Nat) (j : Int) (at_ : Nat) (hn : n < 12) (h : s.linkReady n = true) : let v := s.openWindow n j at_
    v.fld (Reg.CAM_TSEQ n) Fld.CAM_TSEQ_NEXT = (s.fld (Reg.CAM_TSEQ n) Fld.CAM_TSEQ_NEXT + 1) % 2 ^ Fld.CAM_TSEQ_NEXT.len ∧
    (s.gated = true → v.out = s.out) ∧
    (s.gated = false → v.out = .token n (s.fld (Reg.CAM_TSEQ n) Fld.CAM_TSEQ_NEXT) (j % (s.phases n : Int)).toNat (s.tokenHold n (at_ + 12000))
      (s.target j + s.offsetOf n) :: s.out) := by
  obtain ⟨x, hx, hf, he⟩ := openWindow_ready s n j at_ h
  have other (a : Nat) (ha : a ≠ Reg.CAM_TSEQ n) : x.reg a = s.reg a := hx.2 a (by simp [theRegs, ha])
  have aim (a : Nat) (ha : aimReg a = true) : x.reg a = s.reg a := other a (by
    rintro rfl
    rw [aimReg_iff, Reg.CAM_TSEQ] at ha
    omega)
  have hout : x.out = s.out := hx.1 .out (by simp) (by simp)
  have hpins : x.pins = s.pins := hx.1 .pins (by simp) (by simp)
  have hgated : x.gated = s.gated := by
    have e (a : Nat) (ha : a < 0x100000) (b : Bits) : x.flag a b = s.flag a b := by
      rw [State.flag, State.flag, State.fld, State.fld, other a (by rw [Reg.CAM_TSEQ]; omega)]
    simp only [State.gated, State.roleActive, hpins, e Reg.TRG_CTRL (by decide), e Reg.RED_CTRL (by decide), e Reg.RED_STATUS (by decide)]
  have hhold : x.tokenHold n (at_ + 12000) = s.tokenHold n (at_ + 12000) :=
    tokenHold_congr n _ (hx.1 .links (by simp) (by simp)) (other _ (by rw [Reg.CAM_CTRL, Reg.CAM_TSEQ]; omega))
  intro v
  have hv : v = _ := he
  rw [hgated, target_aim aim, offsetOf_aim aim] at hv
  cases hg : s.gated with
  | true =>
    rw [hg, if_pos rfl] at hv
    rw [hv]
    exact ⟨hf, fun _ => hout, fun h => absurd h (by simp)⟩
  | false =>
    rw [hg, if_neg Bool.false_ne_true] at hv
    obtain ⟨hk, ho⟩ := sendToken_spec x n (s.fld (Reg.CAM_TSEQ n) Fld.CAM_TSEQ_NEXT) (phaseOf j (s.phases n)) (s.target j + s.offsetOf n)
      (at_ + 12000)
    rw [hv]
    refine ⟨?_, fun h => absurd h (by simp), fun _ => ?_⟩
    · rw [State.fld, hk.2 _ rfl]
      exact hf
    · rw [ho, hhold, hout]
      rfl

/-- Settles O45: each row by its clause above. -/
theorem triggerRows : Obligations.TriggerRows := by
  unfold Obligations.TriggerRows
  intro s t p w u
  refine ⟨triggerEnable_arms s t p w, fun k hk => arm_arms s t p w k hk, fun k hk => home_sets s t p w k hk,
    fun k h hi lo hk => softLimitWrite_writes s t p k h hi lo hk, trigPulseEnd_ends s t, fun n at_ j hn hr => openWindow_token u n j at_ hn hr⟩

end Sys2Proof.Machine
end

section
/-! Where an access is answered (R21, R22, R32 to R34, R484), and the SRAM window (R33, R34). -/

namespace Sys2Proof.Machine

variable (s : State)

/-! ### A path that does not reach the register space -/

theorem exec_registerWrite_unreached (t : Nat) (p : Path) (a : Nat) (w : Word) (h : (s.advanceTo t).reaches p = false) :
    exec (.registerWrite t p a w) s = .next ((s.advanceTo t).settle s) := by
  have : s.writeAt t p a w = (s.advanceTo t).settle s := by simp [State.writeAt, State.during, State.when, h]
  exact congrArg Host.Outcome.next this

theorem exec_captureRead_unreached (t : Nat) (p : Path) (a : Nat) (h : (s.advanceTo t).reaches p = false) :
    exec (.captureRead t p a) s = .next ((s.advanceTo t).settle s) := by
  have : s.readAt t p a = (s.advanceTo t).settle s := by simp [State.readAt, State.during, State.when, h]
  exact congrArg Host.Outcome.next this

/-- The modes in which the host transport and firmware reach the register space (R21). -/
theorem active_iff (m : Mode) : m.active = true ↔ m = .poised ∨ m = .inspecting ∨ m = .halted := by
  simp [Mode.active, or_assoc]

theorem allOn_of_active {m : Mode} (h : m.active = true) : m.allOn = true := by
  rcases (active_iff m).mp h with rfl | rfl | rfl <;> rfl

/-! ### Which addresses answer -/

section
variable {a : Nat}

theorem blockAt_pwrCtrl : blockAt Reg.PWR_CTRL = some (.pwr, 0x10000) := rfl

theorem blockAt_window_none (h : inWindow a = true) : blockAt a = none :=
  blockAt_high (by simp only [inWindow, decide_eq_true_eq] at h; omega)

/-- An address of a block is read while every domain is on, and in the AO domain always (R21, R22). -/
theorem answersRead_block {b : Blk} {base : Nat} (h : blockAt a = some (b, base)) : s.answersRead a = (s.mode.allOn || isAo b) := by
  obtain ⟨-, hw⟩ := blockAt_low (a := a) (by simp [h])
  unfold State.answersRead
  cases hm : s.mode.allOn <;> simp [h, hw]

/-- An address outside every assigned range is never read (R32). -/
theorem answersRead_unassigned (hb : blockAt a = none) (hf : inFolio a = false) (hw : inWindow a = false) : s.answersRead a = false := by
  unfold State.answersRead
  cases hm : s.mode.allOn <;> simp [hb, hf, hw]

/-- The SRAM window is read while every domain is on and it shows a page of the SRAM (R33, R34). -/
theorem answersRead_window (h : inWindow a = true) :
    s.answersRead a = (s.mode.allOn && decide (s.fld Reg.SYS_SRAMPG Fld.SYS_SRAMPG_PAGE ≤ 5)) := by
  unfold State.answersRead
  cases hm : s.mode.allOn <;> simp [h, blockAt_window_none h]

/-- Outside Frozen and the SRAM window a write is answered where a read is. -/
theorem answersWrite_awake (w : Word) (hm : s.mode ≠ .frozen) (hw : inWindow a = false) : s.answersWrite a w = s.answersRead a := by
  simp [State.answersWrite, hm, hw]

/-- In Frozen a write is answered in ERR, in TWI and in PWR_CTRL only (R484). -/
theorem answersWrite_frozen (w : Word) (hm : s.mode = .frozen) (hb : ∀ b base, blockAt a = some (b, base) → b ≠ .err ∧ b ≠ .twi)
    (ha : a ≠ Reg.PWR_CTRL) : s.answersWrite a w = false := by
  rw [State.answersWrite, if_pos (by simp [hm])]
  split
  · next base h => exact absurd rfl (hb _ base h).1
  · next base h => exact absurd rfl (hb _ base h).2
  · simp [ha]

/-- Outside every block none is answered in Frozen. -/
theorem answersWrite_frozen_none (w : Word) (hm : s.mode = .frozen) (hb : blockAt a = none) : s.answersWrite a w = false :=
  answersWrite_frozen s w hm (by simp [hb]) (by rintro rfl; simp [blockAt_pwrCtrl] at hb)

/-- A write through the SRAM window is answered in Poised and Halted, where a read is (R34). -/
theorem answersWrite_window (w : Word) (h : inWindow a = true) :
    s.answersWrite a w = (s.answersRead a && (s.mode == .poised || s.mode == .halted)) := by
  by_cases hm : s.mode = .frozen
  · rw [answersWrite_frozen_none s w hm (blockAt_window_none h)]
    simp [hm]
  · simp [State.answersWrite, hm, h]

theorem readable_unanswered (h : s.answersRead a = false) : s.readable a = false := by simp [State.readable, h]

end

/-- Settles O27: each clause from what answers at its address and in its mode. -/
theorem whereAccessIsAnswered : Obligations.WhereAccessIsAnswered := by
  unfold Obligations.WhereAccessIsAnswered
  intro s t p a w u
  refine ⟨fun hb hf hw => ?_, fun b base hon hb hao => ?_, fun b base hm hb herr htwi hpwr => ?_, fun hm hw => ?_,
    fun hp => ⟨exec_captureRead_unreached s t p a hp, exec_registerWrite_unreached s t p a w hp⟩, fun i => active_iff u.mode⟩
  · have hr := answersRead_unassigned u hb hf hw
    refine ⟨readable_unanswered u hr, ?_⟩
    by_cases hm : u.mode = .frozen
    · exact answersWrite_frozen_none u w hm hb
    · rw [answersWrite_awake u w hm hw, hr]
  · have hr : u.answersRead a = false := by rw [answersRead_block u hb, hon, hao]; rfl
    have hm : u.mode ≠ .frozen := by rintro h; rw [h] at hon; cases hon
    have hw := (blockAt_low (a := a) (by simp [hb])).2
    exact ⟨readable_unanswered u hr, by rw [answersWrite_awake u w hm hw, hr]⟩
  · refine answersWrite_frozen u w hm (fun b' base' hb' => ?_) hpwr
    obtain ⟨rfl, -⟩ : b = b' ∧ base = base' := by simpa [hb] using hb'
    exact ⟨herr, htwi⟩
  · simp [answersWrite_window u w hw, hm]

/-! ### The SRAM window -/

@[simp] theorem length_leBytes (n v : Nat) : (leBytes n v).length = n := by
  induction n generalizing v with
  | zero => rfl
  | succ n ih => simp [leBytes, ih]

/-- Little-endian byte `i` of a number (R52). -/
theorem getElem_leBytes (n v i : Nat) (h : i < (leBytes n v).length) : (leBytes n v)[i] = BitVec.ofNat 8 (v / 256 ^ i) := by
  induction n generalizing v i with
  | zero => simp at h
  | succ n ih =>
    cases i with
    | zero => simp [leBytes]
    | succ i => simp [leBytes, ih, Nat.div_div_eq_div_mul, pow_succ']

/-- The number that four bytes of memory spell (R52). -/
theorem ofLeBytes_readBytes_four (m : Store Byte) (o : Nat) : let byte (i : Nat) : Nat := (Store.get (fun _ => (0 : Byte)) (o + i) m).toNat
    ofLeBytes (readBytes m o 4) = byte 0 + 256 * byte 1 + 65536 * byte 2 + 16777216 * byte 3 := by
  simp only [readBytes, ofLeBytes, Nat.add_assoc, Nat.reduceAdd, Nat.add_zero]
  omega

/-- The window holds no port of a queue. -/
theorem badPort_window {a : Nat} (h : inWindow a = true) : badPort a = false := by
  have : queuePort a 0x34 = none := if_neg (by simp only [inWindow, decide_eq_true_eq] at h; omega)
  rw [badPort, this]

section
variable {a : Nat} (h4 : a % 4 = 0) (hw : inWindow a = true)
include h4 hw

/-- Where the window shows a page, it is read in every state in which its domain answers (R33, R34). -/
theorem readable_window (hp : s.fld Reg.SYS_SRAMPG Fld.SYS_SRAMPG_PAGE ≤ 5)
    (hm : s.mode.active = true ∨ (s.mode = .frozen ∧ s.pwr.refclk = true)) : s.readable a = true := by
  have hon : s.mode.allOn = true := by
    rcases hm with hm | ⟨hm, -⟩
    · exact allOn_of_active hm
    · rw [hm]; rfl
  have hclk : (s.mode != .frozen || s.pwr.refclk) = true := by
    rcases hm with hm | ⟨-, hm⟩
    · rcases (active_iff s.mode).mp hm with h | h | h <;> rw [h] <;> rfl
    · simp [hm]
  simp [State.readable, answersRead_window s hw, h4, hp, hon, hclk]

/-- In Poised and Halted a write through the window to a page is performed (R34). -/
theorem performs_window (w : Word) (hp : s.fld Reg.SYS_SRAMPG Fld.SYS_SRAMPG_PAGE ≤ 5) (hm : s.mode = .poised ∨ s.mode = .halted) :
    s.performs a w = true := by
  rcases hm with hm | hm <;>
    simp [State.performs, answersWrite_window s w hw, answersRead_window s hw, badPort_window hw, Mode.allOn, State.rejectsCopied,
      State.gathers, hm, h4, hp]

end

/-- The Notice of a rejected access at an aligned address (R6). -/
theorem rejectAccess_aligned {a : Nat} (h4 : a % 4 = 0) : s.rejectAccess a = s.notice 0x0102 0xFF a := by
  rw [rejectAccess_eq, if_pos h4]

theorem sram_keeps (m : Store Byte) (P : List Part) (r : Nat → Bool) (h : Part.sram ∈ P) : s.Keeps P r { s with sram := m } :=
  .of_regs r rfl fun p _ hp => by cases p <;> first | rfl | exact absurd h hp

/-- A word stored in memory: its four bytes there, and every other byte as it was. -/
theorem get_writeBytes_word (m : Store Byte) (o : Nat) (w : Word) : let n := writeBytes m o (leBytes 4 w.toNat)
    (∀ i, i < 4 → Store.get (fun _ => (0 : Byte)) (o + i) n = BitVec.ofNat 8 (w.toNat / 256 ^ i)) ∧
    ∀ x, x < o ∨ o + 4 ≤ x → Store.get (fun _ => (0 : Byte)) x n = Store.get (fun _ => (0 : Byte)) x m := by
  have hl := length_leBytes 4 w.toNat
  refine ⟨fun i hi => ?_, fun x hx => get_writeBytes_out m o _ x (by rwa [hl])⟩
  rw [get_writeBytes_in m o _ i (by rwa [hl]), getElem_leBytes]

/-- Settles O29: a read and a write of four bytes at the window's offset, or a rejection. -/
theorem sramWindow : Obligations.SramWindow := by
  unfold Obligations.SramWindow
  intro s t p a w hr hlo hhi h4 u page at_ byte
  have hw : inWindow a = true := decide_eq_true ⟨hlo, hhi⟩
  have hread : u.answersRead a = (u.mode.allOn && decide (page ≤ 5)) := answersRead_window u hw
  have hoff (h : 6 ≤ page) : u.answersRead a = false := by simp [hread, show ¬page ≤ 5 by omega]
  refine ⟨fun hp hm => ?_, fun hp hm => ?_, fun hm => ?_, fun hp _ => ?_⟩
  · have hnow : u.readNow p a = (BitVec.ofNat 32 (ofLeBytes (readBytes u.sram at_ 4)), u) := if_pos hw
    rw [exec_captureRead s t p a hr, readAlone_answered u p a (readable_window u h4 hw hp hm), hnow, ofLeBytes_readBytes_four]
  · have hnone : (kindAt a).isSome = false := by simp [kindAt, blockAt_window_none hw]
    have hne {c : Nat} (hc : (kindAt c).isSome = true) : a ≠ c := by rintro rfl; simp [hnone] at hc
    obtain ⟨hpwr, herr⟩ := kindAt_requests
    have hnow : u.writeNow p a w 0 = { u with sram := writeBytes u.sram at_ (leBytes 4 w.toNat) } := if_pos hw
    refine ⟨{ u with sram := writeBytes u.sram at_ (leBytes 4 w.toNat) }, ?_, sram_keeps u _ _ _ (by simp), get_writeBytes_word u.sram at_ w⟩
    rw [exec_registerWrite s t p a w hr, busWrite_performs u p a w (performs_window u h4 hw w hp hm) (hne hpwr) (hne herr), hnow]
  · have hans : u.answersWrite a w = false := by
      rw [answersWrite_window u w hw]
      rcases hm with hm | ⟨hp, -⟩
      · simp [hm]
      · rw [hoff hp]; rfl
    rw [exec_registerWrite s t p a w hr, State.busWrite, busWriteIn_rejected u p a w none (.inr (.inl hans)), rejectAccess_aligned u h4]
  · rw [exec_captureRead s t p a hr, readAlone_rejected u p a (readable_unanswered u (hoff hp)), rejectAccess_aligned u h4]

end Sys2Proof.Machine
end

section
/-! Counters cleared by a write (R91, R93): the registers whose bits clear counters, what a write of one starts, and what it clears. -/

namespace Sys2Proof.Machine

variable (s : State)

/-! ### Registers of action bits -/

/-- Does the register at the address hold action bits alone, outside every pair, group and table? -/
def actionRegister (a : Nat) : Bool :=
  toFields a && !isStaging a && (kindAt a).any fun k => decide (k.tie = .none) && k.fields.all fun f => decide (f.acc = .wo)

theorem actionRegister_spec {a : Nat} (h : actionRegister a = true) :
    toFields a = true ∧ isStaging a = false ∧ ∃ k, kindAt a = some k ∧ k.tie = .none ∧ ∀ f ∈ k.fields, f.acc = .wo := by
  simpa [actionRegister, Option.any_eq_true, and_assoc] using h

/-- A write of action bits leaves the words of its register (R9). -/
theorem written_actions {a : Nat} {k : RegKind} (hk : kindAt a = some k) (hw : ∀ f ∈ k.fields, f.acc = .wo) (v : Word) :
    s.written a v = ⟨s.reg a, s.stagedWord a, false, false⟩ := by
  rw [written_of_kind s hk]
  have fold (l : List FieldSpec) (r : Written) (hl : ∀ f ∈ l, f.acc = .wo) :
      l.foldl (writeField (s.running a) (s.sealed a) (s.locked a) (BitVec.ofNat 32 (s.justSet a)) v) r = r := by
    induction l generalizing r with
    | nil => rfl
    | cons f l ih =>
      have hf : writeField (s.running a) (s.sealed a) (s.locked a) (BitVec.ofNat 32 (s.justSet a)) v r f = r := by
        simp [writeField, hl f (by simp)]
      rw [List.foldl_cons, hf]
      exact ih r fun g hg => hl g (by simp [hg])
  exact fold _ _ hw

/-- What a write of action bits leaves: every register's word. -/
theorem writeReg_action (p : Path) {a : Nat} (w : Word) (h : actionRegister a = true) :
    (∀ c, (s.writeReg p a w).reg c = s.reg c) ∧ s.Keeps [.shadow] anyReg (s.writeReg p a w) := by
  obtain ⟨-, hst, k, hk, ht, hw⟩ := actionRegister_spec h
  have e : s.writeReg p a w = s.takes a ⟨s.reg a, s.stagedWord a, false, false⟩ := by
    rw [writeReg_alone s p w hk (by simp [ht]) (by simp [ht]), writeFields_accepted s a w hst] <;> rw [written_actions s hk hw]
  rw [e]
  refine ⟨fun c => ?_, takes_keeps s _ _ _ rfl (by simp)⟩
  by_cases hc : c = a
  · rw [hc, takes_reg_self]
  · exact takes_reg_ne s hc _

/-! ### Addresses at which a write starts nothing beside its fields -/

/-- Is the address, in a block of a kind, none at which a write starts something? -/
def startsNothing (b : Blk) (a : Nat) : Bool :=
  match b with
  | .err => decide (a ≠ Reg.ERR_CTRL ∧ a ≠ Reg.ERR_ACK)
  | .evr => decide (a ∉ [Reg.EVR_FIRE_LO, Reg.EVR_FIRE_HI, Reg.EVR_ECHO_LO, Reg.EVR_ECHO_HI, Reg.EVR_TCLR_LO, Reg.EVR_TCLR_HI] ∧
      ¬(Reg.TASK_SEL 61 ≤ a ∧ a ≤ Reg.TASK_SEL 63))
  | .pos => decide (a ≠ Reg.POS_CTRL) && (softLimitAt a).isNone
  | .trg => decide (a ≠ Reg.TRG_CTRL) && (List.range 16).all fun k => decide (a ≠ Reg.TRIG_CMPCTL k ∧ a ≠ Reg.TRIG_CFG k)
  | .time => decide (a ∉ [Reg.TIME_CTRL, Reg.TIME_CMD, Reg.PTP_CTRL])
  | .cal => decide (a ∉ [Reg.CAL_CMD, Reg.CAL_SEAL, Reg.CAL_IMGCTL])
  | .red => decide (a ≠ Reg.RED_CTRL)
  | .acc => decide (a ≠ Reg.ACC_CTRL)
  | .prof => decide (a ≠ Reg.PROF_SYNC)
  | .dma => decide (a ≠ Reg.DMA_CTRL) && (List.range 32).all fun c => decide (a ≠ Reg.CH_CTRL c)
  | .cam | .seam | .twin => decide (a % 0x10000 ≠ 0 ∧ a % 0x10000 ≠ 0x7C) && !isLaneCtrl 4 (a % 0x10000)
  | .corr | .stitch => decide (a ∉ [Reg.CD_ORIGIN, Reg.CD_PITCH, Reg.CD_DIR, Reg.RMP_TCTL] ∧ a % 0x10000 ≠ 0x10)
  | .stk => (List.range 4).all fun r => decide (a ≠ Reg.RP_CTRL r)
  | .memc => decide (a ≠ Reg.MEMC_FREQ ∧ a ≠ Reg.MEMC_TRAIN)
  | .host => decide (a ≠ Reg.HOST_CTRL 0 ∧ a ≠ Reg.HOST_CTRL 1)
  | .sys | .que => false
  | _ => true

theorem isLaneCtrl_of_four {lanes o : Nat} (hl : lanes ≤ 4) (h : isLaneCtrl 4 o = false) : isLaneCtrl lanes o = false := by
  simp only [isLaneCtrl, decide_eq_false_iff_not] at *
  omega

theorem linkWrite_nothing (b : State) (m a : Nat) (v : Word) (h : startsNothing .cam a = true) : s.linkWrite b m a v = s := by
  simp only [startsNothing, Bool.and_eq_true, Bool.not_eq_true', decide_eq_true_eq] at h
  obtain ⟨⟨h0, h7⟩, hlane⟩ := h
  have hc : a ≠ Reg.CAM_CTRL m := by rw [Reg.CAM_CTRL]; omega
  have hg : a ≠ Reg.CREG_CTRL m := by rw [Reg.CREG_CTRL]; omega
  have hl : isLaneCtrl (if m = 14 then 2 else 4) (a % 0x10000) = false := isLaneCtrl_of_four (by split <;> omega) hlane
  simp [State.linkWrite, hc, hg, hl]

/-- At such an address a write does what its fields say and no more. -/
theorem writeActs_nothing {a base : Nat} {b : Blk} (x : State) (v : Word) (prep hi : Nat) (hb : blockAt a = some (b, base))
    (h : startsNothing b a = true) : s.writeActs x a v prep hi = s := by
  have find (n : Nat) (q : Nat → Prop) [DecidablePred q] (hq : ∀ k < n, ¬q k) : (List.range n).find? (fun k => decide (q k)) = none := by
    simpa using hq
  unfold State.writeActs
  rw [hb]
  cases b with
  | sys | que => simp [startsNothing] at h
  | err =>
    simp only [startsNothing, decide_eq_true_eq] at h
    simp [State.errWrite, h]
  | evr =>
    simp only [startsNothing, decide_eq_true_eq, List.mem_cons, not_or] at h
    simp [State.evrWrite, h]
  | pos =>
    simp only [startsNothing, Bool.and_eq_true, decide_eq_true_eq, Option.isNone_iff_eq_none] at h
    exact posWrite_elsewhere s x h.1 h.2
  | trg =>
    simp only [startsNothing, Bool.and_eq_true, decide_eq_true_eq, List.all_eq_true, List.mem_range] at h
    obtain ⟨h1, h2⟩ := h
    simp only [State.trgWrite, if_neg h1, find 16 _ fun k hk => not_or.mpr (h2 k hk)]
  | time =>
    simp only [startsNothing, decide_eq_true_eq, List.mem_cons, not_or] at h
    simp [State.timeWrite, h]
  | cal =>
    simp only [startsNothing, decide_eq_true_eq, List.mem_cons, not_or] at h
    simp [State.calWrite, h]
  | red =>
    simp only [startsNothing, decide_eq_true_eq] at h
    exact if_neg h
  | acc =>
    simp only [startsNothing, decide_eq_true_eq] at h
    exact if_neg h
  | prof =>
    simp only [startsNothing, decide_eq_true_eq] at h
    simp [h]
  | dma =>
    simp only [startsNothing, Bool.and_eq_true, decide_eq_true_eq, List.all_eq_true, List.mem_range] at h
    obtain ⟨h1, h2⟩ := h
    simp only [State.dmaWrite, if_neg h1, find 32 _ h2]
  | cam | seam | twin => exact linkWrite_nothing s x _ a v h
  | corr | stitch =>
    simp only [startsNothing, decide_eq_true_eq, List.mem_cons, not_or] at h
    simp [State.tableWrite, h]
  | stk =>
    simp only [startsNothing, decide_eq_true_eq, List.all_eq_true, List.mem_range] at h
    simp only [State.stacksWrite, find 4 _ h]
  | memc =>
    simp only [startsNothing, decide_eq_true_eq] at h
    simp [State.memcWrite, h]
  | host =>
    simp only [startsNothing, decide_eq_true_eq] at h
    simp [State.hostWrite, h]
  | _ => rfl

/-! ### The counter-clear registers -/

/-- Does a write at the address clear counters: is it a counter-clear register (R91), or a LANE_CLR of a camera port or a seam link (R93)? -/
def clearsCounters (b : Blk) (o : Nat) : Bool := (clearsOf b o).isSome || ((b == .cam || b == .seam) && isLaneClr 4 o)

/-- The offsets of the counter-clear registers of a block. -/
def clearOffsets : Blk → List Nat
  | .err | .dma => [0x1C]
  | .evr => 0x24 :: (List.range 64).map (0x11C + 0x20 * ·)
  | .twi | .seg | .card | .oht => [0x40]
  | .pos => (List.range 6).map (0x160 + 0x80 * ·)
  | .trg => [0x20]
  | .time => [0x7C]
  | .cal | .corr => [0x2C]
  | .red => [0x38]
  | .acc => [0x28]
  | .prof => [0x54]
  | .cam => 0x38 :: (List.range 4).map (0x110 + 0x20 * ·)
  | .seam => 0x34 :: (List.range 4).map (0x110 + 0x20 * ·)
  | .twin | .memc => [0x34]
  | .folio => [0x120]
  | .stitch => [0x30]
  | .stk => [0x58]
  | .host => (List.range 4).map (0x138 + 0x40 * ·)
  | _ => []

theorem mem_offsets {o first stride n : Nat} (h1 : first ≤ o) (h2 : o < first + stride * n) (h3 : (o - first) % stride = 0) :
    o ∈ (List.range n).map (first + stride * ·) := by
  have hd := Nat.div_add_mod (o - first) stride
  refine List.mem_map.mpr ⟨(o - first) / stride, List.mem_range.mpr (Nat.div_lt_of_lt_mul (by omega)), by omega⟩

theorem clearOffsets_spec {b : Blk} {o : Nat} (h : clearsCounters b o = true) : o ∈ clearOffsets b := by
  have lane (hl : isLaneClr 4 o = true) : o ∈ (List.range 4).map (0x110 + 0x20 * ·) := by
    simp only [isLaneClr, decide_eq_true_eq] at hl
    exact mem_offsets (by omega) (by omega) (by omega)
  simp only [clearsCounters, clearsOf] at h
  cases b
  case evr =>
    by_cases ho : o = 0x24
    · simp [clearOffsets, ho]
    · simp [ho] at h
      exact List.mem_cons_of_mem _ (mem_offsets (by omega) (by omega) (by omega))
  case pos =>
    simp at h
    exact mem_offsets (by omega) (by omega) (by omega)
  case host =>
    simp at h
    exact mem_offsets (by omega) (by omega) (by omega)
  case cam =>
    by_cases ho : o = 0x38
    · simp [clearOffsets, ho]
    · simp [ho] at h
      exact List.mem_cons_of_mem _ (lane h)
  case seam =>
    by_cases ho : o = 0x34
    · simp [clearOffsets, ho]
    · simp [ho] at h
      exact List.mem_cons_of_mem _ (lane h)
  case sys | pwr | que => simp at h
  all_goals simpa [clearOffsets] using h

/-- The counter-clear registers in the register tables: action bits, whose write starts nothing else. -/
theorem clear_registers : ∀ w < 0x40, ∀ low : Bool, (blockAt (w * 0x10000 + if low then 0 else 0x100)).all (fun b =>
    (clearOffsets b.1).all fun o => (kindAt (w * 0x10000 + o)).isNone ||
      (actionRegister (w * 0x10000 + o) && startsNothing b.1 (w * 0x10000 + o))) = true := by
  decide +kernel

/-- The base of a block is that of its 64 KiB window (R31). -/
theorem blockAt_bases : ∀ w < 0x40, ∀ low : Bool, (blockAt (w * 0x10000 + if low then 0 else 0x100)).all (fun b =>
    decide (b.2 = w * 0x10000)) = true := by
  decide +kernel

theorem blockAt_in_window {a base : Nat} {b : Blk} (hb : blockAt a = some (b, base)) : a / 0x10000 < 0x40 ∧
    blockAt (a / 0x10000 * 0x10000 + if decide (a % 0x10000 < 0x100) then 0 else 0x100) = some (b, base) := by
  refine ⟨?_, by rw [← hb, blockAt_window a]; simp⟩
  by_contra hc
  rw [blockAt_high (by omega)] at hb
  cases hb

theorem blockAt_base {a base : Nat} {b : Blk} (hb : blockAt a = some (b, base)) : base = a / 0x10000 * 0x10000 := by
  obtain ⟨hw, hb'⟩ := blockAt_in_window hb
  have h := blockAt_bases _ hw (decide (a % 0x10000 < 0x100))
  rw [hb'] at h
  exact of_decide_eq_true h

/-- A register at which counters are cleared holds action bits, and its write starts nothing else. -/
theorem clear_register {a base : Nat} {b : Blk} (hb : blockAt a = some (b, base)) (hk : (kindAt a).isSome = true)
    (hc : clearsCounters b (a - base) = true) : actionRegister a = true ∧ startsNothing b a = true := by
  obtain ⟨hw, hb'⟩ := blockAt_in_window hb
  have h := clear_registers _ hw (decide (a % 0x10000 < 0x100))
  rw [hb', Option.all_some, List.all_eq_true] at h
  have ha : a / 0x10000 * 0x10000 + (a - base) = a := by rw [blockAt_base hb]; omega
  have := h _ (clearOffsets_spec hc)
  rw [ha] at this
  simpa [Option.isSome_iff_ne_none.mp hk] using this

/-- A performed write there clears counters and leaves every other register (R91). -/
theorem busWrite_clears (p : Path) {a base : Nat} {b : Blk} (w : Word) (hperf : s.performs a w = true) (hk : (kindAt a).isSome = true)
    (hb : blockAt a = some (b, base)) (hc : clearsCounters b (a - base) = true) :
    (s.busWrite p a w).2 = (s.writeReg p a w).clearsBy a w := by
  obtain ⟨ha, hn⟩ := clear_register hb hk hc
  rw [busWrite_toFields s p a w hperf (actionRegister_spec ha).1, writeActs_nothing _ _ _ _ _ hb hn]

/-! ### What is cleared -/

/-- The counters of the bits that are 1 hold 0, and every other register keeps its word (R91). -/
theorem clearCounters_spec (base n : Nat) (v : Word) :
    (∀ c, (s.clearCounters base n v).reg c = if ∃ m, m < n ∧ bit v.toNat m = true ∧ c = base + 4 * m then 0 else s.reg c) ∧
    s.Keeps [] anyReg (s.clearCounters base n v) := by
  induction n with
  | zero => exact ⟨fun c => by simp [State.clearCounters], .refl ..⟩
  | succ n ih =>
    obtain ⟨hr, hk⟩ := ih
    have step : s.clearCounters base (n + 1) v =
        if bit v.toNat n then (s.clearCounters base n v).setNum (base + 4 * n) 0 else s.clearCounters base n v := by
      simp [State.clearCounters, List.range_succ]
    rw [step]
    refine ⟨fun c => ?_, .ite (hk.trans (setNum_keeps _ _ _ _ _ rfl)) hk⟩
    by_cases hn : bit v.toNat n = true ∧ c = base + 4 * n
    · obtain ⟨hb, rfl⟩ := hn
      rw [if_pos hb, reg_setNum_self, if_pos ⟨n, by omega, hb, rfl⟩]
      rfl
    · have same : (∃ m < n + 1, bit v.toNat m = true ∧ c = base + 4 * m) ↔ ∃ m < n, bit v.toNat m = true ∧ c = base + 4 * m := by
        refine ⟨fun ⟨m, hm, h⟩ => ⟨m, ?_, h⟩, fun ⟨m, hm, h⟩ => ⟨m, by omega, h⟩⟩
        exact lt_of_le_of_ne (Nat.le_of_lt_succ hm) fun e => hn (e ▸ h)
      have hreg : (if bit v.toNat n then (s.clearCounters base n v).setNum (base + 4 * n) 0 else s.clearCounters base n v).reg c =
          (s.clearCounters base n v).reg c := by
        split
        · next hb => exact reg_setNum_ne _ (fun hc => hn ⟨hb, hc⟩) _
        · rfl
      simp only [hreg, hr, same]

/-- Is `c` a counter that the word clears through the LANE_CLR at `a` (R93)? -/
def LaneCleared (a : Nat) (v : Word) (c : Nat) : Prop :=
  (∃ m, m < 3 ∧ bit v.toNat m = true ∧ c = a - 0xC + 4 * m) ∨ (bit v.toNat 3 = true ∧ c = a + 4)

/-- A LANE_CLR write clears the three counters before it and LANE_BIP after it (R93). -/
theorem clearLane_spec (a : Nat) (v : Word) :
    (∀ c, (LaneCleared a v c → (s.clearLane a v).reg c = 0) ∧ (¬LaneCleared a v c → (s.clearLane a v).reg c = s.reg c)) ∧
    s.Keeps [] anyReg (s.clearLane a v) := by
  obtain ⟨hr, hk⟩ := clearCounters_spec s (a - 0xC) 3 v
  have three (c : Nat) (h : ¬(bit v.toNat 3 = true ∧ c = a + 4)) : (s.clearLane a v).reg c = (s.clearCounters (a - 0xC) 3 v).reg c := by
    unfold State.clearLane
    split
    · next hb => exact reg_setNum_ne _ (fun hc => h ⟨hb, hc⟩) _
    · rfl
  refine ⟨fun c => ⟨fun h => ?_, fun h => ?_⟩, .ite (hk.trans (setNum_keeps _ _ _ _ _ rfl)) hk⟩
  · by_cases hb : bit v.toNat 3 = true ∧ c = a + 4
    · obtain ⟨hb, rfl⟩ := hb
      rw [State.clearLane, if_pos hb, reg_setNum_self]
      rfl
    · rw [three c hb, hr, if_pos (h.resolve_right hb)]
  · obtain ⟨h3, hb⟩ := not_or.mp h
    rw [three c hb, hr, if_neg h3]

theorem clearsBy_counters {a base o n : Nat} {b : Blk} (w : Word) (hb : blockAt a = some (b, base)) (hc : clearsOf b (a - base) = some (o, n)) :
    s.clearsBy a w = s.clearCounters (base + o) n w := by
  have hlane : ((b == .cam || b == .seam) && isLaneClr 4 (a - base) || b == .twin && isLaneClr 2 (a - base)) = false := by
    cases b <;> simp_all [clearsOf, isLaneClr]
  unfold State.clearsBy
  rw [hb]
  simp only [hlane, Bool.false_eq_true, if_false, hc]

theorem clearsBy_lane {a base : Nat} {b : Blk} (w : Word) (hb : blockAt a = some (b, base)) (hc : b = .cam ∨ b = .seam)
    (hl : isLaneClr 4 (a - base) = true) : s.clearsBy a w = s.clearLane a w := by
  unfold State.clearsBy
  rw [hb]
  rcases hc with rfl | rfl <;> simp [hl]

/-- Settles O33: a counter-clear register holds action bits alone and starts nothing (`busWrite_clears`), so that its write is `clearsBy`. -/
theorem counterClear : Obligations.CounterClear := by
  unfold Obligations.CounterClear
  intro s t p a w b base o n hp hperf hk hb u
  have hexec : exec (.counterClear t p a w) s = .next ((u.busWrite p a w).2.settle s) := congrArg Host.Outcome.next (writeAt_reaches s t p a w hp)
  refine ⟨fun hc => ?_, fun hblk l hl ho => ?_⟩
  · have hcc : clearsCounters b (a - base) = true := by simp [clearsCounters, hc]
    obtain ⟨hr, hkeep⟩ := writeReg_action u p w (clear_register hb hk hcc).1
    rw [busWrite_clears u p w hperf hk hb hcc, clearsBy_counters _ w hb hc] at hexec
    obtain ⟨hr', hkeep'⟩ := clearCounters_spec (u.writeReg p a w) (base + o) n w
    exact ⟨_, hexec, fun c => by rw [hr', hr], hkeep.trans (hkeep'.mono (by simp) fun _ h => h)⟩
  · have hlane : isLaneClr 4 (a - base) = true := by
      simp only [isLaneClr, decide_eq_true_eq]
      omega
    have hcc : clearsCounters b (a - base) = true := by rcases hblk with rfl | rfl <;> simp [clearsCounters, hlane]
    obtain ⟨hr, hkeep⟩ := writeReg_action u p w (clear_register hb hk hcc).1
    rw [busWrite_clears u p w hperf hk hb hcc, clearsBy_lane _ w hb hblk hlane] at hexec
    obtain ⟨hr', hkeep'⟩ := clearLane_spec (u.writeReg p a w) a w
    exact ⟨_, hexec, fun c => ⟨(hr' c).1, fun h => ((hr' c).2 h).trans (hr c)⟩, hkeep.trans (hkeep'.mono (by simp) fun _ h => h)⟩

end Sys2Proof.Machine
end

section
/-! The alignment-marker row of a transmitter (R61, R62, R71) and a state in which it overlaps a unit that still is to be sent. -/

namespace Sys2Proof.Machine

variable (s : State)

/-! ### Links and what an alignment-marker row makes of them -/

@[simp] theorem link_setLink_self (m : Nat) (h : LinkHid) : (s.setLink m h).link m = h := Store.get_set_self link0 m h s.links

/-- A command of a link acts where the link is in one of its states. -/
theorem onLink_acts (t m : Nat) (states : List Nat) (f : State → State) {k : Nat} (ha : (s.advanceTo t).mode.active = true)
    (hl : (s.advanceTo t).lstate m = k) (hk : states.contains k = true) : s.onLink t m states f = (f (s.advanceTo t)).settle s := by
  simp only [State.onLink, State.during, State.when, ha, hl, hk, Bool.and_self, if_true]

/-- The row in which an alignment marker leaves: the one due, or the next where a token goes first (R71). -/
def UpTx.markerRow (u : UpTx) : Nat := u.amRow + amPeriod + b2n (u.units.any fun x => decide (x.cls = 0 ∧ x.row = u.amRow + amPeriod))

/-- The alignment-marker row is noted, and what it displaces moves on. -/
theorem sendAm_link (m : Nat) : let up := (s.link m).up
    ((s.sendAm m).link m).up.amRow = up.markerRow ∧
      ((s.sendAm m).link m).up.units = pushUnits (up.markerRow + 1) (up.units.filterMap fun x => x.after up.markerRow) := by
  have h (x : State) (o : Output) : (x.emit o).link m = x.link m := rfl
  unfold State.sendAm
  simp only [h, link_setLink_self]
  exact ⟨rfl, rfl⟩

theorem sendAm_keeps (m : Nat) : s.Keeps [.links, .out] noReg (s.sendAm m) :=
  (setLink_keeps s m _ _ _ (by simp)).trans (emit_keeps _ _ _ _ (by simp))

/-! ### Two units that overlap -/

/-- Poised, with SEAMW READY and two frames on its transmitter: of the one in progress a row stands in the row of the next alignment
marker, in which the other begins. -/
def overlapping : State :=
  (({ State.reset with mode := .poised, now := 40000000 } : State).setFld (Reg.CAM_STATE 12) Fld.CAM_STATE_LSTATE 5).setLink 12
    { link0 12 with up := ⟨some 0, 0, [], [⟨16383, 3, [[], []]⟩, ⟨16384, 4, [[]]⟩]⟩ }

theorem overlapping_facts : let u := overlapping.advanceTo 0
    u.mode = .poised ∧ u.lstate 12 = 5 ∧ u.link 12 = overlapping.link 12 ∧ 66 * 16384 ≤ u.upUi 12 u.now ∧
    u.calRun = none ∧ u.stk.relay = none ∧ u.standbyRole = false ∧ u.relayOn = false ∧
    u.flag Reg.RED_STATUS Fld.RED_STATUS_HBRUN = false := by
  decide +kernel

/-- The passing of time leaves the states of its links. -/
theorem overlapping_linkReady (m : Nat) : (overlapping.advanceTo 0).linkReady m = overlapping.linkReady m := by
  have e := advanceTo_quiet overlapping 0 (fun w hw => by cases hw) rfl rfl
  have h : (overlapping.advanceTo 0).reg (Reg.CAM_STATE m) = overlapping.reg (Reg.CAM_STATE m) := by
    rw [e]
    refine (refill_keeps _).2 _ ?_
    simp only [theRegs, bucketRegs, List.contains_eq_mem, List.mem_cons, List.not_mem_nil, or_false, decide_eq_false_iff_not, Reg.CARD_BUCKET,
      Reg.CAM_STATE]
    omega
  rw [State.linkReady, State.linkReady, State.fld, State.fld, h]

/-- Where a command changed nothing but its links and what it has sent, nothing follows. -/
theorem overlapping_settle {x : State} (hk : (overlapping.advanceTo 0).Keeps [.links, .out] noReg x) : x.settle overlapping = x := by
  obtain ⟨hmode, -, -, -, hcal, hrelay, hstandby, hon, hrun⟩ := overlapping_facts
  have hreg (a : Nat) : x.reg a = (overlapping.advanceTo 0).reg a := hk.2 a rfl
  have hfld (a : Nat) (b : Bits) : x.fld a b = (overlapping.advanceTo 0).fld a b := by rw [State.fld, State.fld, hreg]
  have hflag (a : Nat) (b : Bits) : x.flag a b = (overlapping.advanceTo 0).flag a b := by rw [State.flag, State.flag, hfld]
  have hstk : x.stk.relay = none := (congrArg StacksHid.relay (hk.1 .stk (by simp) (by simp))).trans hrelay
  refine settle_quiet x overlapping (fun m => ?_) ?_ ((hk.1 .calRun (by simp) (by simp)).trans hcal) ?_ ?_
  · rw [← overlapping_linkReady m]
    rw [State.linkReady, State.linkReady, hfld]
  · simpa only [State.standbyRole, hflag] using hstandby
  · rw [hstk, Option.isSome_none, ← hon]
    simp only [State.relayOn, State.relayChan, hfld, hflag]
  · have hm : x.mode = .poised := (hk.1 .mode (by simp) (by simp)).trans hmode
    simp [State.HbRule, State.hbCondition, hm, hflag, hrun]

/-- Refutes O46, in its clause of UPSTREAM_AM_ROW: `pushUnits` stops at the first unit that begins behind the marker's row. In `overlapping` that is the
rest of the unit that the marker cuts, so that the unit after it, which begins in the marker's own row, stays there. -/
theorem not_linkBringUp : ¬Obligations.LinkBringUp := by
  unfold Obligations.LinkBringUp
  intro h
  obtain ⟨hmode, hst, hlink, hui, -⟩ := overlapping_facts
  have hact : (overlapping.advanceTo 0).mode.active = true := by rw [hmode]; rfl
  obtain ⟨-, -, -, -, -, -, -, -, hup, -⟩ := h overlapping 0 12 (by norm_num) hact
  rw [hst, hlink] at hup
  obtain ⟨v, bips, hexec, -, -, hrow, hunits, hkeep⟩ := (hup (by norm_num) (by norm_num)).1 rfl hui
  have hv : v = (overlapping.advanceTo 0).sendAm 12 := by
    have hexec' : exec (.upstreamAmRow 0 12) overlapping = .next (((overlapping.advanceTo 0).sendAm 12).settle overlapping) := by
      refine congrArg Host.Outcome.next ?_
      rw [onLink_acts _ _ _ _ _ hact hst rfl, hlink]
      exact congrArg (State.settle · overlapping) (if_pos (by simpa using ⟨rfl, hui⟩))
    have e := Host.Outcome.next.inj (hexec.symm.trans hexec')
    rwa [overlapping_settle hkeep, overlapping_settle (sendAm_keeps _ 12)] at e
  obtain ⟨hr, hu⟩ := sendAm_link (overlapping.advanceTo 0) 12
  rw [hlink] at hr hu
  have hrow' : (v.link 12).up.amRow = 16384 := by rw [hv, hr]; decide +kernel
  have hmem : (⟨16384, 4, [[]]⟩ : UpUnit) ∈ (v.link 12).up.units := by rw [hv, hu]; decide +kernel
  have hfail := hunits _ hmem (by decide)
  rw [hrow'] at hfail
  revert hfail
  decide +kernel

end Sys2Proof.Machine
end

section
/-! The links of the camera ports: what their events, blocks and register accesses change (R64, R69, R73, R75, R76, R78, R92). -/

namespace Sys2Proof.Machine

variable (s : State)

/-- A frame that leaves the links leaves each of them. -/
theorem State.Keeps.link {u v : State} {P : List Part} {r : Nat → Bool} (h : u.Keeps P r v) (hp : Part.links ∉ P) (m : Nat) :
    v.link m = u.link m :=
  congrArg (Store.get link0 m) (h.1 .links (by simp) hp)

/-- A register outside the list keeps its field. -/
theorem State.Keeps.fld {u v : State} {P : List Part} {r : Nat → Bool} (h : u.Keeps P r v) {a : Nat} (ha : r a = false) (b : Bits) :
    v.fld a b = u.fld a b := by rw [State.fld, State.fld, h.2 a ha]

theorem State.Keeps.flag {u v : State} {P : List Part} {r : Nat → Bool} (h : u.Keeps P r v) {a : Nat} (ha : r a = false) (b : Bits) :
    v.flag a b = u.flag a b := by rw [State.flag, State.flag, h.fld ha]

theorem theRegs_eq_false {l : List Nat} {a : Nat} : theRegs l a = false ↔ a ∉ l := by simp [theRegs]

/-- A field written nonzero is set. -/
theorem flag_setFld_true (a : Nat) (b : Bits) (h : b.lo + b.len ≤ 32) (hl : 0 < b.len) : (s.setFld a b 1).flag a b = true := by
  rw [flag_setFld_self s a b 1 h, Nat.mod_eq_of_lt (Nat.one_lt_two_pow hl.ne')]
  rfl

/-- A field written 0 is not. -/
theorem flag_setFld_zero (a : Nat) (b : Bits) (h : b.lo + b.len ≤ 32) : (s.setFld a b 0).flag a b = false := by
  rw [flag_setFld_self s a b 0 h, Nat.zero_mod]
  rfl

/-! ### Events -/

theorem linkEvent_keeps (m n : Nat) : s.Keeps [.evrQ] (theRegs [Reg.CAM_EVT m]) (s.linkEvent m n) :=
  event_keeps s _ _ _ _ _ _ (by simp) (by simp [theRegs])

/-- An event of a link sets its bit (R92). -/
theorem linkEvent_flag (m n : Nat) (h : n < 32) : (s.linkEvent m n).flag (Reg.CAM_EVT m) ⟨n, 1⟩ = true := by
  have e : (s.linkEvent m n).reg (Reg.CAM_EVT m) = (s.setFld (Reg.CAM_EVT m) ⟨n, 1⟩ 1).reg (Reg.CAM_EVT m) := by
    rw [State.linkEvent, event_reg, if_pos rfl, reg_setFld_self]
  rw [State.flag, State.fld, e]
  exact flag_setFld_true s _ ⟨n, 1⟩ h Nat.one_pos

/-! ### What a link sends -/

/-- Rows given to a transmitter change nothing else of its link. -/
theorem giveRows_link (m cls t : Nat) (rows : List (List (Nat × BitVec 64))) :
    ∃ up, (s.giveRows m cls t rows).link m = { s.link m with up := up } := by
  simp only [State.giveRows]
  split
  · exact ⟨_, link_setLink_self ..⟩
  · exact ⟨(s.link m).up, rfl⟩

/-- A block that leaves a link changes its transmitter, and the record of what is sent (R64, R75). -/
theorem sendMgmt_spec (m sub part : Nat) (d : BitVec 48) : let v := s.sendMgmt m sub part d
    s.Keeps [.links, .out] noReg v ∧ v.out = .mgmt m sub part d :: s.out ∧ ∃ up, v.link m = { s.link m with up := up } := by
  have k := giveRows_keeps s m 2 s.now [[(2, mgmtBody sub part d)]]
  exact ⟨(k.mono (by simp) fun _ h => h).trans (emit_keeps _ _ _ _ (by simp)), congrArg (_ :: ·) (k.1 .out (by simp) (by simp)),
    giveRows_link s m _ _ _⟩

theorem sendReq_spec (n tag : Nat) (wr : Bool) (addr : Nat) (data : Word) : let v := s.sendReq n tag wr addr data
    s.Keeps [.links, .out] noReg v ∧ v.out = .creq n tag wr addr (if wr then data else 0) :: s.out ∧
      ∃ up, v.link n = { s.link n with up := up } := by
  have k := giveRows_keeps s n 3 s.now [[(2, reqBody tag wr addr (if wr then data else 0))]]
  exact ⟨(k.mono (by simp) fun _ h => h).trans (emit_keeps _ _ _ _ (by simp)), congrArg (_ :: ·) (k.1 .out (by simp) (by simp)),
    giveRows_link s n _ _ _⟩

/-- The next ECHO leaves, and is outstanding (R76). -/
theorem sendEcho_spec (m : Nat) : s.Keeps [.links, .out] noReg (s.sendEcho m) ∧
    ∃ d up, (s.sendEcho m).link m = { s.link m with echo := some (d, s.now), up := up } := by
  let d : BitVec 48 := BitVec.ofNat 48 (s.link m).echoes
  obtain ⟨hk, -, up, hl⟩ := sendMgmt_spec (s.setLink m { s.link m with echo := some (d, s.now) }) m 3 0 d
  rw [link_setLink_self] at hl
  exact ⟨(setLink_keeps s m _ _ _ (by simp)).trans hk, d, up, hl⟩

/-- A port becomes READY (R72, R78). -/
theorem linkUp_spec (n : Nat) (hn : n < 12) : let v := s.linkUp n
    s.Keeps [.links, .evrQ] (theRegs [Reg.CAM_STATE n, Reg.CAM_TSEQ n, Reg.CAM_EVT n]) v ∧ v.lstate n = 5 ∧
    v.fld (Reg.CAM_TSEQ n) Fld.CAM_TSEQ_NEXT = 0 ∧ v.flag (Reg.CAM_EVT n) ⟨6, 1⟩ = true ∧ v.link n = { s.link n with readyAt := s.now } := by
  let x := (s.setFld (Reg.CAM_STATE n) Fld.CAM_STATE_LSTATE 5).setLink n { s.link n with readyAt := s.now }
  have e : s.linkUp n = (x.setFld (Reg.CAM_TSEQ n) Fld.CAM_TSEQ_NEXT 0).linkEvent n 6 := by
    simp only [State.linkUp, linkEvtBit, if_pos hn]
    rfl
  have hx : s.Keeps [.links, .evrQ] (theRegs [Reg.CAM_STATE n, Reg.CAM_TSEQ n, Reg.CAM_EVT n]) x :=
    (setFld_keeps s _ _ _ _ _ (by simp [theRegs])).trans (setLink_keeps _ n _ _ _ (by simp))
  have hev := linkEvent_keeps (x.setFld (Reg.CAM_TSEQ n) Fld.CAM_TSEQ_NEXT 0) n 6
  have h1 : Reg.CAM_STATE n ≠ Reg.CAM_TSEQ n := by rw [Reg.CAM_STATE, Reg.CAM_TSEQ]; omega
  have h2 : theRegs [Reg.CAM_EVT n] (Reg.CAM_STATE n) = false := theRegs_eq_false.mpr (by simp [Reg.CAM_STATE, Reg.CAM_EVT])
  have h3 : theRegs [Reg.CAM_EVT n] (Reg.CAM_TSEQ n) = false := theRegs_eq_false.mpr (by simp [Reg.CAM_TSEQ, Reg.CAM_EVT])
  rw [e]
  refine ⟨?_, ?_, ?_, linkEvent_flag _ n 6 (by norm_num), ?_⟩
  · refine (hx.trans (setFld_keeps _ _ _ _ _ _ (by simp [theRegs]))).trans (hev.mono (by simp) fun a h => ?_)
    rw [theRegs_eq_false] at h ⊢
    simp_all
  · rw [State.lstate, hev.fld h2, fld_setFld_ne _ h1]
    exact fld_setFld_self s _ Fld.CAM_STATE_LSTATE 5 (by decide)
  · rw [hev.fld h3, fld_setFld_self _ _ _ _ (by decide)]
    rfl
  · rw [hev.link (by simp)]
    exact link_setLink_self ..

/-! ### Camera register accesses (R73) -/

/-- An access that ends: its status, no longer BUSY, and its event (R73, R92). -/
theorem cregEnd_spec (n status : Nat) (h : status < 8) : let v := s.cregEnd n status
    s.Keeps [.links, .evrQ] (theRegs [Reg.CREG_CTRL n, Reg.CAM_EVT n]) v ∧ v.flag (Reg.CREG_CTRL n) Fld.CREG_CTRL_BUSY = false ∧
    v.fld (Reg.CREG_CTRL n) Fld.CREG_CTRL_STATUS = status ∧ (v.link n).cregAt = none ∧ v.flag (Reg.CAM_EVT n) ⟨7, 1⟩ = true := by
  let c := Reg.CREG_CTRL n
  let x := (s.setFld c Fld.CREG_CTRL_BUSY 0).setFld c Fld.CREG_CTRL_STATUS status
  let y := x.setLink n { s.link n with cregAt := none }
  have hx : s.Keeps [.links, .evrQ] (theRegs [c, Reg.CAM_EVT n]) x :=
    (setFld_keeps s _ _ _ _ _ (by simp [theRegs])).trans (setFld_keeps _ _ _ _ _ _ (by simp [theRegs]))
  have hev := linkEvent_keeps y n 7
  have hc : theRegs [Reg.CAM_EVT n] c = false := theRegs_eq_false.mpr (by simp [c, Reg.CREG_CTRL, Reg.CAM_EVT])
  refine ⟨?_, ?_, ?_, ?_, linkEvent_flag y n 7 (by norm_num)⟩
  · refine (hx.trans (setLink_keeps x n _ _ _ (by simp))).trans (hev.mono (by simp) fun a h => ?_)
    rw [theRegs_eq_false] at h ⊢
    simp_all
  · refine (hev.flag hc _).trans ?_
    have e : x.fld c Fld.CREG_CTRL_BUSY = (s.setFld c Fld.CREG_CTRL_BUSY 0).fld c Fld.CREG_CTRL_BUSY :=
      fld_setFld_apart _ c _ _ _ (by decide) (by decide)
    have b : x.flag c Fld.CREG_CTRL_BUSY = (s.setFld c Fld.CREG_CTRL_BUSY 0).flag c Fld.CREG_CTRL_BUSY := by rw [State.flag, State.flag, e]
    exact b.trans (flag_setFld_zero s c _ (by decide))
  · refine (hev.fld hc _).trans ((fld_setFld_self _ c Fld.CREG_CTRL_STATUS status (by decide)).trans ?_)
    exact Nat.mod_eq_of_lt h
  · exact congrArg LinkHid.cregAt ((hev.link (by simp) n).trans (link_setLink_self x n _))

/-- CREG_CTRL of a camera port in the register table. -/
theorem cregCtrl_register : ∀ n < 12, plainRegister .cam (0x100000 + 0x10000 * n) (Reg.CREG_CTRL n) = true ∧
    tiedAs .none (Reg.CREG_CTRL n) = true ∧ neverHeld (Reg.CREG_CTRL n) = true ∧
    hasField (Reg.CREG_CTRL n) Fld.CREG_CTRL_BUSY .ro = true := by decide +kernel

/-- A performed write of CREG_CTRL with GO: its fields, and an access (R73). -/
theorem busWrite_cregGo (p : Path) (n : Nat) (w : Word) (hn : n < 12) (h : s.performs (Reg.CREG_CTRL n) w = true) (hgo : bit w.toNat 0 = true) :
    (s.busWrite p (Reg.CREG_CTRL n) w).2 = (s.writeReg p (Reg.CREG_CTRL n) w).cregGo n := by
  obtain ⟨hr, -⟩ := cregCtrl_register n hn
  obtain ⟨⟨hf, -⟩, ⟨hb, hc⟩, -⟩ := plainRegister_spec hr
  have hlane : isLaneClr 4 (Reg.CREG_CTRL n - (0x100000 + 0x10000 * n)) = false := by
    rw [isLaneClr, decide_eq_false_iff_not, Reg.CREG_CTRL]
    omega
  have hclear (x : State) : x.clearsBy (Reg.CREG_CTRL n) w = x := by
    unfold State.clearsBy
    rw [hb]
    simp [hlane, hc]
  have hlink : (0x100000 + 0x10000 * n - 0x100000) / 0x10000 = n := by omega
  have hctrl : isLaneCtrl (if n = 14 then 2 else 4) (Reg.CREG_CTRL n % 0x10000) = false := by
    rw [isLaneCtrl, decide_eq_false_iff_not, Reg.CREG_CTRL]
    omega
  have hne : Reg.CREG_CTRL n ≠ Reg.CAM_CTRL n := by rw [Reg.CREG_CTRL, Reg.CAM_CTRL]; omega
  rw [busWrite_toFields s p _ w h hf, hclear]
  unfold State.writeActs
  rw [hb]
  simp only [hlink, State.linkWrite, if_neg hne, hctrl, Bool.false_eq_true, if_false, hn, and_self, if_true, hgo]

end Sys2Proof.Machine
end

section
/-! The handshake of a camera port and the register accesses through it, row by row (R73, R75, R76, R78, R143). -/

namespace Sys2Proof.Machine

/-! ### HELLO and CONFIG_ACK -/

section
variable (s : State) (t n : Nat)

/-- The state in which a HELLO is answered with CONFIG (R75). -/
def State.helloAnswered (s : State) (n : Nat) : State :=
  (s.setLink n { s.link n with helloOk := true, config := some (s.configWord n, s.now), configAcked := false, echoes := 0, echo := none }).sendMgmt
    n 1 0 (s.configWord n)

theorem helloAnswered_spec : let v := s.helloAnswered n
    v.out = .mgmt n 1 0 (s.configWord n) :: s.out ∧ (v.link n).helloOk = true ∧ (v.link n).config = some (s.configWord n, s.now) ∧
      s.Keeps [.links, .out] noReg v := by
  let h : LinkHid := { s.link n with helloOk := true, config := some (s.configWord n, s.now), configAcked := false, echoes := 0, echo := none }
  obtain ⟨hk, hout, up, hlink⟩ := sendMgmt_spec (s.setLink n h) n 1 0 (s.configWord n)
  rw [link_setLink_self] at hlink
  exact ⟨hout, congrArg LinkHid.helloOk hlink, congrArg LinkHid.config hlink, (setLink_keeps s n h _ _ (by simp)).trans hk⟩

/-- A whole HELLO in HANDSHAKE is shown, decides on tables held pending, and is judged, outside a standby (R75, R78, R143, R494). -/
theorem hello_judges (parts : List (Nat × BitVec 48)) : let u := s.advanceTo t
    u.mode.active = true → u.lstate n = 4 → u.standbyRole = false → parts.map Prod.fst = [0, 1, 2, 3] →
    let x := (u.storeHello n parts).helloRestored n
    exec (.hello t n parts) s = .next ((if x.helloFits n then x.helloAnswered n else x.linkFailed n).settle s) := by
  intro u ha hl hs hparts x
  refine congrArg Host.Outcome.next ((onLink_acts s t n _ _ ha hl rfl).trans ?_)
  have hwhole : (helloWhole parts && !u.standbyRole) = true := by simp [helloWhole, hparts, hs]
  exact congrArg (State.settle · s) (if_pos hwhole)

/-- CONFIG_ACK in HANDSHAKE is compared with CONFIG, outside a standby (R75, R78, R494). -/
theorem configAck_judges (data : BitVec 48) : let u := s.advanceTo t
    u.mode.active = true → u.lstate n = 4 → u.standbyRole = false →
    (((u.link n).config.map Prod.fst) ≠ some data → exec (.configAck t n data) s = .next ((u.failAttempt n).settle s)) ∧
    (((u.link n).config.map Prod.fst) = some data → (u.link n).configAcked = false → ∃ v : State, exec (.configAck t n data) s = .next (v.settle s) ∧
      (v.link n).configAcked = true ∧ (v.link n).echo.isSome = true ∧ u.Keeps [.links, .out] noReg v) := by
  intro u ha hl hs
  have hexec {y : State} (h : (if ((u.link n).config.map Prod.fst) = some data then
      u.when (!(u.link n).configAcked) fun s => (s.setLink n { s.link n with configAcked := true }).sendEcho n else u.failAttempt n) = y) :
      exec (.configAck t n data) s = .next (y.settle s) := by
    refine congrArg Host.Outcome.next ((onLink_acts s t n _ _ ha hl rfl).trans (congrArg (State.settle · s) (Eq.trans (if_pos ?_) h)))
    rw [hs]
    rfl
  refine ⟨fun hd => hexec (if_neg hd), fun hd hack => ?_⟩
  obtain ⟨hk, d, up, hlink⟩ := sendEcho_spec (u.setLink n { u.link n with configAcked := true }) n
  rw [link_setLink_self] at hlink
  refine ⟨_, hexec ((if_pos hd).trans (if_pos (by rw [hack]; rfl))), congrArg LinkHid.configAcked hlink, ?_, (setLink_keeps u n _ _ _ (by simp)).trans hk⟩
  exact congrArg (fun h => h.echo.isSome) hlink

/-! ### ECHO_REPLY -/

/-- The greatest round trip so far, in whole ns rounded up, with one that began at `at_` (R76). -/
def State.bestTrip (s : State) (n at_ : Nat) : Nat :=
  max (if (s.link n).echoes = 0 then 0 else s.fld (Reg.CAM_RTT n) Fld.CAM_RTT_RTT) (min 65535 (ceilDiv (s.now - at_) 1000))

/-- The state with a round trip counted (R76). -/
def State.tripDone (s : State) (n at_ : Nat) : State :=
  (s.setFld (Reg.CAM_RTT n) Fld.CAM_RTT_RTT (s.bestTrip n at_)).setLink n { s.link n with echoes := (s.link n).echoes + 1, echo := none }

/-- The state in which the port counts as one that has shaken hands. -/
def State.noteHandshake (s : State) (n : Nat) : State :=
  if n < 12 && !s.handshakes.contains n then { s with handshakes := n :: s.handshakes } else s

theorem noteHandshake_keeps : s.Keeps [.handshakes] noReg (s.noteHandshake n) :=
  .ite (.of_regs _ rfl fun p _ hp => by cases p <;> first | rfl | simp at hp) (.refl ..)

/-- The reply to the outstanding ECHO: the next ECHO, or after the eighth READY (R76, R78). -/
theorem takeEchoReply_own (data : BitVec 48) (at_ : Nat) (h : (s.link n).echo = some (data, at_)) :
    s.takeEchoReply n data = if (s.link n).echoes + 1 < 8 then (s.tripDone n at_).sendEcho n else ((s.tripDone n at_).noteHandshake n).linkUp n := by
  unfold State.takeEchoReply
  rw [h]
  exact if_pos (decide_eq_true rfl)

theorem tripDone_spec (at_ : Nat) : let y := s.tripDone n at_
    y.link n = { s.link n with echoes := (s.link n).echoes + 1, echo := none } ∧ y.lstate n = s.lstate n ∧
    y.fld (Reg.CAM_RTT n) Fld.CAM_RTT_RTT = s.bestTrip n at_ := by
  refine ⟨link_setLink_self .., fld_setFld_ne s (by rw [Reg.CAM_STATE, Reg.CAM_RTT]; omega) _ _ _, ?_⟩
  refine (fld_setFld_self s (Reg.CAM_RTT n) Fld.CAM_RTT_RTT (s.bestTrip n at_) (by decide)).trans (Nat.mod_eq_of_lt ?_)
  have hold : s.fld (Reg.CAM_RTT n) Fld.CAM_RTT_RTT < 65536 := getBits_lt _ Fld.CAM_RTT_RTT
  change s.bestTrip n at_ < 65536
  unfold State.bestTrip
  split <;> omega

theorem bestTrip_eq (at_ : Nat) : let rtt := min 65535 ((s.now - at_ + 999) / 1000)
    s.bestTrip n at_ = if (s.link n).echoes = 0 then rtt else max (s.fld (Reg.CAM_RTT n) Fld.CAM_RTT_RTT) rtt := by
  simp only [State.bestTrip, ceilDiv]
  by_cases h : (s.link n).echoes = 0 <;> simp [h]

theorem echoReply_counts (hn : n < 12) (data : BitVec 48) (at_ : Nat) : let u := s.advanceTo t
    u.mode.active = true → u.lstate n = 4 → (u.link n).echo = some (data, at_) →
    ∃ v : State, exec (.echoReply t n ⟨true, data⟩) s = .next (v.settle s) ∧ v.fld (Reg.CAM_RTT n) Fld.CAM_RTT_RTT = u.bestTrip n at_ ∧
      (v.link n).echoes = (u.link n).echoes + 1 ∧
      ((u.link n).echoes < 7 → v.lstate n = 4 ∧ (v.link n).echo.isSome = true) ∧
      (7 ≤ (u.link n).echoes → v.lstate n = 5 ∧ v.fld (Reg.CAM_TSEQ n) Fld.CAM_TSEQ_NEXT = 0 ∧ v.flag (Reg.CAM_EVT n) ⟨6, 1⟩ = true) := by
  intro u ha hl hecho
  have hexec : exec (.echoReply t n ⟨true, data⟩) s = .next ((u.takeEchoReply n data).settle s) :=
    congrArg Host.Outcome.next (onLink_acts s t n _ _ ha hl rfl)
  obtain ⟨hlink, hstate, hrtt⟩ := tripDone_spec u n at_
  rw [takeEchoReply_own u n data at_ hecho] at hexec
  by_cases h7 : (u.link n).echoes < 7
  · rw [if_pos (by omega)] at hexec
    obtain ⟨hk, d, up, hlink'⟩ := sendEcho_spec (u.tripDone n at_) n
    rw [hlink] at hlink'
    refine ⟨_, hexec, (hk.fld rfl _).trans hrtt, congrArg LinkHid.echoes hlink', fun _ => ⟨?_, congrArg (fun h => h.echo.isSome) hlink'⟩,
      fun h => absurd h (by omega)⟩
    exact ((hk.fld rfl _).trans hstate).trans hl
  · rw [if_neg (by omega)] at hexec
    have hnote := noteHandshake_keeps (u.tripDone n at_) n
    obtain ⟨hk, hready, htseq, hevt, hlink'⟩ := linkUp_spec ((u.tripDone n at_).noteHandshake n) n hn
    have hr : theRegs [Reg.CAM_STATE n, Reg.CAM_TSEQ n, Reg.CAM_EVT n] (Reg.CAM_RTT n) = false := by
      rw [theRegs_eq_false, Reg.CAM_STATE, Reg.CAM_TSEQ, Reg.CAM_EVT, Reg.CAM_RTT]
      simp
    refine ⟨_, hexec, (hk.fld hr _).trans ((hnote.fld rfl _).trans hrtt), ?_, fun h => absurd h h7, fun _ => ⟨hready, htseq, hevt⟩⟩
    rw [hnote.link (by simp), hlink] at hlink'
    exact congrArg LinkHid.echoes hlink'

/-! ### Register accesses -/

/-- The state in which an access with a new TAG is outstanding (R73). -/
def State.cregOpened (s : State) (n : Nat) : State :=
  let y := s.setFld (Reg.CREG_CTRL n) Fld.CREG_CTRL_BUSY 1
  y.setLink n { y.link n with cregTag := ((s.link n).cregTag + 1) % 64, cregAt := some y.now, cregWrite := y.flag (Reg.CREG_CTRL n) Fld.CREG_CTRL_WRITE }

/-- GO while an access is outstanding notes the collision (R73). -/
theorem cregGo_collides (h : s.flag (Reg.CREG_CTRL n) Fld.CREG_CTRL_BUSY = true) : s.cregGo n = s.hwSet (Reg.CREG_CTRL n) 7 := if_pos h

/-- GO where the port is not READY, and in a standby, ends at once (R73, R494). -/
theorem cregGo_refused (h : s.flag (Reg.CREG_CTRL n) Fld.CREG_CTRL_BUSY = false) (hl : s.lstate n ≠ 5 ∨ s.standbyRole = true) :
    s.cregGo n = (s.setFld (Reg.CREG_CTRL n) Fld.CREG_CTRL_STATUS 4).linkEvent n 7 :=
  (if_neg (ne_true_of_eq_false h)).trans (if_pos (by simpa using hl))

/-- GO otherwise sends a REQ (R73). -/
theorem cregGo_sends (h : s.flag (Reg.CREG_CTRL n) Fld.CREG_CTRL_BUSY = false) (hl : s.lstate n = 5) (hs : s.standbyRole = false) :
    s.cregGo n = (s.cregOpened n).sendReq n (((s.link n).cregTag + 1) % 64)
      ((s.setFld (Reg.CREG_CTRL n) Fld.CREG_CTRL_BUSY 1).flag (Reg.CREG_CTRL n) Fld.CREG_CTRL_WRITE)
      ((s.cregOpened n).num (Reg.CREG_ADDR n) % 2 ^ 16) ((s.cregOpened n).reg (Reg.CREG_WDATA n)) :=
  (if_neg (ne_true_of_eq_false h)).trans (if_neg (by simp [hl, hs]))

/-- The REQ that GO sends: its TAG, and the address, the direction and the data that the registers hold (R64, R73). -/
theorem cregGo_req (h : s.flag (Reg.CREG_CTRL n) Fld.CREG_CTRL_BUSY = false) (hl : s.lstate n = 5) (hs : s.standbyRole = false) :
    let v := s.cregGo n
    let tag := ((s.link n).cregTag + 1) % 64
    let wr := s.flag (Reg.CREG_CTRL n) Fld.CREG_CTRL_WRITE
    v.flag (Reg.CREG_CTRL n) Fld.CREG_CTRL_BUSY = true ∧ (v.link n).cregTag = tag ∧ (v.link n).cregAt = some s.now ∧
      v.out = .creq n tag wr (s.num (Reg.CREG_ADDR n) % 2 ^ 16) (if wr then s.reg (Reg.CREG_WDATA n) else 0) :: s.out := by
  intro v tag wr
  have hwr : (s.setFld (Reg.CREG_CTRL n) Fld.CREG_CTRL_BUSY 1).flag (Reg.CREG_CTRL n) Fld.CREG_CTRL_WRITE = wr := by
    rw [State.flag, fld_setFld_apart s _ _ _ _ (by decide) (by decide)]
    rfl
  have hreg (a : Nat) (ha : a ≠ Reg.CREG_CTRL n) : (s.cregOpened n).reg a = s.reg a := reg_setFld_ne s ha _ _
  have haddr : (s.cregOpened n).num (Reg.CREG_ADDR n) = s.num (Reg.CREG_ADDR n) := by
    rw [State.num, State.num, hreg _ (by rw [Reg.CREG_ADDR, Reg.CREG_CTRL]; omega)]
  have hdata : (s.cregOpened n).reg (Reg.CREG_WDATA n) = s.reg (Reg.CREG_WDATA n) := hreg _ (by rw [Reg.CREG_WDATA, Reg.CREG_CTRL]; omega)
  have hv : v = (s.cregOpened n).sendReq n tag wr (s.num (Reg.CREG_ADDR n) % 2 ^ 16) (s.reg (Reg.CREG_WDATA n)) := by
    rw [← hwr, ← haddr, ← hdata]
    exact cregGo_sends s n h hl hs
  obtain ⟨hk, hout, up, hlink⟩ := sendReq_spec (s.cregOpened n) n tag wr (s.num (Reg.CREG_ADDR n) % 2 ^ 16) (s.reg (Reg.CREG_WDATA n))
  rw [State.cregOpened, link_setLink_self, ← State.cregOpened] at hlink
  rw [hv]
  exact ⟨(hk.flag rfl _).trans (flag_setFld_true s _ Fld.CREG_CTRL_BUSY (by decide) (by decide)), congrArg LinkHid.cregTag hlink,
    congrArg LinkHid.cregAt hlink, hout⟩

/-- What of a state a write of CREG_CTRL leaves before the access that it starts (R8, R9). -/
theorem writeReg_cregCtrl (p : Path) (w : Word) (hn : n < 12) : let x := s.writeReg p (Reg.CREG_CTRL n) w
    s.Keeps [.shadow] (theRegs [Reg.CREG_CTRL n]) x ∧
      x.flag (Reg.CREG_CTRL n) Fld.CREG_CTRL_BUSY = s.flag (Reg.CREG_CTRL n) Fld.CREG_CTRL_BUSY := by
  obtain ⟨hr, ht, hnever, hro⟩ := cregCtrl_register n hn
  intro x
  have hx : x = s.takes (Reg.CREG_CTRL n) (s.written (Reg.CREG_CTRL n) w) := writeReg_sole s p w hr ht (.inr hnever)
  rw [hx]
  refine ⟨takes_keeps s _ _ _ (by simp [theRegs]) (by simp), ?_⟩
  rw [State.flag, State.flag, fld_takes_self, written_field s _ hro]
  rfl

/-- The row CREG_GO (R73, R494). -/
theorem cregGo_acts (p : Path) (w : Word) (hn : n < 12) : let u := s.advanceTo t
    u.reaches p = true → u.performs (Reg.CREG_CTRL n) (withBits w 1) = true →
    let x := u.writeReg p (Reg.CREG_CTRL n) (withBits w 1)
    let tag := ((u.link n).cregTag + 1) % 64
    (u.flag (Reg.CREG_CTRL n) Fld.CREG_CTRL_BUSY = true → ∃ v : State, exec (.cregGo t p n w) s = .next (v.settle s) ∧
      v.flag (Reg.CREG_CTRL n) Fld.CREG_CTRL_COLL = true ∧ v.out = u.out ∧ v.links = u.links) ∧
    (u.flag (Reg.CREG_CTRL n) Fld.CREG_CTRL_BUSY = false → u.lstate n = 5 → u.standbyRole = false → ∃ v : State, exec (.cregGo t p n w) s = .next (v.settle s) ∧
      v.flag (Reg.CREG_CTRL n) Fld.CREG_CTRL_BUSY = true ∧ (v.link n).cregTag = tag ∧ (v.link n).cregAt = some u.now ∧
      let wr := x.flag (Reg.CREG_CTRL n) Fld.CREG_CTRL_WRITE
      v.out = .creq n tag wr (u.num (Reg.CREG_ADDR n) % 2 ^ 16) (if wr then u.reg (Reg.CREG_WDATA n) else 0) :: u.out) ∧
    (u.flag (Reg.CREG_CTRL n) Fld.CREG_CTRL_BUSY = false → u.lstate n ≠ 5 ∨ u.standbyRole = true → ∃ v : State, exec (.cregGo t p n w) s = .next (v.settle s) ∧
      v.fld (Reg.CREG_CTRL n) Fld.CREG_CTRL_STATUS = 4 ∧ v.flag (Reg.CAM_EVT n) ⟨7, 1⟩ = true ∧ v.out = u.out) := by
  intro u hp hperf x tag
  have hexec : exec (.cregGo t p n w) s = .next ((x.cregGo n).settle s) := by
    have hbus := busWrite_cregGo u p n (withBits w 1) hn hperf (bit_withBits w (i := 0) (by norm_num))
    exact congrArg Host.Outcome.next ((writeAt_reaches s t p _ _ hp).trans (congrArg (State.settle · s) hbus))
  obtain ⟨hk, hbusy⟩ := writeReg_cregCtrl u n p (withBits w 1) hn
  have off (a : Nat) (h : a ≠ Reg.CREG_CTRL n) : theRegs [Reg.CREG_CTRL n] a = false := theRegs_eq_false.mpr (by simpa using h)
  have hout : x.out = u.out := hk.1 .out (by simp) (by simp)
  have hstate : x.lstate n = u.lstate n := hk.fld (off _ (by rw [Reg.CAM_STATE, Reg.CREG_CTRL]; omega)) _
  have hstandby : x.standbyRole = u.standbyRole := by
    rw [State.standbyRole, State.standbyRole, hk.flag (off _ (by rw [Reg.RED_CTRL, Reg.CREG_CTRL]; omega)),
      hk.flag (off _ (by rw [Reg.RED_STATUS, Reg.CREG_CTRL]; omega))]
  refine ⟨fun hb => ?_, fun hb hl hs => ?_, fun hb hls => ?_⟩
  · rw [cregGo_collides x n (hbusy.trans hb)] at hexec
    exact ⟨_, hexec, flag_setFld_true x _ Fld.CREG_CTRL_COLL (by decide) (by decide), hout, hk.1 .links (by simp) (by simp)⟩
  · obtain ⟨h1, h2, h3, h4⟩ := cregGo_req x n (hbusy.trans hb) (hstate.trans hl) (hstandby.trans hs)
    have haddr : x.num (Reg.CREG_ADDR n) = u.num (Reg.CREG_ADDR n) :=
      congrArg BitVec.toNat (hk.2 _ (off _ (by rw [Reg.CREG_ADDR, Reg.CREG_CTRL]; omega)))
    have hdata : x.reg (Reg.CREG_WDATA n) = u.reg (Reg.CREG_WDATA n) := hk.2 _ (off _ (by rw [Reg.CREG_WDATA, Reg.CREG_CTRL]; omega))
    have hnow : x.now = u.now := hk.1 .now (by simp) (by simp)
    rw [hk.link (by simp)] at h2 h4
    rw [haddr, hdata, hout] at h4
    exact ⟨_, hexec, h1, h2, h3.trans (congrArg some hnow), h4⟩
  · rw [cregGo_refused x n (hbusy.trans hb) (by rw [hstate, hstandby]; exact hls)] at hexec
    have hev := linkEvent_keeps (x.setFld (Reg.CREG_CTRL n) Fld.CREG_CTRL_STATUS 4) n 7
    refine ⟨_, hexec, (hev.fld ?_ _).trans (fld_setFld_self x _ Fld.CREG_CTRL_STATUS 4 (by decide)), linkEvent_flag _ n 7 (by norm_num),
      (hev.1 .out (by simp) (by simp)).trans hout⟩
    rw [theRegs_eq_false, Reg.CAM_EVT, Reg.CREG_CTRL]
    simp

theorem rsp_ends (status : Nat) (data : Word) : let u := s.advanceTo t
    u.mode.active = true → u.lstate n = 5 → (u.link n).cregAt.isSome = true → status < 3 →
    ∃ v : State, exec (.rsp t n (u.link n).cregTag status data) s = .next (v.settle s) ∧
      v.flag (Reg.CREG_CTRL n) Fld.CREG_CTRL_BUSY = false ∧ v.fld (Reg.CREG_CTRL n) Fld.CREG_CTRL_STATUS = status ∧ (v.link n).cregAt = none ∧
      v.reg (Reg.CREG_RDATA n) = (if status = 0 ∧ (u.link n).cregWrite = false then data else u.reg (Reg.CREG_RDATA n)) ∧
      v.flag (Reg.CAM_EVT n) ⟨7, 1⟩ = true ∧ u.Keeps [.links, .evrQ] (theRegs [Reg.CREG_CTRL n, Reg.CREG_RDATA n, Reg.CAM_EVT n]) v := by
  intro u ha hl hat hst
  let x := if (decide (status = 0) && !(u.link n).cregWrite) = true then u.setReg (Reg.CREG_RDATA n) data else u
  have hexec : exec (.rsp t n (u.link n).cregTag status data) s = .next ((x.cregEnd n status).settle s) := by
    refine congrArg Host.Outcome.next ((onLink_acts s t n _ _ ha hl rfl).trans (congrArg (State.settle · s) (if_pos ?_)))
    change ((u.link n).cregAt.isSome && decide ((u.link n).cregTag = (u.link n).cregTag) && decide (status < 3)) = true
    rw [hat, decide_eq_true rfl, decide_eq_true hst]
    rfl
  obtain ⟨hk, hbusy, hstatus, hcreg, hevt⟩ := cregEnd_spec x n status (by omega)
  have hrdata : theRegs [Reg.CREG_CTRL n, Reg.CAM_EVT n] (Reg.CREG_RDATA n) = false := by
    rw [theRegs_eq_false, Reg.CREG_CTRL, Reg.CAM_EVT, Reg.CREG_RDATA]
    simp
  have hx : u.Keeps [.links, .evrQ] (theRegs [Reg.CREG_CTRL n, Reg.CREG_RDATA n, Reg.CAM_EVT n]) x :=
    .ite (setReg_keeps u _ _ _ _ (by simp [theRegs])) (.refl ..)
  refine ⟨_, hexec, hbusy, hstatus, hcreg, ?_, hevt, hx.trans (hk.mono (fun _ h => h) fun a h => ?_)⟩
  · rw [hk.2 _ hrdata]
    by_cases h : status = 0 ∧ (u.link n).cregWrite = false
    · rw [if_pos h]
      exact (congrArg (State.reg · _) (if_pos (by simp [h]))).trans (reg_setReg_self u _ data)
    · rw [if_neg h]
      exact congrArg (State.reg · _) (if_neg (by simpa using h))
  · rw [theRegs_eq_false] at h ⊢
    simp_all

theorem cregTimeout_ends (e : Nat) : let u := s.advanceTo t
    u.mode.active = true → (u.link n).cregAt = some e → e + 10 ^ 8 ≤ u.now → ∃ v : State, exec (.cregTimeout t n) s = .next (v.settle s) ∧
      v.flag (Reg.CREG_CTRL n) Fld.CREG_CTRL_BUSY = false ∧ v.fld (Reg.CREG_CTRL n) Fld.CREG_CTRL_STATUS = 3 ∧ (v.link n).cregAt = none := by
  intro u ha hat hlate
  have hexec : exec (.cregTimeout t n) s = .next ((u.cregEnd n 3).settle s) := by
    refine congrArg Host.Outcome.next (congrArg (State.settle · s) ((if_pos ha).trans ?_))
    simp only [show ((s.advanceTo t).link n).cregAt = some e from hat]
    exact if_pos (decide_eq_true hlate)
  obtain ⟨-, hbusy, hstatus, hcreg, -⟩ := cregEnd_spec u n 3 (by norm_num)
  exact ⟨_, hexec, hbusy, hstatus, hcreg⟩

end

/-- Settles O47: each row by its lemma above. -/
theorem cameraHandshake : Obligations.CameraHandshake := by
  unfold Obligations.CameraHandshake
  intro s t n hn u ha
  refine ⟨fun parts hl hs hparts => ?_, fun data hl hs => configAck_judges s t n data ha hl hs, ?_,
    fun p w => cregGo_acts s t n p w hn, fun status data hl hat => rsp_ends s t n status data ha hl hat, fun e => cregTimeout_ends s t n e ha⟩
  · intro x
    have hexec : exec (.hello t n parts) s = .next ((if x.helloFits n then x.helloAnswered n else x.linkFailed n).settle s) :=
      hello_judges s t n parts ha hl hs hparts
    exact ⟨fun h => by rw [hexec, if_neg (ne_true_of_eq_false h)], fun h => ⟨_, by rw [hexec, if_pos h], helloAnswered_spec x n⟩⟩
  · intro data at_ hl hecho rtt best
    have hbest : u.bestTrip n at_ = best := bestTrip_eq u n at_
    rw [← hbest]
    exact echoReply_counts s t n hn data at_ ha hl hecho

end Sys2Proof.Machine
end

section
/-! The coding of a line packet (R59 to R61, R65, R66): what is scrambled, striped and sent over the lanes is descrambled and reassembled as the
packet that was sent. -/

namespace Sys2Proof.Machine

/-! ### Bits of a body -/

theorem b2n_le (b : Bool) : b2n b ≤ 1 := by cases b <;> decide

/-- The number that bits spell, bit 0 first, and its bits. -/
theorem bitsOf_spelled (l : List Bool) : l.foldr (fun b n => b2n b + 2 * n) 0 < 2 ^ l.length ∧
    bitsOf l.length (l.foldr (fun b n => b2n b + 2 * n) 0) = l := by
  induction l with
  | nil => exact ⟨by simp, rfl⟩
  | cons b l ih =>
    obtain ⟨hlt, hbits⟩ := ih
    have hb := b2n_le b
    simp only [List.foldr_cons, List.length_cons]
    generalize l.foldr (fun b n => b2n b + 2 * n) 0 = n at *
    refine ⟨by rw [pow_succ]; omega, ?_⟩
    have h0 : bit (b2n b + 2 * n) 0 = b := by cases b <;> simp [bit, b2n]
    have hs (i : Nat) : bit (b2n b + 2 * n) (i + 1) = bit n i := by
      rw [bit, bit, pow_succ', ← Nat.div_div_eq_div_mul, show (b2n b + 2 * n) / 2 = n by omega]
    rw [bitsOf, List.range_succ_eq_map, List.map_cons, List.map_map, h0]
    refine congrArg (b :: ·) (Eq.trans ?_ hbits)
    exact List.map_congr_left fun i _ => hs i

/-- A body holds the 64 bits that it was made of. -/
theorem bitsOf_bodyOf {l : List Bool} (h : l.length = 64) : bitsOf 64 (bodyOf l).toNat = l := by
  obtain ⟨hlt, hbits⟩ := bitsOf_spelled l
  rw [h] at hlt hbits
  rw [bodyOf, BitVec.toNat_ofNat, Nat.mod_eq_of_lt hlt, hbits]

/-- A number below 2^n is spelled by its n bits. -/
theorem spelled_bitsOf (n v : Nat) : (bitsOf n v).foldr (fun b n => b2n b + 2 * n) 0 = v % 2 ^ n := by
  induction n generalizing v with
  | zero => simp [bitsOf, Nat.mod_one]
  | succ n ih =>
    have hs (i : Nat) : bit v (i + 1) = bit (v / 2) i := by rw [bit, bit, pow_succ', Nat.div_div_eq_div_mul]
    have hrest : (List.range n).map (fun i => bit v (i + 1)) = bitsOf n (v / 2) := List.map_congr_left fun i _ => hs i
    have h0 : b2n (bit v 0) = v % 2 := by
      rcases Nat.mod_two_eq_zero_or_one v with h | h <;> simp [bit, b2n, h]
    rw [bitsOf, List.range_succ_eq_map, List.map_cons, List.map_map, List.foldr_cons]
    change b2n (bit v 0) + 2 * ((List.range n).map fun i => bit v (i + 1)).foldr (fun b n => b2n b + 2 * n) 0 = _
    rw [hrest, ih, h0, pow_succ', Nat.mod_mul]

theorem bodyOf_bitsOf (b : BitVec 64) : bodyOf (bitsOf 64 b.toNat) = b := by
  rw [bodyOf, spelled_bitsOf, Nat.mod_eq_of_lt b.isLt, BitVec.ofNat_toNat, BitVec.setWidth_eq]

/-! ### The scrambler (R60) -/

theorem length_scramble (c : Nat) (l : List Bool) : (scramble c l).1.length = l.length := by
  induction l generalizing c with
  | nil => rfl
  | cons d l ih => simp [scramble, ih]

/-- Descrambling what was scrambled from the same state gives the bits, and the same state after them (R60). -/
theorem descramble_scramble (c : Nat) (l : List Bool) : descramble c (scramble c l).1 = (l, (scramble c l).2) := by
  induction l generalizing c with
  | nil => rfl
  | cons d l ih => simp [scramble, descramble, ih]

theorem descrBody_scrBody (c : BitVec 58) (b : BitVec 64) : descrBody c (scrBody c b).1 = (b, (scrBody c b).2) := by
  have hlen : (scramble c.toNat (bitsOf 64 b.toNat)).1.length = 64 := by simp [length_scramble, bitsOf]
  simp only [descrBody, scrBody]
  rw [bitsOf_bodyOf hlen, descramble_scramble]
  simp only [bodyOf_bitsOf]

/-- What scrambling makes of a row whose first block stands on lane `k`: the heads, the bodies, and the scramblers after them (R60). -/
def scrLanes (cs : List (BitVec 58)) (k : Nat) (r : List (Nat × BitVec 64)) : List (Nat × BitVec 64 × BitVec 58) :=
  (r.zipIdx k).map fun p => (p.1.1, scrBody (cs.getD p.2 0) p.1.2)

theorem scrLanes_cons (cs : List (BitVec 58)) (k : Nat) (b : Nat × BitVec 64) (r : List (Nat × BitVec 64)) :
    scrLanes cs k (b :: r) = (b.1, scrBody (cs.getD k 0) b.2) :: scrLanes cs (k + 1) r := by
  rw [scrLanes, List.zipIdx_cons, List.map_cons, scrLanes]

theorem scrLanes_heads (cs : List (BitVec 58)) (k : Nat) (r : List (Nat × BitVec 64)) : (scrLanes cs k r).map Prod.fst = r.map Prod.fst := by
  induction r generalizing k with
  | nil => rfl
  | cons b r ih => simp only [scrLanes_cons, List.map_cons, ih]

/-- The blocks on the lanes, descrambled, are the row's blocks, with the same scramblers after them. -/
theorem descr_scrLanes (cs : List (BitVec 58)) (k : Nat) (r : List (Nat × BitVec 64)) :
    let y := (((scrLanes cs k r).map fun x => (x.1, x.2.1)).zipIdx k).map fun p => (p.1.1, descrBody (cs.getD p.2 0) p.1.2)
    (y.map fun x => (x.1, x.2.1)) = r ∧ (y.map fun x => x.2.2) = (scrLanes cs k r).map fun x => x.2.2 := by
  induction r generalizing k with
  | nil => simp [scrLanes]
  | cons b r ih =>
    obtain ⟨h1, h2⟩ := ih (k + 1)
    simp only [scrLanes_cons, List.map_cons, List.zipIdx_cons, descrBody_scrBody, h1, h2, and_self]

/-- The blocks of a row, each on its own lane, come out as they went in (R60). -/
theorem descrRow_scrRow (cs : List (BitVec 58)) (r : List (Nat × BitVec 64)) : descrRow cs (scrRow cs r).1 = (r, (scrRow cs r).2) := by
  obtain ⟨h1, h2⟩ := descr_scrLanes cs 0 r
  exact Prod.ext h1 h2

/-- Scrambling leaves the sync headers of a row. -/
theorem scrRow_heads (cs : List (BitVec 58)) (r : List (Nat × BitVec 64)) : (scrRow cs r).1.map Prod.fst = r.map Prod.fst :=
  (List.map_map ..).trans (scrLanes_heads cs 0 r)

theorem scrRows_heads (cs : List (BitVec 58)) (rows : List (List (Nat × BitVec 64))) :
    (scrRows cs rows).1.map (List.map Prod.fst) = rows.map (List.map Prod.fst) := by
  induction rows generalizing cs with
  | nil => rfl
  | cons r rows ih =>
    simp only [scrRows, List.map_cons, ih]
    split
    · rfl
    · rw [scrRow_heads]

/-- Rows that show no alignment marker on the lanes bring the blocks that were sent (R60, R61). -/
theorem blockStream_scrRows (cs : List (BitVec 58)) (rows : List (List (Nat × BitVec 64)))
    (h : (scrRows cs rows).1.all (fun r => !isAmRow r) = true) : blockStream cs (scrRows cs rows).1 = rows.flatten := by
  induction rows generalizing cs with
  | nil => rfl
  | cons r rows ih =>
    by_cases hr : isAmRow r = true
    · simp [scrRows, hr] at h
    · simp only [scrRows, hr, Bool.false_eq_true, if_false, List.all_cons, Bool.and_eq_true, Bool.not_eq_true'] at h ⊢
      rw [blockStream, if_neg (ne_true_of_eq_false h.1), descrRow_scrRow, List.flatten_cons]
      exact congrArg (r ++ ·) (ih _ h.2)

/-! ### Stripes (R61, R66) -/

/-- Rows carry their stream, and IDLE blocks behind it. -/
theorem flatten_stripe {n : Nat} (hn : 0 < n) (k : Nat) (l : List (Nat × BitVec 64)) (h : l.length ≤ k) :
    ∃ j, (stripe n k l).flatten = l ++ List.replicate j (2, idleBody) := by
  induction k generalizing l with
  | zero => exact ⟨0, by simp [List.length_eq_zero_iff.mp (Nat.le_zero.mp h), stripe]⟩
  | succ k ih =>
    cases l with
    | nil => exact ⟨0, by simp [stripe]⟩
    | cons b l =>
      obtain ⟨j, hj⟩ := ih ((b :: l).drop n) (by simp only [List.length_drop, List.length_cons] at h ⊢; omega)
      simp only [stripe, List.flatten_cons, hj]
      by_cases hl : (b :: l).length ≤ n
      · refine ⟨n - (b :: l).length + j, ?_⟩
        rw [List.take_of_length_le hl, List.drop_of_length_le hl, List.nil_append, List.append_assoc, List.replicate_append_replicate]
      · refine ⟨j, ?_⟩
        have hfull : n - ((b :: l).take n).length = 0 := by rw [List.length_take]; omega
        rw [hfull, List.replicate_zero, List.append_nil, ← List.append_assoc, List.take_append_drop]

/-- Every block in a row is one of the stream or an IDLE block. -/
theorem mem_stripe (n k : Nat) (l : List (Nat × BitVec 64)) : ∀ r ∈ stripe n k l, ∀ b ∈ r, b ∈ l ∨ b = (2, idleBody) := by
  induction k generalizing l with
  | zero => simp [stripe]
  | succ k ih =>
    cases l with
    | nil => simp [stripe]
    | cons c l =>
      intro r hr b hb
      rcases List.mem_cons.mp hr with rfl | hr
      · rcases List.mem_append.mp hb with hb | hb
        · exact .inl (List.mem_of_mem_take hb)
        · exact .inr (List.eq_of_mem_replicate hb)
      · exact (ih _ r hr b hb).imp_left List.mem_of_mem_drop

/-! ### Packets (R64 to R66) -/

/-- Data blocks are collected up to the EOL, behind which nothing belongs to the packet (R65, R66). -/
theorem packetRest_data (pk : LinePacket) (bs : List (BitVec 64)) (e : BitVec 64) (rest : List (Nat × BitVec 64)) (ht : bodyType e = 0x55)
    (hr : bodyBits e 24 8 = 0) : packetRest pk ((bs.map fun b => (1, b)) ++ (2, e) :: rest) = { pk with blocks := pk.blocks ++ bs, eol := some e } := by
  induction bs generalizing pk with
  | nil => simp [packetRest, ht, hr]
  | cons b bs ih =>
    rw [List.map_cons, List.cons_append, packetRest, if_pos rfl, ih]
    simp

/-- A packet's stream brings the packet, whatever follows it. -/
theorem packetOf_stream (pk : LinePacket) (e : BitVec 64) (rest : List (Nat × BitVec 64)) (heol : pk.eol = some e) (hbad : pk.bad = false)
    (hs : bodyType pk.sol = 0x33) (he : bodyType e = 0x55) (h1 : bodyBits pk.sol 30 2 = 0) (h2 : bodyBits pk.sol 47 1 = 0) (h3 : bodyBits e 24 8 = 0) :
    packetOf (pk.stream ++ rest) = some pk := by
  obtain ⟨sol, blocks, eol, bad⟩ := pk
  simp only at heol hbad hs h1 h2
  subst heol hbad
  have hstream : LinePacket.stream ⟨sol, blocks, some e, false⟩ ++ rest = (2, sol) :: ((blocks.map fun b => (1, b)) ++ (2, e) :: rest) := by
    simp [LinePacket.stream]
  rw [hstream, packetOf, if_pos hs, packetRest_data _ _ _ _ he h3, h1, h2]
  rfl

theorem stream_heads (pk : LinePacket) : ∀ b ∈ pk.stream, b.1 = 1 ∨ b.1 = 2 := by
  unfold LinePacket.stream
  intro b hb
  cases he : pk.eol <;> rw [he] at hb <;>
    simp only [List.mem_cons, List.mem_append, List.mem_map, List.not_mem_nil, or_false] at hb
  · rcases hb with rfl | ⟨x, -, rfl⟩ <;> simp
  · rcases hb with (rfl | ⟨x, -, rfl⟩) | rfl <;> simp

/-- Every sync header that a sent packet shows on a lane is valid (R59, R65). -/
theorem badHeads_sent (pk : LinePacket) (n : Nat) (before : List (BitVec 58)) (k : Nat) : (pk.sent n before).badHeads k = 0 := by
  have valid : ∀ r ∈ (pk.sent n before).rows, ∀ b ∈ r, b.1 = 1 ∨ b.1 = 2 := by
    intro r hr b hb
    have hh : r.map Prod.fst ∈ (rowsOf n pk.stream).map (List.map Prod.fst) :=
      scrRows_heads before (rowsOf n pk.stream) ▸ List.mem_map_of_mem hr
    obtain ⟨r', hr', he⟩ := List.mem_map.mp hh
    obtain ⟨b', hb', hbe⟩ := List.mem_map.mp (he ▸ List.mem_map_of_mem (f := Prod.fst) hb)
    rw [← hbe]
    rcases mem_stripe _ _ _ r' hr' b' hb' with hb' | rfl
    · exact stream_heads pk b' hb'
    · exact .inr rfl
  rw [PacketRows.badHeads, List.length_eq_zero_iff, List.filter_eq_nil_iff]
  intro r hr
  cases hk : r[k]? with
  | none => simp
  | some b => rcases valid r hr b (List.mem_of_getElem? hk) with h | h <;> simp [h]

/-- A packet striped over lanes and scrambled comes in as it was sent, where no row shows an alignment marker (R60, R61, R66). -/
theorem packet_sent (pk : LinePacket) (e : BitVec 64) (n : Nat) (before : List (BitVec 58)) (hn : 0 < n) (heol : pk.eol = some e)
    (hbad : pk.bad = false) (hs : bodyType pk.sol = 0x33) (he : bodyType e = 0x55) (h1 : bodyBits pk.sol 30 2 = 0) (h2 : bodyBits pk.sol 47 1 = 0)
    (h3 : bodyBits e 24 8 = 0) (ham : (pk.sent n before).rows.all (fun r => !isAmRow r) = true) : (pk.sent n before).packet = some pk := by
  obtain ⟨j, hj⟩ := flatten_stripe hn pk.stream.length pk.stream le_rfl
  have hstream : blockStream before (pk.sent n before).rows = pk.stream ++ List.replicate j (2, idleBody) :=
    (blockStream_scrRows before (rowsOf n pk.stream) ham).trans hj
  exact (congrArg packetOf hstream).trans (packetOf_stream pk e _ heol hbad hs he h1 h2 h3)

end Sys2Proof.Machine
end

section
/-! The windows of a camera port (R81 to R88): what becomes of a packet that is complete, and of a window that closes. -/

namespace Sys2Proof.Machine

variable (s : State)

@[simp] theorem port_setPort_self (n : Nat) (h : PortHid) : (s.setPort n h).port n = h := Store.get_set_self port0 n h s.ports

/-- A frame that leaves the ports leaves each of them. -/
theorem State.Keeps.port {u v : State} {P : List Part} {r : Nat → Bool} (h : u.Keeps P r v) (hp : Part.ports ∉ P) (n : Nat) :
    v.port n = u.port n :=
  congrArg (Store.get port0 n) (h.1 .ports (by simp) hp)

theorem State.Keeps.num {u v : State} {P : List Part} {r : Nat → Bool} (h : u.Keeps P r v) {a : Nat} (ha : r a = false) : v.num a = u.num a :=
  congrArg BitVec.toNat (h.2 a ha)

/-! ### Invalid sync headers (R65) -/

/-- The headers of the first lanes are counted, each on its own. -/
theorem countHeads_range (n : Nat) (rx : PacketRows) (i : Nat) :
    let v := (List.range i).foldl (fun (s : State) k => if rx.badHeads k = 0 then s else s.bumpBy (Reg.LANE_SHERR n k) (rx.badHeads k)) s
    s.Keeps [] (theRegs ((List.range i).map (Reg.LANE_SHERR n))) v ∧
      ∀ k < i, v.num (Reg.LANE_SHERR n k) = min 0xFFFFFFFF (s.num (Reg.LANE_SHERR n k) + rx.badHeads k) := by
  induction i with
  | zero => exact ⟨.refl .., fun k hk => absurd hk (by omega)⟩
  | succ i ih =>
    obtain ⟨hk, hc⟩ := ih
    simp only [List.range_succ, List.foldl_append, List.foldl_cons, List.foldl_nil, List.map_append, List.map_cons, List.map_nil]
    generalize (List.range i).foldl (fun (s : State) k => if rx.badHeads k = 0 then s else s.bumpBy (Reg.LANE_SHERR n k) (rx.badHeads k)) s = v at *
    have hv : s.Keeps [] (theRegs ((List.range i).map (Reg.LANE_SHERR n) ++ [Reg.LANE_SHERR n i])) v := hk.mono (by simp) fun a h => by
      rw [theRegs_eq_false] at h ⊢
      exact fun hm => h (List.mem_append_left _ hm)
    have hsame (k : Nat) (h : i ≤ k) : v.num (Reg.LANE_SHERR n k) = s.num (Reg.LANE_SHERR n k) := by
      refine hk.num (theRegs_eq_false.mpr fun hm => ?_)
      obtain ⟨j, hj, he⟩ := List.mem_map.mp hm
      simp only [List.mem_range, Reg.LANE_SHERR] at hj he
      omega
    have hlt : s.num (Reg.LANE_SHERR n i) < 2 ^ 32 := (s.reg _).isLt
    refine ⟨.ite hv (hv.trans (bumpBy_keeps _ _ _ _ _ (by simp [theRegs]))), fun k hki => ?_⟩
    by_cases hi : k = i
    · subst hi
      split
      · next h0 => rw [hsame k le_rfl, h0]; omega
      · rw [num_bumpBy_self, hsame k le_rfl]
    · rw [← hc k (by omega)]
      split
      · rfl
      · exact num_setNum_ne v (by simp only [Reg.LANE_SHERR]; omega) _

theorem countHeads_keeps (n : Nat) (rx : PacketRows) : s.Keeps [] (theRegs ((List.range 4).map (Reg.LANE_SHERR n))) (s.countHeads n rx) :=
  (countHeads_range s n rx 4).1

/-- A register of port `n` below its lanes is none of their counters. -/
theorem notSherr {n a : Nat} (ha : a < 0x100100 + 0x10000 * n) : theRegs ((List.range 4).map (Reg.LANE_SHERR n)) a = false := by
  rw [theRegs_eq_false, List.mem_map]
  rintro ⟨k, -, rfl⟩
  rw [Reg.LANE_SHERR] at ha
  omega

/-! ### A packet that is complete (R81, R82) -/

/-- A discarded packet is counted (R82). -/
theorem discardPacket_spec (n : Nat) : let v := s.discardPacket n
    s.Keeps [.evrQ] (theRegs [Reg.CAM_CNT n 5, Reg.CAM_EVT n]) v ∧ v.num (Reg.CAM_CNT n 5) = min 0xFFFFFFFF (s.num (Reg.CAM_CNT n 5) + 1) ∧
      v.flag (Reg.CAM_EVT n) ⟨4, 1⟩ = true := by
  have hev := linkEvent_keeps (s.bump (Reg.CAM_CNT n 5)) n 4
  refine ⟨(bump_keeps s _ _ _ (by simp [theRegs])).trans (hev.mono (by simp) fun a h => ?_), ?_, linkEvent_flag _ n 4 (by norm_num)⟩
  · rw [theRegs_eq_false] at h ⊢
    simp_all
  · refine (hev.num ?_).trans (num_bump_self ..)
    rw [theRegs_eq_false, Reg.CAM_CNT, Reg.CAM_EVT, List.mem_singleton]
    omega

/-- Does the packet name none of the windows that the port keeps? -/
def PortHid.unnamed (h : PortHid) (pk : LinePacket) : Prop := (h.windows ++ h.closed).any (named pk) = false

theorem PortHid.unnamed_iff (h : PortHid) (pk : LinePacket) : h.unnamed pk ↔ ∀ w, w ∈ h.windows ∨ w ∈ h.closed → named pk w = false := by
  simp [PortHid.unnamed, or_imp, forall_and]

/-- A packet whose HCRC is wrong, or that names no window, is counted and changes no window (R82). -/
theorem takePacket_discards (n : Nat) (pk : LinePacket) (h : hcrcOk pk = false ∨ ((s.port n).adopting = false ∧ (s.port n).unnamed pk)) :
    let v := s.takePacket n pk
    (v.port n).windows = (s.port n).windows ∧ v.num (Reg.CAM_CNT n 5) = min 0xFFFFFFFF (s.num (Reg.CAM_CNT n 5) + 1) ∧
      v.flag (Reg.CAM_EVT n) ⟨4, 1⟩ = true := by
  by_cases hc : hcrcOk pk = true
  · obtain ⟨ha, hn⟩ := h.resolve_left (by simp [hc])
    have hany : (s.port n).windows.any (fun w => named pk w && w.pk.isNone && s.onTime w) = false := by
      rw [PortHid.unnamed_iff] at hn
      rw [List.any_eq_false]
      intro w hw
      simp [hn w (.inl hw)]
    have e : ∃ q : PortHid, q.windows = (s.port n).windows ∧ s.takePacket n pk = (s.setPort n q).discardPacket n := by
      refine ⟨{ s.port n with
        strays := if ((s.port n).windows ++ (s.port n).closed).any (named pk) then 0 else (s.port n).strays + 1
        adopting := (s.port n).adopting || (s.standbyRole &&
          decide (4 ≤ if ((s.port n).windows ++ (s.port n).closed).any (named pk) then 0 else (s.port n).strays + 1)) }, rfl, ?_⟩
      simp only [State.takePacket, hc, Bool.not_true, Bool.false_eq_true, if_false, ha, hany]
    obtain ⟨q, hq, he⟩ := e
    obtain ⟨hk, hnum, hflag⟩ := discardPacket_spec (s.setPort n q) n
    rw [he]
    exact ⟨by rw [hk.port (by simp), port_setPort_self, hq], hnum, hflag⟩
  · have e : s.takePacket n pk = s.discardPacket n := if_pos (by simp [hc])
    obtain ⟨hk, hnum, hflag⟩ := discardPacket_spec s n
    rw [e]
    exact ⟨by rw [hk.port (by simp)], hnum, hflag⟩

/-- A packet that names an open window without a packet, in time, is that window's (R81, R82). -/
theorem takePacket_joins (n : Nat) (pk : LinePacket) (w : Window) (hc : hcrcOk pk = true) (ha : (s.port n).adopting = false)
    (hw : w ∈ (s.port n).windows) (hn : named pk w = true) (hp : w.pk = none) (ht : s.onTime w = true) :
    s.takePacket n pk = s.setPort n { s.port n with strays := 0, windows := (s.port n).windows.map (givePacket pk) } := by
  have hany : (s.port n).windows.any (fun w => named pk w && w.pk.isNone && s.onTime w) = true :=
    List.any_eq_true.mpr ⟨w, hw, by simp [hn, hp, ht]⟩
  simp only [State.takePacket, hc, Bool.not_true, Bool.false_eq_true, if_false, ha, hany, if_true]

/-! ### The correction of a packet's pixels (R84, R125, R146) -/

/-- The registers that the correction of a line uses. -/
def lineRegs (n : Nat) : List Nat := [Reg.CORR_SATCNT n, Reg.CORR_BPFAIL n, Reg.CORR_HOLINE_LO n, Reg.CORR_HOLINE_LO n + 4]

theorem correctPacket_off (n : Nat) (w : Window) (pk : LinePacket) (h : s.inspects = false) : s.correctPacket n w pk = s :=
  if_neg (ne_true_of_eq_false h)

/-- What the correction of a packet leaves after its counters: the line that CORR_HOLINE keeps, and the pixels of one window. -/
def State.corrected (n : Nat) (w : Window) (first : Bool) (vals : List Nat) : State :=
  let y := if first then s.setS64 (Reg.CORR_HOLINE_LO n) w.line else s
  y.setPort n { y.port n with windows := (y.port n).windows.map fun x => if x = w then { x with pixels := vals } else x }

theorem correctPacket_on (n : Nat) (w : Window) (pk : LinePacket) (h : s.inspects = true) : ∃ sat fail first vals,
    s.correctPacket n w pk = ((s.bumpBy (Reg.CORR_SATCNT n) sat).bumpBy (Reg.CORR_BPFAIL n) fail).corrected n w first vals :=
  ⟨_, _, _, _, if_pos h⟩

theorem corrected_keeps (n : Nat) (w : Window) (first : Bool) (vals : List Nat) :
    s.Keeps [.ports] (theRegs (lineRegs n)) (s.corrected n w first vals) :=
  .trans (.ite (set64_keeps s _ _ _ _ (by simp [theRegs, lineRegs]) (by simp [theRegs, lineRegs])) (.refl ..))
    (setPort_keeps _ n _ _ _ (List.mem_singleton_self _))

theorem corrected_windows (n : Nat) (w : Window) (first : Bool) (vals : List Nat) : ((s.corrected n w first vals).port n).windows =
    (s.port n).windows.map fun x => if x = w then { x with pixels := vals } else x := by
  rw [State.corrected, port_setPort_self]
  cases first <;> rfl

/-- Correcting a packet changes pixels of windows, and neither their lines nor their packets. -/
theorem correctPacket_spec (n : Nat) (w : Window) (pk : LinePacket) : let v := s.correctPacket n w pk
    s.Keeps [.ports] (theRegs (lineRegs n)) v ∧
      ∀ x ∈ (s.port n).windows, ∃ y ∈ (v.port n).windows, y.line = x.line ∧ y.pk = x.pk := by
  cases h : s.inspects with
  | false =>
    rw [correctPacket_off s n w pk h]
    exact ⟨.refl .., fun x hx => ⟨x, hx, rfl, rfl⟩⟩
  | true =>
    obtain ⟨sat, fail, first, vals, e⟩ := correctPacket_on s n w pk h
    have hcount : s.Keeps [.ports] (theRegs (lineRegs n)) ((s.bumpBy (Reg.CORR_SATCNT n) sat).bumpBy (Reg.CORR_BPFAIL n) fail) :=
      (bumpBy_keeps s _ _ _ _ (by simp [theRegs, lineRegs])).trans (bumpBy_keeps _ _ _ _ _ (by simp [theRegs, lineRegs]))
    rw [e]
    refine ⟨hcount.trans (corrected_keeps _ n w first vals), fun x hx => ⟨if x = w then { x with pixels := vals } else x, ?_, ?_⟩⟩
    · rw [corrected_windows]
      exact List.mem_map_of_mem (f := fun x : Window => if x = w then { x with pixels := vals } else x) hx
    · split <;> exact ⟨rfl, rfl⟩

/-- What can become of a complete packet: it is taken, and the pixels of one window may be corrected (R82, R84). -/
theorem packetDone_cases (n : Nat) (rx : PacketRows) (pk : LinePacket) :
    s.packetDone n rx pk = s.takePacket n pk ∨ ∃ w part, s.packetDone n rx pk = (s.takePacket n pk).correctPacket n w part := by
  simp only [State.packetDone]
  split
  · exact .inr ⟨_, _, rfl⟩
  · split
    · split
      · exact .inr ⟨_, _, rfl⟩
      · exact .inl rfl
    · exact .inl rfl

/-- Where the packet names no window, none is corrected. -/
theorem packetDone_unnamed (n : Nat) (rx : PacketRows) (pk : LinePacket) (h : (s.port n).unnamed pk)
    (hw : ((s.takePacket n pk).port n).windows = (s.port n).windows) : s.packetDone n rx pk = s.takePacket n pk := by
  rw [PortHid.unnamed_iff] at h
  have hlate : ((s.port n).closed.find? fun w => named pk w && w.pk.isNone) = none := by
    rw [List.find?_eq_none]
    intro w hm
    simp [h w (.inr hm)]
  have hopen : ((s.port n).windows.find? fun w => named pk w && decide (w.pk = some pk) && w.pixels.isEmpty) = none := by
    rw [List.find?_eq_none]
    intro w hm
    simp [h w (.inl hm)]
  simp only [State.packetDone, hw, hopen, hlate, ite_self]

end Sys2Proof.Machine
end

section
/-! The rows of a camera port's packets and windows (R65, R81 to R88). -/

namespace Sys2Proof.Machine

variable (s : State)

/-! ### A window that closes (R83 to R88) -/

/-- The counter of an outcome among those of CAM_CNT (R92). -/
def outcomeIndex (o : Nat) : Nat := if o = 0 then 0 else if o = 1 then 1 else if o = 2 then 2 else if o = 4 then 3 else 4

theorem outcomeIndex_lt (o : Nat) : outcomeIndex o < 5 := by
  unfold outcomeIndex
  repeat' split
  all_goals omega

/-- The registers that tell of an outcome: its counter, and the port's events. -/
def outcomeRegs (n o : Nat) : List Nat := [Reg.CAM_CNT n (outcomeIndex o), Reg.CAM_EVT n]

theorem countOutcome_spec (n o : Nat) : let v := s.countOutcome n o
    s.Keeps [.evrQ] (theRegs (outcomeRegs n o)) v ∧
      v.num (Reg.CAM_CNT n (outcomeIndex o)) = min 0xFFFFFFFF (s.num (Reg.CAM_CNT n (outcomeIndex o)) + 1) ∧
      (o ≠ 0 → v.flag (Reg.CAM_EVT n) ⟨outcomeIndex o - 1, 1⟩ = true) := by
  have hi := outcomeIndex_lt o
  let x := s.bump (Reg.CAM_CNT n (outcomeIndex o))
  have hx : s.Keeps [.evrQ] (theRegs (outcomeRegs n o)) x := bump_keeps s _ _ _ (by simp [theRegs, outcomeRegs])
  have hnum : x.num (Reg.CAM_CNT n (outcomeIndex o)) = min 0xFFFFFFFF (s.num (Reg.CAM_CNT n (outcomeIndex o)) + 1) := num_bump_self ..
  have e : s.countOutcome n o = if o = 0 then x else x.linkEvent n (outcomeIndex o - 1) := rfl
  have hev := linkEvent_keeps x n (outcomeIndex o - 1)
  rw [e]
  by_cases h0 : o = 0
  · rw [if_pos h0]
    exact ⟨hx, hnum, fun h => absurd h0 h⟩
  · rw [if_neg h0]
    refine ⟨hx.trans (hev.mono (by simp) fun a h => ?_), (hev.num ?_).trans hnum, fun _ => linkEvent_flag x n _ (by omega)⟩
    · rw [theRegs_eq_false] at h ⊢
      simp_all [outcomeRegs]
    · rw [theRegs_eq_false, Reg.CAM_CNT, Reg.CAM_EVT, List.mem_singleton]
      omega

theorem breach_keeps (code unit : Nat) (line : Option Int) : s.Keeps [.err, .slots] noReg (s.breach code unit line) := by
  have part (v : State) (e : ErrHid) (l : List Slot) : v.Keeps [.err, .slots] noReg { v with err := e, slots := l } :=
    .of_regs _ rfl fun p _ hp => by cases p <;> first | rfl | simp at hp
  unfold State.breach State.breachAt
  refine .ite ?_ (.refl ..)
  cases line with
  | none => exact part s _ s.slots
  | some k => exact .ite (part s _ _) (part s _ s.slots)

theorem runComplete_keeps (code n : Nat) (j : Int) : s.Keeps [.err, .slots, .runsWaiting] noReg (s.runComplete code n j) := by
  unfold State.runComplete
  refine .ite (.ite ?_ ((breach_keeps s _ _ _).mono (by simp) fun _ h => h)) (.refl ..)
  exact .of_regs _ rfl fun p _ hp => by cases p <;> first | rfl | simp at hp

/-- LATERUN and BADRUN stand in CAM_TSEQ (R86). -/
theorem countRuns_keeps (n : Nat) (j : Int) (o : Nat) :
    s.Keeps [.err, .slots, .runsWaiting] (theRegs [Reg.CAM_TSEQ n]) (s.countRuns n j o) := by
  have run (v : State) (c : Prop) [Decidable c] (code : Nat) :
      v.Keeps [.err, .slots, .runsWaiting] (theRegs [Reg.CAM_TSEQ n]) (if c then v.runComplete code n j else v) :=
    .ite ((runComplete_keeps v code n j).mono (by simp) fun _ _ => rfl) (.refl ..)
  have fld (v : State) (b : Bits) (x : Nat) : v.Keeps [.err, .slots, .runsWaiting] (theRegs [Reg.CAM_TSEQ n]) (v.setFld (Reg.CAM_TSEQ n) b x) :=
    setFld_keeps v _ _ _ _ _ (by simp [theRegs])
  unfold State.countRuns
  exact .ite (.refl ..) ((((fld s _ _).trans (fld _ _ _)).trans (run _ _ _)).trans (run _ _ _))

theorem calTake_keeps (n : Nat) (w : Window) (o : Nat) : s.Keeps [.calRun] (theRegs [Reg.CAL_STATUS]) (s.calTake n w o) := by
  unfold State.calTake
  split
  · next r _ _ _ =>
    refine .ite (.trans (v := s.setFld Reg.CAL_STATUS Fld.CAL_STATUS_LINES (r.lines + 1)) (setFld_keeps s _ _ _ _ _ (by simp [theRegs])) ?_) (.refl ..)
    exact .of_regs _ rfl fun p _ hp => by cases p <;> first | rfl | simp at hp
  · exact .refl ..

theorem holdLine_keeps (n : Nat) (h : HeldLine) : s.Keeps [.stitch, .ram] noReg (s.holdLine n h) := by
  have part (m : Store Byte) (x : StitchHid) : s.Keeps [.stitch, .ram] noReg { s with stitch := x, ram := m } :=
    .of_regs _ rfl fun p _ hp => by cases p <;> first | rfl | simp at hp
  unfold State.holdLine
  exact .ite (part _ _) (part s.ram _)

/-- The registers that a window's close uses beside those of its outcome. -/
def closeRegs (n : Nat) : List Nat := [Reg.CAM_TSEQ n, Reg.CAL_STATUS]

/-- A window that closes is gone; its outcome is counted, and after that neither the port nor its counters and events change (R83). -/
theorem closeWindow_spec (n : Nat) (w : Window) (hn : n < 12) : let v := s.closeWindow n w
    let i := outcomeIndex (outcome w)
    (v.port n).windows = (s.port n).windows.erase w ∧ v.num (Reg.CAM_CNT n i) = min 0xFFFFFFFF (s.num (Reg.CAM_CNT n i) + 1) ∧
      (outcome w ≠ 0 → v.flag (Reg.CAM_EVT n) ⟨i - 1, 1⟩ = true) := by
  let q : PortHid := { s.port n with
    windows := (s.port n).windows.erase w
    closed := if w.token then (w :: (s.port n).closed).take 4 else (s.port n).closed }
  let x := s.setPort n q
  let y := x.countOutcome n (outcome w)
  obtain ⟨hxy, hnum, hflag⟩ := countOutcome_spec x n (outcome w)
  have hport : (y.port n).windows = (s.port n).windows.erase w := by rw [hxy.port (by simp), port_setPort_self]
  have hrest : y.Keeps [.err, .slots, .runsWaiting, .calRun, .stitch, .ram] (theRegs (closeRegs n)) (s.closeWindow n w) := by
    unfold State.closeWindow
    have wider (a : Nat) (h : theRegs (closeRegs n) a = false) : theRegs [Reg.CAM_TSEQ n] a = false ∧ theRegs [Reg.CAL_STATUS] a = false := by
      rw [theRegs_eq_false, closeRegs] at h
      simp_all [theRegs_eq_false]
    have hruns := (countRuns_keeps y n w.line (outcome w)).mono (Q := [.err, .slots, .runsWaiting, .calRun, .stitch, .ram]) (by simp)
      fun a h => (wider a h).1
    have hcal := (calTake_keeps (y.countRuns n w.line (outcome w)) n w (outcome w)).mono
      (Q := [.err, .slots, .runsWaiting, .calRun, .stitch, .ram]) (by simp) fun a h => (wider a h).2
    refine (hruns.trans hcal).trans (.ite ?_ (.refl ..))
    exact (holdLine_keeps _ n _).mono (by simp) fun _ _ => rfl
  have hi := outcomeIndex_lt (outcome w)
  have hcnt : theRegs (closeRegs n) (Reg.CAM_CNT n (outcomeIndex (outcome w))) = false := by
    rw [theRegs_eq_false, closeRegs, Reg.CAM_CNT, Reg.CAM_TSEQ, Reg.CAL_STATUS]
    simp only [List.mem_cons, List.not_mem_nil, or_false]
    omega
  have hevt : theRegs (closeRegs n) (Reg.CAM_EVT n) = false := by
    rw [theRegs_eq_false, closeRegs, Reg.CAM_EVT, Reg.CAM_TSEQ, Reg.CAL_STATUS]
    simp only [List.mem_cons, List.not_mem_nil, or_false]
    omega
  exact ⟨by rw [hrest.port (by simp), hport], (hrest.num hcnt).trans hnum, fun h => (hrest.flag hevt _).trans (hflag h)⟩

/-- The outcome of a window that got no packet is LATE (R83). -/
theorem outcome_none {w : Window} (h : w.pk = none) : outcome w = 4 := by rw [outcome, h]

/-- Is the packet malformed as the window's (R83)? -/
def malformed (w : Window) (pk : LinePacket) : Bool :=
  pk.cut || decide (pk.fmt ≠ w.fmt) || decide (pk.phase ≠ w.phase) || decide (pk.nblk ≠ blocksNeeded pk) ||
    decide (pk.nblk ≠ pk.blocks.length) || !crcOk pk || pk.bad

/-- The outcome of a window with a packet (R83). -/
theorem outcome_some {w : Window} {pk : LinePacket} (h : w.pk = some pk) : outcome w = if malformed w pk then 8
    else if pk.npixM1 + 1 < w.width then 1 else if w.width < pk.npixM1 + 1 then 2 else 0 := by
  have bne_eq (a b : Nat) : (a != b) = decide (a ≠ b) := by by_cases hab : a = b <;> simp [hab]
  rw [outcome, h]
  simp only [bne_eq]
  rfl

/-! ### The rows -/

section
variable (t n : Nat)

/-- The rows of a packet on a READY port: their headers are counted, and a packet that they bring is joined to its window (R65, R82). -/
theorem exec_linePacket (rx : PacketRows) : let u := s.advanceTo t
    u.mode.active = true → u.lstate n = 5 → ∀ {y : State}, (match rx.packet with
      | some pk => (u.countHeads n rx).packetDone n rx pk
      | none => u.countHeads n rx) = y → exec (.linePacket t n rx) s = .next (y.settle s) := by
  intro u ha hl y hy
  exact congrArg Host.Outcome.next ((onLink_acts s t n _ _ ha hl rfl).trans (congrArg (State.settle · s) hy))

/-- The correction of a line uses no counter and no event of its port. -/
theorem notLineRegs (n a : Nat) (h : a < 0x200000) : theRegs (lineRegs n) a = false := by
  rw [theRegs_eq_false, lineRegs, Reg.CORR_SATCNT, Reg.CORR_BPFAIL, Reg.CORR_HOLINE_LO]
  simp only [List.mem_cons, List.not_mem_nil, or_false]
  omega

/-- A packet that is discarded (R82). -/
theorem linePacket_discards (rx : PacketRows) (pk : LinePacket) (hn : n < 12) : let u := s.advanceTo t
    u.mode.active = true → u.lstate n = 5 → rx.packet = some pk → hcrcOk pk = false ∨ ((u.port n).adopting = false ∧ (u.port n).unnamed pk) →
    ∃ v : State, exec (.linePacket t n rx) s = .next (v.settle s) ∧ v.num (Reg.CAM_CNT n 5) = min 0xFFFFFFFF (u.num (Reg.CAM_CNT n 5) + 1) ∧
      v.flag (Reg.CAM_EVT n) ⟨4, 1⟩ = true ∧ ((u.port n).unnamed pk → (v.port n).windows = (u.port n).windows) := by
  intro u ha hl hpk h
  have hk := countHeads_keeps u n rx
  have hport : (u.countHeads n rx).port n = u.port n := hk.port (by simp) n
  obtain ⟨hwin, hnum, hflag⟩ := takePacket_discards (u.countHeads n rx) n pk (by rw [hport]; exact h)
  refine ⟨(u.countHeads n rx).packetDone n rx pk, exec_linePacket s t n rx ha hl (by rw [hpk]), ?_⟩
  rw [hport] at hwin
  rw [hk.num (notSherr (by rw [Reg.CAM_CNT]; omega))] at hnum
  have hcnt : theRegs (lineRegs n) (Reg.CAM_CNT n 5) = false := notLineRegs n _ (by rw [Reg.CAM_CNT]; omega)
  have hevt : theRegs (lineRegs n) (Reg.CAM_EVT n) = false := notLineRegs n _ (by rw [Reg.CAM_EVT]; omega)
  have hsame (hu : (u.port n).unnamed pk) : (u.countHeads n rx).packetDone n rx pk = (u.countHeads n rx).takePacket n pk :=
    packetDone_unnamed _ n rx pk (by rw [hport]; exact hu) (by rw [hwin, hport])
  refine ⟨?_, ?_, fun hu => by rw [hsame hu, hwin]⟩
  · rcases packetDone_cases (u.countHeads n rx) n rx pk with e | ⟨w, part, e⟩
    · rw [e, hnum]
    · rw [e, (correctPacket_spec _ n w part).1.num hcnt, hnum]
  · rcases packetDone_cases (u.countHeads n rx) n rx pk with e | ⟨w, part, e⟩
    · rw [e, hflag]
    · rw [e, (correctPacket_spec _ n w part).1.flag hevt, hflag]

/-- A packet that is its window's (R81, R82, R84). -/
theorem linePacket_joins (rx : PacketRows) (pk : LinePacket) (w : Window) : let u := s.advanceTo t
    u.mode.active = true → u.lstate n = 5 → rx.packet = some pk → hcrcOk pk = true → (u.port n).adopting = false → w ∈ (u.port n).windows →
    named pk w = true → w.pk = none → u.onTime w = true →
    ∃ v : State, exec (.linePacket t n rx) s = .next (v.settle s) ∧ (∃ w' ∈ (v.port n).windows, w'.line = w.line ∧ w'.pk = some pk) ∧
      (u.inspects = false → (v.port n).windows = (u.port n).windows.map (givePacket pk) ∧ (u.countHeads n rx).Keeps [.ports] noReg v) := by
  intro u ha hl hpk hc had hw hname hnone htime
  have hk := countHeads_keeps u n rx
  let c := u.countHeads n rx
  have hport : c.port n = u.port n := hk.port (by simp) n
  have hnow : c.now = u.now := hk.1 .now (by simp) (by simp)
  have hjoin := takePacket_joins c n pk w hc (by rw [hport]; exact had) (by rw [hport]; exact hw) hname hnone
    (by rw [State.onTime, hnow]; exact htime)
  rw [hport] at hjoin
  let x := c.setPort n { u.port n with strays := 0, windows := (u.port n).windows.map (givePacket pk) }
  have hwin : (x.port n).windows = (u.port n).windows.map (givePacket pk) := by rw [port_setPort_self]
  have hinspects : x.inspects = u.inspects := by
    have hmode : x.mode = u.mode := hk.1 .mode (by simp) (by simp)
    have hslots : x.slots = u.slots := hk.1 .slots (by simp) (by simp)
    rw [State.inspects, State.inspects, hmode, hslots]
  have hgiven : ∃ w' ∈ (x.port n).windows, w'.line = w.line ∧ w'.pk = some pk := by
    refine ⟨givePacket pk w, by rw [hwin]; exact List.mem_map_of_mem hw, ?_⟩
    rw [givePacket, hname, hnone]
    exact ⟨rfl, rfl⟩
  refine ⟨c.packetDone n rx pk, exec_linePacket s t n rx ha hl (by rw [hpk]), ?_⟩
  rcases packetDone_cases c n rx pk with e | ⟨w0, part, e⟩
  · rw [e, hjoin]
    exact ⟨hgiven, fun _ => ⟨hwin, setPort_keeps c n _ _ _ (by simp)⟩⟩
  · rw [e, hjoin]
    obtain ⟨-, hkeep⟩ := correctPacket_spec x n w0 part
    obtain ⟨w', hm, hline, hp⟩ := hgiven
    obtain ⟨w'', hm', hline', hp'⟩ := hkeep w' hm
    refine ⟨⟨w'', hm', hline'.trans hline, hp'.trans hp⟩, fun hi => ?_⟩
    have hoff : x.correctPacket n w0 part = x := correctPacket_off x n w0 part (hinspects.trans hi)
    exact ⟨(congrArg (fun v => (v.port n).windows) hoff).trans hwin, hoff.symm ▸ setPort_keeps c n _ _ _ (by simp)⟩

/-- A window whose Pmin has passed closes (R23, R83). -/
theorem exec_arrivalWindowClose (tseq : Nat) (w : Window) : let u := s.advanceTo t
    u.mode.active = true → (u.port n).windows.find? (fun w => decide (w.tseq = tseq)) = some w → 10 ^ 12 ≤ (u.now - w.at_) * w.lrmax →
    exec (.arrivalWindowClose t n tseq) s = .next ((u.closeWindow n w).settle s) := by
  intro u ha hw hp
  refine congrArg Host.Outcome.next (congrArg (State.settle · s) ((if_pos ha).trans ?_))
  simp only [show ((s.advanceTo t).port n).windows.find? (fun w => decide (w.tseq = tseq)) = some w from hw]
  exact if_pos (decide_eq_true hp)

end

/-- Settles O48: the coding of a packet (`packet_sent`), the packet that is discarded or joined to its window, and the window that closes. -/
theorem linePackets : Obligations.LinePackets := by
  unfold Obligations.LinePackets
  intro s t n hn u
  refine ⟨?_, fun ha hl rx => ?_, fun tseq w ha hw hp => ?_, fun w => ⟨outcome_none, fun pk h => ?_⟩⟩
  · intro pk e lanes before hlanes _ heol hbad hs he h1 h2 h3 ham
    exact ⟨packet_sent pk e lanes before hlanes heol hbad hs he h1 h2 h3 ham, badHeads_sent pk lanes before⟩
  · refine ⟨(countHeads_range u n rx 4).2, countHeads_keeps u n rx, fun hpk => exec_linePacket s t n rx ha hl (by rw [hpk]), fun pk hpk h => ?_,
      fun pk w hpk hc had hw hname hnone htime => linePacket_joins s t n rx pk w ha hl hpk hc had hw hname hnone htime⟩
    exact linePacket_discards s t n rx pk hn ha hl hpk h
  · exact ⟨_, exec_arrivalWindowClose s t n tseq w ha hw hp, rfl, closeWindow_spec u n w hn⟩
  · have ho := outcome_some h
    exact ⟨fun hb => ho.trans (if_pos hb), fun hb => ho.trans (if_neg (ne_true_of_eq_false hb))⟩

end Sys2Proof.Machine
end

section
/-! The armed line of a camera (R106, R107). -/

namespace Sys2Proof.Machine

variable (s : State)

/-- A quotient rounded up against one rounded down: `(m + 1) q / p` is at most `j` where `j p / q` lies above `m`. -/
theorem neg_fdiv_neg_le_iff {p q : Nat} (hp : 0 < p) (hq : 0 < q) (m j : Int) :
    0 - Int.fdiv (0 - (m + 1) * (q : Int)) p ≤ j ↔ m < j * (p : Int) / q := by
  have hp' : (0 : Int) < p := by exact_mod_cast hp
  have hq' : (0 : Int) < q := by exact_mod_cast hq
  rw [Int.fdiv_eq_ediv_of_nonneg _ hp'.le]
  calc 0 - (0 - (m + 1) * (q : Int)) / p ≤ j
      ↔ -j ≤ (0 - (m + 1) * (q : Int)) / p := by omega
    _ ↔ -j * p ≤ 0 - (m + 1) * (q : Int) := Int.le_ediv_iff_mul_le hp'
    _ ↔ (m + 1) * (q : Int) ≤ j * p := by rw [neg_mul]; omega
    _ ↔ m + 1 ≤ j * (p : Int) / q := (Int.le_ediv_iff_mul_le hq').symm

/-- A pitch that keeps its rule has no zero part (R106). -/
theorem pitchOk_pos (h : s.pitchOk = true) : 0 < s.num Reg.TRG_PITCH_NUM ∧ 0 < s.num Reg.TRG_PITCH_DEN := by
  simp only [State.pitchOk, Bool.and_eq_true, decide_eq_true_eq] at h
  omega

/-- Settles O44: the line is a quotient rounded up, and a line's target one rounded down (`neg_fdiv_neg_le_iff`). -/
theorem armedLineIsTheNext : Obligations.ArmedLineIsTheNext := by
  unfold Obligations.ArmedLineIsTheNext
  intro s n c h x j
  obtain ⟨hn, hd⟩ := pitchOk_pos s h
  have hle : s.lineAbove n c ≤ j ↔ _ := neg_fdiv_neg_le_iff hn hd (c - s.get48 Reg.TRG_ORIGIN_LO - s.offsetOf n) j
  rw [hle]
  simp only [x]
  omega

end Sys2Proof.Machine
end

section
/-! The position inputs (R95, R99 to R105): what a counted step, a refused one, a load and a reported fault change. -/

namespace Sys2Proof.Machine

/-! ### 48-bit counts (R118) -/

theorem signed_range (v : Nat) : -(2 ^ 47 : Int) ≤ signed 48 v ∧ signed 48 v < 2 ^ 47 := by
  unfold signed
  split <;> omega

/-- A value of 48 bits is its own two's complement. -/
theorem signed_unsignedOf {x : Int} (h : -(2 ^ 47 : Int) ≤ x ∧ x < 2 ^ 47) : signed 48 (unsignedOf 48 x) = x := by
  unfold signed unsignedOf
  split <;> omega

/-- The copies of bit 47 in the upper half change no value. -/
theorem signed_extended {x : Int} (h : -(2 ^ 47 : Int) ≤ x ∧ x < 2 ^ 47) : signed 48 (unsignedOf 64 x) = x := by
  unfold signed unsignedOf
  split <;> omega

variable (s : State)

theorem get48_set48 (a : Nat) (x : Int) : (s.set48 a x).get48 a = signed 48 (unsignedOf 48 x) := by
  rw [State.get48, State.set48, get64_set64 s a _ (unsignedOf_lt 64 _), signed_extended (signed_range _)]

theorem State.Keeps.get48 {u v : State} {P : List Part} {r : Nat → Bool} (h : u.Keeps P r v) {a : Nat} (ha : r a = false) (hb : r (a + 4) = false) :
    v.get48 a = u.get48 a := by
  rw [State.get48, State.get48, State.get64, State.get64, h.num ha, h.num hb]

/-! ### Inputs -/

@[simp] theorem posIn_setPosIn_self (k : Nat) (p : PosIn) : (s.setPosIn k p).posIn k = p := Store.get_set_self posIn0 k p s.pos

theorem setPosIn_keeps (k : Nat) (p : PosIn) (P : List Part) (r : Nat → Bool) (h : Part.pos ∈ P) : s.Keeps P r (s.setPosIn k p) :=
  .of_regs r rfl fun q _ hq => by cases q <;> first | rfl | exact absurd h hq

/-- A frame that leaves the position inputs leaves each of them. -/
theorem State.Keeps.posIn {u v : State} {P : List Part} {r : Nat → Bool} (h : u.Keeps P r v) (hp : Part.pos ∉ P) (k : Nat) :
    v.posIn k = u.posIn k :=
  congrArg (Store.get posIn0 k) (h.1 .pos (by simp) hp)

theorem posEvent_keeps (k n : Nat) (P : List Part) (r : Nat → Bool) (h : Part.evrQ ∈ P) (h' : r Reg.POS_EVT = true) :
    s.Keeps P r (s.posEvent k n) :=
  .ite (event_keeps s _ _ _ _ P r h h') (.refl ..)

/-! ### Faults that are counted and recorded (R95, R98, R101) -/

/-- The registers that a fault counted at `c` uses. -/
def faultReg (c a : Nat) : Bool := ledgerReg a || theRegs [c, Reg.POS_EVT] a

/-- The registers of an input lie apart from the ledger's, the trigger generator's and the events'. -/
theorem inputRegs_apart {a : Nat} (h : 0x50100 ≤ a ∧ a < 0x50400) : ledgerReg a = false ∧ trigReg a = false ∧ a ≠ Reg.POS_EVT := by
  have ho : a ≠ Reg.OHT_ATTN := by rw [Reg.OHT_ATTN]; omega
  have ht : a ≠ Reg.TWI_ATTN := by rw [Reg.TWI_ATTN]; omega
  refine ⟨?_, ?_, by rw [Reg.POS_EVT]; omega⟩
  · simp only [ledgerReg, Bool.or_eq_false_iff, decide_eq_false_iff_not, beq_eq_false_iff_ne]
    exact ⟨⟨by omega, ho⟩, ht⟩
  · simp only [trigReg, decide_eq_false_iff_not]
    omega

/-- The counters of illegal transitions and failed frames, whose faults leave the count. -/
theorem faultReg_count : ∀ k < 6, ∀ c ∈ [Reg.IN_QERR k, Reg.IN_FRAMEERR k, Reg.IN_TMOCNT k], (0x50100 ≤ c ∧ c < 0x50400) ∧
    faultReg c (Reg.IN_CNT_LO k) = false ∧ faultReg c (Reg.IN_CNT_LO k + 4) = false := by decide +kernel

/-- A fault adds one to its counter; its event and its Notice change the ledger and POS_EVT only. -/
theorem countedFault_spec (k n code c : Nat) (hc : 0x50100 ≤ c ∧ c < 0x50400) :
    let v := ((s.bump c).posEvent k n).notice code (sourceOf Reg.POS_CTRL) k
    s.Keeps ledgerParts (faultReg c) v ∧ v.num c = min 0xFFFFFFFF (s.num c + 1) := by
  have hevent : (s.bump c).Keeps ledgerParts (theRegs [Reg.POS_EVT]) ((s.bump c).posEvent k n) :=
    posEvent_keeps _ k n _ _ (by simp [ledgerParts]) (by simp [theRegs])
  have hnotice := notice_ledger ((s.bump c).posEvent k n) code (sourceOf Reg.POS_CTRL) k
  obtain ⟨hl, -, he⟩ := inputRegs_apart hc
  refine ⟨((bump_keeps s c _ _ (by simp [faultReg, theRegs])).trans (hevent.mono (fun _ h => h) ?_)).trans (hnotice.mono (fun _ h => h) ?_), ?_⟩
  · intro a ha
    simp only [faultReg, Bool.or_eq_false_iff, theRegs_eq_false, List.mem_cons] at ha ⊢
    tauto
  · intro a ha
    exact (Bool.or_eq_false_iff.mp ha).1
  · rw [hnotice.num hl, hevent.num (by simpa [theRegs] using he), num_bump_self]

/-- A failed frame counts, and leaves the count of positions (R98). -/
theorem frameFails_spec (k c : Nat) (hk : k < 6) (hc : c = Reg.IN_FRAMEERR k ∨ c = Reg.IN_TMOCNT k) : let v := s.frameFails k c
    v.get48 (Reg.IN_CNT_LO k) = s.get48 (Reg.IN_CNT_LO k) ∧ v.num c = min 0xFFFFFFFF (s.num c + 1) ∧
      v.posIn k = { s.posIn k with fails := (s.posIn k).fails + 1 } := by
  obtain ⟨hr, h0, h4⟩ := faultReg_count k hk c (by rcases hc with rfl | rfl <;> simp)
  let x := s.setPosIn k { s.posIn k with fails := (s.posIn k).fails + 1 }
  obtain ⟨hkeep, hnum⟩ := countedFault_spec x k 5 0x0204 c hr
  have hbreach (y : State) (b : Bool) : y.Keeps [.err, .slots] noReg (if b = true then y.breach 4 k none else y) :=
    .ite (breach_keeps y 4 k none) (.refl ..)
  refine ⟨((hbreach _ _).get48 rfl rfl).trans (hkeep.get48 h0 h4), ((hbreach _ _).num rfl).trans hnum, ?_⟩
  exact ((hbreach _ _).posIn (by simp) k).trans ((hkeep.posIn (by simp [ledgerParts]) k).trans (posIn_setPosIn_self s k _))

/-! ### Loads (R102) -/

/-- The count is now `c`, and stands at no limit. -/
def State.setCount (s : State) (k : Nat) (c : Int) : State :=
  ((s.set48 (Reg.IN_CNT_LO k) c).setFld (Reg.IN_STATUS k) Fld.IN_STATUS_SATHI 0).setFld (Reg.IN_STATUS k) Fld.IN_STATUS_SATLO 0

theorem setCount_keeps (k : Nat) (c : Int) :
    s.Keeps [] (theRegs [Reg.IN_CNT_LO k, Reg.IN_CNT_LO k + 4, Reg.IN_STATUS k]) (s.setCount k c) :=
  ((set48_keeps s _ _ _ _ (by simp [theRegs]) (by simp [theRegs])).trans (setFld_keeps _ _ _ _ _ _ (by simp [theRegs]))).trans
    (setFld_keeps _ _ _ _ _ _ (by simp [theRegs]))

theorem cnt_ne_status (k : Nat) : Reg.IN_CNT_LO k ≠ Reg.IN_STATUS k ∧ Reg.IN_CNT_LO k + 4 ≠ Reg.IN_STATUS k := by
  rw [Reg.IN_CNT_LO, Reg.IN_STATUS]
  omega

theorem setCount_count (k : Nat) (c : Int) : (s.setCount k c).get48 (Reg.IN_CNT_LO k) = signed 48 (unsignedOf 48 c) := by
  have hf (y : State) (f : Bits) : (y.setFld (Reg.IN_STATUS k) f 0).get48 (Reg.IN_CNT_LO k) = y.get48 (Reg.IN_CNT_LO k) :=
    (setFld_keeps y _ _ _ [] (theRegs [Reg.IN_STATUS k]) (by simp [theRegs])).get48
      (by simpa [theRegs] using (cnt_ne_status k).1) (by simpa [theRegs] using (cnt_ne_status k).2)
  rw [State.setCount, hf, hf, get48_set48]

/-- A count between two values of a pair is stored as it is. -/
theorem setCount_between (k b c : Nat) {x : Int} (h1 : s.get48 b ≤ x) (h2 : x ≤ s.get48 c) : (s.setCount k x).get48 (Reg.IN_CNT_LO k) = x := by
  rw [setCount_count, signed_unsignedOf ⟨(signed_range _).1.trans h1, h2.trans_lt (signed_range _).2⟩]

/-- SATCNT is none of the registers of the count. -/
theorem satcnt_apart (k : Nat) : theRegs [Reg.IN_CNT_LO k, Reg.IN_CNT_LO k + 4, Reg.IN_STATUS k] (Reg.IN_SATCNT k) = false := by
  rw [theRegs_eq_false, Reg.IN_SATCNT, Reg.IN_STATUS, Reg.IN_CNT_LO]
  simp only [List.mem_cons, List.not_mem_nil, or_false]
  omega

/-- The history behind SPEED is lost; the other flags of IN_STATUS stay. -/
theorem clearSpeed_spec (k : Nat) : let v := s.clearSpeed k
    s.Keeps [.pos] (theRegs [Reg.IN_SPEED k, Reg.IN_STATUS k]) v ∧ v.num (Reg.IN_SPEED k) = 0 ∧
      v.flag (Reg.IN_STATUS k) Fld.IN_STATUS_SPDVALID = false ∧ v.posIn k = { s.posIn k with hist := [], lastStep := none } ∧
      ∀ f, Bits.Apart f Fld.IN_STATUS_SPDVALID → v.flag (Reg.IN_STATUS k) f = s.flag (Reg.IN_STATUS k) f := by
  let x := s.setPosIn k { s.posIn k with hist := [], lastStep := none }
  have hne : Reg.IN_SPEED k ≠ Reg.IN_STATUS k := by rw [Reg.IN_SPEED, Reg.IN_STATUS]; omega
  refine ⟨((setPosIn_keeps s k _ _ _ (by simp)).trans (setNum_keeps x _ _ _ _ (by simp [theRegs]))).trans
    (setFld_keeps _ _ _ _ _ _ (by simp [theRegs])), ?_, flag_setFld_zero _ _ _ (by decide), posIn_setPosIn_self s k _, fun f hf => ?_⟩
  · exact (congrArg BitVec.toNat (reg_setFld_ne _ hne _ _)).trans (num_setNum_self x _ 0)
  · have e := fld_setFld_apart (x.setNum (Reg.IN_SPEED k) 0) (Reg.IN_STATUS k) Fld.IN_STATUS_SPDVALID f 0 (by decide) hf
    rw [fld_setNum_ne _ hne.symm] at e
    exact congrArg (fun n => decide (n ≠ 0)) e

/-- A load sets the count within its limits and clears SPEED; the position that a serial port has seen stays. -/
theorem loadCount_spec (k : Nat) (hk : k < 6) (c : Int) : let v := s.loadCount k c
    v.get48 (Reg.IN_CNT_LO k) = signed 48 (unsignedOf 48 (min (s.get48 (Reg.IN_SOFTHI_LO k)) (max (s.get48 (Reg.IN_SOFTLO_LO k)) c))) ∧
      v.num (Reg.IN_SPEED k) = 0 ∧ v.posIn k = { s.posIn k with hist := [], lastStep := none } := by
  let x := s.setCount k (min (s.get48 (Reg.IN_SOFTHI_LO k)) (max (s.get48 (Reg.IN_SOFTLO_LO k)) c))
  obtain ⟨hclear, hspeed, -, hpos, -⟩ := clearSpeed_spec x k
  have harm : (x.clearSpeed k).Keeps trigParts trigReg (s.loadCount k c) := .ite (armCameras_trig _) (.refl ..)
  have hcnt (i : Nat) (hi : i < 0x20) : trigReg (Reg.IN_CNT_LO k + i) = false := (inputRegs_apart (by rw [Reg.IN_CNT_LO]; omega)).2.1
  have hother (i : Nat) (hi : i = 0 ∨ i = 4) : theRegs [Reg.IN_SPEED k, Reg.IN_STATUS k] (Reg.IN_CNT_LO k + i) = false := by
    rw [theRegs_eq_false, Reg.IN_CNT_LO, Reg.IN_SPEED, Reg.IN_STATUS]
    simp only [List.mem_cons, List.not_mem_nil, or_false]
    omega
  refine ⟨?_, (harm.num (inputRegs_apart (by rw [Reg.IN_SPEED]; omega)).2.1).trans hspeed, ?_⟩
  · exact (harm.get48 (hcnt 0 (by omega)) (hcnt 4 (by omega))).trans ((hclear.get48 (hother 0 (by omega)) (hother 4 (by omega))).trans (setCount_count s k _))
  · exact (harm.posIn (by simp [trigParts]) k).trans (hpos.trans (by rw [(setCount_keeps s k _).posIn (by simp) k]))

/-! ### Counted and refused steps (R100, R103 to R105) -/

/-- Steps that are refused at a limit (R100). -/
def State.refuseSteps (s : State) (k : Nat) (low : Bool) (n : Nat) : State :=
  let s := (s.bumpBy (Reg.IN_SATCNT k) n).setFld (Reg.IN_STATUS k) (if low then Fld.IN_STATUS_SATLO else Fld.IN_STATUS_SATHI) 1
  if s.isSource k then (s.posEvent k 3).notice 0x0203 (sourceOf Reg.POS_CTRL) k else s

/-- Steps that are counted, and what they trigger (R103 to R105, R117). -/
def State.followSteps (s : State) (k : Nat) (prev : Int) (low : Bool) (n : Nat) : State :=
  let s := s.stepSpeed k low n
  if s.isSource k then s.stepTriggers prev (!low) else s

/-- What `d` steps make of an input: the count, the steps refused, the steps counted. -/
theorem countSteps_eq (k : Nat) (d : Int) :
    let c := s.get48 (Reg.IN_CNT_LO k)
    let new := min (s.get48 (Reg.IN_SOFTHI_LO k)) (max (s.get48 (Reg.IN_SOFTLO_LO k)) (c + d))
    let n := (c + d - new).natAbs
    let x := if new = c then s else s.setCount k new
    let y := if n = 0 then x else x.refuseSteps k (decide (d < 0)) n
    s.countSteps k d = if new = c then y else y.followSteps k c (decide (d < 0)) (new - c).natAbs := rfl

/-- The registers that counted steps use beside the count. -/
def followReg (k a : Nat) : Bool := trigReg a || theRegs [Reg.IN_STATUS k, Reg.IN_SPEED k, Reg.IN_REVCNT k, Reg.POS_EVT] a

/-- `v` follows `u` in counted steps: nothing of input `k` changes but its speed, its reversals and its history. -/
def State.Follows (u : State) (k : Nat) (v : State) : Prop :=
  u.Keeps loadParts (followReg k) v ∧ (v.posIn k).prevPos = (u.posIn k).prevPos ∧
    ∀ f, Bits.Apart f Fld.IN_STATUS_SPDVALID → v.flag (Reg.IN_STATUS k) f = u.flag (Reg.IN_STATUS k) f

theorem State.Follows.refl (u : State) (k : Nat) : u.Follows k u := ⟨.refl .., rfl, fun _ _ => rfl⟩

theorem State.Follows.trans {u v w : State} {k : Nat} (h : u.Follows k v) (h' : v.Follows k w) : u.Follows k w := by
  obtain ⟨hk, hp, hf⟩ := h
  obtain ⟨hk', hp', hf'⟩ := h'
  exact ⟨hk.trans hk', hp'.trans hp, fun f ha => (hf' f ha).trans (hf f ha)⟩

/-- A change that leaves the inputs and IN_STATUS follows. -/
theorem State.Keeps.follows {u v : State} {P : List Part} {r : Nat → Bool} {k : Nat} (h : u.Keeps P r v) (hp : ∀ p ∈ P, p ∈ trigParts)
    (hr : ∀ a, followReg k a = false → r a = false) (hs : r (Reg.IN_STATUS k) = false) : u.Follows k v :=
  ⟨h.mono (fun p hm => List.mem_cons_of_mem _ (hp p hm)) hr,
    congrArg PosIn.prevPos (h.posIn (fun hm => absurd (hp _ hm) (by simp [trigParts])) k), fun f _ => h.flag hs f⟩

theorem followReg_of_mem {k a : Nat} {l : List Nat} (hl : ∀ x ∈ l, x ∈ [Reg.IN_STATUS k, Reg.IN_SPEED k, Reg.IN_REVCNT k, Reg.POS_EVT])
    (h : followReg k a = false) : theRegs l a = false := by
  obtain ⟨-, h⟩ := Bool.or_eq_false_iff.mp h
  rw [theRegs_eq_false] at h ⊢
  exact fun hm => h (hl a hm)

theorem clearSpeed_follows (k : Nat) : s.Follows k (s.clearSpeed k) := by
  obtain ⟨hkeep, -, -, hpos, hflag⟩ := clearSpeed_spec s k
  exact ⟨hkeep.mono (by simp [loadParts]) fun a => followReg_of_mem (by simp), by rw [hpos], hflag⟩

/-- A step against the last one is a reversal, which loses the history behind SPEED (R103). -/
theorem reversal_follows (k : Nat) : s.Follows k (((s.bump (Reg.IN_REVCNT k)).posEvent k 0).clearSpeed k) := by
  have hs : theRegs [Reg.IN_REVCNT k, Reg.POS_EVT] (Reg.IN_STATUS k) = false := by
    rw [theRegs_eq_false, Reg.IN_REVCNT, Reg.POS_EVT, Reg.IN_STATUS]
    simp only [List.mem_cons, List.not_mem_nil, or_false]
    omega
  have h : s.Keeps [.evrQ] (theRegs [Reg.IN_REVCNT k, Reg.POS_EVT]) ((s.bump (Reg.IN_REVCNT k)).posEvent k 0) :=
    (bump_keeps s _ _ _ (by simp [theRegs])).trans (posEvent_keeps _ k 0 _ _ (by simp) (by simp [theRegs]))
  exact (h.follows (by simp [trigParts]) (fun a => followReg_of_mem (by simp)) hs).trans (clearSpeed_follows _ k)

/-- The new history of an input; the position that a serial port has seen stays. -/
theorem setPosIn_follows (k : Nat) (p : PosIn) (h : p.prevPos = (s.posIn k).prevPos) : s.Follows k (s.setPosIn k p) :=
  ⟨setPosIn_keeps s k p _ _ (by simp [loadParts]), by rw [posIn_setPosIn_self, h], fun _ _ => rfl⟩

/-- SPEED is shown (R104). -/
theorem showSpeed_follows (k n : Nat) : s.Follows k ((s.setNum (Reg.IN_SPEED k) n).setFld (Reg.IN_STATUS k) Fld.IN_STATUS_SPDVALID 1) := by
  have hne : Reg.IN_STATUS k ≠ Reg.IN_SPEED k := by rw [Reg.IN_SPEED, Reg.IN_STATUS]; omega
  refine ⟨(setNum_keeps s _ _ _ _ (by simp [followReg, theRegs])).trans (setFld_keeps _ _ _ _ _ _ (by simp [followReg, theRegs])), rfl, fun f hf => ?_⟩
  have e := fld_setFld_apart (s.setNum (Reg.IN_SPEED k) n) (Reg.IN_STATUS k) Fld.IN_STATUS_SPDVALID f 1 (by decide) hf
  rw [fld_setNum_ne _ hne] at e
  exact congrArg (fun n => decide (n ≠ 0)) e

/-- Counted steps show their direction and their time (R103 to R105). -/
theorem stepSpeed_spec (k : Nat) (low : Bool) (n : Nat) : let v := s.stepSpeed k low n
    (s.setFld (Reg.IN_STATUS k) Fld.IN_STATUS_DIR (b2n low)).Follows k v ∧ (v.posIn k).moved = some s.now := by
  let x := s.setFld (Reg.IN_STATUS k) Fld.IN_STATUS_DIR (b2n low)
  have hrev (rev : Bool) : x.Follows k (if rev = true then ((x.bump (Reg.IN_REVCNT k)).posEvent k 0).clearSpeed k else x) := by
    cases rev
    · exact .refl x k
    · exact reversal_follows x k
  unfold State.stepSpeed
  extract_lets before rev z p hist w v
  have hz : x.Follows k z := hrev rev
  have hw : x.Follows k w := hz.trans (setPosIn_follows z k _ rfl)
  have hnow : z.now = s.now := hz.1.1 .now (by simp) (by simp [loadParts, trigParts])
  have hmoved : (w.posIn k).moved = some s.now := by rw [posIn_setPosIn_self, hnow]
  simp only [v]
  split
  · exact ⟨hw, hmoved⟩
  · exact ⟨hw.trans (showSpeed_follows w k _), hmoved⟩

/-- The registers of the count and of SATCNT lie apart from those that counted steps use. -/
theorem followReg_count : ∀ k < 6, followReg k (Reg.IN_CNT_LO k) = false ∧ followReg k (Reg.IN_CNT_LO k + 4) = false ∧
    followReg k (Reg.IN_SATCNT k) = false := by decide +kernel

/-- The flag of a limit (R119). -/
def satField (low : Bool) : Bits := if low then Fld.IN_STATUS_SATLO else Fld.IN_STATUS_SATHI

/-- What follows a counted step leaves the count and the flags of the limits; DIR shows the step's sense. -/
theorem followSteps_spec (k : Nat) (hk : k < 6) (prev : Int) (low : Bool) (n : Nat) : let v := s.followSteps k prev low n
    v.get48 (Reg.IN_CNT_LO k) = s.get48 (Reg.IN_CNT_LO k) ∧ v.num (Reg.IN_SATCNT k) = s.num (Reg.IN_SATCNT k) ∧
      (v.posIn k).prevPos = (s.posIn k).prevPos ∧ (v.posIn k).moved = some s.now ∧
      v.flag (Reg.IN_STATUS k) Fld.IN_STATUS_DIR = low ∧ ∀ b, v.flag (Reg.IN_STATUS k) (satField b) = s.flag (Reg.IN_STATUS k) (satField b) := by
  let x := s.setFld (Reg.IN_STATUS k) Fld.IN_STATUS_DIR (b2n low)
  have hx : s.Keeps [] (theRegs [Reg.IN_STATUS k]) x := setFld_keeps s _ _ _ _ _ (by simp [theRegs])
  obtain ⟨hsteps, hmoved⟩ := stepSpeed_spec s k low n
  have htrig : (s.stepSpeed k low n).Keeps trigParts trigReg (s.followSteps k prev low n) := .ite (stepTriggers_trig _ _ _) (.refl ..)
  obtain ⟨hkeep, hprev, hflag⟩ := hsteps.trans
    (htrig.follows (fun _ h => h) (fun a ha => (Bool.or_eq_false_iff.mp ha).1) (inputRegs_apart (by rw [Reg.IN_STATUS]; omega)).2.1)
  obtain ⟨h0, h4, hs⟩ := followReg_count k hk
  have hout {a : Nat} (ha : a ≠ Reg.IN_STATUS k) : theRegs [Reg.IN_STATUS k] a = false := by simpa [theRegs] using ha
  refine ⟨(hkeep.get48 h0 h4).trans (hx.get48 (hout (cnt_ne_status k).1) (hout (cnt_ne_status k).2)),
    (hkeep.num hs).trans (hx.num (hout (by rw [Reg.IN_SATCNT, Reg.IN_STATUS]; omega))),
    hprev.trans (congrArg PosIn.prevPos (hx.posIn (by simp) k)), ?_, ?_, fun b => ?_⟩
  · rw [htrig.posIn (by simp [trigParts])]
    exact hmoved
  · rw [hflag _ (.inl (by decide)), flag_setFld_self _ _ _ _ (by decide)]
    cases low <;> rfl
  · rw [hflag _ (.inr (by cases b <;> decide)), State.flag, State.flag,
      fld_setFld_apart s _ Fld.IN_STATUS_DIR _ _ (by decide) (.inr (by cases b <;> decide))]

/-! ### The count -/

/-- The registers that refused steps use. -/
def refuseReg (k a : Nat) : Bool := ledgerReg a || theRegs [Reg.IN_SATCNT k, Reg.IN_STATUS k, Reg.POS_EVT] a

theorem refuseReg_count : ∀ k < 6, refuseReg k (Reg.IN_CNT_LO k) = false ∧ refuseReg k (Reg.IN_CNT_LO k + 4) = false := by decide +kernel

/-- Refused steps add to SATCNT and show their limit. -/
theorem refuseSteps_spec (k : Nat) (hk : k < 6) (low : Bool) (n : Nat) : let v := s.refuseSteps k low n
    s.Keeps ledgerParts (refuseReg k) v ∧ v.num (Reg.IN_SATCNT k) = min 0xFFFFFFFF (s.num (Reg.IN_SATCNT k) + n) ∧
      v.flag (Reg.IN_STATUS k) (satField low) = true := by
  let x := (s.bumpBy (Reg.IN_SATCNT k) n).setFld (Reg.IN_STATUS k) (satField low) 1
  have hx : s.Keeps ledgerParts (refuseReg k) x :=
    (bumpBy_keeps s _ _ _ _ (by simp [refuseReg, theRegs])).trans (setFld_keeps _ _ _ _ _ _ (by simp [refuseReg, theRegs]))
  have hrep : x.Keeps ledgerParts (fun a => ledgerReg a || theRegs [Reg.POS_EVT] a) (s.refuseSteps k low n) := by
    refine .ite (.trans (posEvent_keeps x k 3 _ _ (by simp [ledgerParts]) (by simp [theRegs])) ?_) (.refl ..)
    exact notice_keeps _ _ _ _ (fun _ h => h) fun a ha => (Bool.or_eq_false_iff.mp ha).1
  have hout {a : Nat} (h : 0x50100 ≤ a ∧ a < 0x50400) : (ledgerReg a || theRegs [Reg.POS_EVT] a) = false := by
    obtain ⟨hl, -, he⟩ := inputRegs_apart h
    simpa [hl, theRegs] using he
  refine ⟨hx.trans (hrep.mono (fun _ h => h) fun a ha => ?_), ?_, ?_⟩
  · simp only [refuseReg, Bool.or_eq_false_iff, theRegs_eq_false, List.mem_cons] at ha ⊢
    tauto
  · rw [hrep.num (hout (by rw [Reg.IN_SATCNT]; omega))]
    exact (congrArg BitVec.toNat (reg_setFld_ne _ (by rw [Reg.IN_SATCNT, Reg.IN_STATUS]; omega) _ _)).trans (num_bumpBy_self s _ n)
  · rw [hrep.flag (hout (by rw [Reg.IN_STATUS]; omega))]
    exact flag_setFld_true _ _ _ (by cases low <;> decide) (by cases low <;> decide)

section
variable (k : Nat) (hk : k < 6) (d : Int)

/-- Steps that do not pass a limit are counted, and none is refused. -/
theorem countSteps_within (hlo : s.get48 (Reg.IN_SOFTLO_LO k) ≤ s.get48 (Reg.IN_CNT_LO k) + d)
    (hhi : s.get48 (Reg.IN_CNT_LO k) + d ≤ s.get48 (Reg.IN_SOFTHI_LO k)) : let c := s.get48 (Reg.IN_CNT_LO k)
    s.countSteps k d = if d = 0 then s else (s.setCount k (c + d)).followSteps k c (decide (d < 0)) d.natAbs := by
  have h : min (s.get48 (Reg.IN_SOFTHI_LO k)) (max (s.get48 (Reg.IN_SOFTLO_LO k)) (s.get48 (Reg.IN_CNT_LO k) + d)) = s.get48 (Reg.IN_CNT_LO k) + d := by
    omega
  rw [countSteps_eq]
  simp only [h, sub_self, Int.natAbs_zero, if_true, add_eq_left, add_sub_cancel_left]
  split <;> rfl

include hk

/-- After steps that do not pass a limit the count is their sum (R95, R99, R103). -/
theorem countSteps_counts (hlo : s.get48 (Reg.IN_SOFTLO_LO k) ≤ s.get48 (Reg.IN_CNT_LO k) + d)
    (hhi : s.get48 (Reg.IN_CNT_LO k) + d ≤ s.get48 (Reg.IN_SOFTHI_LO k)) : let v := s.countSteps k d
    v.get48 (Reg.IN_CNT_LO k) = s.get48 (Reg.IN_CNT_LO k) + d ∧ v.num (Reg.IN_SATCNT k) = s.num (Reg.IN_SATCNT k) ∧
      (v.posIn k).prevPos = (s.posIn k).prevPos ∧
      (d ≠ 0 → v.flag (Reg.IN_STATUS k) Fld.IN_STATUS_DIR = decide (d < 0) ∧ (v.posIn k).moved = some s.now) := by
  rw [countSteps_within s k d hlo hhi]
  by_cases hd : d = 0
  · rw [if_pos hd, hd, add_zero]
    exact ⟨rfl, rfl, rfl, fun h => absurd rfl h⟩
  rw [if_neg hd]
  let x := s.setCount k (s.get48 (Reg.IN_CNT_LO k) + d)
  obtain ⟨hcount, hsat, hprev, hmoved, hdir, -⟩ := followSteps_spec x k hk (s.get48 (Reg.IN_CNT_LO k)) (decide (d < 0)) d.natAbs
  have hx := setCount_keeps s k (s.get48 (Reg.IN_CNT_LO k) + d)
  refine ⟨hcount.trans ?_, hsat.trans (hx.num (satcnt_apart k)), hprev.trans (congrArg PosIn.prevPos (hx.posIn (by simp) k)), fun _ => ⟨hdir, ?_⟩⟩
  · exact setCount_between s k _ _ hlo hhi
  · exact hmoved.trans (congrArg some (hx.1 .now (by simp) (by simp)))

/-- Steps that pass a limit stop at it: those beyond it are refused and counted in SATCNT (R100). -/
theorem countSteps_stops {new : Int} (hlo : s.get48 (Reg.IN_SOFTLO_LO k) ≤ s.get48 (Reg.IN_CNT_LO k))
    (hhi : s.get48 (Reg.IN_CNT_LO k) ≤ s.get48 (Reg.IN_SOFTHI_LO k))
    (hnew : min (s.get48 (Reg.IN_SOFTHI_LO k)) (max (s.get48 (Reg.IN_SOFTLO_LO k)) (s.get48 (Reg.IN_CNT_LO k) + d)) = new)
    (hne : s.get48 (Reg.IN_CNT_LO k) + d ≠ new) : let v := s.countSteps k d
    v.get48 (Reg.IN_CNT_LO k) = new ∧
      v.num (Reg.IN_SATCNT k) = min 0xFFFFFFFF (s.num (Reg.IN_SATCNT k) + (s.get48 (Reg.IN_CNT_LO k) + d - new).natAbs) ∧
      v.flag (Reg.IN_STATUS k) (satField (decide (d < 0))) = true := by
  let c := s.get48 (Reg.IN_CNT_LO k)
  let n := (c + d - new).natAbs
  let x := if new = c then s else s.setCount k new
  let y := x.refuseSteps k (decide (d < 0)) n
  have hn : n ≠ 0 := by simp only [n, c]; omega
  have hcount : x.get48 (Reg.IN_CNT_LO k) = new := by
    simp only [x]
    split
    · next e => exact e.symm
    · exact setCount_between s k (Reg.IN_SOFTLO_LO k) (Reg.IN_SOFTHI_LO k) (by omega) (by omega)
  have hx : s.Keeps [] (theRegs [Reg.IN_CNT_LO k, Reg.IN_CNT_LO k + 4, Reg.IN_STATUS k]) x := .ite (.refl ..) (setCount_keeps s k new)
  obtain ⟨hy, hsat, hflag⟩ := refuseSteps_spec x k hk (decide (d < 0)) n
  obtain ⟨h0, h4⟩ := refuseReg_count k hk
  have hycount : y.get48 (Reg.IN_CNT_LO k) = new := (hy.get48 h0 h4).trans hcount
  have hysat : y.num (Reg.IN_SATCNT k) = min 0xFFFFFFFF (s.num (Reg.IN_SATCNT k) + n) := by
    rw [hsat, hx.num (satcnt_apart k)]
  have e : s.countSteps k d = if new = c then y else y.followSteps k c (decide (d < 0)) (new - c).natAbs := by
    rw [countSteps_eq]
    simp only [hnew]
    rw [if_neg hn]
  rw [e]
  split
  · exact ⟨hycount, hysat, hflag⟩
  · obtain ⟨h1, h2, -, -, -, h3⟩ := followSteps_spec y k hk c (decide (d < 0)) (new - c).natAbs
    exact ⟨h1.trans hycount, h2.trans hysat, (h3 _).trans hflag⟩

/-- `v` is where `n` steps beyond a limit of input `k` have been refused. -/
def State.Saturates (s : State) (k : Nat) (low : Bool) (n : Nat) (v : State) : Prop :=
  v.get48 (Reg.IN_CNT_LO k) = (if low then s.get48 (Reg.IN_SOFTLO_LO k) else s.get48 (Reg.IN_SOFTHI_LO k)) ∧
    v.num (Reg.IN_SATCNT k) = min 0xFFFFFFFF (s.num (Reg.IN_SATCNT k) + n) ∧ v.flag (Reg.IN_STATUS k) (satField low) = true

/-- Steps below the lower limit (R100). -/
theorem countSteps_low (hlo : s.get48 (Reg.IN_SOFTLO_LO k) ≤ s.get48 (Reg.IN_CNT_LO k)) (hhi : s.get48 (Reg.IN_CNT_LO k) ≤ s.get48 (Reg.IN_SOFTHI_LO k))
    (h : s.get48 (Reg.IN_CNT_LO k) + d < s.get48 (Reg.IN_SOFTLO_LO k)) :
    s.Saturates k true (s.get48 (Reg.IN_SOFTLO_LO k) - (s.get48 (Reg.IN_CNT_LO k) + d)).natAbs (s.countSteps k d) := by
  have hstop := countSteps_stops s k hk d (new := s.get48 (Reg.IN_SOFTLO_LO k)) hlo hhi (by omega) (by omega)
  rwa [decide_eq_true (by omega : d < 0), ← Int.natAbs_neg, neg_sub] at hstop

/-- Steps above the upper limit (R100). -/
theorem countSteps_high (hlo : s.get48 (Reg.IN_SOFTLO_LO k) ≤ s.get48 (Reg.IN_CNT_LO k)) (hhi : s.get48 (Reg.IN_CNT_LO k) ≤ s.get48 (Reg.IN_SOFTHI_LO k))
    (h : s.get48 (Reg.IN_SOFTHI_LO k) < s.get48 (Reg.IN_CNT_LO k) + d) :
    s.Saturates k false (s.get48 (Reg.IN_CNT_LO k) + d - s.get48 (Reg.IN_SOFTHI_LO k)).natAbs (s.countSteps k d) := by
  have hstop := countSteps_stops s k hk d (new := s.get48 (Reg.IN_SOFTHI_LO k)) hlo hhi (by omega) (by omega)
  rwa [decide_eq_false (by omega : ¬ d < 0)] at hstop

end

/-! ### Z edges (R101, R102) -/

/-- A Z edge away from its expected count `e` is reported: both counts are shown, and it is counted (R101). -/
def State.reportIndex (s : State) (k : Nat) (e : Int) : State :=
  let s := (s.set48 (Reg.IN_IDXEXP_LO k) e).set48 (Reg.IN_IDXACT_LO k) (s.get48 (Reg.IN_CNT_LO k))
  ((s.bump (Reg.IN_IDXERR k)).posEvent k 1).notice 0x0202 (sourceOf Reg.POS_CTRL) k

/-- The registers of input `k` that a reported Z edge leaves, and those that the report shows. -/
theorem reportIndex_apart : ∀ k < 6,
    let shown := theRegs [Reg.IN_IDXEXP_LO k, Reg.IN_IDXEXP_LO k + 4, Reg.IN_IDXACT_LO k, Reg.IN_IDXACT_LO k + 4]
    (∀ a ∈ [Reg.IN_CNT_LO k, Reg.IN_CNT_LO k + 4, Reg.IN_SOFTLO_LO k, Reg.IN_SOFTLO_LO k + 4, Reg.IN_SOFTHI_LO k, Reg.IN_SOFTHI_LO k + 4, Reg.IN_CFG k],
      shown a = false ∧ faultReg (Reg.IN_IDXERR k) a = false) ∧
    shown (Reg.IN_IDXERR k) = false ∧
    faultReg (Reg.IN_IDXERR k) (Reg.IN_IDXACT_LO k) = false ∧ faultReg (Reg.IN_IDXERR k) (Reg.IN_IDXACT_LO k + 4) = false := by decide +kernel

theorem reportIndex_spec (k : Nat) (hk : k < 6) (e : Int) : let v := s.reportIndex k e
    (∀ a ∈ [Reg.IN_CNT_LO k, Reg.IN_SOFTLO_LO k, Reg.IN_SOFTHI_LO k], v.get48 a = s.get48 a) ∧ v.reg (Reg.IN_CFG k) = s.reg (Reg.IN_CFG k) ∧
      v.get48 (Reg.IN_IDXACT_LO k) = s.get48 (Reg.IN_CNT_LO k) ∧ v.num (Reg.IN_IDXERR k) = min 0xFFFFFFFF (s.num (Reg.IN_IDXERR k) + 1) := by
  let c := s.get48 (Reg.IN_CNT_LO k)
  let x := (s.set48 (Reg.IN_IDXEXP_LO k) e).set48 (Reg.IN_IDXACT_LO k) c
  have hx : s.Keeps [] (theRegs [Reg.IN_IDXEXP_LO k, Reg.IN_IDXEXP_LO k + 4, Reg.IN_IDXACT_LO k, Reg.IN_IDXACT_LO k + 4]) x :=
    (set48_keeps s _ _ _ _ (by simp [theRegs]) (by simp [theRegs])).trans (set48_keeps _ _ _ _ _ (by simp [theRegs]) (by simp [theRegs]))
  obtain ⟨hv, hnum⟩ := countedFault_spec x k 1 0x0202 (Reg.IN_IDXERR k) (by rw [Reg.IN_IDXERR]; omega)
  obtain ⟨hout, herr, ha, ha'⟩ := reportIndex_apart k hk
  have hreg (a : Nat) (h : a ∈ [Reg.IN_CNT_LO k, Reg.IN_CNT_LO k + 4, Reg.IN_SOFTLO_LO k, Reg.IN_SOFTLO_LO k + 4, Reg.IN_SOFTHI_LO k,
      Reg.IN_SOFTHI_LO k + 4, Reg.IN_CFG k]) : (s.reportIndex k e).reg a = s.reg a :=
    (hv.2 a (hout a h).2).trans (hx.2 a (hout a h).1)
  refine ⟨fun a h => ?_, hreg _ (by simp), ?_, hnum.trans (by rw [hx.num herr])⟩
  · have hl : (s.reportIndex k e).reg a = s.reg a ∧ (s.reportIndex k e).reg (a + 4) = s.reg (a + 4) := by
      simp only [List.mem_cons, List.not_mem_nil, or_false] at h
      rcases h with rfl | rfl | rfl <;> exact ⟨hreg _ (by simp), hreg _ (by simp)⟩
    simp only [State.get48, State.get64, State.num, hl]
  · exact (hv.get48 ha ha').trans ((get48_set48 _ _ _).trans (signed_unsignedOf (signed_range _)))

section
variable (k : Nat) (hk : k < 6)

theorem activeIndex_home (h : s.flag (Reg.IN_CFG k) Fld.IN_CFG_HOME = true) :
    s.activeIndex k = (s.setFld (Reg.IN_CFG k) Fld.IN_CFG_HOME 0).loadCount k (s.get48 (Reg.IN_IDXREF_LO k)) := if_pos h

theorem activeIndex_shows (h : s.flag (Reg.IN_CFG k) Fld.IN_CFG_HOME = false) (hp : s.num (Reg.IN_IDXPER k) = 0) :
    s.activeIndex k = s.set48 (Reg.IN_IDXACT_LO k) (s.get48 (Reg.IN_CNT_LO k)) :=
  (if_neg (ne_true_of_eq_false h)).trans (if_pos hp)

/-- The count is shown where no period is set, and stays (R101). -/
theorem set48_indexShown : let v := s.set48 (Reg.IN_IDXACT_LO k) (s.get48 (Reg.IN_CNT_LO k))
    v.get48 (Reg.IN_IDXACT_LO k) = s.get48 (Reg.IN_CNT_LO k) ∧ v.get48 (Reg.IN_CNT_LO k) = s.get48 (Reg.IN_CNT_LO k) ∧ v.err = s.err := by
  have hkeep (x : Int) : s.Keeps [] (theRegs [Reg.IN_IDXACT_LO k, Reg.IN_IDXACT_LO k + 4]) (s.set48 (Reg.IN_IDXACT_LO k) x) :=
    set48_keeps s _ _ _ _ (by simp [theRegs]) (by simp [theRegs])
  have hout (i : Nat) (hi : i < 8) : theRegs [Reg.IN_IDXACT_LO k, Reg.IN_IDXACT_LO k + 4] (Reg.IN_CNT_LO k + i) = false := by
    rw [theRegs_eq_false, Reg.IN_IDXACT_LO, Reg.IN_CNT_LO]
    simp only [List.mem_cons, List.not_mem_nil, or_false]
    omega
  exact ⟨(get48_set48 s _ _).trans (signed_unsignedOf (signed_range _)), (hkeep _).get48 (hout 0 (by omega)) (hout 4 (by omega)), rfl⟩

/-- A Z edge that is checked: nothing within the tolerance; beyond it a report, and under its policy a load of the expected count. -/
theorem activeIndex_checks (h : s.flag (Reg.IN_CFG k) Fld.IN_CFG_HOME = false) (hp : s.num (Reg.IN_IDXPER k) ≠ 0) :
    let e := s.expectedIndex k (s.get48 (Reg.IN_CNT_LO k))
    let x := s.reportIndex k e
    s.activeIndex k = if (s.get48 (Reg.IN_CNT_LO k) - e).natAbs ≤ s.fld (Reg.IN_IDXTOL k) Fld.IN_IDXTOL_TOL then s
      else if x.fld (Reg.IN_CFG k) Fld.IN_CFG_IDXPOL = 1 then x.loadCount k e
      else if x.fld (Reg.IN_CFG k) Fld.IN_CFG_IDXPOL = 2 then (x.posEvent k 2).loadCount k e else x :=
  (if_neg (ne_true_of_eq_false h)).trans (if_neg hp)

/-- The expected count as the spec writes it (R101). -/
theorem expectedIndex_eq (c : Int) : let ref := s.get48 (Reg.IN_IDXREF_LO k)
    let per : Int := s.num (Reg.IN_IDXPER k)
    s.expectedIndex k c = ref + per * ((2 * (c - ref) + per) / (2 * per)) := by
  rw [State.expectedIndex, Int.fdiv_eq_ediv_of_nonneg _ (by positivity)]

theorem loadReg_index : ∀ k < 6, loadReg k (Reg.IN_IDXERR k) = false ∧ loadReg k (Reg.IN_CFG k) = false := by decide +kernel

include hk

/-- The home clause of a Z edge (R101, R102). -/
theorem activeIndex_homes (h : s.flag (Reg.IN_CFG k) Fld.IN_CFG_HOME = true) : let v := s.activeIndex k
    v.get48 (Reg.IN_CNT_LO k) = signed 48 (unsignedOf 48 (min (s.get48 (Reg.IN_SOFTHI_LO k)) (max (s.get48 (Reg.IN_SOFTLO_LO k)) (s.get48 (Reg.IN_IDXREF_LO k))))) ∧
      v.flag (Reg.IN_CFG k) Fld.IN_CFG_HOME = false ∧ v.num (Reg.IN_SPEED k) = 0 ∧ v.num (Reg.IN_IDXERR k) = s.num (Reg.IN_IDXERR k) := by
  rw [activeIndex_home s k h]
  let x := s.setFld (Reg.IN_CFG k) Fld.IN_CFG_HOME 0
  have hx : s.Keeps [] (theRegs [Reg.IN_CFG k]) x := setFld_keeps s _ _ _ _ _ (by simp [theRegs])
  have hout {a : Nat} (ha : Reg.IN_CFG k < a) : theRegs [Reg.IN_CFG k] a = false := by simp [theRegs, ha.ne']
  have hpair {a : Nat} (ha : Reg.IN_CFG k < a) : x.get48 a = s.get48 a := hx.get48 (hout ha) (hout (by omega))
  obtain ⟨hcount, hspeed, -⟩ := loadCount_spec x k hk (s.get48 (Reg.IN_IDXREF_LO k))
  have hload := loadCount_load x k (s.get48 (Reg.IN_IDXREF_LO k))
  obtain ⟨herr, hcfg⟩ := loadReg_index k hk
  rw [hpair (by rw [Reg.IN_CFG, Reg.IN_SOFTHI_LO]; omega), hpair (by rw [Reg.IN_CFG, Reg.IN_SOFTLO_LO]; omega)] at hcount
  exact ⟨hcount, (hload.flag hcfg _).trans (flag_setFld_zero s _ _ (by decide)), hspeed,
    (hload.num herr).trans (hx.num (hout (by rw [Reg.IN_CFG, Reg.IN_IDXERR]; omega)))⟩

/-- The report clauses of a Z edge: it is reported alone, or with its count corrected (R101). -/
theorem activeIndex_reports (h : s.flag (Reg.IN_CFG k) Fld.IN_CFG_HOME = false) (hp : s.num (Reg.IN_IDXPER k) ≠ 0) :
    let c := s.get48 (Reg.IN_CNT_LO k)
    let e := s.expectedIndex k c
    let v := s.activeIndex k
    s.fld (Reg.IN_IDXTOL k) Fld.IN_IDXTOL_TOL < (c - e).natAbs →
    (s.fld (Reg.IN_CFG k) Fld.IN_CFG_IDXPOL = 0 → v.get48 (Reg.IN_CNT_LO k) = c ∧ v.get48 (Reg.IN_IDXACT_LO k) = c ∧
      v.num (Reg.IN_IDXERR k) = min 0xFFFFFFFF (s.num (Reg.IN_IDXERR k) + 1)) ∧
    (s.fld (Reg.IN_CFG k) Fld.IN_CFG_IDXPOL = 1 → s.get48 (Reg.IN_SOFTLO_LO k) ≤ e → e ≤ s.get48 (Reg.IN_SOFTHI_LO k) →
      v.get48 (Reg.IN_CNT_LO k) = e ∧ v.num (Reg.IN_IDXERR k) = min 0xFFFFFFFF (s.num (Reg.IN_IDXERR k) + 1)) := by
  intro c e v htol
  obtain ⟨hsame, hcfg, hact, herr⟩ := reportIndex_spec s k hk e
  have hpol : (s.reportIndex k e).fld (Reg.IN_CFG k) Fld.IN_CFG_IDXPOL = s.fld (Reg.IN_CFG k) Fld.IN_CFG_IDXPOL := by rw [State.fld, State.fld, hcfg]
  have hv := (activeIndex_checks s k h hp).trans (if_neg (Nat.not_le.mpr htol))
  rw [hpol] at hv
  refine ⟨fun h0 => ?_, fun h1 hlo hhi => ?_⟩
  · rw [h0] at hv
    have e0 : v = s.reportIndex k e := hv
    rw [e0]
    exact ⟨hsame _ (by simp), hact, herr⟩
  · rw [h1] at hv
    have e1 : v = (s.reportIndex k e).loadCount k e := hv
    obtain ⟨hcount, -, -⟩ := loadCount_spec (s.reportIndex k e) k hk e
    rw [hsame _ (by simp), hsame _ (by simp), max_eq_right hlo, min_eq_right hhi,
      signed_unsignedOf ⟨(signed_range _).1.trans hlo, hhi.trans_lt (signed_range _).2⟩] at hcount
    rw [e1]
    exact ⟨hcount, ((loadCount_load _ k e).num (loadReg_index k hk).1).trans herr⟩

end

end Sys2Proof.Machine
end

section
/-! The rows of the position inputs (R94 to R99, R101, R105), and what is decided when its time has come (R95, R117). -/

namespace Sys2Proof.Machine

variable (s : State)

/-! ### Edges of A and B (R95) -/

/-- `w` is an edge on A or B of input `k` that came less than 2 ns ago and is not yet decided. -/
def State.Undecided (s : State) (k : Nat) (onB : Bool) (w : EvrWait) : Prop :=
  ∃ level other at_, w.item = .edge k onB level other at_ ∧ s.now < at_ + 2000 ∧ at_ < s.now + 2000

theorem otherEdge_eq_none (k : Nat) (onB : Bool) : s.otherEdge k onB = none ↔ ∀ w ∈ s.evrQ, ¬ s.Undecided k (!onB) w := by
  rw [State.otherEdge, List.find?_eq_none]
  refine forall₂_congr fun w _ => not_congr ?_
  obtain ⟨due, item⟩ := w
  cases item with
  | edge j x level other at_ =>
    simp only [State.Undecided, EvrItem.edge.injEq, Bool.and_eq_true, decide_eq_true_eq, bne_iff_ne, decideTime, Bool.eq_not]
    constructor
    · rintro ⟨⟨rfl, hx⟩, h⟩
      exact ⟨level, other, at_, ⟨rfl, hx, rfl, rfl, rfl⟩, of_decide_eq_true h⟩
    · rintro ⟨_, _, _, ⟨rfl, hx, -, -, rfl⟩, h⟩
      exact ⟨⟨rfl, hx⟩, decide_eq_true h⟩
  | _ => simp [State.Undecided]

section
variable (k : Nat) (onB level other : Bool)

/-- An edge with no undecided one beside it is decided 2 ns later. -/
theorem oneEdge_routes (h : ∀ w ∈ s.evrQ, ¬ s.Undecided k (!onB) w) :
    s.oneEdge k onB level other 0 = s.route 2000 (.edge k onB level other s.now) := by
  rw [State.oneEdge, if_pos rfl, (otherEdge_eq_none s k onB).mpr h]
  rfl

/-- A later edge of a pair is decided 2 ns after it comes. -/
theorem oneEdge_later {gap : Nat} (h : gap ≠ 0) : s.oneEdge k onB level other gap = s.route (gap + 2000) (.edge k onB level other (s.now + gap)) := by
  rw [State.oneEdge, if_neg h]
  rfl

/-- Two edges far enough apart are decided one after the other. -/
theorem oneEdge_twice (h : ∀ w ∈ s.evrQ, ¬ s.Undecided k (!onB) w) (onB' level' other' : Bool) {gap : Nat} (hgap : gap ≠ 0) :
    (s.oneEdge k onB level other 0).oneEdge k onB' level' other' gap =
      (s.route 2000 (.edge k onB level other s.now)).route (gap + 2000) (.edge k onB' level' other' (s.now + gap)) := by
  rw [oneEdge_routes s k onB level other h, oneEdge_later _ k onB' level' other' hgap]
  rfl

/-- An edge beside an undecided one makes both an illegal transition. -/
theorem oneEdge_illegal {w : EvrWait} (hw : w ∈ s.evrQ) (h : s.Undecided k (!onB) w) :
    ∃ x, s.oneEdge k onB level other 0 = ({ s with evrQ := s.evrQ.erase x } : State).illegalEdges k := by
  have hne : s.otherEdge k onB ≠ none := fun hn => (otherEdge_eq_none s k onB).mp hn w hw h
  obtain ⟨x, hx⟩ := Option.ne_none_iff_exists'.mp hne
  exact ⟨x, by rw [State.oneEdge, if_pos rfl, hx]⟩

end

section
variable (k : Nat)

/-- The levels of A and B of input `k` are noted. -/
def State.moved (s : State) (k : Nat) (a b : Bool) : State := s.setPosIn k { s.posIn k with a := a, b := b }

@[simp] theorem inputEnabled_setPosIn (j : Nat) (p : PosIn) : (s.setPosIn j p).inputEnabled k = s.inputEnabled k := rfl

theorem quadrature_off (a b : Bool) (gap : Nat) (bFirst : Bool) (h : s.inputEnabled k = false ∨ s.mode.powered = false) :
    s.quadrature k a b gap bFirst = s.moved k a b := by
  have hoff : (s.mode.powered && s.inputEnabled k) = false := by rcases h with h | h <;> simp [h]
  exact if_pos (congrArg (!·) hoff)

variable (hp : s.mode.powered = true) (he : s.inputEnabled k = true) (gap : Nat) (bFirst : Bool)
include hp he

theorem quadrature_onA : let q := s.posIn k
    s.quadrature k (!q.a) q.b gap bFirst = (s.moved k (!q.a) q.b).oneEdge k false (!q.a) q.b 0 := by
  simp [State.quadrature, State.moved, hp, he]

theorem quadrature_onB : let q := s.posIn k
    s.quadrature k q.a (!q.b) gap bFirst = (s.moved k q.a (!q.b)).oneEdge k true (!q.b) q.a 0 := by
  simp [State.quadrature, State.moved, hp, he]

/-- Edges of both signals within 2 ns are an illegal transition. -/
theorem quadrature_close (h : gap < 2000) : let q := s.posIn k
    s.quadrature k (!q.a) (!q.b) gap bFirst = (s.moved k (!q.a) (!q.b)).illegalEdges k := by
  simp [State.quadrature, State.moved, hp, he, h, Nat.not_le.mpr h]

/-- Edges of both signals 20 ns apart are counted one after the other. -/
theorem quadrature_far (h : 20000 ≤ gap) : let q := s.posIn k
    let x := s.moved k (!q.a) (!q.b)
    s.quadrature k (!q.a) (!q.b) gap bFirst = if bFirst then (x.oneEdge k true (!q.b) q.a 0).oneEdge k false (!q.a) (!q.b) gap
      else (x.oneEdge k false (!q.a) q.b 0).oneEdge k true (!q.b) (!q.a) gap := by
  have h1 : ¬ gap < 2000 := by omega
  have h2 : ¬ gap < 20000 := by omega
  simp [State.quadrature, State.moved, hp, he, h1, h2, bit]

end

/-- What an illegal transition counts, and what it leaves (R95). -/
def State.CountsQerr (u : State) (k : Nat) (v : State) : Prop :=
  v.get48 (Reg.IN_CNT_LO k) = u.get48 (Reg.IN_CNT_LO k) ∧ v.num (Reg.IN_QERR k) = min 0xFFFFFFFF (u.num (Reg.IN_QERR k) + 1) ∧
    v.trgCam = u.trgCam ∧ v.ports = u.ports

/-- An illegal transition on an input, whatever edge it takes with it. -/
theorem illegalEdges_counts (k : Nat) (hk : k < 6) (a b : Bool) (l : List EvrWait) :
    let v := ({ s.moved k a b with evrQ := l } : State).illegalEdges k
    s.CountsQerr k v ∧ v.posIn k = { s.posIn k with a := a, b := b } := by
  let x : State := { s.moved k a b with evrQ := l }
  obtain ⟨hr, h0, h4⟩ := faultReg_count k hk (Reg.IN_QERR k) (by simp)
  obtain ⟨hkeep, hnum⟩ := countedFault_spec x k 4 0x0201 (Reg.IN_QERR k) hr
  exact ⟨⟨hkeep.get48 h0 h4, hnum, hkeep.1 .trgCam (by simp) (by simp [ledgerParts]), hkeep.1 .ports (by simp) (by simp [ledgerParts])⟩,
    (hkeep.posIn (by simp [ledgerParts]) k).trans (posIn_setPosIn_self s k _)⟩

/-- An edge of A, of B, or of both on an enabled input (R95). -/
theorem quadrature_decodes (k : Nat) (hk : k < 6) (gap : Nat) (bFirst : Bool) (hp : s.mode.powered = true) (he : s.inputEnabled k = true) :
    let q := s.posIn k
    let row (a b : Bool) := s.quadrature k a b gap bFirst
    ((∀ w ∈ s.evrQ, ¬ s.Undecided k true w) → row (!q.a) q.b = (s.moved k (!q.a) q.b).route 2000 (.edge k false (!q.a) q.b s.now)) ∧
    ((∀ w ∈ s.evrQ, ¬ s.Undecided k false w) → row q.a (!q.b) = (s.moved k q.a (!q.b)).route 2000 (.edge k true (!q.b) q.a s.now)) ∧
    (∀ w ∈ s.evrQ, s.Undecided k true w → s.CountsQerr k (row (!q.a) q.b)) ∧
    (∀ w ∈ s.evrQ, s.Undecided k false w → s.CountsQerr k (row q.a (!q.b))) ∧
    (gap < 2000 → s.CountsQerr k (row (!q.a) (!q.b)) ∧ (row (!q.a) (!q.b)).posIn k = { q with a := !q.a, b := !q.b }) ∧
    (20000 ≤ gap → (∀ w ∈ s.evrQ, ¬ s.Undecided k (!bFirst) w) → row (!q.a) (!q.b) =
      ((s.moved k (!q.a) (!q.b)).route 2000 (if bFirst then .edge k true (!q.b) q.a s.now else .edge k false (!q.a) q.b s.now)).route (gap + 2000)
        (if bFirst then .edge k false (!q.a) (!q.b) (s.now + gap) else .edge k true (!q.b) (!q.a) (s.now + gap))) := by
  intro q row
  have hA : row (!q.a) q.b = _ := quadrature_onA s k hp he gap bFirst
  have hB : row q.a (!q.b) = _ := quadrature_onB s k hp he gap bFirst
  refine ⟨fun h => hA.trans (oneEdge_routes _ k false _ _ h), fun h => hB.trans (oneEdge_routes _ k true _ _ h), fun w hw h => ?_, fun w hw h => ?_,
    fun h => ?_, fun h hn => ?_⟩
  · obtain ⟨x, hx⟩ := oneEdge_illegal (s.moved k (!q.a) q.b) k false (!q.a) q.b hw h
    rw [hA, hx]
    exact (illegalEdges_counts s k hk _ _ _).1
  · obtain ⟨x, hx⟩ := oneEdge_illegal (s.moved k q.a (!q.b)) k true (!q.b) q.a hw h
    rw [hB, hx]
    exact (illegalEdges_counts s k hk _ _ _).1
  · have hrow : row (!q.a) (!q.b) = _ := quadrature_close s k hp he gap bFirst h
    rw [hrow]
    exact illegalEdges_counts s k hk _ _ s.evrQ
  · refine (quadrature_far s k hp he gap bFirst h).trans ?_
    have hgap : gap ≠ 0 := by omega
    cases bFirst with
    | true => exact oneEdge_twice (s.moved k _ _) k true _ _ hn false _ _ hgap
    | false => exact oneEdge_twice (s.moved k _ _) k false _ _ hn true _ _ hgap

theorem next_settle_congr {x y : State} (h : x = y) : (Host.Outcome.next (x.settle s) : Host.Outcome State Fault Refusal) = .next (y.settle s) :=
  h ▸ rfl

/-! ### The timeout of a frame, and a stall (R98, R105) -/

/-- The clause of LEADIN_TIMEOUT (R98). -/
theorem leadinTimeout_fails (t k e : Nat) (hk : k < 6) : let u := s.advanceTo t
    u.mode.powered = true → u.inputEnabled k = true → (u.posIn k).frameAt = some e →
    e + 1000 * u.latchTime k + 1000000 * u.fld (Reg.SPOS_TIM (k - 4)) Fld.SPOS_TIM_TMO ≤ u.now →
    ∃ v : State, exec (.leadinTimeout t k) s = .next (v.settle s) ∧ v.get48 (Reg.IN_CNT_LO k) = u.get48 (Reg.IN_CNT_LO k) ∧
      v.num (Reg.IN_TMOCNT k) = min 0xFFFFFFFF (u.num (Reg.IN_TMOCNT k) + 1) ∧
      v.posIn k = { u.posIn k with frameAt := none, fails := (u.posIn k).fails + 1 } := by
  intro u hp he hf hle
  let x := u.setPosIn k { u.posIn k with frameAt := none }
  have hdue : e + (1000 * u.latchTime k + 1000000 * u.fld (Reg.SPOS_TIM (k - 4)) Fld.SPOS_TIM_TMO) ≤ u.now := by omega
  obtain ⟨hcnt, hnum, hpos⟩ := frameFails_spec x k _ hk (.inr rfl)
  rw [posIn_setPosIn_self] at hpos
  refine ⟨x.frameFails k (Reg.IN_TMOCNT k), next_settle_congr s ?_, hcnt, hnum, hpos⟩
  simp only [show ((s.advanceTo t).posIn k).frameAt = some e from hf]
  exact if_pos (by rw [hp, he, Bool.and_self, Bool.true_and]; exact decide_eq_true hdue)

/-- An input whose last step lies too far back: SPEED is cleared, and the stall is noted once. -/
def State.stalls (s : State) (k : Nat) : State :=
  let s := s.clearSpeed k
  (s.setPosIn k { s.posIn k with moved := none }).posEvent k 6

theorem stalls_spec (k : Nat) : let v := s.stalls k
    v.num (Reg.IN_SPEED k) = 0 ∧ v.flag (Reg.IN_STATUS k) Fld.IN_STATUS_SPDVALID = false ∧
      (s.isSource k = true → v.flag Reg.POS_EVT ⟨6, 1⟩ = true) ∧
      s.Keeps [.pos, .evrQ] (theRegs [Reg.IN_SPEED k, Reg.IN_STATUS k, Reg.POS_EVT]) v := by
  let x := s.clearSpeed k
  let y := x.setPosIn k { x.posIn k with moved := none }
  obtain ⟨hx, hspeed, hvalid, -, -⟩ := clearSpeed_spec s k
  have hy : x.Keeps [.pos] noReg y := setPosIn_keeps x k _ _ _ (by simp)
  have hevent : y.Keeps [.evrQ] (theRegs [Reg.POS_EVT]) (s.stalls k) := posEvent_keeps y k 6 _ _ (by simp) (by simp [theRegs])
  have hout {a : Nat} (h : Reg.POS_EVT < a) : theRegs [Reg.POS_EVT] a = false := by simp [theRegs, h.ne']
  refine ⟨?_, ?_, fun hs => ?_, ?_⟩
  · rw [hevent.num (hout (by rw [Reg.POS_EVT, Reg.IN_SPEED]; omega)), hy.num rfl, hspeed]
  · rw [hevent.flag (hout (by rw [Reg.POS_EVT, Reg.IN_STATUS]; omega)), hy.flag rfl, hvalid]
  · have hctrl : y.fld Reg.POS_CTRL Fld.POS_CTRL_SRC = s.fld Reg.POS_CTRL Fld.POS_CTRL_SRC :=
      (hy.fld rfl _).trans (hx.fld (by simp [theRegs, Reg.POS_CTRL, Reg.IN_SPEED, Reg.IN_STATUS]; omega) _)
    have hsrc : y.isSource k = true := by
      rw [State.isSource, State.source, hctrl]
      exact hs
    have hreg : (s.stalls k).reg Reg.POS_EVT = (y.setFld Reg.POS_EVT ⟨6, 1⟩ 1).reg Reg.POS_EVT := by
      rw [State.stalls, State.posEvent, if_pos hsrc, event_reg, if_pos rfl, reg_setFld_self]
    rw [State.flag, State.fld, hreg]
    exact flag_setFld_true y _ ⟨6, 1⟩ (by decide) (by decide)
  · refine ((hx.mono (by simp) fun a => ?_).trans (hy.mono (by simp) fun _ _ => rfl)).trans (hevent.mono (by simp) fun a => ?_)
    all_goals simp only [theRegs_eq_false, List.mem_cons, List.not_mem_nil, or_false]; tauto

/-- The clause of STALL (R105). -/
theorem exec_stall (t k e : Nat) : let u := s.advanceTo t
    u.mode.powered = true → (u.posIn k).moved = some e → e + 1000000 * u.stallTime k ≤ u.now →
    exec (.stall t k) s = .next ((u.stalls k).settle s) := by
  intro u hp hm hle
  refine next_settle_congr s ?_
  simp only [show ((s.advanceTo t).posIn k).moved = some e from hm]
  exact if_pos (by rw [hp, Bool.true_and]; exact decide_eq_true hle)

/-! ### The rows -/

section
variable (t k : Nat)

theorem exec_indexEdge (level : Bool) : let u := s.advanceTo t
    let z := u.setPosIn k { u.posIn k with z := level }
    ((u.posIn k).z != level) = true → exec (.indexEdge t k level) s =
      .next ((if (u.mode.powered && u.inputEnabled k && level != u.flag (Reg.IN_CFG k) Fld.IN_CFG_ZPOL) = true then z.route 2000 (.index k) else z).settle s) :=
  fun h => next_settle_congr s (if_pos h)

theorem exec_sposPoll : let u := s.advanceTo t
    u.mode.powered = true → u.inputEnabled k = true → (u.posIn k).frameAt = none → exec (.sposPoll t k) s =
      .next (((u.setPosIn k { u.posIn k with frameAt := some u.now }).emit (.sposClk (k - 4) (u.latchTime k))).settle s) := by
  intro u hp he hf
  refine next_settle_congr s (if_pos ?_)
  rw [hp, he, hf]
  rfl

theorem exec_sposFrame (st : Bool) (pos check : Nat) : let u := s.advanceTo t
    u.mode.powered = true → u.inputEnabled k = true → (u.posIn k).frameAt.isSome = true → exec (.sposFrame t k st pos check) s =
      .next (((u.setPosIn k { u.posIn k with frameAt := none }).route 2000 (.frame k st pos check u.now)).settle s) := by
  intro u hp he hf
  refine next_settle_congr s (if_pos ?_)
  rw [hp, he, hf]
  rfl

end

/-! ### What is decided when its time has come -/

theorem step_arrives {w : EvrWait} (hp : s.pending = []) (hw : earliest s.evrQ = some w) :
    step s = .next (((s.passTime (max s.now w.due)).arrive w).settle s) := by
  rw [step, hp]
  simp only [State.idle, hw]

/-- An item that the decoder decides: an edge, a Z edge or a frame of input `k`. -/
def EvrItem.decides (k : Nat) (i : EvrItem) : Prop :=
  (∃ onB level other at_, i = .edge k onB level other at_) ∨ i = .index k ∨ ∃ st pos check at_, i = .frame k st pos check at_

theorem arrive_decides {k : Nat} {w : EvrWait} (h : w.item.decides k) : s.arrive w = ({ s with evrQ := s.evrQ.erase w } : State).decideItem w.item := by
  rcases h with ⟨_, _, _, _, h⟩ | h | ⟨_, _, _, _, h⟩ <;> simp only [State.arrive, h]

/-- A disabled input counts nothing (R94). -/
theorem decideItem_off {k : Nat} {i : EvrItem} (h : i.decides k) (hoff : s.mode.powered = false ∨ s.inputEnabled k = false) : s.decideItem i = s := by
  have hc : ¬ (s.mode.powered && s.inputEnabled k) = true := by rcases hoff with h | h <;> simp [h]
  rcases h with ⟨_, _, _, _, rfl⟩ | rfl | ⟨_, _, _, _, rfl⟩ <;> exact if_neg hc

section
variable (k : Nat) (hk : k < 6)

theorem edgeStep_cases (onB level other : Bool) : s.edgeStep k onB level other = 1 ∨ s.edgeStep k onB level other = -1 :=
  ite_eq_or_eq ..

theorem takeSerial_valid (st : Bool) (pos check at_ : Nat) (h : s.frameBad k st pos check = false) :
    s.takeSerial k st pos check at_ = (s.atEdge at_).frameValid k pos := if_neg (ne_true_of_eq_false h)

/-- The input after a valid frame of position `x`. -/
def State.seen (s : State) (k x : Nat) : State := s.setPosIn k { s.posIn k with prevPos := some x, fails := 0 }

/-- The first valid frame loads the count (R99). -/
theorem frameValid_loads (pos : Nat) (h : (s.posIn k).prevPos = none) : let x := pos % 2 ^ s.fld (Reg.SPOS_CFG (k - 4)) Fld.SPOS_CFG_POSBITS
    s.frameValid k pos = (s.seen k x).loadCount k x := by
  simp only [State.frameValid, h]
  rfl

/-- A later one adds its difference (R99). -/
theorem frameValid_adds (pos x0 : Nat) (h : (s.posIn k).prevPos = some x0) : let n := s.fld (Reg.SPOS_CFG (k - 4)) Fld.SPOS_CFG_POSBITS
    let x := pos % 2 ^ n
    s.frameValid k pos = (s.seen k x).countSteps k (signed n (x + 2 ^ n - x0)) := by
  simp only [State.frameValid, h]
  rfl

include hk

/-- A frame whose status bit or check is bad fails, and the count stays (R98). -/
theorem takeSerial_fails (st : Bool) (pos check at_ : Nat) (h : s.frameBad k st pos check = true) : let v := s.takeSerial k st pos check at_
    v.get48 (Reg.IN_CNT_LO k) = s.get48 (Reg.IN_CNT_LO k) ∧ v.num (Reg.IN_FRAMEERR k) = min 0xFFFFFFFF (s.num (Reg.IN_FRAMEERR k) + 1) ∧
      (v.posIn k).fails = (s.posIn k).fails + 1 := by
  intro v
  have e : v = (s.atEdge at_).frameFails k (Reg.IN_FRAMEERR k) := if_pos h
  obtain ⟨hcount, hnum, hpos⟩ := frameFails_spec (s.atEdge at_) k _ hk (.inl rfl)
  rw [e, hpos]
  exact ⟨hcount, hnum, rfl⟩

/-- The clause of the first valid frame (R99). -/
theorem takeSerial_loads (st : Bool) (pos check at_ : Nat) (hv : s.frameBad k st pos check = false) (hq : (s.posIn k).prevPos = none) :
    let v := s.takeSerial k st pos check at_
    let x := pos % 2 ^ s.fld (Reg.SPOS_CFG (k - 4)) Fld.SPOS_CFG_POSBITS
    v.get48 (Reg.IN_CNT_LO k) = signed 48 (unsignedOf 48 (min (s.get48 (Reg.IN_SOFTHI_LO k)) (max (s.get48 (Reg.IN_SOFTLO_LO k)) (x : Int)))) ∧
      (v.posIn k).prevPos = some x ∧ (v.posIn k).fails = 0 := by
  intro v x
  have e : v = ((s.atEdge at_).seen k x).loadCount k x := (takeSerial_valid s k st pos check at_ hv).trans (frameValid_loads _ k pos hq)
  obtain ⟨hcount, -, hpos⟩ := loadCount_spec ((s.atEdge at_).seen k x) k hk x
  rw [e, hpos, State.seen, posIn_setPosIn_self]
  exact ⟨hcount, rfl, rfl⟩

/-- The clauses of a later one: its difference is counted up to the limits, and refused beyond them (R99, R100). -/
theorem takeSerial_adds (st : Bool) (pos check at_ x0 : Nat) (hv : s.frameBad k st pos check = false) (hq : (s.posIn k).prevPos = some x0) :
    let v := s.takeSerial k st pos check at_
    let n := s.fld (Reg.SPOS_CFG (k - 4)) Fld.SPOS_CFG_POSBITS
    let x := pos % 2 ^ n
    let d := signed n (x + 2 ^ n - x0)
    let c := s.get48 (Reg.IN_CNT_LO k)
    let lo := s.get48 (Reg.IN_SOFTLO_LO k)
    let hi := s.get48 (Reg.IN_SOFTHI_LO k)
    lo ≤ c → c ≤ hi →
    (lo ≤ c + d → c + d ≤ hi → v.get48 (Reg.IN_CNT_LO k) = c + d ∧ (v.posIn k).prevPos = some x ∧ v.num (Reg.IN_SATCNT k) = s.num (Reg.IN_SATCNT k)) ∧
      (c + d < lo → s.Saturates k true (lo - (c + d)).natAbs v) ∧ (hi < c + d → s.Saturates k false (c + d - hi).natAbs v) := by
  intro v n x d c lo hi hlo hhi
  let y := (s.atEdge at_).seen k x
  have e : v = y.countSteps k d := (takeSerial_valid s k st pos check at_ hv).trans (frameValid_adds _ k pos x0 hq)
  rw [e]
  refine ⟨fun h1 h2 => ?_, countSteps_low y k hk d hlo hhi, countSteps_high y k hk d hlo hhi⟩
  obtain ⟨hcount, hsat, hprev, -⟩ := countSteps_counts y k hk d h1 h2
  exact ⟨hcount, hprev.trans (congrArg PosIn.prevPos (posIn_setPosIn_self (s.atEdge at_) k _)), hsat⟩

/-- A decided edge counts one step (R95). -/
theorem decodeEdge_counts (onB level other : Bool) (at_ : Nat) : let v := s.decodeEdge k onB level other at_
    let c := s.get48 (Reg.IN_CNT_LO k)
    let d := s.edgeStep k onB level other
    s.get48 (Reg.IN_SOFTLO_LO k) ≤ c + d → c + d ≤ s.get48 (Reg.IN_SOFTHI_LO k) →
      v.get48 (Reg.IN_CNT_LO k) = c + d ∧ v.flag (Reg.IN_STATUS k) Fld.IN_STATUS_DIR = decide (d < 0) ∧
        v.num (Reg.IN_SATCNT k) = s.num (Reg.IN_SATCNT k) ∧ (v.posIn k).moved = some s.now := by
  intro v c d hlo hhi
  obtain ⟨hcount, hsat, -, hstep⟩ := countSteps_counts (s.atEdge at_) k hk d hlo hhi
  have hd : d ≠ 0 := by
    have := edgeStep_cases s k onB level other
    omega
  exact ⟨hcount, (hstep hd).1, hsat, (hstep hd).2⟩

/-- At a limit its step is refused (R100). -/
theorem decodeEdge_saturates (onB level other : Bool) (at_ : Nat) : let v := s.decodeEdge k onB level other at_
    let c := s.get48 (Reg.IN_CNT_LO k)
    let d := s.edgeStep k onB level other
    let lo := s.get48 (Reg.IN_SOFTLO_LO k)
    let hi := s.get48 (Reg.IN_SOFTHI_LO k)
    c + d < lo ∨ hi < c + d → lo ≤ c → c ≤ hi → s.Saturates k (decide (d < 0)) 1 v := by
  intro v c d lo hi hout hlo hhi
  have hd : d = 1 ∨ d = -1 := edgeStep_cases s k onB level other
  rcases hout with h | h
  · have hsat : s.Saturates k true (lo - (c + d)).natAbs v := countSteps_low (s.atEdge at_) k hk d hlo hhi h
    rwa [show (lo - (c + d)).natAbs = 1 by omega, ← decide_eq_true (by omega : d < 0)] at hsat
  · have hsat : s.Saturates k false (c + d - hi).natAbs v := countSteps_high (s.atEdge at_) k hk d hlo hhi h
    rwa [show (c + d - hi).natAbs = 1 by omega, ← decide_eq_false (by omega : ¬ d < 0)] at hsat

end

/-- Settles O43: the rows by the clauses above, and what is decided by what counted steps, loads and reports make of an input. -/
theorem positionInputs : Obligations.PositionInputs := by
  unfold Obligations.PositionInputs
  intro s t k hk
  refine ⟨?_, ?_⟩
  · intro u q c moved undecided illegal
    refine ⟨fun gap bFirst hp he => ?_, fun a b gap bFirst h => ?_, ?_, ?_,
      fun e hp hm hle => ⟨_, exec_stall s t k e hp hm hle, stalls_spec u k⟩⟩
    · obtain ⟨hA, hB, hA', hB', hclose, hfar⟩ := quadrature_decodes u k hk gap bFirst hp he
      exact ⟨fun h => next_settle_congr s (hA h), fun h => next_settle_congr s (hB h), fun w hw h => ⟨_, rfl, hA' w hw h⟩,
        fun w hw h => ⟨_, rfl, hB' w hw h⟩, fun h => ⟨_, rfl, hclose h⟩, fun h hn => next_settle_congr s (hfar h hn)⟩
    · exact next_settle_congr s (quadrature_off u k a b gap bFirst h)
    · intro level hz z
      refine ⟨fun hp he hl => ?_, fun h => ?_⟩
      · rw [exec_indexEdge s t k level hz, if_pos (by rw [hp, he, hl]; rfl)]
      · rw [exec_indexEdge s t k level hz, if_neg (by rcases h with h | h | h <;> simp [u, h])]
    · intro _ hp he latch
      exact ⟨exec_sposPoll s t k hp he, fun st pos check => exec_sposFrame s t k st pos check hp he,
        fun e hf hle => leadinTimeout_fails s t k e hk hp he hf hle⟩
  · intro w hpend hw y q c lo hi sat
    let z : State := { y with evrQ := y.evrQ.erase w }
    have hstep (h : w.item.decides k) : step s = .next ((z.decideItem w.item).settle s) := by
      rw [step_arrives s hpend hw, arrive_decides _ h]
    refine ⟨fun hoff h => ?_, fun hp he => ?_⟩
    · rw [hstep h, decideItem_off z h hoff]
    have hon : (z.mode.powered && z.inputEnabled k) = true := Bool.and_eq_true_iff.mpr ⟨hp, he⟩
    have hnext {v : State} (h : w.item.decides k) (hv : z.decideItem w.item = v) : step s = .next (v.settle s) := (hstep h).trans (next_settle_congr s hv)
    refine ⟨?_, ?_, ?_⟩
    · intro onB level other at_ hitem fwd d
      have hv : step s = .next ((z.decodeEdge k onB level other at_).settle s) :=
        hnext (.inl ⟨onB, level, other, at_, hitem⟩) ((congrArg z.decideItem hitem).trans (if_pos hon))
      exact ⟨fun h1 h2 => ⟨_, hv, decodeEdge_counts z k hk onB level other at_ h1 h2⟩,
        fun h h1 h2 => ⟨_, hv, decodeEdge_saturates z k hk onB level other at_ h h1 h2⟩⟩
    · intro hitem ref per e
      have hv : step s = .next ((z.activeIndex k).settle s) := hnext (.inr (.inl hitem)) ((congrArg z.decideItem hitem).trans (if_pos hon))
      have hexp : e = z.expectedIndex k c := (expectedIndex_eq z k c).symm
      rw [hexp]
      refine ⟨fun h => ⟨_, hv, activeIndex_homes z k hk h⟩, fun h hper => ⟨_, hv, ?_⟩, fun h hper => ⟨fun htol => ?_, fun htol hpol => ?_, fun htol hpol hlo hhi => ?_⟩⟩
      · rw [activeIndex_shows z k h hper]
        exact set48_indexShown z k
      · rw [hv, activeIndex_checks z k h hper]
        exact next_settle_congr s (if_pos htol)
      · exact ⟨_, hv, (activeIndex_reports z k hk h hper htol).1 hpol⟩
      · exact ⟨_, hv, (activeIndex_reports z k hk h hper htol).2 hpol hlo hhi⟩
    · intro st pos check at_ hitem _ n x
      have hv : step s = .next ((z.takeSerial k st pos check at_).settle s) :=
        hnext (.inr (.inr ⟨st, pos, check, at_, hitem⟩)) ((congrArg z.decideItem hitem).trans (if_pos hon))
      refine ⟨fun hbad => ⟨_, hv, takeSerial_fails z k hk st pos check at_ hbad⟩, fun hgood hq => ⟨_, hv, takeSerial_loads z k hk st pos check at_ hgood hq⟩,
        fun x0 hgood hq _ hlo hhi => ?_⟩
      obtain ⟨hin, hlow, hhigh⟩ := takeSerial_adds z k hk st pos check at_ x0 hgood hq hlo hhi
      exact ⟨fun h1 h2 => ⟨_, hv, hin h1 h2⟩, fun h => ⟨_, hv, hlow h⟩, fun h => ⟨_, hv, hhigh h⟩⟩

end Sys2Proof.Machine
end

section
/-! What follows every command, and when it changes nothing (R135, R395, R494, R501 to R504). -/

namespace Sys2Proof.Machine

/-- Settles O6: the frame is `settle_keeps`, part by part of `State.settle`, and `settle_quiet` says when none of its parts has anything to do. -/
theorem whatFollowsACommand : Obligations.WhatFollowsACommand := by
  unfold Obligations.WhatFollowsACommand
  exact fun v s => ⟨settle_keeps v s, settle_quiet v s⟩

end Sys2Proof.Machine
end

section
/-! The pixel tables of a pipeline (R128 to R130): what an access through the port, a rejected one, a bank change, a discard and the end of
a copy make of its banks and of its registers. -/

namespace Sys2Proof.Machine

variable (s : State) (n : Nat)

/-! ### Pipelines -/

@[simp] theorem corrOf_setCorr_self (h : CorrHid) : (s.setCorr n h).corrOf n = h := Store.get_set_self corr0 n h s.corr

@[simp] theorem corrOf_setFld (a : Nat) (b : Bits) (v : Nat) : (s.setFld a b v).corrOf n = s.corrOf n := rfl

/-- A frame that leaves the pipelines leaves each of them. -/
theorem State.Keeps.corrOf {u v : State} {P : List Part} {r : Nat → Bool} (h : u.Keeps P r v) (hp : Part.corr ∉ P) (n : Nat) :
    v.corrOf n = u.corrOf n :=
  congrArg (Store.get corr0 n) (h.1 .corr (by simp) hp)

/-- No register of a pipeline is one of the ledger's. -/
theorem ledgerReg_pipeline {a : Nat} (h : 0x200000 ≤ a ∧ a < 0x300000) : ledgerReg a = false := by
  simp only [ledgerReg, Reg.OHT_ATTN, Reg.TWI_ATTN, Bool.or_eq_false_iff, decide_eq_false_iff_not, beq_eq_false_iff_ne]
  omega

/-! ### A rejected access -/

/-- The registers that a rejection by pipeline `n` uses: its counter and the ledger's. -/
def tableRejectReg (n a : Nat) : Bool := a == Reg.CORR_TWREJ n || ledgerReg a

theorem tableRejectReg_pipeline {a : Nat} (h : 0x200000 ≤ a ∧ a < 0x300000) (hne : a ≠ Reg.CORR_TWREJ n) : tableRejectReg n a = false := by
  rw [tableRejectReg, ledgerReg_pipeline h, beq_false_of_ne hne]
  rfl

/-- What a rejection leaves: the counter has counted it, and an entry is recorded. -/
def State.TableRejected (u : State) (n : Nat) (v : State) : Prop :=
  u.Keeps ledgerParts (tableRejectReg n) v ∧ v.num (Reg.CORR_TWREJ n) = min 0xFFFFFFFF (u.num (Reg.CORR_TWREJ n) + 1)

/-- A rejection is counted and recorded (R128 to R130). -/
theorem bump_notice_rejected (hn : n < 12) (code source detail : Nat) :
    s.TableRejected n ((s.bump (Reg.CORR_TWREJ n)).notice code source detail) := by
  have hrej : ledgerReg (Reg.CORR_TWREJ n) = false := ledgerReg_pipeline (by rw [Reg.CORR_TWREJ]; omega)
  refine ⟨(bump_keeps s _ _ _ (by simp [tableRejectReg])).trans (notice_keeps _ _ _ _ (fun _ h => h) fun a h => ?_), ?_⟩
  · exact (Bool.or_eq_false_iff.mp h).2
  · exact ((notice_ledger _ code source detail).num hrej).trans (num_bump_self s _)

theorem corrReject_rejected (hn : n < 12) (a : Nat) : s.TableRejected n (s.corrReject n a) := bump_notice_rejected s n hn _ _ _

theorem State.TableRejected.corr {u v : State} {n : Nat} (h : u.TableRejected n v) : v.corr = u.corr :=
  h.1.1 .corr (by simp) (by simp [ledgerParts])

/-! ### The index -/

/-- The index that an access to the port leaves (R128). -/
def State.nextIdx (s : State) (n : Nat) : Nat :=
  if s.flag (Reg.CORR_TCTL n) Fld.CORR_TCTL_AUTOINC = true then
    if s.fld (Reg.CORR_TIDX n) Fld.CORR_TIDX_IDX < corrLast (s.fld (Reg.CORR_TCTL n) Fld.CORR_TCTL_TSEL) then
      s.fld (Reg.CORR_TIDX n) Fld.CORR_TIDX_IDX + 1 else 0
  else s.fld (Reg.CORR_TIDX n) Fld.CORR_TIDX_IDX

theorem nextIdx_congr {u v : State} (hi : v.reg (Reg.CORR_TIDX n) = u.reg (Reg.CORR_TIDX n))
    (hc : v.reg (Reg.CORR_TCTL n) = u.reg (Reg.CORR_TCTL n)) : v.nextIdx n = u.nextIdx n := by
  have hidx : v.fld (Reg.CORR_TIDX n) Fld.CORR_TIDX_IDX = u.fld (Reg.CORR_TIDX n) Fld.CORR_TIDX_IDX := by rw [State.fld, State.fld, hi]
  have htsel : v.fld (Reg.CORR_TCTL n) Fld.CORR_TCTL_TSEL = u.fld (Reg.CORR_TCTL n) Fld.CORR_TCTL_TSEL := by rw [State.fld, State.fld, hc]
  have hauto : v.flag (Reg.CORR_TCTL n) Fld.CORR_TCTL_AUTOINC = u.flag (Reg.CORR_TCTL n) Fld.CORR_TCTL_AUTOINC := by
    rw [State.flag, State.flag, State.fld, State.fld, hc]
  rw [State.nextIdx, State.nextIdx, hidx, htsel, hauto]

theorem corrLast_lt (tsel : Nat) : corrLast tsel < 2 ^ 16 := by
  unfold corrLast
  split <;> norm_num

theorem corrStepIdx_keeps : s.Keeps [] (theRegs [Reg.CORR_TIDX n]) (s.corrStepIdx n) := by
  unfold State.corrStepIdx
  exact .ite (setFld_keeps s _ _ _ _ _ (by simp [theRegs])) (.refl ..)

theorem corrStepIdx_idx : (s.corrStepIdx n).fld (Reg.CORR_TIDX n) Fld.CORR_TIDX_IDX = s.nextIdx n := by
  unfold State.corrStepIdx State.nextIdx
  split
  · have hlast := corrLast_lt (s.fld (Reg.CORR_TCTL n) Fld.CORR_TCTL_TSEL)
    rw [fld_setFld_self _ _ _ _ (by decide)]
    refine Nat.mod_eq_of_lt (lt_of_lt_of_eq ?_ (by rfl : 2 ^ 16 = 2 ^ Fld.CORR_TIDX_IDX.len))
    split <;> omega
  · rfl

/-- Stepping the index leaves every other register of the pipeline. -/
theorem corrStepIdx_other {a : Nat} (h : a ≠ Reg.CORR_TIDX n) : theRegs [Reg.CORR_TIDX n] a = false := by
  rw [theRegs_eq_false]
  simpa using h

/-! ### The port -/

theorem corrWrite_keeps (key x : Nat) : s.Keeps [.corr] (theRegs [Reg.CORR_STATUS n]) (s.corrWrite n key x) :=
  (setCorr_keeps s _ _ _ _ (by simp)).trans (setFld_keeps _ _ _ _ _ _ (by simp [theRegs]))

/-- A write to a shut shadow, or beyond the table, is turned away and steps the index. -/
theorem corrDataWrite_shut (hn : n < 12) (w : Word) (h : s.corrShut n = true ∨
    corrLast (s.fld (Reg.CORR_TCTL n) Fld.CORR_TCTL_TSEL) < s.fld (Reg.CORR_TIDX n) Fld.CORR_TIDX_IDX) : let v := s.corrDataWrite n w
    v.fld (Reg.CORR_TIDX n) Fld.CORR_TIDX_IDX = s.nextIdx n ∧ v.corr = s.corr ∧
      v.num (Reg.CORR_TWREJ n) = min 0xFFFFFFFF (s.num (Reg.CORR_TWREJ n) + 1) := by
  intro v
  have hv : v = (s.corrReject n (Reg.CORR_TDATA n)).corrStepIdx n := by
    simp only [v, State.corrDataWrite]
    rw [if_pos (by simpa using h)]
  have hrej := corrReject_rejected s n hn (Reg.CORR_TDATA n)
  have hstep := corrStepIdx_keeps (s.corrReject n (Reg.CORR_TDATA n)) n
  rw [hv]
  refine ⟨(corrStepIdx_idx _ n).trans (nextIdx_congr n (hrej.1.2 _ ?_) (hrej.1.2 _ ?_)), (hstep.1 .corr (by simp) (by simp)).trans hrej.corr,
    (hstep.num (corrStepIdx_other n ?_)).trans hrej.2⟩
  · exact tableRejectReg_pipeline n (by rw [Reg.CORR_TIDX]; omega) (by rw [Reg.CORR_TIDX, Reg.CORR_TWREJ]; omega)
  · exact tableRejectReg_pipeline n (by rw [Reg.CORR_TCTL]; omega) (by rw [Reg.CORR_TCTL, Reg.CORR_TWREJ]; omega)
  · rw [Reg.CORR_TIDX, Reg.CORR_TWREJ]; omega

/-- A write to an open shadow goes to the entry that the port names, marks it written, and steps the index (R128). -/
theorem corrDataWrite_open (w : Word) (h : s.corrShut n = false)
    (hi : s.fld (Reg.CORR_TIDX n) Fld.CORR_TIDX_IDX ≤ corrLast (s.fld (Reg.CORR_TCTL n) Fld.CORR_TCTL_TSEL)) : let v := s.corrDataWrite n w
    let tsel := s.fld (Reg.CORR_TCTL n) Fld.CORR_TCTL_TSEL
    let key := corrKey tsel (s.fld (Reg.CORR_TCTL n) Fld.CORR_TCTL_PHASE) (s.fld (Reg.CORR_TIDX n) Fld.CORR_TIDX_IDX)
    v.fld (Reg.CORR_TIDX n) Fld.CORR_TIDX_IDX = s.nextIdx n ∧ (v.corrOf n).live = (s.corrOf n).live ∧
      (v.corrOf n).shadow = Store.set corrInit key (w.toNat % (if tsel = 3 then 4 else 65536)) (s.corrOf n).shadow ∧
      v.flag (Reg.CORR_STATUS n) Fld.CORR_STATUS_DIRTY = true ∧ s.Keeps [.corr] (theRegs [Reg.CORR_STATUS n, Reg.CORR_TIDX n]) v := by
  intro v tsel key
  let x := s.corrWrite n key (w.toNat % (if tsel = 3 then 4 else 65536))
  have hv : v = x.corrStepIdx n := by
    simp only [v, x, State.corrDataWrite]
    rw [if_neg (by simpa [h] using hi)]
  have hx : s.Keeps [.corr] (theRegs [Reg.CORR_STATUS n]) x := corrWrite_keeps s n _ _
  have hstep : x.Keeps [] (theRegs [Reg.CORR_TIDX n]) v := hv ▸ corrStepIdx_keeps x n
  have hcorr : v.corrOf n = x.corrOf n := hstep.corrOf (by simp) n
  have hxcorr : x.corrOf n = { s.corrOf n with
      shadow := Store.set corrInit key (w.toNat % (if tsel = 3 then 4 else 65536)) (s.corrOf n).shadow,
      marks := Store.set (fun _ => false) key true (s.corrOf n).marks } := corrOf_setCorr_self s n _
  rw [hcorr, hxcorr]
  refine ⟨?_, rfl, rfl, ?_, (hx.mono (fun _ h => h) ?_).trans (hstep.mono (by simp) ?_)⟩
  · rw [hv, corrStepIdx_idx]
    refine nextIdx_congr n (hx.2 _ (theRegs_eq_false.mpr ?_)) (hx.2 _ (theRegs_eq_false.mpr ?_)) <;>
      simp [Reg.CORR_TIDX, Reg.CORR_TCTL, Reg.CORR_STATUS]
  · rw [hstep.flag (corrStepIdx_other n (by rw [Reg.CORR_STATUS, Reg.CORR_TIDX]; omega))]
    exact flag_setFld_true _ _ _ (by decide) (by decide)
  · intro a ha
    simp only [theRegs_eq_false, List.mem_cons, not_or] at ha ⊢
    exact ⟨ha.1, by simp⟩
  · intro a ha
    simp only [theRegs_eq_false, List.mem_cons, not_or] at ha ⊢
    exact ha.2

/-- A write of the port, by whether its shadow is open to it (R128). -/
theorem corrDataWrite_spec (hn : n < 12) (w : Word) : let v := s.corrDataWrite n w
    let tsel := s.fld (Reg.CORR_TCTL n) Fld.CORR_TCTL_TSEL
    let ph := s.fld (Reg.CORR_TCTL n) Fld.CORR_TCTL_PHASE
    let i := s.fld (Reg.CORR_TIDX n) Fld.CORR_TIDX_IDX
    v.fld (Reg.CORR_TIDX n) Fld.CORR_TIDX_IDX = s.nextIdx n ∧ (v.corrOf n).live = (s.corrOf n).live ∧
      (s.corrShut n = false → i ≤ corrLast tsel → v.corrShadow n tsel ph i = w.toNat % (if tsel = 3 then 4 else 65536) ∧
        v.flag (Reg.CORR_STATUS n) Fld.CORR_STATUS_DIRTY = true ∧
        (∀ k, k ≠ corrKey tsel ph i → Store.get corrInit k (v.corrOf n).shadow = Store.get corrInit k (s.corrOf n).shadow) ∧
        s.Keeps [.corr] (theRegs [Reg.CORR_STATUS n, Reg.CORR_TIDX n]) v) ∧
      (s.corrShut n = true ∨ corrLast tsel < i → v.corr = s.corr ∧ v.num (Reg.CORR_TWREJ n) = min 0xFFFFFFFF (s.num (Reg.CORR_TWREJ n) + 1)) := by
  intro v tsel ph i
  by_cases h : s.corrShut n = true ∨ corrLast tsel < i
  · obtain ⟨hidx, hcorr, hrej⟩ := corrDataWrite_shut s n hn w h
    refine ⟨hidx, congrArg (fun m => (Store.get corr0 n m).live) hcorr, fun h1 h2 => absurd h ?_, fun _ => ⟨hcorr, hrej⟩⟩
    simp [h1, h2]
  · obtain ⟨h1, h2⟩ := not_or.mp h
    obtain ⟨hidx, hlive, hshadow, hdirty, hkeep⟩ := corrDataWrite_open s n w (Bool.eq_false_iff.mpr h1) (Nat.le_of_not_lt h2)
    refine ⟨hidx, hlive, fun _ _ => ⟨?_, hdirty, fun k hk => ?_, hkeep⟩, fun h' => absurd h' h⟩
    · rw [State.corrShadow, hshadow]
      exact Store.get_set_self _ _ _ _
    · rw [hshadow]
      exact Store.get_set_ne _ hk _ _

/-- A read of the port sends a word and steps the index (R128). -/
theorem portRead_spec (o : Output) : let v := (s.corrStepIdx n).emit o
    v.out = o :: s.out ∧ v.fld (Reg.CORR_TIDX n) Fld.CORR_TIDX_IDX = s.nextIdx n ∧ s.Keeps [.out] (theRegs [Reg.CORR_TIDX n]) v := by
  have hk := corrStepIdx_keeps s n
  have hout : (s.corrStepIdx n).out = s.out := hk.1 .out (by simp) (by simp)
  exact ⟨congrArg (_ :: ·) hout, corrStepIdx_idx s n, (hk.mono (by simp) fun _ h => h).trans (emit_keeps _ _ _ _ (by simp))⟩

/-! ### Banks -/

/-- The bank change exchanges the banks, starts the copy, and leaves no line corrected with the new one yet (R129, R130, R146). -/
theorem corrBankChange_spec : let v := s.corrBankChange n
    let st := Reg.CORR_STATUS n
    ((v.corrOf n).live = (s.corrOf n).shadow ∧ (v.corrOf n).shadow = (s.corrOf n).live ∧ (v.corrOf n).due = none) ∧
      v.fld st Fld.CORR_STATUS_BANK = 1 - s.fld st Fld.CORR_STATUS_BANK ∧ v.flag st Fld.CORR_STATUS_SEALED = false ∧
      v.flag st Fld.CORR_STATUS_COPYING = true ∧ v.getS64 (Reg.CORR_HOLINE_LO n) = -(2 ^ 63) ∧
      s.Keeps [.corr] (theRegs [st, Reg.CORR_HOLINE_LO n, Reg.CORR_HOLINE_HI n]) v := by
  intro v st
  let x := s.setCorr n { s.corrOf n with
    live := (s.corrOf n).shadow, shadow := (s.corrOf n).live, old := (s.corrOf n).live, marks := [], jh := none, group := [], due := none }
  let y := (((x.setFld st Fld.CORR_STATUS_BANK (1 - s.fld st Fld.CORR_STATUS_BANK)).setFld st Fld.CORR_STATUS_SEALED 0).setFld st
    Fld.CORR_STATUS_DIRTY 0).setFld st Fld.CORR_STATUS_COPYING 1
  have hv : v = y.setS64 (Reg.CORR_HOLINE_LO n) (-(2 ^ 63)) := rfl
  have hlo (P : List Part) (r : Nat → Bool) (h : r (Reg.CORR_HOLINE_LO n) = true) (h' : r (Reg.CORR_HOLINE_HI n) = true) : y.Keeps P r v :=
    set64_keeps y _ _ P r h (by rwa [show Reg.CORR_HOLINE_LO n + 4 = Reg.CORR_HOLINE_HI n by rw [Reg.CORR_HOLINE_LO, Reg.CORR_HOLINE_HI]; omega])
  have hline : y.Keeps [] (theRegs [Reg.CORR_HOLINE_LO n, Reg.CORR_HOLINE_HI n]) v := hlo _ _ (by simp [theRegs]) (by simp [theRegs])
  have hst : theRegs [Reg.CORR_HOLINE_LO n, Reg.CORR_HOLINE_HI n] st = false := by
    rw [theRegs_eq_false]
    simp [st, Reg.CORR_STATUS, Reg.CORR_HOLINE_LO, Reg.CORR_HOLINE_HI]
  have hcorr : v.corrOf n = x.corrOf n := hline.corrOf (by simp) n
  rw [hcorr, corrOf_setCorr_self, hline.fld hst, hline.flag hst, hline.flag hst]
  refine ⟨⟨rfl, rfl, rfl⟩, ?_, ?_, flag_setFld_true _ _ _ (by decide) (by decide), ?_, ?_⟩
  · rw [fld_setFld_apart _ _ _ _ _ (by decide) (by decide), fld_setFld_apart _ _ _ _ _ (by decide) (by decide),
      fld_setFld_apart _ _ _ _ _ (by decide) (by decide), fld_setFld_self _ _ _ _ (by decide)]
    exact Nat.mod_eq_of_lt (lt_of_le_of_lt (Nat.sub_le 1 _) (by decide))
  · rw [State.flag, fld_setFld_apart _ _ _ _ _ (by decide) (by decide), fld_setFld_apart _ _ _ _ _ (by decide) (by decide), ← State.flag]
    exact flag_setFld_zero _ _ _ (by decide)
  · rw [hv, getS64_setS64]
    decide
  · have hreg (z : State) (f : Bits) (c : Nat) : z.Keeps [.corr] (theRegs [st, Reg.CORR_HOLINE_LO n, Reg.CORR_HOLINE_HI n]) (z.setFld st f c) :=
      setFld_keeps z _ _ _ _ _ (by simp [theRegs])
    have hx : s.Keeps [.corr] (theRegs [st, Reg.CORR_HOLINE_LO n, Reg.CORR_HOLINE_HI n]) x := setCorr_keeps s _ _ _ _ (by simp)
    exact ((((hx.trans (hreg _ _ _)).trans (hreg _ _ _)).trans (hreg _ _ _)).trans (hreg _ _ _)).trans
      (hlo _ _ (by simp [theRegs]) (by simp [theRegs]))

/-- DISCARD takes the live bank back and clears the marks (R130). -/
theorem corrDiscard_spec : let v := s.corrDiscard n
    (v.corrOf n).shadow = (s.corrOf n).live ∧ (v.corrOf n).live = (s.corrOf n).live ∧ (v.corrOf n).marks = [] ∧
      v.flag (Reg.CORR_STATUS n) Fld.CORR_STATUS_DIRTY = false := by
  intro v
  have hcorr : v.corrOf n = { s.corrOf n with shadow := (s.corrOf n).live, marks := [], identity := none } := corrOf_setCorr_self s n _
  rw [hcorr]
  refine ⟨rfl, rfl, rfl, ?_⟩
  exact (congrArg (fun m => decide (m ≠ 0)) (fld_setFld_apart _ _ _ _ _ (by decide) (by decide))).trans (flag_setFld_zero _ _ _ (by decide))

/-- A table with the entries of a list of marks taken from another reads as the other at the marks and as itself elsewhere. -/
theorem get_foldl_marks {α : Type} [DecidableEq α] (d : Nat → α) (shadow : Store α) (marks : Store Bool) (live : Store α) (k : Nat) :
    Store.get d k (marks.foldl (fun m e => Store.set d e.1 (Store.get d e.1 shadow) m) live) =
      Store.get d k (if k ∈ marks.map Prod.fst then shadow else live) := by
  induction marks generalizing live with
  | nil => simp
  | cons e marks ih =>
    rw [List.foldl_cons, ih, List.map_cons]
    by_cases hk : k ∈ marks.map Prod.fst
    · rw [if_pos hk, if_pos (List.mem_cons_of_mem _ hk)]
    · by_cases he : k = e.1
      · rw [if_neg hk, if_pos (by simp [he]), he, Store.get_set_self]
      · rw [if_neg hk, if_neg (by simp [he, hk]), Store.get_set_ne _ he]

/-- When the copy ends the shadow holds the live value wherever it was not written (R130); no seal has waited for it. -/
theorem corrCopyDone_spec (hw : (s.corrOf n).sealWait = false) : let v := s.corrCopyDone n
    v.flag (Reg.CORR_STATUS n) Fld.CORR_STATUS_COPYING = false ∧ (v.corrOf n).live = (s.corrOf n).live ∧
      ∀ k, Store.get corrInit k (v.corrOf n).shadow =
        Store.get corrInit k (if k ∈ (s.corrOf n).marks.map Prod.fst then (s.corrOf n).shadow else (s.corrOf n).live) := by
  intro v
  let h := s.corrOf n
  let kept := h.marks.foldl (fun m e => Store.set corrInit e.1 (Store.get corrInit e.1 h.shadow) m) h.live
  have hv : v = (s.setCorr n { h with shadow := kept }).setFld (Reg.CORR_STATUS n) Fld.CORR_STATUS_COPYING 0 := if_neg (by simp [hw])
  rw [hv, corrOf_setFld, corrOf_setCorr_self]
  exact ⟨flag_setFld_zero _ _ _ (by decide), rfl, get_foldl_marks corrInit h.shadow h.marks h.live⟩

/-- The same of the remap tables (R156). -/
theorem rmpCopyDone_spec : let v := s.rmpCopyDone
    v.flag Reg.RMP_TCTL Fld.RMP_TCTL_COPYING = false ∧ v.stitch.live = s.stitch.live ∧ v.stitch.sealWait = false ∧
      ∀ k, Store.get rmpInit k v.stitch.shadow = Store.get rmpInit k (if k ∈ s.stitch.marks.map Prod.fst then s.stitch.shadow else s.stitch.live) :=
  ⟨flag_setFld_zero s _ _ (by decide), rfl, rfl, get_foldl_marks rmpInit s.stitch.shadow s.stitch.marks s.stitch.live⟩

end Sys2Proof.Machine
end

section
/-! Seals of the pixel tables (R129): what a seal of some pipelines marks, and what it completes where none of them still copies. -/

namespace Sys2Proof.Machine

variable (s : State)

/-! ### The two halves of a seal -/

/-- A pipeline of a group as a seal marks it. -/
def State.markSealed (ps : List Nat) (s : State) (p : Nat) : State :=
  let s := (s.setFld (Reg.CORR_STATUS p) Fld.CORR_STATUS_SEALED 1).setFld (Reg.CORR_STATUS p) Fld.CORR_STATUS_PENDING 0
  s.setCorr p { s.corrOf p with sealWait := true, group := ps, due := none }

/-- A pipeline of a group as the completed seal leaves it: the line of the change is named, and a disabled camera's banks change at once. -/
def State.completeSeal (jh : Option Int) (ps : List Nat) (s : State) (p : Nat) : State :=
  let s := s.setCorr p { s.corrOf p with jh := jh, sealWait := false, group := ps }
  if s.flag (Reg.TRG_CAMCFG p) Fld.TRG_CAMCFG_EN then s else s.corrBankChange p

theorem sealComplete_eq (ps : List Nat) : s.sealComplete ps = ps.foldl (State.completeSeal ((s.greatestLine ps).map (· + 1)) ps) s := rfl

theorem corrSealGroup_eq (ps : List Nat) : s.corrSealGroup ps = let m := ps.foldl (State.markSealed ps) s
    if ps.any fun p => m.flag (Reg.CORR_STATUS p) Fld.CORR_STATUS_COPYING then m else m.sealComplete ps := rfl

theorem status_injective {p q : Nat} (h : q ≠ p) : Reg.CORR_STATUS q ≠ Reg.CORR_STATUS p := by
  rw [Reg.CORR_STATUS, Reg.CORR_STATUS]
  omega

theorem camCfg_ne_status {p : Nat} (hp : p < 12) (q : Nat) : Reg.TRG_CAMCFG p ≠ Reg.CORR_STATUS q := by
  rw [Reg.TRG_CAMCFG, Reg.CORR_STATUS]
  omega

theorem markSealed_keeps (ps : List Nat) (p : Nat) : s.Keeps [.corr] (theRegs [Reg.CORR_STATUS p]) (s.markSealed ps p) :=
  ((setFld_keeps s _ _ _ _ _ (by simp [theRegs])).trans (setFld_keeps _ _ _ _ _ _ (by simp [theRegs]))).trans (setCorr_keeps _ _ _ _ _ (by simp))

/-- A mark shows SEALED, and leaves what stands beside SEALED and PENDING. -/
theorem markSealed_fields (ps : List Nat) (p : Nat) :
    (s.markSealed ps p).flag (Reg.CORR_STATUS p) Fld.CORR_STATUS_SEALED = true ∧
    (s.markSealed ps p).flag (Reg.CORR_STATUS p) Fld.CORR_STATUS_COPYING = s.flag (Reg.CORR_STATUS p) Fld.CORR_STATUS_COPYING ∧
    (s.markSealed ps p).fld (Reg.CORR_STATUS p) Fld.CORR_STATUS_BANK = s.fld (Reg.CORR_STATUS p) Fld.CORR_STATUS_BANK := by
  have hmark (c : Bits) : (s.markSealed ps p).fld (Reg.CORR_STATUS p) c = ((s.setFld (Reg.CORR_STATUS p) Fld.CORR_STATUS_SEALED 1).setFld
    (Reg.CORR_STATUS p) Fld.CORR_STATUS_PENDING 0).fld (Reg.CORR_STATUS p) c := rfl
  have apart (c : Bits) (h : Bits.Apart c Fld.CORR_STATUS_SEALED) (h' : Bits.Apart c Fld.CORR_STATUS_PENDING) :
      (s.markSealed ps p).fld (Reg.CORR_STATUS p) c = s.fld (Reg.CORR_STATUS p) c := by
    rw [hmark, fld_setFld_apart _ _ _ _ _ (by decide) h', fld_setFld_apart _ _ _ _ _ (by decide) h]
  have hsealed : (s.markSealed ps p).fld (Reg.CORR_STATUS p) Fld.CORR_STATUS_SEALED = 1 := by
    rw [hmark, fld_setFld_apart _ _ _ _ _ (by decide) (by decide), fld_setFld_self _ _ _ _ (by decide)]
    rfl
  refine ⟨?_, ?_, apart _ (by decide) (by decide)⟩
  · rw [State.flag, hsealed]
    rfl
  · rw [State.flag, State.flag, apart _ (by decide) (by decide)]

/-- Marking a group shows SEALED of its pipelines, leaves SEALED of the others and COPYING of all, and every register outside the pipelines. -/
theorem markSealed_fold (ps l : List Nat) (q : Nat) : let m := l.foldl (State.markSealed ps) s
    m.flag (Reg.CORR_STATUS q) Fld.CORR_STATUS_SEALED = (decide (q ∈ l) || s.flag (Reg.CORR_STATUS q) Fld.CORR_STATUS_SEALED) ∧
    m.flag (Reg.CORR_STATUS q) Fld.CORR_STATUS_COPYING = s.flag (Reg.CORR_STATUS q) Fld.CORR_STATUS_COPYING ∧
    (q < 12 → m.flag (Reg.TRG_CAMCFG q) Fld.TRG_CAMCFG_EN = s.flag (Reg.TRG_CAMCFG q) Fld.TRG_CAMCFG_EN) := by
  induction l generalizing s with
  | nil => simp
  | cons p l ih =>
    obtain ⟨hseal, hcopy, hcam⟩ := ih (s.markSealed ps p)
    obtain ⟨hp, hpc, -⟩ := markSealed_fields s ps p
    have hk := markSealed_keeps s ps p
    refine ⟨hseal.trans ?_, hcopy.trans ?_, fun h => (hcam h).trans (hk.flag (theRegs_eq_false.mpr ?_) _)⟩
    · by_cases hq : q = p
      · rw [hq, hp]
        simp
      · rw [hk.flag (theRegs_eq_false.mpr (by simpa using status_injective hq))]
        simp [hq]
    · by_cases hq : q = p
      · rw [hq, hpc]
      · rw [hk.flag (theRegs_eq_false.mpr (by simpa using status_injective hq))]
    · simpa using camCfg_ne_status h p

/-- Where every camera of the group is enabled the completed seal changes no register. -/
theorem completeSeal_fold_regs (jh : Option Int) (ps l : List Nat) (h : ∀ p ∈ l, s.flag (Reg.TRG_CAMCFG p) Fld.TRG_CAMCFG_EN = true) :
    (l.foldl (State.completeSeal jh ps) s).regs = s.regs := by
  induction l generalizing s with
  | nil => rfl
  | cons p l ih =>
    have hp : s.completeSeal jh ps p = s.setCorr p { s.corrOf p with jh := jh, sealWait := false, group := ps } := if_pos (h p (by simp))
    rw [List.foldl_cons, hp]
    exact ih _ fun q hq => h q (by simp [hq])

/-- A seal of pipelines none of which copies, their cameras enabled, shows SEALED of them and of no other. -/
theorem corrSealGroup_sealed (ps : List Nat) (hlt : ∀ p ∈ ps, p < 12) (hc : ∀ p ∈ ps, s.flag (Reg.CORR_STATUS p) Fld.CORR_STATUS_COPYING = false)
    (he : ∀ p ∈ ps, s.flag (Reg.TRG_CAMCFG p) Fld.TRG_CAMCFG_EN = true) (q : Nat) :
    (s.corrSealGroup ps).flag (Reg.CORR_STATUS q) Fld.CORR_STATUS_SEALED =
      (decide (q ∈ ps) || s.flag (Reg.CORR_STATUS q) Fld.CORR_STATUS_SEALED) := by
  let m := ps.foldl (State.markSealed ps) s
  have hm : s.corrSealGroup ps = m.sealComplete ps :=
    (corrSealGroup_eq s ps).trans (if_neg (by simpa using fun p hp => (markSealed_fold s ps ps p).2.1.trans (hc p hp)))
  have hregs : (m.sealComplete ps).regs = m.regs :=
    completeSeal_fold_regs m _ _ _ fun p hp => ((markSealed_fold s ps ps p).2.2 (hlt p hp)).trans (he p hp)
  have hflag : (m.sealComplete ps).flag (Reg.CORR_STATUS q) Fld.CORR_STATUS_SEALED = m.flag (Reg.CORR_STATUS q) Fld.CORR_STATUS_SEALED := by
    rw [State.flag, State.flag, State.fld, State.fld, State.reg, State.reg, hregs]
  rw [hm, hflag]
  exact (markSealed_fold s ps ps q).1

/-! ### A pipeline by itself -/

/-- A pipeline sealed by itself, before its banks may change. -/
def State.sealedAlone (s : State) (n : Nat) : State :=
  let m := s.markSealed [n] n
  m.setCorr n { m.corrOf n with jh := (s.corrOf n).lastLine.map (· + 1), sealWait := false, group := [n] }

theorem greatestLine_alone (n : Nat) : s.greatestLine [n] = (s.corrOf n).lastLine := by
  unfold State.greatestLine
  cases h : (s.corrOf n).lastLine <;> simp [h]

/-- The seal of one pipeline that does not copy completes at once. -/
theorem corrSealGroup_alone (n : Nat) (hn : n < 12) (hc : s.flag (Reg.CORR_STATUS n) Fld.CORR_STATUS_COPYING = false) :
    s.corrSealGroup [n] = if s.flag (Reg.TRG_CAMCFG n) Fld.TRG_CAMCFG_EN then s.sealedAlone n else (s.sealedAlone n).corrBankChange n := by
  let m := s.markSealed [n] n
  obtain ⟨-, hcopy, hcam⟩ := markSealed_fold s [n] [n] n
  have hm : s.corrSealGroup [n] = m.sealComplete [n] := (corrSealGroup_eq s [n]).trans (if_neg (by simpa using hcopy.trans hc))
  have hline : (m.greatestLine [n]).map (· + 1) = (s.corrOf n).lastLine.map (· + 1) := by
    rw [greatestLine_alone]
    exact congrArg (fun h => h.lastLine.map (· + 1)) (corrOf_setCorr_self _ n _)
  have hcam' : (s.sealedAlone n).flag (Reg.TRG_CAMCFG n) Fld.TRG_CAMCFG_EN = s.flag (Reg.TRG_CAMCFG n) Fld.TRG_CAMCFG_EN := hcam hn
  rw [hm, sealComplete_eq, hline, ← hcam']
  rfl

theorem sealedAlone_spec (n : Nat) : let y := s.sealedAlone n
    ((y.corrOf n).jh = (s.corrOf n).lastLine.map (· + 1) ∧ (y.corrOf n).sealWait = false ∧ (y.corrOf n).shadow = (s.corrOf n).shadow) ∧
      y.flag (Reg.CORR_STATUS n) Fld.CORR_STATUS_SEALED = true ∧ y.fld (Reg.CORR_STATUS n) Fld.CORR_STATUS_BANK = s.fld (Reg.CORR_STATUS n) Fld.CORR_STATUS_BANK := by
  obtain ⟨hseal, -, hbank⟩ := markSealed_fields s [n] n
  have hm : (s.markSealed [n] n).corrOf n = { s.corrOf n with sealWait := true, group := [n], due := none } := corrOf_setCorr_self _ n _
  intro y
  have hy : y.corrOf n = { (s.markSealed [n] n).corrOf n with jh := (s.corrOf n).lastLine.map (· + 1), sealWait := false, group := [n] } :=
    corrOf_setCorr_self _ n _
  rw [hy, hm]
  exact ⟨⟨rfl, rfl, rfl⟩, hseal, hbank⟩

/-- No seal, no restored tables and no JOIN stand in the way of a seal or a discard. -/
theorem corrSealShut_eq_false (n : Nat) (hs : s.flag (Reg.CORR_STATUS n) Fld.CORR_STATUS_SEALED = false)
    (hp : s.flag (Reg.CORR_STATUS n) Fld.CORR_STATUS_PENDING = false) (hj : s.joinActive = false) : s.corrSealShut n = false := by
  rw [State.corrSealShut, hs, hp, hj]
  rfl

theorem corrSeal_open (ps : List Nat) (a : Nat) (h : ∀ p ∈ ps, s.corrSealShut p = false) : s.corrSeal ps a = s.corrSealGroup ps := by
  have : ps.filter s.corrSealShut = [] := by simpa using h
  simp only [State.corrSeal, this, List.isEmpty_nil, if_true]

/-- A seal of a pipeline that is shut to it is rejected (R129). -/
theorem corrSeal_rejected (n : Nat) (hn : n < 12) (a : Nat) (h : s.corrSealShut n = true) : s.TableRejected n (s.corrSeal [n] a) := by
  have : [n].filter s.corrSealShut = [n] := by simp [h]
  simp only [State.corrSeal, this]
  exact bump_notice_rejected s n hn _ _ _

end Sys2Proof.Machine
end

section
/-! The rows of the pixel tables (R128 to R130, R156). -/

namespace Sys2Proof.Machine

variable (s : State)

/-! ### The registers that the rows write -/

theorem corrTdata_register : ∀ n < 12, kindAt (Reg.CORR_TDATA n) ≠ none ∧ corrPort (Reg.CORR_TDATA n) = some n ∧
    queuePort (Reg.CORR_TDATA n) 0x30 = none ∧ isCropDescriptor (Reg.CORR_TDATA n) = false := by decide +kernel

theorem corrTctl_register : ∀ n < 12, plainRegister .corr (0x200000 + 0x10000 * n) (Reg.CORR_TCTL n) = true ∧
    tiedAs .none (Reg.CORR_TCTL n) = true ∧ neverHeld (Reg.CORR_TCTL n) = true := by decide +kernel

theorem calSeal_register : plainRegister .cal 0x80000 Reg.CAL_SEAL = true ∧ tiedAs .none Reg.CAL_SEAL = true ∧ neverHeld Reg.CAL_SEAL = true := by
  decide +kernel

/-- A performed write of the port (R128). -/
theorem busWrite_corrTdata (p : Path) (n : Nat) (hn : n < 12) (w : Word) (h : s.performs (Reg.CORR_TDATA n) w = true) :
    (s.busWrite p (Reg.CORR_TDATA n) w).2 = s.corrDataWrite n w := by
  obtain ⟨hk, hport, -, hcrop⟩ := corrTdata_register n hn
  obtain ⟨k, hk⟩ := Option.ne_none_iff_exists'.mp hk
  obtain ⟨hf, hw⟩ := blockAt_low (blockAt_of_kindAt hk)
  have hpwr : Reg.CORR_TDATA n ≠ Reg.PWR_CTRL := by rw [Reg.CORR_TDATA, Reg.PWR_CTRL]; omega
  rw [busWrite_performs s p _ w h hpwr (by rw [Reg.CORR_TDATA, Reg.ERR_CTRL]; omega)]
  simp [State.writeNow, hf, hw, hk, hpwr, hcrop, hport]

/-- An answered read of the port (R128). -/
theorem readAlone_corrTdata (p : Path) (n : Nat) (hn : n < 12) (h : s.readable (Reg.CORR_TDATA n) = true) :
    s.readAlone p (Reg.CORR_TDATA n) = (s.corrStepIdx n).emit (.readWord (Reg.CORR_TDATA n) (BitVec.ofNat 32 (s.corrDataRead n).1)) := by
  obtain ⟨hk, hport, hq, -⟩ := corrTdata_register n hn
  obtain ⟨k, hk⟩ := Option.ne_none_iff_exists'.mp hk
  obtain ⟨hf, hw⟩ := blockAt_low (blockAt_of_kindAt hk)
  have hread : s.readNow p (Reg.CORR_TDATA n) = (BitVec.ofNat 32 (s.corrDataRead n).1, s.corrStepIdx n) := by
    simp [State.readNow, hf, hw, hk, hq, hport, State.corrDataRead]
  rw [readAlone_answered s p _ h, hread]

/-- The state with the fields of a register written and nothing started yet. -/
def State.fieldsWritten (s : State) (a : Nat) (w : Word) : State := s.takes a (s.written a w)

theorem fieldsWritten_keeps (a : Nat) (w : Word) : s.Keeps [.shadow] (theRegs [a]) (s.fieldsWritten a w) :=
  takes_keeps s _ _ _ (by simp [theRegs]) (by simp)

/-- A register keeps its flags when another one's fields are written. -/
theorem fieldsWritten_flag {a c : Nat} (h : c ≠ a) (w : Word) (b : Bits) : (s.fieldsWritten a w).flag c b = s.flag c b :=
  (fieldsWritten_keeps s a w).flag (theRegs_eq_false.mpr (by simpa using h)) b

/-- A performed write of the control register of a port (R129, R130). -/
theorem busWrite_corrTctl (p : Path) (n : Nat) (hn : n < 12) (w : Word) (h : s.performs (Reg.CORR_TCTL n) w = true) :
    (s.busWrite p (Reg.CORR_TCTL n) w).2 = (s.fieldsWritten (Reg.CORR_TCTL n) w).corrControl n (bit w.toNat 8) (bit w.toNat 9) := by
  obtain ⟨hr, ht, hnever⟩ := corrTctl_register n hn
  have hcd : ¬(Reg.CORR_TCTL n = Reg.CD_ORIGIN ∨ Reg.CORR_TCTL n = Reg.CD_PITCH ∨ Reg.CORR_TCTL n = Reg.CD_DIR) := by
    rw [Reg.CORR_TCTL, Reg.CD_ORIGIN, Reg.CD_PITCH, Reg.CD_DIR]; omega
  have hrmp : Reg.CORR_TCTL n ≠ Reg.RMP_TCTL := by rw [Reg.CORR_TCTL, Reg.RMP_TCTL]; omega
  have hport : 0x200000 ≤ Reg.CORR_TCTL n ∧ Reg.CORR_TCTL n < 0x2C0000 ∧ Reg.CORR_TCTL n % 0x10000 = 0x10 := by
    rw [Reg.CORR_TCTL]; omega
  have hn' : (Reg.CORR_TCTL n - 0x200000) / 0x10000 = n := by rw [Reg.CORR_TCTL]; omega
  rw [busWrite_plain s p w h hr (by decide), writeReg_sole s p w hr ht (.inr hnever)]
  unfold State.writeActs
  rw [plainRegister_block hr]
  simp only [State.tableWrite, if_neg hcd, if_neg hrmp, if_pos hport, hn']
  rfl

/-- A performed write of CAL_SEAL seals the pipelines of its mask, if it names any (R129). -/
theorem busWrite_calSeal (p : Path) (w : Word) (h : s.performs Reg.CAL_SEAL w = true) : let x := s.fieldsWritten Reg.CAL_SEAL w
    let ps := (List.range 12).filter fun n => bit w.toNat n
    (s.busWrite p Reg.CAL_SEAL w).2 = if ps.isEmpty then x else x.corrSeal ps Reg.CAL_SEAL := by
  obtain ⟨hr, ht, hnever⟩ := calSeal_register
  rw [busWrite_plain s p w h hr (by decide), writeReg_sole s p w hr ht (.inr hnever)]
  rfl

/-- A bit of a row's word that the row does not name. -/
theorem bit_withBits_ne (w : Word) {i j : Nat} (hi : i < 32) (h : i ≠ j) : bit (withBits w (2 ^ i)).toNat j = bit w.toNat j := by
  have hmod : (2 ^ i) % 2 ^ 32 = 2 ^ i := Nat.mod_eq_of_lt (Nat.pow_lt_pow_right (by norm_num) hi)
  have e (x : Nat) : bit x j = x.testBit j := by rw [bit, Nat.testBit_eq_decide_div_mod_eq]
  rw [e, e, withBits, BitVec.toNat_or, BitVec.toNat_ofNat, hmod, Nat.testBit_or, Nat.testBit_two_pow_of_ne h, Bool.or_false]

/-! ### The port -/

section
variable (t n : Nat) (p : Path) (w : Word) (hn : n < 12)
include hn

/-- The row CORR_TABLE_WRITE (R128). -/
theorem exec_corrTableWrite : let u := s.advanceTo t
    u.reaches p = true → u.performs (Reg.CORR_TDATA n) w = true →
    exec (.corrTableWrite t p n w) s = .next ((u.corrDataWrite n w).settle s) := by
  intro u hp hperf
  have hbus := busWrite_corrTdata u p n hn w hperf
  exact congrArg Host.Outcome.next ((writeAt_reaches s t p _ _ hp).trans (congrArg (State.settle · s) hbus))

/-- The row CORR_TABLE_READ (R128). -/
theorem exec_corrTableRead : let u := s.advanceTo t
    u.reaches p = true → u.readable (Reg.CORR_TDATA n) = true →
    exec (.corrTableRead t p n) s =
      .next (((u.corrStepIdx n).emit (.readWord (Reg.CORR_TDATA n) (BitVec.ofNat 32 (u.corrDataRead n).1))).settle s) := by
  intro u hp hread
  have hbus := readAlone_corrTdata u p n hn hread
  exact congrArg Host.Outcome.next ((readAt_reaches s t p _ hp).trans (congrArg (State.settle · s) hbus))

/-- The rows CORR_SEAL and CORR_DISCARD: a write of the port's control register with a bit set. -/
theorem writeAt_corrTctl : let u := s.advanceTo t
    u.reaches p = true → u.performs (Reg.CORR_TCTL n) w = true →
    s.writeAt t p (Reg.CORR_TCTL n) w = ((u.fieldsWritten (Reg.CORR_TCTL n) w).corrControl n (bit w.toNat 8) (bit w.toNat 9)).settle s := by
  intro u hp hperf
  have hbus := busWrite_corrTctl u p n hn w hperf
  exact (writeAt_reaches s t p _ _ hp).trans (congrArg (State.settle · s) hbus)

theorem exec_corrSeal : let u := s.advanceTo t
    u.reaches p = true → u.performs (Reg.CORR_TCTL n) (withBits w 0x100) = true → bit w.toNat 9 = false →
    exec (.corrSeal t p n w) s = .next (((u.fieldsWritten (Reg.CORR_TCTL n) (withBits w 0x100)).corrSeal [n] (Reg.CORR_TCTL n)).settle s) := by
  intro u hp hperf h9
  have h8 : bit (withBits w 0x100).toNat 8 = true := bit_withBits w (i := 8) (by norm_num)
  have h9' : bit (withBits w 0x100).toNat 9 = false := (bit_withBits_ne w (i := 8) (by norm_num) (by norm_num)).trans h9
  have hw := writeAt_corrTctl s t n p (withBits w 0x100) hn hp hperf
  rw [h8, h9'] at hw
  exact congrArg Host.Outcome.next hw

theorem exec_corrDiscard : let u := s.advanceTo t
    u.reaches p = true → u.performs (Reg.CORR_TCTL n) (withBits w 0x200) = true → bit w.toNat 8 = false →
    let x := u.fieldsWritten (Reg.CORR_TCTL n) (withBits w 0x200)
    (x.corrSealShut n = false → exec (.corrDiscard t p n w) s = .next ((x.corrDiscard n).settle s)) ∧
      (x.corrSealShut n = true → exec (.corrDiscard t p n w) s = .next ((x.corrReject n (Reg.CORR_TCTL n)).settle s)) := by
  intro u hp hperf h8 x
  have h9 : bit (withBits w 0x200).toNat 9 = true := bit_withBits w (i := 9) (by norm_num)
  have h8' : bit (withBits w 0x200).toNat 8 = false := (bit_withBits_ne w (i := 9) (by norm_num) (by norm_num)).trans h8
  have hw := writeAt_corrTctl s t n p (withBits w 0x200) hn hp hperf
  rw [h8', h9] at hw
  have hexec : exec (.corrDiscard t p n w) s =
      .next ((if x.corrSealShut n then x.corrReject n (Reg.CORR_TCTL n) else x.corrDiscard n).settle s) := congrArg Host.Outcome.next hw
  refine ⟨fun h => ?_, fun h => ?_⟩
  · rwa [if_neg (Bool.eq_false_iff.mp h)] at hexec
  · rwa [if_pos h] at hexec

end

theorem exec_calSeal (t : Nat) (p : Path) (w : Word) : let u := s.advanceTo t
    u.reaches p = true → u.performs Reg.CAL_SEAL w = true →
    let x := u.fieldsWritten Reg.CAL_SEAL w
    let ps := (List.range 12).filter fun n => bit w.toNat n
    exec (.calSeal t p w) s = .next ((if ps.isEmpty then x else x.corrSeal ps Reg.CAL_SEAL).settle s) := by
  intro u hp hperf x ps
  have hbus := busWrite_calSeal u p w hperf
  exact congrArg Host.Outcome.next ((writeAt_reaches s t p _ _ hp).trans (congrArg (State.settle · s) hbus))

/-- The row CORR_BANK_CHANGE (R129). -/
theorem exec_corrBankChange (t n : Nat) {j : Int} : let u := s.advanceTo t
    u.mode.active = true → (u.corrOf n).due = some j → exec (.corrBankChange t n) s = .next ((u.corrBankChange n).settle s) := by
  intro u hm hdue
  have hdo : (u.when u.mode.active fun x => x.when (x.corrOf n).due.isSome fun x => x.corrBankChange n) = u.corrBankChange n := by
    simp [State.when, hm, hdue]
  exact congrArg (fun x => Host.Outcome.next (State.settle x s)) hdo

/-- The row BANK_COPY_DONE of a pipeline (R130). -/
theorem exec_bankCopyDone (t n : Nat) (hn : n < 12) : let u := s.advanceTo t
    u.mode.active = true → u.flag (Reg.CORR_STATUS n) Fld.CORR_STATUS_COPYING = true →
    exec (.bankCopyDone t n) s = .next ((u.corrCopyDone n).settle s) := by
  intro u hm hc
  have hdo : (u.when u.mode.active fun x => if n = 12 then x.when (x.flag Reg.RMP_TCTL Fld.RMP_TCTL_COPYING) State.rmpCopyDone
      else x.when (x.flag (Reg.CORR_STATUS n) Fld.CORR_STATUS_COPYING) fun x => x.corrCopyDone n) = u.corrCopyDone n := by
    simp [State.when, hm, hc, hn.ne]
  exact congrArg (fun x => Host.Outcome.next (State.settle x s)) hdo

/-- The row BANK_COPY_DONE of the remap tables (R156). -/
theorem exec_bankCopyDone_remap (t : Nat) : let u := s.advanceTo t
    u.mode.active = true → u.flag Reg.RMP_TCTL Fld.RMP_TCTL_COPYING = true →
    exec (.bankCopyDone t 12) s = .next (u.rmpCopyDone.settle s) := by
  intro u hm hc
  have hdo : (u.when u.mode.active fun x => x.when (x.flag Reg.RMP_TCTL Fld.RMP_TCTL_COPYING) State.rmpCopyDone) = u.rmpCopyDone := by
    simp [State.when, hm, hc]
  exact congrArg (fun x => Host.Outcome.next (State.settle x s)) hdo

/-! ### Seals and discards -/

theorem tctl_ne_status (n q : Nat) : Reg.CORR_STATUS q ≠ Reg.CORR_TCTL n := by
  rw [Reg.CORR_STATUS, Reg.CORR_TCTL]
  omega

theorem calSeal_ne_status (q : Nat) : Reg.CORR_STATUS q ≠ Reg.CAL_SEAL := by
  rw [Reg.CORR_STATUS, Reg.CAL_SEAL]
  omega

/-- Writing fields elsewhere leaves whether a seal or a discard is rejected. -/
theorem fieldsWritten_sealShut {a n : Nat} (h : Reg.CORR_STATUS n ≠ a) (w : Word) : (s.fieldsWritten a w).corrSealShut n = s.corrSealShut n := by
  rw [State.corrSealShut, State.corrSealShut, fieldsWritten_flag s h, fieldsWritten_flag s h]
  rfl

/-- A rejection behind a write of other fields. -/
theorem State.TableRejected.of_fieldsWritten {u v : State} {a n : Nat} {w : Word} (h : (u.fieldsWritten a w).TableRejected n v)
    (ha : Reg.CORR_TWREJ n ≠ a) : v.corr = u.corr ∧ v.num (Reg.CORR_TWREJ n) = min 0xFFFFFFFF (u.num (Reg.CORR_TWREJ n) + 1) := by
  refine ⟨h.corr, h.2.trans ?_⟩
  rw [(fieldsWritten_keeps u a w).num (theRegs_eq_false.mpr (by simpa using ha))]

/-- The seal of one pipeline, behind a write of other fields: with its camera enabled it names the line after the greatest triggered; with its
camera disabled its banks change at once (R129). -/
theorem corrSeal_alone {a n : Nat} (hn : n < 12) (w : Word) (c : Nat) (h1 : Reg.CORR_STATUS n ≠ a) (h2 : Reg.TRG_CAMCFG n ≠ a)
    (hshut : s.corrSealShut n = false) (hc : s.flag (Reg.CORR_STATUS n) Fld.CORR_STATUS_COPYING = false) :
    let v := (s.fieldsWritten a w).corrSeal [n] c
    (s.flag (Reg.TRG_CAMCFG n) Fld.TRG_CAMCFG_EN = true → v.flag (Reg.CORR_STATUS n) Fld.CORR_STATUS_SEALED = true ∧
      (v.corrOf n).jh = (s.corrOf n).lastLine.map (· + 1) ∧ (v.corrOf n).sealWait = false ∧ (v.corrOf n).shadow = (s.corrOf n).shadow) ∧
    (s.flag (Reg.TRG_CAMCFG n) Fld.TRG_CAMCFG_EN = false → v.flag (Reg.CORR_STATUS n) Fld.CORR_STATUS_SEALED = false ∧
      (v.corrOf n).live = (s.corrOf n).shadow ∧
      v.fld (Reg.CORR_STATUS n) Fld.CORR_STATUS_BANK = 1 - s.fld (Reg.CORR_STATUS n) Fld.CORR_STATUS_BANK) := by
  intro v
  let x := s.fieldsWritten a w
  have hx := fieldsWritten_keeps s a w
  have hv : v = if s.flag (Reg.TRG_CAMCFG n) Fld.TRG_CAMCFG_EN then x.sealedAlone n else (x.sealedAlone n).corrBankChange n := by
    rw [← fieldsWritten_flag s h2 w, ← corrSealGroup_alone x n hn ((fieldsWritten_flag s h1 w _).trans hc)]
    exact corrSeal_open x [n] c (by simpa using (fieldsWritten_sealShut s h1 w).trans hshut)
  obtain ⟨⟨hjh, hwait, hshadow⟩, hseal, hbank⟩ := sealedAlone_spec x n
  have hcorr : x.corrOf n = s.corrOf n := hx.corrOf (by simp) n
  rw [hcorr] at hjh hshadow
  refine ⟨fun he => ?_, fun he => ?_⟩
  · rw [hv, if_pos he]
    exact ⟨hseal, hjh, hwait, hshadow⟩
  · rw [hv, if_neg (by simp [he])]
    obtain ⟨⟨hlive, -, -⟩, hbank', hseal', -⟩ := corrBankChange_spec (x.sealedAlone n) n
    refine ⟨hseal', hlive.trans hshadow, hbank'.trans ?_⟩
    rw [hbank, hx.fld (theRegs_eq_false.mpr (by simpa using h1))]

/-- A seal of the pipelines of a mask shows SEALED of them and of no other, where none is sealed, restored or copying and every camera is
enabled (R129). -/
theorem calSeal_mask (w : Word) (hj : s.joinActive = false)
    (hs : ∀ q, q < 12 → s.flag (Reg.CORR_STATUS q) Fld.CORR_STATUS_SEALED = false ∧ s.flag (Reg.CORR_STATUS q) Fld.CORR_STATUS_PENDING = false)
    (hc : ∀ q, q < 12 → s.flag (Reg.CORR_STATUS q) Fld.CORR_STATUS_COPYING = false)
    (he : ∀ q, q < 12 → s.flag (Reg.TRG_CAMCFG q) Fld.TRG_CAMCFG_EN = true) (q : Nat) (hq : q < 12) :
    let x := s.fieldsWritten Reg.CAL_SEAL w
    let ps := (List.range 12).filter fun n => bit w.toNat n
    (if ps.isEmpty then x else x.corrSeal ps Reg.CAL_SEAL).flag (Reg.CORR_STATUS q) Fld.CORR_STATUS_SEALED = bit w.toNat q := by
  intro x ps
  have hlt (p : Nat) (hp : p ∈ ps) : p < 12 := List.mem_range.mp (List.mem_filter.mp hp).1
  have hmem : decide (q ∈ ps) = bit w.toNat q := by simp [ps, hq]
  have hflag (p : Nat) (b : Bits) : x.flag (Reg.CORR_STATUS p) b = s.flag (Reg.CORR_STATUS p) b := fieldsWritten_flag s (calSeal_ne_status p) w b
  have hcam (p : Nat) (hp : p < 12) : x.flag (Reg.TRG_CAMCFG p) Fld.TRG_CAMCFG_EN = true :=
    (fieldsWritten_flag s (by rw [Reg.TRG_CAMCFG, Reg.CAL_SEAL]; omega) w _).trans (he p hp)
  split
  · next hnil =>
    rw [hflag, (hs q hq).1, ← hmem, List.isEmpty_iff.mp hnil]
    rfl
  · have hopen (p : Nat) (hp : p ∈ ps) : x.corrSealShut p = false :=
      (fieldsWritten_sealShut s (calSeal_ne_status p) w).trans (corrSealShut_eq_false s p (hs p (hlt p hp)).1 (hs p (hlt p hp)).2 hj)
    rw [corrSeal_open x ps _ hopen, corrSealGroup_sealed x ps hlt (fun p hp => (hflag p _).trans (hc p (hlt p hp))) (fun p hp => hcam p (hlt p hp)),
      hmem, hflag, (hs q hq).1, Bool.or_false]

/-- A word of one bit names one pipeline. -/
theorem filter_bit_alone {n : Nat} (hn : n < 12) {w : Word} (hw : w.toNat = 2 ^ n) : ((List.range 12).filter fun q => bit w.toNat q) = [n] := by
  have all : ∀ n < 12, ((List.range 12).filter fun q => bit (2 ^ n) q) = [n] := by decide
  rw [hw, all n hn]

/-- Settles O49: each row is one access or one event, whose effect on the tables its operation's lemma says. -/
theorem pixelTables : Obligations.PixelTables := by
  unfold Obligations.PixelTables
  intro s t n p w hn u tc st tsel ph i last held i'
  have hopen (hheld : held = false) (hj : u.joinActive = false) : u.corrSealShut n = false :=
    corrSealShut_eq_false u n (Bool.or_eq_false_iff.mp hheld).1 (Bool.or_eq_false_iff.mp hheld).2 hj
  have hshut (h : held = true ∨ u.joinActive = true) : u.corrSealShut n = true := Bool.or_eq_true_iff.mpr h
  have htwrej : Reg.CORR_TWREJ n ≠ tc := by
    simp only [tc, Reg.CORR_TWREJ, Reg.CORR_TCTL]
    omega
  have hcam : Reg.TRG_CAMCFG n ≠ tc := by
    simp only [tc, Reg.TRG_CAMCFG, Reg.CORR_TCTL]
    omega
  refine ⟨fun hp hperf => ?_, fun hp hread => ?_, fun hp hperf h9 hj => ?_, fun hp hperf hj hw hheld hc he => ?_, fun hp hperf hj hs hc he => ?_,
    fun hp hperf h8 => ?_, fun j hm hdue => ?_, fun hm hc hwait => ?_, fun hm hc => ?_⟩
  · exact ⟨_, exec_corrTableWrite s t n p w hn hp hperf, corrDataWrite_spec u n hn w⟩
  · exact ⟨_, exec_corrTableRead s t n p hn hp hread, portRead_spec u n _⟩
  · have hexec := exec_corrSeal s t n p w hn hp hperf h9
    have halone (h : held = false) (hc : u.flag st Fld.CORR_STATUS_COPYING = false) :=
      corrSeal_alone u hn (withBits w 0x100) tc (tctl_ne_status n n) hcam (hopen h hj) hc
    refine ⟨fun h => ⟨_, hexec, ?_⟩, fun h hc he => ⟨_, hexec, (halone h hc).1 he⟩, fun h hc he => ⟨_, hexec, (halone h hc).2 he⟩⟩
    have hx := (fieldsWritten_sealShut u (tctl_ne_status n n) (withBits w 0x100)).trans (hshut (.inl (Bool.or_eq_true_iff.mpr h)))
    exact (corrSeal_rejected _ n hn tc hx).of_fieldsWritten htwrej
  · have hexec := exec_calSeal s t p w hp hperf
    rw [filter_bit_alone hn hw] at hexec
    obtain ⟨hseal, hjh, -⟩ := (corrSeal_alone u hn w Reg.CAL_SEAL (calSeal_ne_status n) (by rw [Reg.TRG_CAMCFG, Reg.CAL_SEAL]; omega)
      (hopen hheld hj) hc).1 he
    exact ⟨_, hexec, hseal, hjh⟩
  · exact ⟨_, exec_calSeal s t p w hp hperf, calSeal_mask u w hj hs hc he⟩
  · obtain ⟨hdo, hrej⟩ := exec_corrDiscard s t n p w hn hp hperf h8
    have hx := fieldsWritten_sealShut u (tctl_ne_status n n) (withBits w 0x200)
    refine ⟨fun h => ⟨_, hdo (hx.trans (hopen h.1 h.2)), corrDiscard_spec _ n⟩, fun h => ⟨_, hrej (hx.trans (hshut h)), ?_⟩⟩
    exact (corrReject_rejected _ n hn tc).of_fieldsWritten htwrej
  · obtain ⟨⟨hlive, hshadow, hdue'⟩, hrest⟩ := corrBankChange_spec u n
    exact ⟨_, exec_corrBankChange s t n hm hdue, hlive, hshadow, hdue', hrest⟩
  · exact ⟨_, exec_bankCopyDone s t n hn hm hc, corrCopyDone_spec u n hwait⟩
  · exact ⟨_, exec_bankCopyDone_remap s t hm hc, rmpCopyDone_spec u⟩

end Sys2Proof.Machine
end

section
/-! The port of the remap tables (R156): what an access, a rejected one, a seal, a discard and a bank change make of the tables and of the
port's registers. -/

namespace Sys2Proof.Machine

variable (s : State)

/-! ### A rejected access -/

/-- The registers that a rejection by the port uses: its counter and the ledger's. -/
def remapRejectReg (a : Nat) : Bool := a == Reg.STITCH_TWREJ || ledgerReg a

/-- What a rejection leaves: the counter has counted it, and an entry is recorded. -/
def State.RemapRejected (u v : State) : Prop :=
  u.Keeps ledgerParts remapRejectReg v ∧ v.num Reg.STITCH_TWREJ = min 0xFFFFFFFF (u.num Reg.STITCH_TWREJ + 1)

theorem rmpReject_rejected (code a : Nat) : s.RemapRejected (s.rmpReject code a) := by
  refine ⟨(bump_keeps s _ _ _ (by decide)).trans (notice_keeps _ _ _ _ (fun _ h => h) fun a h => (Bool.or_eq_false_iff.mp h).2), ?_⟩
  exact ((notice_ledger _ code _ a).num (by decide)).trans (num_bump_self s _)

theorem State.RemapRejected.stitch {u v : State} (h : u.RemapRejected v) : v.stitch = u.stitch :=
  h.1.1 .stitch (by simp) (by simp [ledgerParts])

/-! ### The index -/

/-- The index that an access to the port leaves (R128, R156). -/
def State.nextRmpIdx (s : State) : Nat :=
  if s.flag Reg.RMP_TCTL Fld.RMP_TCTL_AUTOINC = true then
    if s.fld Reg.RMP_TIDX Fld.RMP_TIDX_IDX < s.rmpLast then s.fld Reg.RMP_TIDX Fld.RMP_TIDX_IDX + 1 else 0
  else s.fld Reg.RMP_TIDX Fld.RMP_TIDX_IDX

/-- It rests on the index, on the table that the port names and on the stitched width. -/
theorem nextRmpIdx_congr {u v : State} (hi : v.reg Reg.RMP_TIDX = u.reg Reg.RMP_TIDX) (hw : v.reg Reg.STITCH_WIDTH = u.reg Reg.STITCH_WIDTH)
    (ha : v.fld Reg.RMP_TCTL Fld.RMP_TCTL_AUTOINC = u.fld Reg.RMP_TCTL Fld.RMP_TCTL_AUTOINC)
    (ht : v.fld Reg.RMP_TCTL Fld.RMP_TCTL_TSEL = u.fld Reg.RMP_TCTL Fld.RMP_TCTL_TSEL) : v.nextRmpIdx = u.nextRmpIdx := by
  have hidx : v.fld Reg.RMP_TIDX Fld.RMP_TIDX_IDX = u.fld Reg.RMP_TIDX Fld.RMP_TIDX_IDX := by rw [State.fld, State.fld, hi]
  have hws : v.ws = u.ws := by rw [State.ws, State.ws, State.fld, State.fld, hw]
  have hlast : v.rmpLast = u.rmpLast := by rw [State.rmpLast, State.rmpLast, State.flag, State.flag, ht, hws]
  rw [State.nextRmpIdx, State.nextRmpIdx, State.flag, State.flag, ha, hidx, hlast]

theorem rmpLast_lt : s.rmpLast < 2 ^ 19 := by
  have hws : s.ws < 2 ^ 19 := getBits_lt _ Fld.STITCH_WIDTH_WS
  unfold State.rmpLast
  split <;> omega

theorem rmpStepIdx_keeps : s.Keeps [] (theRegs [Reg.RMP_TIDX]) s.rmpStepIdx := by
  unfold State.rmpStepIdx
  exact .ite (setFld_keeps s _ _ _ _ _ (by decide)) (.refl ..)

theorem rmpStepIdx_idx : s.rmpStepIdx.fld Reg.RMP_TIDX Fld.RMP_TIDX_IDX = s.nextRmpIdx := by
  have hlast := rmpLast_lt s
  unfold State.rmpStepIdx State.nextRmpIdx
  split
  · rw [fld_setFld_self _ _ _ _ (by decide)]
    refine Nat.mod_eq_of_lt (lt_of_lt_of_eq ?_ (by rfl : 2 ^ 19 = 2 ^ Fld.RMP_TIDX_IDX.len))
    split <;> omega
  · rfl

/-! ### The port -/

/-- Is the shadow closed to writes, seals and discards: is it sealed, or being filled by a JOIN (R156)? -/
def State.rmpShut (s : State) : Bool := s.flag Reg.RMP_TCTL Fld.RMP_TCTL_SEALED || s.joinActive

/-- A write to a shut shadow, or beyond the table, is turned away and steps the index. -/
theorem rmpDataWrite_shut (w : Word) (h : s.rmpShut = true ∨ s.rmpLast < s.fld Reg.RMP_TIDX Fld.RMP_TIDX_IDX) :
    let v := s.rmpDataWrite w
    v.fld Reg.RMP_TIDX Fld.RMP_TIDX_IDX = s.nextRmpIdx ∧ v.stitch = s.stitch ∧
      v.num Reg.STITCH_TWREJ = min 0xFFFFFFFF (s.num Reg.STITCH_TWREJ + 1) := by
  intro v
  have hv : v = (s.rmpReject 0x0104 Reg.RMP_TDATA).rmpStepIdx := congrArg State.rmpStepIdx (if_pos (by simpa [State.rmpShut] using h))
  have hrej := rmpReject_rejected s 0x0104 Reg.RMP_TDATA
  have hstep := rmpStepIdx_keeps (s.rmpReject 0x0104 Reg.RMP_TDATA)
  rw [hv]
  refine ⟨(rmpStepIdx_idx _).trans ?_, (hstep.1 .stitch (by simp) (by simp)).trans hrej.stitch, (hstep.num (by decide)).trans hrej.2⟩
  exact nextRmpIdx_congr (hrej.1.2 _ (by decide)) (hrej.1.2 _ (by decide)) (hrej.1.fld (by decide) _) (hrej.1.fld (by decide) _)

/-- The state with a word written to the shadow entry that the port names. -/
def State.rmpStored (s : State) (w : Word) : State :=
  { s with stitch := { s.stitch with
    shadow := Store.set rmpInit s.rmpKey w s.stitch.shadow, marks := Store.set (fun _ => false) s.rmpKey true s.stitch.marks } }

theorem stitch_keeps (x : StitchHid) (P : List Part) (r : Nat → Bool) (h : Part.stitch ∈ P) : s.Keeps P r { s with stitch := x } :=
  .of_regs r rfl fun p _ hp => by cases p <;> first | rfl | exact absurd h hp

/-- A write to an open shadow goes to the entry that the port names, shows DIRTY, and steps the index (R156). -/
theorem rmpDataWrite_open (w : Word) (h : s.rmpShut = false) (hi : s.fld Reg.RMP_TIDX Fld.RMP_TIDX_IDX ≤ s.rmpLast) :
    let v := s.rmpDataWrite w
    v.fld Reg.RMP_TIDX Fld.RMP_TIDX_IDX = s.nextRmpIdx ∧ v.stitch.live = s.stitch.live ∧
      v.stitch.shadow = Store.set rmpInit s.rmpKey w s.stitch.shadow ∧ v.flag Reg.RMP_TCTL Fld.RMP_TCTL_DIRTY = true ∧
      s.Keeps [.stitch] (theRegs [Reg.RMP_TCTL, Reg.RMP_TIDX]) v := by
  intro v
  have hopen : ¬(s.flag Reg.RMP_TCTL Fld.RMP_TCTL_SEALED || s.joinActive || decide (s.rmpLast < s.fld Reg.RMP_TIDX Fld.RMP_TIDX_IDX)) = true := by
    simpa [State.rmpShut] using ⟨by simpa [State.rmpShut] using h, hi⟩
  let x := (s.rmpStored w).setFld Reg.RMP_TCTL Fld.RMP_TCTL_DIRTY 1
  have hv : v = x.rmpStepIdx := congrArg State.rmpStepIdx (if_neg hopen)
  have hstored : s.Keeps [.stitch] noReg (s.rmpStored w) := stitch_keeps s _ _ _ (by simp)
  have hx : s.Keeps [.stitch] (theRegs [Reg.RMP_TCTL]) x := (hstored.mono (by simp) fun _ _ => rfl).trans (setFld_keeps _ _ _ _ _ _ (by decide))
  have hstep : x.Keeps [] (theRegs [Reg.RMP_TIDX]) v := hv ▸ rmpStepIdx_keeps _
  have hstitch : v.stitch = (s.rmpStored w).stitch := (hstep.1 .stitch (by simp) (by simp)).trans (setFld_stitch ..)
  have hctl {b : Bits} (hb : Bits.Apart b Fld.RMP_TCTL_DIRTY) : x.fld Reg.RMP_TCTL b = s.fld Reg.RMP_TCTL b :=
    (fld_setFld_apart _ _ _ _ _ (by decide) hb).trans (hstored.fld rfl b)
  rw [hstitch]
  refine ⟨?_, rfl, rfl, ?_, (hx.mono (fun _ h => h) ?_).trans (hstep.mono (by simp) ?_)⟩
  · rw [hv, rmpStepIdx_idx]
    exact nextRmpIdx_congr (hx.2 _ (by decide)) (hx.2 _ (by decide)) (hctl (by decide)) (hctl (by decide))
  · rw [hstep.flag (by decide)]
    exact flag_setFld_true _ _ _ (by decide) (by decide)
  · intro a ha
    simp_all [theRegs_eq_false]
  · intro a ha
    simp_all [theRegs_eq_false]

/-- A write of the port, by whether the shadow is open to it (R156). -/
theorem rmpDataWrite_spec (w : Word) : let v := s.rmpDataWrite w
    let i := s.fld Reg.RMP_TIDX Fld.RMP_TIDX_IDX
    v.fld Reg.RMP_TIDX Fld.RMP_TIDX_IDX = s.nextRmpIdx ∧ v.stitch.live = s.stitch.live ∧
      (s.rmpShut = false → i ≤ s.rmpLast → Store.get rmpInit s.rmpKey v.stitch.shadow = w ∧ v.flag Reg.RMP_TCTL Fld.RMP_TCTL_DIRTY = true ∧
        (∀ k, k ≠ s.rmpKey → Store.get rmpInit k v.stitch.shadow = Store.get rmpInit k s.stitch.shadow) ∧
        s.Keeps [.stitch] (theRegs [Reg.RMP_TCTL, Reg.RMP_TIDX]) v) ∧
      (s.rmpShut = true ∨ s.rmpLast < i → v.stitch = s.stitch ∧ v.num Reg.STITCH_TWREJ = min 0xFFFFFFFF (s.num Reg.STITCH_TWREJ + 1)) := by
  intro v i
  by_cases h : s.rmpShut = true ∨ s.rmpLast < i
  · obtain ⟨hidx, hstitch, hrej⟩ := rmpDataWrite_shut s w h
    refine ⟨hidx, congrArg StitchHid.live hstitch, fun h1 h2 => absurd h ?_, fun _ => ⟨hstitch, hrej⟩⟩
    simp [h1, h2]
  · obtain ⟨h1, h2⟩ := not_or.mp h
    obtain ⟨hidx, hlive, hshadow, hdirty, hkeep⟩ := rmpDataWrite_open s w (Bool.eq_false_iff.mpr h1) (Nat.le_of_not_lt h2)
    refine ⟨hidx, hlive, fun _ _ => ⟨?_, hdirty, fun k hk => ?_, hkeep⟩, fun h' => absurd h' h⟩
    · rw [hshadow, Store.get_set_self]
    · rw [hshadow, Store.get_set_ne _ hk]

/-- A read of the port sends a word and steps the index (R156). -/
theorem rmpRead_spec (o : Output) : let v := s.rmpStepIdx.emit o
    v.out = o :: s.out ∧ v.fld Reg.RMP_TIDX Fld.RMP_TIDX_IDX = s.nextRmpIdx ∧ s.Keeps [.out] (theRegs [Reg.RMP_TIDX]) v := by
  have hk := rmpStepIdx_keeps s
  have hout : s.rmpStepIdx.out = s.out := hk.1 .out (by simp) (by simp)
  exact ⟨congrArg (_ :: ·) hout, rmpStepIdx_idx s, (hk.mono (by simp) fun _ h => h).trans (emit_keeps _ _ _ _ (by simp))⟩

/-! ### Seals and discards -/

/-- A seal and a discard of a shut shadow are rejected (R156). -/
theorem rmpControl_shut {sl discard : Bool} (hone : sl = !discard) (h : s.rmpShut = true) :
    s.rmpControl sl discard = s.rmpReject 0x0104 Reg.RMP_TCTL := by
  rw [State.rmpShut] at h
  cases discard <;> simp [State.rmpControl, hone, h]

/-- A seal with ATEN that names a line already triggered is rejected (R156). -/
theorem rmpControl_late (h : s.rmpShut = false) (ha : s.flag Reg.RMP_TCTL Fld.RMP_TCTL_ATEN = true)
    (hr : s.refCame (s.getS64 Reg.RMP_AT_LO) = true) : s.rmpControl true false = s.rmpReject 0x0105 Reg.RMP_TCTL := by
  rw [State.rmpShut] at h
  simp [State.rmpControl, h, ha, hr]

/-- Any other seal of an open shadow shows SEALED, takes ATEN and RMP_AT with it, and leaves the tables (R156). -/
theorem rmpControl_seals (h : s.rmpShut = false)
    (hr : s.flag Reg.RMP_TCTL Fld.RMP_TCTL_ATEN = false ∨ s.refCame (s.getS64 Reg.RMP_AT_LO) = false) : let v := s.rmpControl true false
    v.flag Reg.RMP_TCTL Fld.RMP_TCTL_SEALED = true ∧
      v.stitch.atLine = (if s.flag Reg.RMP_TCTL Fld.RMP_TCTL_ATEN = true then some (s.getS64 Reg.RMP_AT_LO) else none) ∧
      v.stitch.due = none ∧ v.stitch.shadow = s.stitch.shadow ∧ v.stitch.live = s.stitch.live := by
  intro v
  obtain ⟨y, hy⟩ : ∃ y, y = s.setFld Reg.RMP_TCTL Fld.RMP_TCTL_SEALED 1 := ⟨_, rfl⟩
  have hstitch : y.stitch = s.stitch := by rw [hy, setFld_stitch]
  have hv : v = { y with stitch := { y.stitch with
      due := none, atLine := if s.flag Reg.RMP_TCTL Fld.RMP_TCTL_ATEN then some (s.getS64 Reg.RMP_AT_LO) else none
      sealWait := y.flag Reg.RMP_TCTL Fld.RMP_TCTL_COPYING } } := by
    have hr' : (s.flag Reg.RMP_TCTL Fld.RMP_TCTL_ATEN && s.refCame (s.getS64 Reg.RMP_AT_LO)) = false := Bool.and_eq_false_iff.mpr hr
    rw [State.rmpShut] at h
    simp only [v, hy, State.rmpControl, h, hr', Bool.and_false, Bool.or_false, Bool.false_eq_true, if_false, if_true]
  rw [hv, ← hstitch]
  refine ⟨?_, rfl, rfl, rfl, rfl⟩
  rw [(stitch_keeps y _ [.stitch] noReg (by simp)).flag rfl, hy]
  exact flag_setFld_true s _ _ (by decide) (by decide)

/-- A discard takes the live tables back and clears the marks (R156). -/
theorem rmpControl_discards (h : s.rmpShut = false) : let v := s.rmpControl false true
    v.stitch.shadow = s.stitch.live ∧ v.stitch.live = s.stitch.live ∧ v.stitch.marks = [] ∧ v.flag Reg.RMP_TCTL Fld.RMP_TCTL_DIRTY = false := by
  intro v
  let y := s.setFld Reg.RMP_TCTL Fld.RMP_TCTL_DIRTY 0
  have hv : v = { y with stitch := { s.stitch with shadow := s.stitch.live, marks := [] } } := by
    rw [State.rmpShut] at h
    simp only [v, y, State.rmpControl, h, Bool.false_and, Bool.false_or, Bool.false_eq_true, Bool.and_false, if_false, if_true]
  rw [hv]
  refine ⟨rfl, rfl, rfl, ?_⟩
  rw [(stitch_keeps y _ [.stitch] noReg (by simp)).flag rfl]
  exact flag_setFld_zero s _ _ (by decide)

/-! ### The bank change -/

theorem rmpBank_lt : s.fld Reg.RMP_TCTL Fld.RMP_TCTL_BANK < 2 := getBits_lt _ Fld.RMP_TCTL_BANK

/-- The bank change exchanges the tables and starts the copy; what each bank's lines are stitched with stays (R130, R156). -/
theorem rmpBankChange_spec (h : s.stitch.due.isSome = true) : let v := s.rmpBankChange
    let c := Reg.RMP_TCTL
    v.stitch.live = s.stitch.shadow ∧ v.stitch.shadow = s.stitch.live ∧ (∀ b, b < 2 → v.remapTables b = s.remapTables b) ∧
      v.stitch.due = none ∧ v.stitch.atLine = none ∧ v.fld c Fld.RMP_TCTL_BANK = 1 - s.fld c Fld.RMP_TCTL_BANK ∧
      v.flag c Fld.RMP_TCTL_SEALED = false ∧ v.flag c Fld.RMP_TCTL_COPYING = true ∧ s.Keeps [.stitch] (theRegs [c]) v := by
  intro v c
  let x : State := { s with stitch := { s.stitch with
    live := s.stitch.shadow, shadow := s.stitch.live, old := s.stitch.live, marks := [], atLine := none, sealWait := false, due := none } }
  have hv : v = (((x.setFld c Fld.RMP_TCTL_BANK (1 - s.fld c Fld.RMP_TCTL_BANK)).setFld c Fld.RMP_TCTL_SEALED 0).setFld c
    Fld.RMP_TCTL_DIRTY 0).setFld c Fld.RMP_TCTL_COPYING 1 := rfl
  have hbank : v.fld c Fld.RMP_TCTL_BANK = 1 - s.fld c Fld.RMP_TCTL_BANK := by
    rw [hv, fld_setFld_apart _ _ _ _ _ (by decide) (by decide), fld_setFld_apart _ _ _ _ _ (by decide) (by decide),
      fld_setFld_apart _ _ _ _ _ (by decide) (by decide), fld_setFld_self _ _ _ _ (by decide)]
    exact Nat.mod_eq_of_lt (lt_of_le_of_lt (Nat.sub_le 1 _) (by decide))
  refine ⟨rfl, rfl, fun b hb => ?_, rfl, rfl, hbank, ?_, flag_setFld_true _ _ _ (by decide) (by decide), ?_⟩
  · have hlt : s.fld c Fld.RMP_TCTL_BANK < 2 := rmpBank_lt s
    rw [State.remapTables, State.remapTables, hbank, if_pos h]
    by_cases hbk : b = s.fld c Fld.RMP_TCTL_BANK
    · rw [if_pos hbk, if_neg (by omega)]
      rfl
    · rw [if_neg hbk, if_pos (by omega)]
      rfl
  · rw [hv, State.flag, fld_setFld_apart _ _ _ _ _ (by decide) (by decide), fld_setFld_apart _ _ _ _ _ (by decide) (by decide), ← State.flag]
    exact flag_setFld_zero _ _ _ (by decide)
  · have hreg (z : State) (f : Bits) (n : Nat) : z.Keeps [.stitch] (theRegs [c]) (z.setFld c f n) := setFld_keeps z _ _ _ _ _ (by decide)
    have hx : s.Keeps [.stitch] (theRegs [c]) x := stitch_keeps s _ _ _ (by simp)
    exact (((hx.trans (hreg _ _ _)).trans (hreg _ _ _)).trans (hreg _ _ _)).trans (hreg _ _ _)

end Sys2Proof.Machine
end

section
/-! The rows of the remap tables (R156). -/

namespace Sys2Proof.Machine

variable (s : State)

/-! ### The registers that the rows write and read -/

theorem rmpTdata_register : (kindAt Reg.RMP_TDATA).isSome = true ∧ corrPort Reg.RMP_TDATA = none ∧ queuePort Reg.RMP_TDATA 0x30 = none ∧
    isCropDescriptor Reg.RMP_TDATA = false ∧ Reg.RMP_TDATA ≠ Reg.PWR_CTRL ∧ Reg.RMP_TDATA ≠ Reg.ERR_CTRL := by decide +kernel

theorem rmpTctl_register : plainRegister .stitch 0x300000 Reg.RMP_TCTL = true ∧ tiedAs .none Reg.RMP_TCTL = true ∧
    neverHeld Reg.RMP_TCTL = true ∧ hasField Reg.RMP_TCTL Fld.RMP_TCTL_SEALED .ro = true ∧ hasField Reg.RMP_TCTL Fld.RMP_TCTL_ATEN .rw = true := by
  decide +kernel

/-- A performed write of the port (R156). -/
theorem busWrite_rmpTdata (p : Path) (w : Word) (h : s.performs Reg.RMP_TDATA w = true) :
    (s.busWrite p Reg.RMP_TDATA w).2 = s.rmpDataWrite w := by
  obtain ⟨hk, hport, -, hcrop, hpwr, herr⟩ := rmpTdata_register
  obtain ⟨k, hk⟩ := Option.isSome_iff_exists.mp hk
  obtain ⟨hf, hw⟩ := blockAt_low (blockAt_of_kindAt hk)
  rw [busWrite_performs s p _ w h hpwr herr]
  simp [State.writeNow, hf, hw, hk, hpwr, hcrop, hport]

/-- An answered read of the port (R156). -/
theorem readAlone_rmpTdata (p : Path) (h : s.readable Reg.RMP_TDATA = true) :
    s.readAlone p Reg.RMP_TDATA = s.rmpStepIdx.emit (.readWord Reg.RMP_TDATA s.rmpDataRead.1) := by
  obtain ⟨hk, hport, hq, -⟩ := rmpTdata_register
  obtain ⟨k, hk⟩ := Option.isSome_iff_exists.mp hk
  obtain ⟨hf, hw⟩ := blockAt_low (blockAt_of_kindAt hk)
  have hread : s.readNow p Reg.RMP_TDATA = (s.rmpDataRead.1, s.rmpStepIdx) := by
    simp [State.readNow, hf, hw, hk, hq, hport, State.rmpDataRead]
  rw [readAlone_answered s p _ h, hread]

/-- A performed write of the port's control register (R156). -/
theorem busWrite_rmpTctl (p : Path) (w : Word) (h : s.performs Reg.RMP_TCTL w = true) :
    (s.busWrite p Reg.RMP_TCTL w).2 = (s.fieldsWritten Reg.RMP_TCTL w).rmpControl (bit w.toNat 8) (bit w.toNat 9) := by
  obtain ⟨hr, ht, hnever, -⟩ := rmpTctl_register
  have hcd : ¬(Reg.RMP_TCTL = Reg.CD_ORIGIN ∨ Reg.RMP_TCTL = Reg.CD_PITCH ∨ Reg.RMP_TCTL = Reg.CD_DIR) := by decide
  rw [busWrite_plain s p w h hr (by decide), writeReg_sole s p w hr ht (.inr hnever)]
  unfold State.writeActs
  rw [plainRegister_block hr]
  exact (if_neg hcd).trans (if_pos rfl)

/-! ### What the fields of a seal or a discard leave -/

/-- A one-bit field of a word is the word's bit. -/
theorem getBits_ne_zero (w : Word) (i : Nat) : decide (getBits w ⟨i, 1⟩ ≠ 0) = bit w.toNat i := by
  simp only [getBits, bit, pow_one, decide_eq_decide]
  omega

/-- Writing the control register leaves SEALED, takes ATEN, and changes nothing else on which the port rests. -/
theorem fieldsWritten_rmpTctl (w : Word) : let x := s.fieldsWritten Reg.RMP_TCTL w
    x.stitch = s.stitch ∧ x.num Reg.STITCH_TWREJ = s.num Reg.STITCH_TWREJ ∧ x.rmpShut = s.rmpShut ∧
      x.flag Reg.RMP_TCTL Fld.RMP_TCTL_SEALED = s.flag Reg.RMP_TCTL Fld.RMP_TCTL_SEALED ∧
      x.flag Reg.RMP_TCTL Fld.RMP_TCTL_ATEN = bit w.toNat 10 ∧ x.getS64 Reg.RMP_AT_LO = s.getS64 Reg.RMP_AT_LO ∧
      ∀ j, x.refCame j = s.refCame j := by
  obtain ⟨-, -, -, hro, hrw⟩ := rmpTctl_register
  intro x
  have hx : s.Keeps [.shadow] (theRegs [Reg.RMP_TCTL]) x := fieldsWritten_keeps s _ w
  have htakes : x = s.takes Reg.RMP_TCTL (s.written Reg.RMP_TCTL w) := rfl
  have htrg : x.trg = s.trg := hx.1 .trg (by simp) (by simp)
  have hjoin : x.joinActive = s.joinActive := hx.1 .joinActive (by simp) (by simp)
  have hsealed : x.flag Reg.RMP_TCTL Fld.RMP_TCTL_SEALED = s.flag Reg.RMP_TCTL Fld.RMP_TCTL_SEALED := by
    rw [State.flag, State.flag, htakes, fld_takes_self, written_field s _ hro]
    rfl
  refine ⟨hx.1 .stitch (by simp) (by simp), hx.num (by decide), ?_, hsealed, ?_, ?_, fun j => ?_⟩
  · rw [State.rmpShut, State.rmpShut, hsealed, hjoin]
  · rw [State.flag, htakes, fld_takes_self, written_field s _ hrw]
    exact getBits_ne_zero w 10
  · rw [State.getS64, State.getS64, State.get64, State.get64, hx.num (by decide), hx.num (by decide)]
  · rw [State.refCame, State.refCame, htrg]

/-- A rejection behind a write of the control register. -/
theorem State.RemapRejected.of_fieldsWritten {u v : State} {w : Word} (h : (u.fieldsWritten Reg.RMP_TCTL w).RemapRejected v) :
    v.stitch = u.stitch ∧ v.num Reg.STITCH_TWREJ = min 0xFFFFFFFF (u.num Reg.STITCH_TWREJ + 1) := by
  obtain ⟨hstitch, hcount, -⟩ := fieldsWritten_rmpTctl u w
  exact ⟨h.stitch.trans hstitch, h.2.trans (by rw [hcount])⟩

/-! ### The rows -/

section
variable (t : Nat) (p : Path) (w : Word)

/-- The row RMP_TABLE_WRITE (R156). -/
theorem exec_rmpTableWrite : let u := s.advanceTo t
    u.reaches p = true → u.performs Reg.RMP_TDATA w = true → exec (.rmpTableWrite t p w) s = .next ((u.rmpDataWrite w).settle s) := by
  intro u hp hperf
  have hbus := busWrite_rmpTdata u p w hperf
  exact congrArg Host.Outcome.next ((writeAt_reaches s t p _ _ hp).trans (congrArg (State.settle · s) hbus))

/-- The row RMP_TABLE_READ (R156). -/
theorem exec_rmpTableRead : let u := s.advanceTo t
    u.reaches p = true → u.readable Reg.RMP_TDATA = true →
    exec (.rmpTableRead t p) s = .next ((u.rmpStepIdx.emit (.readWord Reg.RMP_TDATA u.rmpDataRead.1)).settle s) := by
  intro u hp hread
  have hbus := readAlone_rmpTdata u p hread
  exact congrArg Host.Outcome.next ((readAt_reaches s t p _ hp).trans (congrArg (State.settle · s) hbus))

/-- The rows RMP_SEAL and RMP_DISCARD: a write of the port's control register. -/
theorem writeAt_rmpTctl : let u := s.advanceTo t
    u.reaches p = true → u.performs Reg.RMP_TCTL w = true →
    s.writeAt t p Reg.RMP_TCTL w = ((u.fieldsWritten Reg.RMP_TCTL w).rmpControl (bit w.toNat 8) (bit w.toNat 9)).settle s := by
  intro u hp hperf
  have hbus := busWrite_rmpTctl u p w hperf
  exact (writeAt_reaches s t p _ _ hp).trans (congrArg (State.settle · s) hbus)

theorem exec_rmpSeal : let u := s.advanceTo t
    u.reaches p = true → u.performs Reg.RMP_TCTL (withBits w 0x100) = true → bit w.toNat 9 = false →
    exec (.rmpSeal t p w) s = .next (((u.fieldsWritten Reg.RMP_TCTL (withBits w 0x100)).rmpControl true false).settle s) := by
  intro u hp hperf h9
  have h8 : bit (withBits w 0x100).toNat 8 = true := bit_withBits w (i := 8) (by norm_num)
  have h9' : bit (withBits w 0x100).toNat 9 = false := (bit_withBits_ne w (i := 8) (by norm_num) (by norm_num)).trans h9
  have hw := writeAt_rmpTctl s t p (withBits w 0x100) hp hperf
  rw [h8, h9'] at hw
  exact congrArg Host.Outcome.next hw

theorem exec_rmpDiscard : let u := s.advanceTo t
    u.reaches p = true → u.performs Reg.RMP_TCTL (withBits w 0x200) = true → bit w.toNat 8 = false →
    exec (.rmpDiscard t p w) s = .next (((u.fieldsWritten Reg.RMP_TCTL (withBits w 0x200)).rmpControl false true).settle s) := by
  intro u hp hperf h8
  have h9 : bit (withBits w 0x200).toNat 9 = true := bit_withBits w (i := 9) (by norm_num)
  have h8' : bit (withBits w 0x200).toNat 8 = false := (bit_withBits_ne w (i := 9) (by norm_num) (by norm_num)).trans h8
  have hw := writeAt_rmpTctl s t p (withBits w 0x200) hp hperf
  rw [h8', h9] at hw
  exact congrArg Host.Outcome.next hw

/-- The row REMAP_BANK_CHANGE (R156). -/
theorem exec_remapBankChange : let u := s.advanceTo t
    u.mode.active = true → u.stitch.due.isSome = true → exec (.remapBankChange t) s = .next (u.rmpBankChange.settle s) := by
  intro u hm hdue
  have hdo : u.when (u.mode.active && u.stitch.due.isSome) State.rmpBankChange = u.rmpBankChange := by simp [State.when, hm, hdue]
  exact congrArg (fun x => Host.Outcome.next (State.settle x s)) hdo

end

/-- A seal by a write of the control register: rejected where the shadow is shut or where it names a line already triggered, and done otherwise (R156). -/
theorem rmpSeal_spec (w : Word) : let v := (s.fieldsWritten Reg.RMP_TCTL (withBits w 0x100)).rmpControl true false
    (s.rmpShut = true → v.stitch = s.stitch ∧ v.num Reg.STITCH_TWREJ = min 0xFFFFFFFF (s.num Reg.STITCH_TWREJ + 1)) ∧
    (s.rmpShut = false → bit w.toNat 10 = true → s.refCame (s.getS64 Reg.RMP_AT_LO) = true →
      v.stitch = s.stitch ∧ v.flag Reg.RMP_TCTL Fld.RMP_TCTL_SEALED = false) ∧
    (s.rmpShut = false → (bit w.toNat 10 = false ∨ s.refCame (s.getS64 Reg.RMP_AT_LO) = false) →
      v.flag Reg.RMP_TCTL Fld.RMP_TCTL_SEALED = true ∧
      v.stitch.atLine = (if bit w.toNat 10 = true then some (s.getS64 Reg.RMP_AT_LO) else none) ∧
      v.stitch.due = none ∧ v.stitch.shadow = s.stitch.shadow ∧ v.stitch.live = s.stitch.live) := by
  intro v
  obtain ⟨hstitch, -, hshut, hsealed, haten, hat, href⟩ := fieldsWritten_rmpTctl s (withBits w 0x100)
  have h10 : bit (withBits w 0x100).toNat 10 = bit w.toNat 10 := bit_withBits_ne w (i := 8) (by norm_num) (by norm_num)
  rw [h10] at haten
  refine ⟨fun h => ?_, fun h ha hr => ?_, fun h hr => ?_⟩
  · have hv : v = _ := rmpControl_shut _ rfl (hshut.trans h)
    rw [hv]
    exact (rmpReject_rejected _ _ _).of_fieldsWritten
  · have hv : v = _ := rmpControl_late _ (hshut.trans h) (haten.trans ha) (by rw [hat, href, hr])
    have hrej := rmpReject_rejected (s.fieldsWritten Reg.RMP_TCTL (withBits w 0x100)) 0x0105 Reg.RMP_TCTL
    rw [hv]
    exact ⟨hrej.of_fieldsWritten.1, (hrej.1.flag (by decide) _).trans (hsealed.trans (Bool.or_eq_false_iff.mp h).1)⟩
  · obtain ⟨hseal, hline, hdue, hshadow, hlive⟩ := rmpControl_seals _ (hshut.trans h) (by rwa [haten, hat, href])
    rw [haten, hat] at hline
    rw [hstitch] at hshadow hlive
    exact ⟨hseal, hline, hdue, hshadow, hlive⟩

/-- A discard by a write of the control register: rejected where the shadow is shut, and done otherwise (R156). -/
theorem rmpDiscard_spec (w : Word) : let v := (s.fieldsWritten Reg.RMP_TCTL (withBits w 0x200)).rmpControl false true
    (s.rmpShut = false → v.stitch.shadow = s.stitch.live ∧ v.stitch.live = s.stitch.live ∧ v.stitch.marks = [] ∧
      v.flag Reg.RMP_TCTL Fld.RMP_TCTL_DIRTY = false) ∧
    (s.rmpShut = true → v.stitch = s.stitch ∧ v.num Reg.STITCH_TWREJ = min 0xFFFFFFFF (s.num Reg.STITCH_TWREJ + 1)) := by
  intro v
  obtain ⟨hstitch, -, hshut, -⟩ := fieldsWritten_rmpTctl s (withBits w 0x200)
  refine ⟨fun h => ?_, fun h => ?_⟩
  · obtain ⟨hshadow, hlive, hmarks, hdirty⟩ := rmpControl_discards _ (hshut.trans h)
    rw [hstitch] at hshadow hlive
    exact ⟨hshadow, hlive, hmarks, hdirty⟩
  · have hv : v = _ := rmpControl_shut _ rfl (hshut.trans h)
    rw [hv]
    exact (rmpReject_rejected _ _ _).of_fieldsWritten

/-- Settles O53: each row is one access or one event, whose effect on the tables its operation's lemma says. -/
theorem remapTables : Obligations.RemapTables := by
  unfold Obligations.RemapTables
  intro s t p w u tc i shut i'
  refine ⟨fun hp hperf => ⟨_, exec_rmpTableWrite s t p w hp hperf, rmpDataWrite_spec u w⟩,
    fun hp hread => ⟨_, exec_rmpTableRead s t p hp hread, rmpRead_spec u _⟩, fun hp hperf h9 => ?_, fun hp hperf h8 => ?_,
    fun hm hdue => ⟨_, exec_remapBankChange s t hm hdue, rmpBankChange_spec u hdue⟩⟩
  · have hexec := exec_rmpSeal s t p w hp hperf h9
    obtain ⟨hshut, hlate, hseals⟩ := rmpSeal_spec u w
    exact ⟨fun h => ⟨_, hexec, hshut h⟩, fun h ha hr => ⟨_, hexec, hlate h ha hr⟩, fun h hr => ⟨_, hexec, hseals h hr⟩⟩
  · have hexec := exec_rmpDiscard s t p w hp hperf h8
    obtain ⟨hdone, hshut⟩ := rmpDiscard_spec u w
    exact ⟨fun h => ⟨_, hexec, hdone h⟩, fun h => ⟨_, hexec, hshut h⟩⟩

end Sys2Proof.Machine
end

section
/-! Work for a stitched line (R17, R25): the registers as its trigger fixed them, and what the work leaves of the state. -/

namespace Sys2Proof.Machine

/-! ### Tables that are joined -/

section
variable {α : Type} (d : Nat → α)

theorem Store.get_filter_kept {f : Nat → Bool} {k : Nat} (h : f k = true) (m : Store α) :
    Store.get d k (m.filter fun e => f e.1) = Store.get d k m := by
  induction m with
  | nil => rfl
  | cons e m ih =>
    by_cases hf : f e.1
    · simp only [List.filter_cons, hf, if_true, Store.get, ih]
    · have hne : e.1 ≠ k := by
        rintro rfl
        exact hf h
      simp only [List.filter_cons, hf, Bool.false_eq_true, if_false, ih, Store.get, hne]

theorem Store.get_of_no_key {k : Nat} {m : Store α} (h : ∀ e ∈ m, e.1 ≠ k) : Store.get d k m = d k := by
  induction m with
  | nil => rfl
  | cons e m ih => rw [Store.get, if_neg (h e (by simp)), ih fun e he => h e (by simp [he])]

/-- Is a pair the first of its key in a table, with smaller keys only before it? -/
def Store.Leads (k : Nat) (v : α) : Store α → Prop
  | [] => False
  | e :: r => e = (k, v) ∨ e.1 < k ∧ Store.Leads k v r

theorem Store.get_of_leads {k : Nat} {v : α} {m : Store α} (h : Store.Leads k v m) : Store.get d k m = v := by
  induction m with
  | nil => exact h.elim
  | cons e m ih =>
    rcases h with rfl | ⟨hlt, h⟩
    · exact if_pos rfl
    · rw [Store.get, if_neg hlt.ne, ih h]

/-- A pair put where its key is new leads. -/
theorem Store.leads_put {k : Nat} {m : Store α} (v : α) (h : ∀ e ∈ m, e.1 ≠ k) : Store.Leads k v (Store.put k v m) := by
  induction m with
  | nil => exact .inl rfl
  | cons e m ih =>
    have hne := h e (by simp)
    unfold Store.put
    split
    · exact .inl rfl
    · next hk => exact .inr ⟨lt_of_le_of_ne (Nat.le_of_not_lt hk) hne, ih fun e he => h e (by simp [he])⟩

/-- A pair that leads still does when another is put, be it of the same key. -/
theorem Store.Leads.put {k k' : Nat} {v v' : α} {m : Store α} (h : Store.Leads k v m) : Store.Leads k v (Store.put k' v' m) := by
  induction m with
  | nil => exact h.elim
  | cons e m ih =>
    unfold Store.put
    rcases h with rfl | ⟨hlt, h⟩
    · split
      · next hk => exact .inr ⟨hk, .inl rfl⟩
      · exact .inl rfl
    · split
      · next hk => exact .inr ⟨hk.trans hlt, .inr ⟨hlt, h⟩⟩
      · exact .inr ⟨hlt, ih h⟩

/-- The pairs of a list put into a table, one after another. -/
def Store.putAll (l m : Store α) : Store α := l.foldl (fun m e => Store.put e.1 e.2 m) m

theorem Store.Leads.putAll {k : Nat} {v : α} {m : Store α} (h : Store.Leads k v m) (l : Store α) : Store.Leads k v (Store.putAll l m) := by
  induction l generalizing m with
  | nil => exact h
  | cons e l ih => exact ih h.put

/-- A key that the table has not reads as the list's. -/
theorem Store.get_putAll_new {k : Nat} (l : Store α) {m : Store α} (h : ∀ e ∈ m, e.1 ≠ k) :
    Store.get d k (Store.putAll l m) = Store.get d k l := by
  induction l generalizing m with
  | nil => exact Store.get_of_no_key d h
  | cons e l ih =>
    obtain ⟨k', v⟩ := e
    by_cases hk : k' = k
    · subst hk
      rw [Store.get, if_pos rfl]
      exact Store.get_of_leads d ((Store.leads_put v h).putAll l)
    · rw [Store.get, if_neg hk]
      refine ih fun e he => ?_
      rcases (Store.mem_put k' v m e).mp he with rfl | he
      · exact hk
      · exact h e he

/-- A key that the list has not reads as the table's. -/
theorem Store.get_putAll_old {k : Nat} {l : Store α} (m : Store α) (h : ∀ e ∈ l, e.1 ≠ k) :
    Store.get d k (Store.putAll l m) = Store.get d k m := by
  induction l generalizing m with
  | nil => rfl
  | cons e l ih =>
    exact (ih _ fun e he => h e (by simp [he])).trans (Store.get_put_ne d (h e (by simp)).symm _ _)

end

/-! ### The registers of a line's work -/

/-- Joined registers are the first table's where the trigger fixes them, and the other's elsewhere (R25). -/
theorem get_mixRegs (cfg rest : Store Word) (a : Nat) : Store.get resetWord a (mixRegs cfg rest) =
    Store.get resetWord a (if fixedAtTrigger a then cfg else rest) := by
  change Store.get resetWord a (Store.putAll _ _) = _
  by_cases h : fixedAtTrigger a
  · rw [if_pos h, Store.get_putAll_new, Store.get_filter_kept resetWord h]
    intro e he
    rintro rfl
    simpa [h] using (List.mem_filter.mp he).2
  · rw [if_neg h, Store.get_putAll_old, Store.get_filter_kept (f := fun a => !fixedAtTrigger a) resetWord (by simpa using h)]
    intro e he
    rintro rfl
    exact h (List.mem_filter.mp he).2

variable (s : State) (sl : Slot)

/-- The work of a line sees the registers in force where its trigger does not fix them. -/
theorem seenBy_reg {a : Nat} (h : fixedAtTrigger a = false) : (s.seenBy sl).reg a = s.reg a :=
  (get_mixRegs sl.regs s.regs a).trans (by rw [h]; rfl)

/-- What the work of a line makes of such a register stands after it. -/
theorem inSlot_reg (f : State → State) {a : Nat} (h : fixedAtTrigger a = false) : (s.inSlot sl f).reg a = (f (s.seenBy sl)).reg a :=
  (get_mixRegs s.regs (f (s.seenBy sl)).regs a).trans (by rw [h]; rfl)

theorem seenBy_num {a : Nat} (h : fixedAtTrigger a = false) : (s.seenBy sl).num a = s.num a := congrArg BitVec.toNat (seenBy_reg s sl h)

theorem inSlot_num (f : State → State) {a : Nat} (h : fixedAtTrigger a = false) : (s.inSlot sl f).num a = (f (s.seenBy sl)).num a :=
  congrArg BitVec.toNat (inSlot_reg s sl f h)

theorem inSlot_flag (f : State → State) {a : Nat} (h : fixedAtTrigger a = false) (b : Bits) :
    (s.inSlot sl f).flag a b = (f (s.seenBy sl)).flag a b := by
  rw [State.flag, State.flag, State.fld, State.fld, inSlot_reg s sl f h]

/-- What the work of a line keeps as it sees the state, it keeps of the state (R25). -/
theorem State.Keeps.inSlot {s : State} {sl : Slot} {f : State → State} {P : List Part} {r : Nat → Bool}
    (h : (s.seenBy sl).Keeps P r (f (s.seenBy sl))) : s.Keeps P r (s.inSlot sl f) := by
  refine ⟨fun p h1 h2 => ?_, fun a ha => ?_⟩
  · have hp := h.1 p h1 h2
    cases p with
    | regs => exact absurd rfl h1
    | stitch => exact congrArg (fun x : StitchHid => { x with live := s.stitch.live }) hp
    | acc => exact congrArg (fun x : AccHid => { x with livePhases := s.acc.livePhases }) hp
    | _ => exact hp
  · by_cases hf : fixedAtTrigger a
    · exact (get_mixRegs s.regs (f (s.seenBy sl)).regs a).trans (by rw [if_pos hf]; rfl)
    · rw [Bool.not_eq_true] at hf
      rw [inSlot_reg s sl f hf, h.2 a ha, seenBy_reg s sl hf]

end Sys2Proof.Machine
end

section
/-! The seam links (R163 to R168, R269, R272): what a HELLO, a copy of a frame and a missing one make of the link's registers and of the
frames that stitching and segmentation have. -/

namespace Sys2Proof.Machine

variable (s : State) (m : Nat)

/-! ### HELLO -/

/-- The state in which a seam HELLO is shown: the peer's node and side, and its digest (R163). -/
def State.peerShown (s : State) (m : Nat) (data : BitVec 48) : State :=
  (s.setNum (Reg.SEAM_PEER (m - 12)) (data.toNat % 2 ^ 15 + 2 ^ 15)).setNum (Reg.SEAM_PEERDIG (m - 12)) (data.toNat / 2 ^ 16)

theorem peerShown_keeps (data : BitVec 48) :
    s.Keeps [] (theRegs [Reg.SEAM_PEER (m - 12), Reg.SEAM_PEERDIG (m - 12)]) (s.peerShown m data) :=
  (setNum_keeps s _ _ _ _ (by simp [theRegs])).trans (setNum_keeps _ _ _ _ _ (by simp [theRegs]))

/-- The state in which the round trips begin (R76, R163). -/
def State.tripsBegun (s : State) (m : Nat) : State :=
  (s.setLink m { s.link m with helloOk := true, configAcked := true, echoes := 0, echo := none }).sendEcho m

/-- A HELLO of a seam link is shown and judged by its side (R163). -/
theorem takeHello_seam (hm : m ≠ 14) (data : BitVec 48) : let x := s.peerShown m data
    s.takeHello m data = if bit data.toNat 14 = decide (m = 13) then x.linkFailed m else if (x.link m).helloOk then x else x.tripsBegun m := by
  intro x
  have hword : data.toNat % 2 ^ 14 + b2n (bit data.toNat 14) * 2 ^ 14 + 2 ^ 15 = data.toNat % 2 ^ 15 + 2 ^ 15 := by
    simp only [b2n, bit, decide_eq_true_eq]
    split <;> omega
  have hx : (s.setNum (Reg.SEAM_PEER (m - 12)) (data.toNat % 2 ^ 14 + b2n (bit data.toNat 14) * 2 ^ 14 + 2 ^ 15)).setNum
      (Reg.SEAM_PEERDIG (m - 12)) (data.toNat / 2 ^ 16) = x := by rw [hword]; rfl
  simp only [State.takeHello, if_neg hm, hx, State.when]
  by_cases h : bit data.toNat 14 = decide (m = 13)
  · simp [h]
  · cases (x.link m).helloOk <;> simp [h, State.tripsBegun]

/-- The first ECHO leaves, and is outstanding (R76). -/
theorem tripsBegun_spec : let v := s.tripsBegun m
    v.out = .mgmt m 3 0 0 :: s.out ∧ (v.link m).helloOk = true ∧ (v.link m).echo = some (0, s.now) ∧ s.Keeps [.links, .out] noReg v := by
  let h : LinkHid := { s.link m with helloOk := true, configAcked := true, echoes := 0, echo := none }
  let y := s.setLink m h
  have hy : y.link m = h := link_setLink_self ..
  have hv : s.tripsBegun m = (y.setLink m { h with echo := some (0, s.now) }).sendMgmt m 3 0 0 := by
    change y.sendEcho m = _
    rw [State.sendEcho, hy]
    rfl
  obtain ⟨hk, hout, up, hlink⟩ := sendMgmt_spec (y.setLink m { h with echo := some (0, s.now) }) m 3 0 0
  rw [link_setLink_self] at hlink
  rw [hv]
  exact ⟨hout, congrArg LinkHid.helloOk hlink, congrArg LinkHid.echo hlink,
    ((setLink_keeps s m h _ _ (by simp)).trans (setLink_keeps y m _ _ _ (by simp))).trans hk⟩

/-! ### Frames that go out -/

theorem sendSeam_keeps (kind chunk : Nat) (last : Bool) (line : Int) (blocks : List (BitVec 64)) :
    s.Keeps [.links, .out] noReg (s.sendSeam m kind chunk last line blocks) := by
  have copy (x : State) (c : Nat) : x.Keeps [.links, .out] noReg (x.sendCopy m kind c chunk last line blocks) :=
    ((giveRows_keeps x m _ _ _).mono (by simp) fun _ h => h).trans (emit_keeps _ _ _ _ (by simp))
  exact (copy s 0).trans (copy _ 1)

/-- Halos that leave take no frame that has come (R165). -/
theorem sendHalos_keeps : s.Keeps [.stitch, .links, .out] noReg s.sendHalos ∧ s.sendHalos.stitch.frames = s.stitch.frames := by
  unfold State.sendHalos
  split
  · exact ⟨.refl .., rfl⟩
  · next o _ =>
    have put (y : State) (c : Option OpenLine) (hy : s.Keeps [.links, .out] noReg y) :
        s.Keeps [.stitch, .links, .out] noReg { y with stitch := { y.stitch with cur := c } } ∧ y.stitch.frames = s.stitch.frames :=
      ⟨(hy.mono (by simp) fun _ h => h).trans (stitch_keeps y _ _ _ (by simp)), congrArg StitchHid.frames (hy.1 .stitch (by simp) (by simp))⟩
    exact put _ _ (.foldl _ _ s fun x side _ => sendSeam_keeps x side _ _ _ _ _)

/-! ### Frames that come in -/

/-- The registers of a seam link that count its frames and hold its events. -/
theorem seamRegs_free (hm : m = 12 ∨ m = 13) : fixedAtTrigger (Reg.CAM_EVT m) = false ∧ ∀ i < 5, fixedAtTrigger (Reg.SEAM_CNT (m - 12) i) = false ∧
    Reg.SEAM_CNT (m - 12) i ≠ Reg.CAM_EVT m := by
  rcases hm with rfl | rfl <;> decide +kernel

/-- Has a counter of the link counted one more? -/
def State.SeamCounted (u : State) (m i : Nat) (v : State) : Prop :=
  v.num (Reg.SEAM_CNT (m - 12) i) = min 0xFFFFFFFF (u.num (Reg.SEAM_CNT (m - 12) i) + 1)

/-- A counter counts one more, and an event of the link is set. -/
theorem countEvent_spec (hm : m = 12 ∨ m = 13) {i n : Nat} (hi : i < 5) (hn : n < 32) : let v := (s.bump (Reg.SEAM_CNT (m - 12) i)).linkEvent m n
    s.SeamCounted m i v ∧ v.flag (Reg.CAM_EVT m) ⟨n, 1⟩ = true ∧ s.Keeps [.evrQ] (theRegs [Reg.SEAM_CNT (m - 12) i, Reg.CAM_EVT m]) v := by
  obtain ⟨-, hne⟩ := (seamRegs_free m hm).2 i hi
  have hev := linkEvent_keeps (s.bump (Reg.SEAM_CNT (m - 12) i)) m n
  refine ⟨(hev.num (theRegs_eq_false.mpr (by simpa using hne))).trans (num_bump_self s _), linkEvent_flag _ m n hn, ?_⟩
  refine (bump_keeps s _ _ _ (by simp [theRegs])).trans (hev.mono (fun _ h => h) fun a h => ?_)
  simp_all [theRegs_eq_false]

/-- A copy that fails is counted and noted (R166). -/
theorem copyError_spec (hm : m = 12 ∨ m = 13) : let v := s.copyError m
    s.SeamCounted m 1 v ∧ v.flag (Reg.CAM_EVT m) ⟨3, 1⟩ = true ∧ s.Keeps [.evrQ] (theRegs [Reg.SEAM_CNT (m - 12) 1, Reg.CAM_EVT m]) v :=
  countEvent_spec s m hm (by norm_num) (by norm_num)

/-- Has an X- or H-frame its length, and an H-frame the line in its first block (R165, R166)? -/
def State.frameWhole (s : State) (m : Nat) (halo : Bool) (f : SeamFrame) (j : Int) : Bool :=
  if halo then decide (f.nblk = 2 + (s.halo + 3) / 4) && decide ((f.blocks.headD 0).toNat = unsignedOf 64 j)
  else decide (s.xlen m ≠ 0) && decide (f.nblk = (s.xlen m + 3) / 4)

/-- The row that an X- or H-frame brings (R165). -/
def frameRow (m : Nat) (halo : Bool) (f : SeamFrame) (j : Int) : SeamRow :=
  ⟨m, halo, j, if halo then ((f.blocks.drop 1).headD 0).toNat else 0, unpackBlocks (if halo then f.blocks.drop 2 else f.blocks)⟩

/-- The state with a row taken (R165). -/
def State.rowTaken (s : State) (m : Nat) (r : SeamRow) : State :=
  (({ s with stitch := { s.stitch with frames := s.stitch.frames ++ [r] } } : State).bump (Reg.SEAM_CNT (m - 12) 0)).sendHalos

/-- A copy of an X- or H-frame is taken if it is the first that fits, passed over if it fits, and an error if not (R166). -/
theorem takeFrame_eq (halo : Bool) (f : SeamFrame) {j : Int} (h : s.frameLine = some j) : s.takeFrame m halo f =
    if frameOk f j && s.frameWhole m halo f j then
      if (s.seamRow m halo j).isSome then s else s.rowTaken m (frameRow m halo f j)
    else s.copyError m := by
  simp only [State.takeFrame, h]
  rfl

theorem rowTaken_spec (r : SeamRow) : let v := s.rowTaken m r
    s.SeamCounted m 0 v ∧ v.stitch.frames = s.stitch.frames ++ [r] ∧
      s.Keeps [.stitch, .links, .out] (theRegs [Reg.SEAM_CNT (m - 12) 0]) v := by
  intro v
  let x : State := { s with stitch := { s.stitch with frames := s.stitch.frames ++ [r] } }
  have hx : s.Keeps [.stitch] noReg x := stitch_keeps s _ _ _ (by simp)
  have hframes : (x.bump (Reg.SEAM_CNT (m - 12) 0)).stitch = x.stitch := bump_stitch ..
  obtain ⟨hk, hf⟩ := sendHalos_keeps (x.bump (Reg.SEAM_CNT (m - 12) 0))
  refine ⟨?_, hf.trans (congrArg StitchHid.frames hframes), ?_⟩
  · rw [State.SeamCounted, ← hx.num rfl, ← num_bump_self x]
    exact hk.num rfl
  · exact ((hx.mono (by simp) fun _ _ => rfl).trans (bump_keeps x _ _ _ (by simp [theRegs]))).trans (hk.mono (by simp) fun _ _ => rfl)

/-! ### Frames of a slot -/

section
variable (halo : Bool) (f : SeamFrame) (sl : Slot) (rest : List Slot) (j : Int)

theorem seamFrameIn_eq (hs : s.slots = sl :: rest) : s.seamFrameIn m halo f = s.inSlot sl fun x => x.takeFrame m halo f := by
  simp only [State.seamFrameIn, hs, List.head?_cons]

/-- The frame of a slot, as the slot sees the registers: taken, passed over, or an error (R25, R166). -/
theorem seamFrameIn_spec (hm : m = 12 ∨ m = 13) (hs : s.slots = sl :: rest) (hl : s.frameLine = some j) : let v := s.seamFrameIn m halo f
    let fits := frameOk f j && (s.seenBy sl).frameWhole m halo f j
    (fits = true → s.seamRow m halo j = none → s.SeamCounted m 0 v ∧ v.stitch.frames = s.stitch.frames ++ [frameRow m halo f j] ∧
      s.Keeps [.stitch, .links, .out] (theRegs [Reg.SEAM_CNT (m - 12) 0]) v) ∧
    (fits = true → (s.seamRow m halo j).isSome = true → s.Keeps [] noReg v) ∧
    (fits = false → s.SeamCounted m 1 v ∧ v.flag (Reg.CAM_EVT m) ⟨3, 1⟩ = true ∧
      s.Keeps [.evrQ] (theRegs [Reg.SEAM_CNT (m - 12) 1, Reg.CAM_EVT m]) v) := by
  obtain ⟨hevt, hcnt⟩ := seamRegs_free m hm
  -- a counter that counts under the slot's registers counts under those in force
  have counted {i : Nat} (hi : i < 5) (g : State → State) (h : (s.seenBy sl).SeamCounted m i (g (s.seenBy sl))) :
      s.SeamCounted m i (s.inSlot sl g) := by
    rw [State.SeamCounted, inSlot_num s sl g (hcnt i hi).1, ← seenBy_num s sl (hcnt i hi).1]
    exact h
  have hrow : (s.seenBy sl).seamRow m halo j = s.seamRow m halo j := rfl
  have htake := takeFrame_eq (s.seenBy sl) m halo f (j := j) hl
  rw [hrow] at htake
  intro v fits
  have hv : v = s.inSlot sl fun x => x.takeFrame m halo f := seamFrameIn_eq s m halo f sl rest hs
  rw [hv]
  refine ⟨fun hfits hnone => ?_, fun hfits hsome => ?_, fun hfits => ?_⟩
  · rw [if_pos hfits, hnone, Option.isSome_none, if_neg Bool.false_ne_true] at htake
    obtain ⟨hc, hf, hk⟩ := rowTaken_spec (s.seenBy sl) m (frameRow m halo f j)
    rw [← htake] at hc hf hk
    exact ⟨counted (by norm_num) _ hc, hf, hk.inSlot⟩
  · rw [if_pos hfits, if_pos hsome] at htake
    refine State.Keeps.inSlot ?_
    rw [htake]
    exact .refl ..
  · rw [if_neg (ne_true_of_eq_false hfits)] at htake
    obtain ⟨hc, hf, hk⟩ := copyError_spec (s.seenBy sl) m hm
    rw [← htake] at hc hf hk
    exact ⟨counted (by norm_num) _ hc, (inSlot_flag s sl _ hevt _).trans hf, hk.inSlot⟩

end

/-! ### Segment frames -/

/-- What is noted of a chunk of segment records that comes in on a line (R165, R269). -/
def chunkOf (m : Nat) (x : SlotTime) (i : Nat) (f : SeamFrame) : ChunkIn := ⟨m, x.line, i, f.last, hasContact f.blocks⟩

/-- The state with a chunk among those that have come. -/
def State.chunkNoted (s : State) (g : ChunkIn) : State :=
  { s with seg := { s.seg with got := (s.seg.got ++ [g]).drop (s.seg.got.length + 1 - 1024) } }

/-- The state with a chunk taken, and it and its records counted (R171). -/
def State.chunkTaken (s : State) (m : Nat) (g : ChunkIn) (n : Nat) : State :=
  ((s.chunkNoted g).bump (Reg.SEAM_CNT (m - 12) 0)).bumpBy (Reg.SEAM_CNT (m - 12) 4) n

theorem takeSFrame_bad (f : SeamFrame) (h : ∀ x ∈ s.seg.times, frameOk f x.line = false) : s.takeSFrame m f = s.copyError m := by
  have hnone : (s.seg.times.reverse.find? fun x => frameOk f x.line && decide (f.nblk ≤ 64 ∧ f.nblk % 4 = 0)) = none := by
    rw [List.find?_eq_none]
    intro x hx
    simp [h x (List.mem_reverse.mp hx)]
  unfold State.takeSFrame
  rw [hnone]

/-- The first chunk of a line has the place that CHUNK names (R165). -/
theorem chunkIndex_first {c : Nat} (h : c < 16) : chunkIndex 0 c = c := by
  have hoff : (c + 16 - 0 % 16) % 16 = c := by omega
  simp only [chunkIndex, hoff]
  rw [if_pos (.inr (by omega)), Nat.zero_add]

/-- The first chunk of the only recent line that it fits is taken, and from the west merged segments are decided (R269, R270, R272). -/
theorem takeSFrame_first (f : SeamFrame) {x : SlotTime} (ht : s.seg.times = [x]) (hok : frameOk f x.line = true) (hn : f.nblk ≤ 64)
    (h4 : f.nblk % 4 = 0) (hc : f.chunk < 16) (hgot : s.seg.got = []) : let v := s.chunkTaken m (chunkOf m x f.chunk f) (f.nblk / 4)
    s.takeSFrame m f = if m = 12 then v.takeChunk x f else v := by
  have hfind : (s.seg.times.reverse.find? fun x => frameOk f x.line && decide (f.nblk ≤ 64 ∧ f.nblk % 4 = 0)) = some x := by
    simp [ht, hok, hn, h4]
  have hnone : s.chunksIn m x.line = [] := by simp [State.chunksIn, hgot]
  simp only [State.takeSFrame, hfind, hnone, List.map_nil, List.foldl_nil, chunkIndex_first hc, List.any_nil, Bool.false_eq_true, if_false,
    State.chunkTaken, State.chunkNoted, chunkOf]

theorem seg_keeps (x : SegHid) (P : List Part) (r : Nat → Bool) (h : Part.seg ∈ P) : s.Keeps P r { s with seg := x } :=
  .of_regs r rfl fun p _ hp => by cases p <;> first | rfl | exact absurd h hp

theorem chunkTaken_spec (g : ChunkIn) (n : Nat) (hgot : s.seg.got = []) : let v := s.chunkTaken m g n
    s.SeamCounted m 0 v ∧ v.num (Reg.SEAM_CNT (m - 12) 4) = min 0xFFFFFFFF (s.num (Reg.SEAM_CNT (m - 12) 4) + n) ∧
      v.seg.got = [g] ∧ s.Keeps [.seg] (theRegs [Reg.SEAM_CNT (m - 12) 0, Reg.SEAM_CNT (m - 12) 4]) v := by
  intro v
  have h04 : Reg.SEAM_CNT (m - 12) 0 ≠ Reg.SEAM_CNT (m - 12) 4 := by
    rw [Reg.SEAM_CNT, Reg.SEAM_CNT]
    omega
  let y := s.chunkNoted g
  have hy (r : Nat → Bool) : s.Keeps [.seg] r y := seg_keeps s _ _ r (by simp)
  have hseg : v.seg = y.seg := (bumpBy_seg ..).trans (bump_seg ..)
  refine ⟨?_, ?_, ?_, ?_⟩
  · rw [State.SeamCounted, ← (hy noReg).num rfl, ← num_bump_self y]
    exact num_setNum_ne _ h04 _
  · have h4 : (y.bump (Reg.SEAM_CNT (m - 12) 0)).num (Reg.SEAM_CNT (m - 12) 4) = y.num (Reg.SEAM_CNT (m - 12) 4) := num_setNum_ne y h04.symm _
    rw [← (hy noReg).num rfl, ← h4]
    exact num_bumpBy_self _ _ _
  · rw [hseg]
    simp [y, State.chunkNoted, hgot]
  · exact ((hy _).trans (bump_keeps y _ _ _ (by simp [theRegs]))).trans (bumpBy_keeps _ _ _ _ _ (by simp [theRegs]))

/-! ### Frames that do not come -/

/-- In Inspecting a breach is recorded behind those that wait (R253). -/
theorem breach_breaches (code unit : Nat) (line : Option Int) (h : s.mode = .inspecting) :
    (s.breach code unit line).err.breaches = s.err.breaches ++ [⟨code, unit, line, true, s.now⟩] := by
  have hm : (s.mode == .inspecting) = true := by rw [h]; rfl
  unfold State.breach State.breachAt
  rw [if_pos hm]
  cases line with
  | none => rfl
  | some k => exact (apply_ite (fun x : State => x.err.breaches) _ _ _).trans (ite_self _)

/-- A frame that is lost is counted, noted, and a breach of its line (R168). -/
theorem frameLost_spec (hm : m = 12 ∨ m = 13) (j : Int) (h : s.mode = .inspecting) : let v := s.frameLost m j
    s.SeamCounted m 2 v ∧ v.flag (Reg.CAM_EVT m) ⟨4, 1⟩ = true ∧ v.err.breaches = s.err.breaches ++ [⟨7, m, some j, true, s.now⟩] := by
  let x := (s.bump (Reg.SEAM_CNT (m - 12) 2)).linkEvent m 4
  obtain ⟨hc, hf, hk⟩ := countEvent_spec s m hm (i := 2) (n := 4) (by norm_num) (by norm_num)
  have hb := breach_keeps x 7 m (some j)
  have hmode : x.mode = .inspecting := (hk.1 .mode (by simp) (by simp)).trans h
  have herr : x.err = s.err := hk.1 .err (by simp) (by simp)
  have hnow : x.now = s.now := hk.1 .now (by simp) (by simp)
  refine ⟨(hb.num rfl).trans hc, (hb.flag rfl _).trans hf, ?_⟩
  rw [← herr, ← hnow]
  exact breach_breaches x 7 m (some j) hmode

end Sys2Proof.Machine
end

section
/-! The rows of the seam links (R163 to R168, R269, R272). -/

namespace Sys2Proof.Machine

section
variable (s : State) (t m : Nat)

/-- The row SEAM_HELLO (R163). -/
theorem seamHello_judges (hm : m = 12 ∨ m = 13) (data : BitVec 48) : let u := s.advanceTo t
    u.mode.active = true → u.lstate m = 4 →
    let x := u.peerShown m data
    (bit data.toNat 14 = decide (m = 13) → exec (.seamHello t m data) s = .next ((x.linkFailed m).settle s)) ∧
    (bit data.toNat 14 ≠ decide (m = 13) → (u.link m).helloOk = false → ∃ v : State, exec (.seamHello t m data) s = .next (v.settle s) ∧
      v.out = .mgmt m 3 0 0 :: u.out ∧ (v.link m).helloOk = true ∧ (v.link m).echo = some (0, u.now) ∧ x.Keeps [.links, .out] noReg v) := by
  intro u ha hl x
  have hexec : exec (.seamHello t m data) s = .next ((u.takeHello m data).settle s) :=
    congrArg Host.Outcome.next (onLink_acts s t m _ _ ha hl rfl)
  rw [takeHello_seam u m (by omega) data] at hexec
  have hx := peerShown_keeps u m data
  refine ⟨fun h => by rwa [if_pos h] at hexec, fun h hok => ?_⟩
  have hok' : (x.link m).helloOk = false := (congrArg LinkHid.helloOk (hx.link (by simp) m)).trans hok
  rw [if_neg h, if_neg (ne_true_of_eq_false hok')] at hexec
  obtain ⟨hout, hhello, hecho, hk⟩ := tripsBegun_spec x m
  exact ⟨_, hexec, hout.trans (congrArg (_ :: ·) (hx.1 .out (by simp) (by simp))), hhello,
    hecho.trans (congrArg (fun n => some (0, n)) (hx.1 .now (by simp) (by simp))), hk⟩

/-- The row ECHO_REPLY, of the peer's own ECHO (R75, R163). -/
theorem echo_answered (hm : m = 12 ∨ m = 13) (data : BitVec 48) : let u := s.advanceTo t
    u.mode.active = true → u.lstate m = 4 ∨ u.lstate m = 5 → ∃ v : State, exec (.echoReply t m ⟨false, data⟩) s = .next (v.settle s) ∧
      v.out = .mgmt m 4 0 data :: u.out ∧ u.Keeps [.links, .out] noReg v := by
  intro u ha hl
  have hm12 : 12 ≤ m := by omega
  have hdo : (u.when (decide (12 ≤ m)) fun x => x.sendMgmt m 4 0 data) = u.sendMgmt m 4 0 data := if_pos (decide_eq_true hm12)
  have hexec : exec (.echoReply t m ⟨false, data⟩) s = .next ((u.sendMgmt m 4 0 data).settle s) := by
    rw [← hdo]
    rcases hl with hl | hl <;> exact congrArg Host.Outcome.next (onLink_acts s t m _ _ ha hl rfl)
  obtain ⟨hk, hout, -⟩ := sendMgmt_spec u m 4 0 data
  exact ⟨_, hexec, hout, hk⟩

/-- A frame of a READY seam link in Inspecting goes to what takes it. -/
theorem onLink_inspects (f : State → State) : let u := s.advanceTo t
    u.mode = .inspecting → u.lstate m = 5 → s.onLink t m [5] (fun x => x.when x.inspects f) = (f u).settle s := by
  intro u hmode hl
  have ha : u.mode.active = true := by rw [hmode]; rfl
  have hi : u.inspects = true := by rw [State.inspects, hmode]; rfl
  exact (onLink_acts s t m _ _ ha hl rfl).trans (congrArg (State.settle · s) (if_pos hi))

theorem exec_xFrame (f : SeamFrame) : let u := s.advanceTo t
    u.mode = .inspecting → u.lstate m = 5 → exec (.xFrame t m f) s = .next ((u.seamFrameIn m false f).settle s) :=
  fun hmode hl => congrArg Host.Outcome.next (onLink_inspects s t m _ hmode hl)

theorem exec_hFrame (f : SeamFrame) : let u := s.advanceTo t
    u.mode = .inspecting → u.lstate m = 5 → exec (.hFrame t m f) s = .next ((u.seamFrameIn m true f).settle s) :=
  fun hmode hl => congrArg Host.Outcome.next (onLink_inspects s t m _ hmode hl)

theorem exec_sFrame (f : SeamFrame) : let u := s.advanceTo t
    u.mode = .inspecting → u.lstate m = 5 → exec (.sFrame t m f) s = .next ((u.takeSFrame m f).settle s) :=
  fun hmode hl => congrArg Host.Outcome.next (onLink_inspects s t m _ hmode hl)

/-- The row SEAM_FRAME_DEADLINE, where a frame is missing (R167, R168, R272). -/
theorem exec_seamFrameDeadline (kind : Nat) (j : Int) : let u := s.advanceTo t
    u.mode = .inspecting → m ∈ u.seamSides →
    (if kind = 2 then u.sFrameMissing m j else u.frameMissing m (decide (kind = 1)) j) = true →
    exec (.seamFrameDeadline t m kind j) s = .next ((u.frameLost m j).settle s) := by
  intro u hmode hside hlost
  refine congrArg Host.Outcome.next (congrArg (State.settle · s) (if_pos ?_))
  change (u.mode == .inspecting && u.seamSides.contains m && (if kind = 2 then u.sFrameMissing m j else u.frameMissing m (decide (kind = 1)) j)) = true
  rw [hlost, hmode, List.contains_iff_mem.mpr hside]
  rfl

end

/-- Settles O54: the frames by `seamFrameIn_spec` and `takeSFrame`'s two cases, each other row by its clause above. -/
theorem seamLinks : Obligations.SeamLinks := by
  unfold Obligations.SeamLinks
  intro s t m hm u cnt up
  refine ⟨fun data ha hl => seamHello_judges s t m hm data ha hl, fun data ha hl => echo_answered s t m hm data ha hl,
    fun f sl rest j hmode hl hs hj => ?_, fun f hmode hl => ⟨fun hbad => ?_, fun x ht hok hn h4 hc hgot => ?_⟩,
    fun kind j _ hmode hside hlost => ?_⟩
  · have hx := exec_xFrame s t m f hmode hl
    have hh := exec_hFrame s t m f hmode hl
    obtain ⟨hxtaken, hxpassed, hxbad⟩ := seamFrameIn_spec u m false f sl rest j hm hs hj
    obtain ⟨hhtaken, -, hhbad⟩ := seamFrameIn_spec u m true f sl rest j hm hs hj
    intro len ok
    have hfits : (frameOk f j && (u.seenBy sl).frameWhole m false f j) = true ↔ ok := by
      simp only [State.frameWhole, Bool.and_eq_true, decide_eq_true_eq, Bool.false_eq_true, if_false, ok, len]
    refine ⟨fun h hrow => ⟨_, hx, hxtaken (hfits.mpr h) hrow⟩, fun h hrow => ⟨_, hx, hxpassed (hfits.mpr h) hrow⟩,
      fun h => ⟨_, hx, hxbad (Bool.eq_false_iff.mpr fun hf => h (hfits.mp hf))⟩, fun h => ⟨_, hh, hhbad (by rw [h]; rfl)⟩,
      fun hok hn hline hrow => ⟨_, hh, hhtaken ?_ hrow⟩⟩
    rw [hok, State.frameWhole, if_pos rfl, decide_eq_true hn, decide_eq_true hline]
    rfl
  · have hexec := exec_sFrame s t m f hmode hl
    rw [takeSFrame_bad u m f hbad] at hexec
    obtain ⟨hc, -, hk⟩ := copyError_spec u m hm
    exact ⟨_, hexec, hc, hk⟩
  · have hexec := exec_sFrame s t m f hmode hl
    rw [takeSFrame_first u m f ht hok hn h4 hc hgot] at hexec
    exact ⟨_, hexec, chunkTaken_spec u m (chunkOf m x f.chunk f) (f.nblk / 4) hgot⟩
  · exact ⟨_, exec_seamFrameDeadline s t m kind j hmode hside hlost, frameLost_spec u m hm j hmode⟩

end Sys2Proof.Machine
end

section
/-! The memory that the staged set is written to (R196, R233, R281, R293): folio memory and the catalogue, what a write and a read make of
them, and what a write turned away leaves. -/

namespace Sys2Proof.Machine

variable (s : State)

/-! ### A write or a command turned away -/

/-- The registers that a rejection counted in register `c` uses: the counter and the ledger's. -/
def countedReg (c a : Nat) : Bool := a == c || ledgerReg a

/-- What a rejection counted in register `c` leaves: the counter has counted it, and an entry is recorded. -/
def State.RejectedIn (u : State) (c : Nat) (v : State) : Prop :=
  u.Keeps ledgerParts (countedReg c) v ∧ v.num c = min 0xFFFFFFFF (u.num c + 1)

section
variable {c : Nat} (hc : ledgerReg c = false)
include hc

theorem bump_notice_rejectedIn (code source detail : Nat) : s.RejectedIn c ((s.bump c).notice code source detail) := by
  refine ⟨(bump_keeps s _ _ _ (by simp [countedReg])).trans (notice_keeps _ _ _ _ (fun _ h => h) fun a h => (Bool.or_eq_false_iff.mp h).2), ?_⟩
  exact ((notice_ledger _ code source detail).num hc).trans (num_bump_self s c)

theorem notice_bump_rejectedIn (code source detail : Nat) : s.RejectedIn c ((s.notice code source detail).bump c) := by
  refine ⟨(notice_keeps s _ _ _ (fun _ h => h) fun a h => (Bool.or_eq_false_iff.mp h).2).trans
    (bump_keeps _ c _ (countedReg c) (by simp [countedReg])), ?_⟩
  rw [num_bump_self, (notice_ledger s code source detail).num hc]

end

theorem rejectStaged_rejected {a : Nat} (h : isDescriptor a = false) : s.RejectedIn Reg.ACC_SHREJ (s.rejectStaged a) := by
  have e : s.rejectStaged a = (s.notice 0x0104 (sourceOf a) a).bump Reg.ACC_SHREJ := by simp [State.rejectStaged, h]
  exact e ▸ notice_bump_rejectedIn s (by decide) _ _ _

theorem rejectCommand_rejected : s.RejectedIn Reg.ACC_SHREJ s.rejectCommand := bump_notice_rejectedIn s (by decide) _ _ _

/-! ### Folio memory -/

/-- The state with a word of the folio memory of engine `e` written. -/
def State.folioStored (s : State) (e off : Nat) (w : Word) : State :=
  s.setEngine e { s.engine e with mem := Store.set (fun _ => 0) (off / 4) w (s.engine e).mem }

/-- A performed write of folio memory (R196). -/
theorem busWrite_folio (p : Path) {a : Nat} (w : Word) (h : s.performs a w = true) (ha : inFolio a = true) :
    (s.busWrite p a w).2 = s.folioMemWrite a w := by
  have hrange := of_decide_eq_true ha
  have hwin : inWindow a = false := decide_eq_false (by omega)
  rw [busWrite_performs s p a w h (by rw [Reg.PWR_CTRL]; omega) (by rw [Reg.ERR_CTRL]; omega)]
  simp [State.writeNow, hwin, ha]

section
variable (e : Nat) {off : Nat} (ho : off < 0x40000)
include ho

theorem folioAddress : (0x400000 + 0x40000 * e + off - 0x400000) / 0x40000 = e ∧ (0x400000 + 0x40000 * e + off - 0x400000) % 0x40000 = off := by
  omega

/-- A write to the live bank is turned away (R196). -/
theorem folioMemWrite_live (w : Word) (he : e < 14) (h : folioBankOf off = s.folioBank e) :
    s.RejectedIn (Reg.FOLIO_MEMREJ e) (s.folioMemWrite (0x400000 + 0x40000 * e + off) w) := by
  obtain ⟨h1, h2⟩ := folioAddress e ho
  have hc : ledgerReg (Reg.FOLIO_MEMREJ e) = false := ledgerReg_pipeline (by rw [Reg.FOLIO_MEMREJ]; omega)
  simp only [State.folioMemWrite, h1, h2, if_pos h]
  exact bump_notice_rejectedIn s hc _ _ _

/-- A write to the other bank is turned away while the set is sealed (R233). -/
theorem folioMemWrite_sealed (w : Word) (h : folioBankOf off ≠ s.folioBank e) (hst : s.fld Reg.ACC_STATUS Fld.ACC_STATUS_SSTATE ≠ 0) :
    s.RejectedIn Reg.ACC_SHREJ (s.folioMemWrite (0x400000 + 0x40000 * e + off) w) := by
  obtain ⟨h1, h2⟩ := folioAddress e ho
  simp only [State.folioMemWrite, h1, h2, if_neg h, if_pos hst]
  exact bump_notice_rejectedIn s (by decide) _ _ _

/-- A write to the other bank is staged while the set is open (R196). -/
theorem folioMemWrite_staged (w : Word) (h : folioBankOf off ≠ s.folioBank e) (hst : s.fld Reg.ACC_STATUS Fld.ACC_STATUS_SSTATE = 0) :
    s.folioMemWrite (0x400000 + 0x40000 * e + off) w = s.folioStored e off w := by
  obtain ⟨h1, h2⟩ := folioAddress e ho
  simp only [State.folioMemWrite, h1, h2, if_neg h, hst, ne_eq, not_true, if_false]
  rfl

/-- A stored word reads back, and every other word of folio memory is as it was. -/
theorem folioStored_read (w : Word) {b : Nat} (hb : 0x400000 ≤ b) (h4 : b % 4 = 0) (ho4 : off % 4 = 0) :
    (s.folioStored e off w).folioMemRead b = if b = 0x400000 + 0x40000 * e + off then w else s.folioMemRead b := by
  unfold State.folioMemRead State.folioStored
  by_cases hbe : (b - 0x400000) / 0x40000 = e
  · rw [hbe, engine_setEngine_self, Store.get_set]
    exact if_congr (by omega) rfl rfl
  · rw [engine_setEngine_ne s hbe, if_neg (by omega)]

end

/-! ### The catalogue -/

/-- The index that an access to the port of the catalogue leaves (R293). -/
def State.nextCatIdx (s : State) : Nat :=
  if s.flag Reg.CAT_TCTL Fld.CAT_TCTL_AUTOINC = true then (s.fld Reg.CAT_TIDX Fld.CAT_TIDX_IDX + 1) % 8192
  else s.fld Reg.CAT_TIDX Fld.CAT_TIDX_IDX

/-- It rests on the port's control register and on the index. -/
theorem State.Keeps.nextCatIdx {u v : State} {P : List Part} {r : Nat → Bool} (h : u.Keeps P r v) (hc : r Reg.CAT_TCTL = false)
    (hi : r Reg.CAT_TIDX = false) : v.nextCatIdx = u.nextCatIdx := by
  rw [State.nextCatIdx, State.nextCatIdx, h.flag hc, h.fld hi]

theorem catStep_keeps : s.Keeps [] (theRegs [Reg.CAT_TIDX]) s.catStep := .ite (setFld_keeps s _ _ _ _ _ (by decide)) (.refl ..)

theorem catStep_idx : s.catStep.fld Reg.CAT_TIDX Fld.CAT_TIDX_IDX = s.nextCatIdx := by
  unfold State.catStep State.nextCatIdx
  split
  · rw [fld_setFld_self _ _ _ _ (by decide)]
    exact Nat.mod_eq_of_lt (Nat.mod_lt _ (by norm_num))
  · rfl

theorem card_keeps (x : CardHid) (P : List Part) (r : Nat → Bool) (h : Part.card ∈ P) : s.Keeps P r { s with card := x } :=
  .of_regs r rfl fun p _ hp => by cases p <;> first | rfl | exact absurd h hp

/-- The state with a word of the catalogue's staged bank written at the port's index. -/
def State.catStored (s : State) (w : Word) : State :=
  { s with card := { s.card with
      cat := Store.set (fun _ => 0) ((1 - s.catBank) * 8192 + s.fld Reg.CAT_TIDX Fld.CAT_TIDX_IDX) w s.card.cat } }

/-- A write of the port goes to the staged bank while the set is open (R281). -/
theorem catWrite_open (w : Word) (h : s.fld Reg.ACC_STATUS Fld.ACC_STATUS_SSTATE = 0) : s.catWrite w = (s.catStored w).catStep :=
  congrArg State.catStep (if_neg (not_not.mpr h))

/-- It is turned away while the set is sealed (R233). -/
theorem catWrite_sealed (w : Word) (h : s.fld Reg.ACC_STATUS Fld.ACC_STATUS_SSTATE ≠ 0) :
    s.catWrite w = (s.rejectStaged Reg.CAT_TDATA).catStep :=
  congrArg State.catStep (if_pos h)

/-- A write of the port steps the index, and is staged or turned away (R281, R293). -/
theorem catWrite_spec (w : Word) : let v := s.catWrite w
    let st := s.fld Reg.ACC_STATUS Fld.ACC_STATUS_SSTATE
    v.fld Reg.CAT_TIDX Fld.CAT_TIDX_IDX = s.nextCatIdx ∧
      (st = 0 → (∀ k, Store.get (fun _ => 0) k v.card.cat =
          if k = (1 - s.catBank) * 8192 + s.fld Reg.CAT_TIDX Fld.CAT_TIDX_IDX then w else Store.get (fun _ => 0) k s.card.cat) ∧
        s.Keeps [.card] (theRegs [Reg.CAT_TIDX]) v) ∧
      (st ≠ 0 → v.card.cat = s.card.cat ∧ v.num Reg.ACC_SHREJ = min 0xFFFFFFFF (s.num Reg.ACC_SHREJ + 1)) := by
  intro v st
  by_cases h : st = 0
  · have hv : v = (s.catStored w).catStep := catWrite_open s w h
    have hstored : s.Keeps [.card] noReg (s.catStored w) := card_keeps s _ _ _ (by simp)
    have hstep := catStep_keeps (s.catStored w)
    have hcard : v.card = (s.catStored w).card := hv ▸ hstep.1 .card (by simp) (by simp)
    refine ⟨?_, fun _ => ⟨fun k => ?_, ?_⟩, fun h' => absurd h h'⟩
    · rw [hv, catStep_idx, hstored.nextCatIdx rfl rfl]
    · rw [hcard]
      exact Store.get_set _ _ _ _ _
    · exact hv ▸ (hstored.mono (by simp) fun _ _ => rfl).trans (hstep.mono (by simp) fun _ h => h)
  · have hv : v = (s.rejectStaged Reg.CAT_TDATA).catStep := catWrite_sealed s w h
    obtain ⟨hrej, hcount⟩ := rejectStaged_rejected s (a := Reg.CAT_TDATA) (by decide)
    have hstep := catStep_keeps (s.rejectStaged Reg.CAT_TDATA)
    refine ⟨?_, fun h' => absurd h' h, fun _ => ⟨?_, ?_⟩⟩
    · rw [hv, catStep_idx, hrej.nextCatIdx (by decide) (by decide)]
    · have hcard : v.card = s.card := hv ▸ (hstep.1 .card (by simp) (by simp)).trans (hrej.1 .card (by simp) (by simp [ledgerParts]))
      rw [hcard]
    · rw [hv, hstep.num (by decide), hcount]

/-- A read of the port sends a word and steps the index (R293). -/
theorem catStep_emit_spec (o : Output) : let v := s.catStep.emit o
    v.out = o :: s.out ∧ v.fld Reg.CAT_TIDX Fld.CAT_TIDX_IDX = s.nextCatIdx ∧ s.Keeps [.out] (theRegs [Reg.CAT_TIDX]) v := by
  have hk := catStep_keeps s
  have hout : s.catStep.out = s.out := hk.1 .out (by simp) (by simp)
  exact ⟨congrArg (_ :: ·) hout, catStep_idx s, (hk.mono (by simp) fun _ h => h).trans (emit_keeps _ _ _ _ (by simp))⟩

theorem catTdata_register : (kindAt Reg.CAT_TDATA).isSome = true ∧ corrPort Reg.CAT_TDATA = none ∧ queuePort Reg.CAT_TDATA 0x30 = none ∧
    isCropDescriptor Reg.CAT_TDATA = false ∧ Reg.CAT_TDATA ≠ Reg.PWR_CTRL ∧ Reg.CAT_TDATA ≠ Reg.ERR_CTRL ∧ Reg.CAT_TDATA ≠ Reg.RMP_TDATA := by
  decide +kernel

/-- A performed write of the port (R293). -/
theorem busWrite_catTdata (p : Path) (w : Word) (h : s.performs Reg.CAT_TDATA w = true) :
    (s.busWrite p Reg.CAT_TDATA w).2 = s.catWrite w := by
  obtain ⟨hk, hport, -, hcrop, hpwr, herr, hrmp⟩ := catTdata_register
  obtain ⟨k, hk⟩ := Option.isSome_iff_exists.mp hk
  obtain ⟨hf, hw⟩ := blockAt_low (blockAt_of_kindAt hk)
  rw [busWrite_performs s p _ w h hpwr herr]
  simp [State.writeNow, hf, hw, hk, hpwr, hcrop, hport, hrmp]

/-- An answered read of the port (R293). -/
theorem readAlone_catTdata (p : Path) (h : s.readable Reg.CAT_TDATA = true) :
    s.readAlone p Reg.CAT_TDATA = s.catStep.emit (.readWord Reg.CAT_TDATA s.catRead.1) := by
  obtain ⟨hk, hport, hq, -, -, -, hrmp⟩ := catTdata_register
  obtain ⟨k, hk⟩ := Option.isSome_iff_exists.mp hk
  obtain ⟨hf, hw⟩ := blockAt_low (blockAt_of_kindAt hk)
  have hread : s.readNow p Reg.CAT_TDATA = (s.catRead.1, s.catStep) := by
    simp [State.readNow, hf, hw, hk, hq, hport, hrmp, State.catRead]
  rw [readAlone_answered s p _ h, hread]

end Sys2Proof.Machine
end

section
/-! Commands of the staged set (R233, R234, R242): COMMIT, the end of accession, UNSEAL, and the joint set that each shows. -/

namespace Sys2Proof.Machine

variable (s : State)

/-! ### The joint set -/

/-- What is shown of the joint set: three fields, of which JOINT is 0 unless the set is accepted (R242). -/
theorem showJoint_eq : ∃ w e j, s.showJoint =
      ((s.setFld Reg.ACC_STATUS Fld.ACC_STATUS_PMW w).setFld Reg.ACC_STATUS Fld.ACC_STATUS_PME e).setFld Reg.ACC_STATUS Fld.ACC_STATUS_JOINT j ∧
    (s.fld Reg.ACC_STATUS Fld.ACC_STATUS_SSTATE ≠ 2 → j = 0) := by
  refine ⟨_, _, _, rfl, fun h => ?_⟩
  simp [h, b2n]

theorem showJoint_keeps : s.Keeps [] (theRegs [Reg.ACC_STATUS]) s.showJoint := by
  obtain ⟨w, e, j, hv, -⟩ := showJoint_eq s
  have hreg (z : State) (f : Bits) (n : Nat) : z.Keeps [] (theRegs [Reg.ACC_STATUS]) (z.setFld Reg.ACC_STATUS f n) :=
    setFld_keeps z _ _ _ _ _ (by decide)
  exact hv ▸ ((hreg _ _ _).trans (hreg _ _ _)).trans (hreg _ _ _)

theorem showJoint_state : s.showJoint.fld Reg.ACC_STATUS Fld.ACC_STATUS_SSTATE = s.fld Reg.ACC_STATUS Fld.ACC_STATUS_SSTATE := by
  obtain ⟨w, e, j, hv, -⟩ := showJoint_eq s
  rw [hv, fld_setFld_apart _ _ _ _ _ (by decide) (by decide), fld_setFld_apart _ _ _ _ _ (by decide) (by decide),
    fld_setFld_apart _ _ _ _ _ (by decide) (by decide)]

theorem showJoint_joint (h : s.fld Reg.ACC_STATUS Fld.ACC_STATUS_SSTATE ≠ 2) :
    s.showJoint.flag Reg.ACC_STATUS Fld.ACC_STATUS_JOINT = false := by
  obtain ⟨w, e, j, hv, hj⟩ := showJoint_eq s
  rw [hv, hj h]
  exact flag_setFld_zero _ _ _ (by decide)

/-- The DIGEST messages change the links and the record of what is sent (R241). -/
theorem sendDigests_keeps : s.Keeps [.links, .out] noReg s.sendDigests := by
  have hone (x w : State) (m d k : Nat) : x.Keeps [.links, .out] noReg (x.sendDigest m d k w) :=
    (sendMgmt_spec x m 9 0 _).1.trans (sendMgmt_spec _ m 9 1 _).1
  exact State.Keeps.foldl _ _ _ fun x m _ => (hone x _ m _ 0).trans (hone _ x m _ 1)

/-! ### COMMIT and UNSEAL -/

theorem acc_keeps (x : AccHid) (P : List Part) (r : Nat → Bool) (h : Part.acc ∈ P) : s.Keeps P r { s with acc := x } :=
  .of_regs r rfl fun p _ hp => by cases p <;> first | rfl | exact absurd h hp

/-- COMMIT of an open set starts accession (R233, R234). -/
theorem commit_starts (hst : s.fld Reg.ACC_STATUS Fld.ACC_STATUS_SSTATE = 0) (hm : s.mode.active = true) : let v := s.commit.1
    v.fld Reg.ACC_STATUS Fld.ACC_STATUS_SSTATE = 1 ∧ v.acc = { s.acc with ready := (List.range 14).filter s.linkReady } ∧
      s.Keeps [.acc] (theRegs [Reg.ACC_STATUS]) v := by
  let x := s.setFld Reg.ACC_STATUS Fld.ACC_STATUS_SSTATE 1
  have hv : s.commit.1 = { x with acc := { x.acc with ready := (List.range 14).filter s.linkReady } } := by simp [State.commit, hst, hm, x]
  have hacc (y : AccHid) : x.Keeps [.acc] noReg { x with acc := y } := acc_keeps x y _ _ (by simp)
  rw [hv]
  refine ⟨((hacc _).fld rfl _).trans (fld_setFld_self s _ _ _ (by decide)), rfl, ?_⟩
  exact (setFld_keeps s _ _ _ _ _ (by decide)).trans ((hacc _).mono (by simp) fun _ _ => rfl)

theorem commit_rejected (h : s.fld Reg.ACC_STATUS Fld.ACC_STATUS_SSTATE ≠ 0 ∨ s.mode.active = false) : s.commit.1 = s.rejectCommand := by
  rcases h with h | h <;> simp [State.commit, h]

/-- UNSEAL opens an accepted set, which then is not joint (R233, R242). -/
theorem unseal_opens (hst : s.fld Reg.ACC_STATUS Fld.ACC_STATUS_SSTATE = 2) (ha : s.flag Reg.ACC_STATUS Fld.ACC_STATUS_ARMED = false) :
    let v := s.unseal
    v.fld Reg.ACC_STATUS Fld.ACC_STATUS_SSTATE = 0 ∧ v.flag Reg.ACC_STATUS Fld.ACC_STATUS_JOINT = false ∧
      s.Keeps [] (theRegs [Reg.ACC_STATUS]) v := by
  let x := s.setFld Reg.ACC_STATUS Fld.ACC_STATUS_SSTATE 0
  have hv : s.unseal = x.showJoint := by simp [State.unseal, hst, ha, x]
  have hx : x.fld Reg.ACC_STATUS Fld.ACC_STATUS_SSTATE = 0 := fld_setFld_self s _ _ _ (by decide)
  rw [hv]
  exact ⟨(showJoint_state x).trans hx, showJoint_joint x (by simp [hx]), (setFld_keeps s _ _ _ _ _ (by decide)).trans (showJoint_keeps x)⟩

theorem unseal_rejected (h : s.fld Reg.ACC_STATUS Fld.ACC_STATUS_SSTATE ≠ 2 ∨ s.flag Reg.ACC_STATUS Fld.ACC_STATUS_ARMED = true) :
    s.unseal = s.rejectCommand := by
  rcases h with h | h <;> simp [State.unseal, h]

/-! ### The end of accession -/

/-- The state with the outcome of accession shown: the set's state, the reason and its detail (R234). -/
def State.outcomeShown (s : State) (st code d0 d1 : Nat) : State :=
  (((s.setFld Reg.ACC_STATUS Fld.ACC_STATUS_SSTATE st).setNum Reg.ACC_REASON code).setNum Reg.ACC_DETAIL0 d0).setNum Reg.ACC_DETAIL1 d1

theorem outcomeShown_spec (st code d0 d1 : Nat) : let v := s.outcomeShown st code d0 d1
    v.fld Reg.ACC_STATUS Fld.ACC_STATUS_SSTATE = st % 4 ∧ v.num Reg.ACC_REASON = code % 2 ^ 32 ∧
      v.num Reg.ACC_DETAIL0 = d0 % 2 ^ 32 ∧ v.num Reg.ACC_DETAIL1 = d1 % 2 ^ 32 := by
  refine ⟨?_, ?_, ?_, num_setNum_self _ _ _⟩
  · rw [State.outcomeShown, fld_setNum_ne _ (by decide), fld_setNum_ne _ (by decide), fld_setNum_ne _ (by decide)]
    exact fld_setFld_self s _ _ _ (by decide)
  · rw [State.outcomeShown, num_setNum_ne _ (by decide), num_setNum_ne _ (by decide), num_setNum_self]
  · rw [State.outcomeShown, num_setNum_ne _ (by decide), num_setNum_self]

/-- A refusal shows the reason with its detail, and opens the set again (R234). -/
theorem accessionEnd_refused {code d0 d1 : Nat} (hst : s.fld Reg.ACC_STATUS Fld.ACC_STATUS_SSTATE = 1)
    (hf : accessionFault s (s.wouldBe false) = some (code, some d0, some d1)) : let v := s.accessionEnd
    v.fld Reg.ACC_STATUS Fld.ACC_STATUS_SSTATE = 0 ∧ v.num Reg.ACC_REASON = code % 2 ^ 32 ∧
      v.num Reg.ACC_DETAIL0 = d0 % 2 ^ 32 ∧ v.num Reg.ACC_DETAIL1 = d1 % 2 ^ 32 := by
  intro v
  let x := s.outcomeShown 0 code d0 d1
  have hv : v = (x.notice 0x0501 (sourceOf Reg.ACC_CTRL) code).sendNotice 2 x.accessionBody := by
    simp only [v, State.accessionEnd, hst, hf, ne_eq, not_true, if_false]
    rfl
  have hk : x.Keeps ledgerParts ledgerReg v := hv ▸ (notice_ledger x _ _ _).trans (sendNotice_ledger _ _ _)
  rw [hk.fld (by decide), hk.num (by decide), hk.num (by decide), hk.num (by decide)]
  exact outcomeShown_spec s 0 code d0 d1

/-- The state with the bounds of the staged set shown (R249). -/
def State.boundsShown (s : State) (ws : List Nat) (k : Nat) : State :=
  (ws.zipIdx k).foldl (fun (s : State) b => s.setNum (Reg.ACC_SBOUND b.2) b.1) s

theorem boundsShown_cons (x : Nat) (ws : List Nat) (k : Nat) :
    s.boundsShown (x :: ws) k = (s.setNum (Reg.ACC_SBOUND k) x).boundsShown ws (k + 1) := by
  rw [State.boundsShown, List.zipIdx_cons, List.foldl_cons, State.boundsShown]

/-- Is the register one of the bounds', or above them? -/
def boundReg (a : Nat) : Bool := decide (Reg.ACC_SBOUND 0 ≤ a)

theorem boundsShown_keeps (ws : List Nat) (k : Nat) : s.Keeps [] boundReg (s.boundsShown ws k) :=
  State.Keeps.foldl _ _ _ fun x _ _ => setNum_keeps x _ _ _ _ (decide_eq_true (Nat.le_add_right _ _))

theorem boundsShown_num (ws : List Nat) (k i : Nat) : (s.boundsShown ws k).num (Reg.ACC_SBOUND i) =
    if k ≤ i ∧ i < k + ws.length then (ws[i - k]?).getD 0 % 2 ^ 32 else s.num (Reg.ACC_SBOUND i) := by
  induction ws generalizing s k with
  | nil => exact (if_neg (by simp)).symm
  | cons x ws ih =>
    rw [boundsShown_cons, ih, List.length_cons]
    by_cases hi : i = k
    · subst hi
      rw [if_neg (by omega), if_pos (by omega), num_setNum_self, Nat.sub_self]
      rfl
    · rw [num_setNum_ne _ (by rw [Reg.ACC_SBOUND, Reg.ACC_SBOUND]; omega)]
      by_cases h : k + 1 ≤ i ∧ i < k + 1 + ws.length
      · rw [if_pos h, if_pos (by omega), show i - k = i - (k + 1) + 1 by omega, List.getElem?_cons_succ]
      · rw [if_neg h, if_neg (by omega)]

/-- No register of accession is one of the ledger's. -/
theorem ledgerReg_accession {a : Nat} (h : 0xA0000 ≤ a ∧ a < 0xB0000) : ledgerReg a = false := by
  simp only [ledgerReg, Reg.OHT_ATTN, Reg.TWI_ATTN, Bool.or_eq_false_iff, decide_eq_false_iff_not, beq_eq_false_iff_ne]
  omega

theorem boundWords_length (lag : Nat) : (s.boundWords lag).length = 16 := by simp [State.boundWords]

/-- The state with what accession found of the accepted set `n` shown: its bounds and its digest (R240, R249). -/
def State.acceptedShown (s n : State) : State :=
  ((s.outcomeShown 2 0 0 0).boundsShown (n.boundWords (n.lag 0)) 0).setNum Reg.ACC_STAGEDDIG (n.digest (n.lag 0) n.commonPhases)

theorem acceptedShown_spec (n : State) : let v := s.acceptedShown n
    v.fld Reg.ACC_STATUS Fld.ACC_STATUS_SSTATE = 2 ∧ v.num Reg.ACC_REASON = 0 ∧
      (∀ i, i < 16 → v.num (Reg.ACC_SBOUND i) = ((n.boundWords (n.lag 0))[i]?).getD 0 % 2 ^ 32) ∧
      v.num Reg.ACC_STAGEDDIG = n.digest (n.lag 0) n.commonPhases % 2 ^ 32 := by
  intro v
  obtain ⟨hst, hreason, -⟩ := outcomeShown_spec s 2 0 0 0
  have hk := boundsShown_keeps (s.outcomeShown 2 0 0 0) (n.boundWords (n.lag 0)) 0
  refine ⟨?_, ?_, fun i hi => ?_, num_setNum_self _ _ _⟩
  · exact (fld_setNum_ne _ (by decide) _ _).trans ((hk.fld (by decide) _).trans hst)
  · exact (num_setNum_ne _ (by decide) _).trans ((hk.num (by decide)).trans hreason)
  · refine (num_setNum_ne _ (by rw [Reg.ACC_SBOUND, Reg.ACC_STAGEDDIG]; omega) _).trans ?_
    rw [boundsShown_num, boundWords_length, if_pos (by omega), Nat.sub_zero]

/-- The state with the phases and the retention of the accepted set `n` fixed too (R323). -/
def State.acceptedFixed (s n : State) : State :=
  { s.acceptedShown n with acc := { (s.acceptedShown n).acc with
    stagedRate := (s.acceptedShown n).pinRate, stagedPhases := n.commonPhases, retention := n.fld Reg.STACKS_NROWS Fld.STACKS_NROWS_NROWS - 1 } }

theorem acceptedFixed_keeps (n : State) : (s.acceptedShown n).Keeps [.acc] noReg (s.acceptedFixed n) := acc_keeps _ _ _ _ (by simp)

theorem accessionEnd_of_accepted (hst : s.fld Reg.ACC_STATUS Fld.ACC_STATUS_SSTATE = 1) (hf : accessionFault s (s.wouldBe false) = none) :
    let y := s.acceptedFixed (s.wouldBe false)
    s.accessionEnd = y.showJoint.sendDigests.sendNotice 2 y.accessionBody := by
  intro y
  simp only [State.accessionEnd, hst, hf, ne_eq, not_true, if_false]
  rfl

/-- Acceptance shows the bounds and the digest of the set, and fixes its phases and its retention (R234, R323). -/
theorem accessionEnd_accepted (hst : s.fld Reg.ACC_STATUS Fld.ACC_STATUS_SSTATE = 1) (hf : accessionFault s (s.wouldBe false) = none) :
    let v := s.accessionEnd
    let n := s.wouldBe false
    v.fld Reg.ACC_STATUS Fld.ACC_STATUS_SSTATE = 2 ∧ v.num Reg.ACC_REASON = 0 ∧
      (∀ i, i < 16 → v.num (Reg.ACC_SBOUND i) = ((n.boundWords (n.lag 0))[i]?).getD 0 % 2 ^ 32) ∧
      v.num Reg.ACC_STAGEDDIG = n.digest (n.lag 0) n.commonPhases % 2 ^ 32 ∧
      v.acc.stagedPhases = n.commonPhases ∧ v.acc.retention = n.fld Reg.STACKS_NROWS Fld.STACKS_NROWS_NROWS - 1 := by
  intro v n
  let y := s.acceptedFixed n
  have hv : v = y.showJoint.sendDigests.sendNotice 2 y.accessionBody := accessionEnd_of_accepted s hst hf
  have hsent : y.showJoint.Keeps (.links :: .out :: ledgerParts) ledgerReg v :=
    hv ▸ ((sendDigests_keeps _).mono (by simp) fun _ _ => rfl).trans
      ((sendNotice_ledger _ _ _).mono (fun _ hp => .tail _ (.tail _ hp)) fun _ h => h)
  have hjoint := showJoint_keeps y
  have hfixed := acceptedFixed_keeps s n
  have hnum {a : Nat} (h1 : ledgerReg a = false) (h2 : theRegs [Reg.ACC_STATUS] a = false) : v.num a = (s.acceptedShown n).num a :=
    (hsent.num h1).trans ((hjoint.num h2).trans (hfixed.num rfl))
  have hacc : v.acc = y.acc := (hsent.1 .acc (by simp) (by simp [ledgerParts])).trans (hjoint.1 .acc (by simp) (by simp))
  obtain ⟨hstate, hreason, hbound, hdigest⟩ := acceptedShown_spec s n
  refine ⟨?_, (hnum (by decide) (by decide)).trans hreason, fun i hi => ?_, (hnum (by decide) (by decide)).trans hdigest, ?_, ?_⟩
  · exact (hsent.fld (by decide) _).trans ((showJoint_state y).trans ((hfixed.fld rfl _).trans hstate))
  · refine (hnum ?_ ?_).trans (hbound i hi)
    · exact ledgerReg_accession (by rw [Reg.ACC_SBOUND]; omega)
    · rw [theRegs_eq_false, List.mem_singleton, Reg.ACC_SBOUND, Reg.ACC_STATUS]
      omega
  · exact congrArg AccHid.stagedPhases hacc
  · exact congrArg AccHid.retention hacc

end Sys2Proof.Machine
end

section
/-! The rows of the staged set (R196, R233, R234, R293). -/

namespace Sys2Proof.Machine

variable (s : State)

theorem accCtrl_register : plainRegister .acc 0xA0000 Reg.ACC_CTRL = true ∧ tiedAs .none Reg.ACC_CTRL = true ∧ neverHeld Reg.ACC_CTRL = true := by
  decide +kernel

/-- A performed write of ACC_CTRL (R233, R238). -/
theorem busWrite_accCtrl (p : Path) (w : Word) (h : s.performs Reg.ACC_CTRL w = true) :
    (s.busWrite p Reg.ACC_CTRL w).2 = (s.fieldsWritten Reg.ACC_CTRL w).accWrite Reg.ACC_CTRL w := by
  obtain ⟨hr, ht, hnever⟩ := accCtrl_register
  rw [busWrite_plain s p w h hr (by decide), writeReg_sole s p w hr ht (.inr hnever)]
  unfold State.writeActs
  rw [plainRegister_block hr]
  rfl

/-- A write with COMMIT alone of the command bits. -/
theorem accWrite_commit {w : Word} (h : w.toNat / 2 % 8 = 0) : s.accWrite Reg.ACC_CTRL (withBits w 1) = s.commit.1 := by
  have h0 : bit (withBits w 1).toNat 0 = true := bit_withBits w (i := 0) (by norm_num)
  have hrest (j : Nat) (hj : 0 ≠ j) : bit (withBits w 1).toNat j = bit w.toNat j := bit_withBits_ne w (i := 0) (by norm_num) hj
  have h1 : bit w.toNat 1 = false := decide_eq_false (by omega)
  have h2 : bit w.toNat 2 = false := decide_eq_false (by omega)
  have h3 : bit w.toNat 3 = false := decide_eq_false (by omega)
  simp [State.accWrite, h0, hrest, h1, h2, h3]

/-- A write with UNSEAL alone of the command bits. -/
theorem accWrite_unseal {w : Word} (h : w.toNat % 2 = 0) (h' : w.toNat / 4 % 4 = 0) : s.accWrite Reg.ACC_CTRL (withBits w 2) = s.unseal := by
  have h1 : bit (withBits w 2).toNat 1 = true := bit_withBits w (i := 1) (by norm_num)
  have hrest (j : Nat) (hj : 1 ≠ j) : bit (withBits w 2).toNat j = bit w.toNat j := bit_withBits_ne w (i := 1) (by norm_num) hj
  have h0 : bit w.toNat 0 = false := decide_eq_false (by omega)
  have h2 : bit w.toNat 2 = false := decide_eq_false (by omega)
  have h3 : bit w.toNat 3 = false := decide_eq_false (by omega)
  simp [State.accWrite, h1, hrest, h0, h2, h3]

/-- A link is READY as before when the fields of ACC_CTRL are written. -/
theorem fieldsWritten_linkReady (w : Word) : (s.fieldsWritten Reg.ACC_CTRL w).linkReady = s.linkReady := by
  funext m
  have hne : theRegs [Reg.ACC_CTRL] (Reg.CAM_STATE m) = false := by
    rw [theRegs_eq_false, List.mem_singleton, Reg.CAM_STATE, Reg.ACC_CTRL]
    omega
  rw [State.linkReady, State.linkReady, (fieldsWritten_keeps s Reg.ACC_CTRL w).fld hne]

/-- A command turned away behind a write of ACC_CTRL leaves the set's state and is counted. -/
theorem rejectCommand_fieldsWritten (w : Word) : let v := (s.fieldsWritten Reg.ACC_CTRL w).rejectCommand
    v.fld Reg.ACC_STATUS Fld.ACC_STATUS_SSTATE = s.fld Reg.ACC_STATUS Fld.ACC_STATUS_SSTATE ∧
      v.num Reg.ACC_SHREJ = min 0xFFFFFFFF (s.num Reg.ACC_SHREJ + 1) := by
  have hx := fieldsWritten_keeps s Reg.ACC_CTRL w
  obtain ⟨hrej, hcount⟩ := rejectCommand_rejected (s.fieldsWritten Reg.ACC_CTRL w)
  exact ⟨(hrej.fld (by decide) _).trans (hx.fld (by decide) _), hcount.trans (by rw [hx.num (by decide)])⟩

/-- What a write of ACC_CTRL and a command behind it keep. -/
theorem State.Keeps.of_accCtrl {u v : State} {w : Word} {P Q : List Part}
    (h : (u.fieldsWritten Reg.ACC_CTRL w).Keeps P (theRegs [Reg.ACC_STATUS]) v) (hq : ∀ p ∈ P, p ∈ Q) (hs : Part.shadow ∈ Q) :
    u.Keeps Q (theRegs [Reg.ACC_CTRL, Reg.ACC_STATUS]) v := by
  have hregs {l : List Nat} (hl : l ⊆ [Reg.ACC_CTRL, Reg.ACC_STATUS]) (a : Nat) (ha : theRegs [Reg.ACC_CTRL, Reg.ACC_STATUS] a = false) :
      theRegs l a = false := theRegs_eq_false.mpr fun h => theRegs_eq_false.mp ha (hl h)
  exact ((fieldsWritten_keeps u Reg.ACC_CTRL w).mono (by simpa using hs) (hregs (by simp))).trans (h.mono hq (hregs (by simp)))

/-- COMMIT by a write of ACC_CTRL: it starts accession of an open set, and is turned away otherwise (R233, R234). -/
theorem commit_spec (w : Word) : let v := (s.fieldsWritten Reg.ACC_CTRL w).commit.1
    let st := s.fld Reg.ACC_STATUS Fld.ACC_STATUS_SSTATE
    (st = 0 → s.mode.active = true → v.fld Reg.ACC_STATUS Fld.ACC_STATUS_SSTATE = 1 ∧
      v.acc = { s.acc with ready := (List.range 14).filter s.linkReady } ∧ s.Keeps [.acc, .shadow] (theRegs [Reg.ACC_CTRL, Reg.ACC_STATUS]) v) ∧
    (st ≠ 0 ∨ s.mode.active = false → v.fld Reg.ACC_STATUS Fld.ACC_STATUS_SSTATE = st ∧
      v.num Reg.ACC_SHREJ = min 0xFFFFFFFF (s.num Reg.ACC_SHREJ + 1)) := by
  intro v st
  have hx := fieldsWritten_keeps s Reg.ACC_CTRL w
  have hst : (s.fieldsWritten Reg.ACC_CTRL w).fld Reg.ACC_STATUS Fld.ACC_STATUS_SSTATE = st := hx.fld (by decide) _
  have hmode : (s.fieldsWritten Reg.ACC_CTRL w).mode = s.mode := hx.1 .mode (by simp) (by simp)
  have hacc : (s.fieldsWritten Reg.ACC_CTRL w).acc = s.acc := hx.1 .acc (by simp) (by simp)
  refine ⟨fun h hm => ?_, fun h => ?_⟩
  · obtain ⟨hstate, hready, hk⟩ := commit_starts _ (hst.trans h) ((congrArg Mode.active hmode).trans hm)
    rw [hacc, fieldsWritten_linkReady] at hready
    exact ⟨hstate, hready, hk.of_accCtrl (by simp) (by simp)⟩
  · have hv : v = (s.fieldsWritten Reg.ACC_CTRL w).rejectCommand := commit_rejected _ (by rwa [hst, hmode])
    rw [hv]
    exact rejectCommand_fieldsWritten s w

/-- UNSEAL by a write of ACC_CTRL: it opens an accepted set unless a switch is armed, and is turned away otherwise (R233). -/
theorem unseal_spec (w : Word) : let v := (s.fieldsWritten Reg.ACC_CTRL w).unseal
    let st := s.fld Reg.ACC_STATUS Fld.ACC_STATUS_SSTATE
    (st = 2 → s.flag Reg.ACC_STATUS Fld.ACC_STATUS_ARMED = false → v.fld Reg.ACC_STATUS Fld.ACC_STATUS_SSTATE = 0 ∧
      v.flag Reg.ACC_STATUS Fld.ACC_STATUS_JOINT = false ∧ s.Keeps [.shadow] (theRegs [Reg.ACC_CTRL, Reg.ACC_STATUS]) v) ∧
    (st ≠ 2 ∨ s.flag Reg.ACC_STATUS Fld.ACC_STATUS_ARMED = true → v.fld Reg.ACC_STATUS Fld.ACC_STATUS_SSTATE = st ∧
      v.num Reg.ACC_SHREJ = min 0xFFFFFFFF (s.num Reg.ACC_SHREJ + 1)) := by
  intro v st
  have hx := fieldsWritten_keeps s Reg.ACC_CTRL w
  have hst : (s.fieldsWritten Reg.ACC_CTRL w).fld Reg.ACC_STATUS Fld.ACC_STATUS_SSTATE = st := hx.fld (by decide) _
  have harmed : (s.fieldsWritten Reg.ACC_CTRL w).flag Reg.ACC_STATUS Fld.ACC_STATUS_ARMED = s.flag Reg.ACC_STATUS Fld.ACC_STATUS_ARMED :=
    hx.flag (by decide) _
  refine ⟨fun h ha => ?_, fun h => ?_⟩
  · obtain ⟨hstate, hjoint, hk⟩ := unseal_opens _ (hst.trans h) (harmed.trans ha)
    exact ⟨hstate, hjoint, hk.of_accCtrl (by simp) (by simp)⟩
  · have hv : v = (s.fieldsWritten Reg.ACC_CTRL w).rejectCommand := unseal_rejected _ (by rwa [hst, harmed])
    rw [hv]
    exact rejectCommand_fieldsWritten s w

/-! ### The rows -/

section
variable (t : Nat) (p : Path) (w : Word)

/-- The row FOLIO_MEMORY_WRITE (R196). -/
theorem exec_folioMemoryWrite {a : Nat} (ha : inFolio a = true) : let u := s.advanceTo t
    u.reaches p = true → u.performs a w = true → exec (.folioMemoryWrite t p a w) s = .next ((u.folioMemWrite a w).settle s) := by
  intro u hp hperf
  have hbus := busWrite_folio u p w hperf ha
  exact congrArg Host.Outcome.next ((writeAt_reaches s t p _ _ hp).trans (congrArg (State.settle · s) hbus))

/-- A row that is a write of ACC_CTRL. -/
theorem writeAt_accCtrl : let u := s.advanceTo t
    u.reaches p = true → u.performs Reg.ACC_CTRL w = true →
    s.writeAt t p Reg.ACC_CTRL w = ((u.fieldsWritten Reg.ACC_CTRL w).accWrite Reg.ACC_CTRL w).settle s := by
  intro u hp hperf
  have hbus := busWrite_accCtrl u p w hperf
  exact (writeAt_reaches s t p _ _ hp).trans (congrArg (State.settle · s) hbus)

/-- The row COMMIT (R233). -/
theorem exec_commit : let u := s.advanceTo t
    u.reaches p = true → u.performs Reg.ACC_CTRL (withBits w 1) = true → w.toNat / 2 % 8 = 0 →
    exec (.commit t p w) s = .next ((u.fieldsWritten Reg.ACC_CTRL (withBits w 1)).commit.1.settle s) := by
  intro u hp hperf hw
  have hwrite := writeAt_accCtrl s t p (withBits w 1) hp hperf
  rw [accWrite_commit _ hw] at hwrite
  exact congrArg Host.Outcome.next hwrite

/-- The row UNSEAL (R233). -/
theorem exec_unseal : let u := s.advanceTo t
    u.reaches p = true → u.performs Reg.ACC_CTRL (withBits w 2) = true → w.toNat % 2 = 0 → w.toNat / 4 % 4 = 0 →
    exec (.unseal t p w) s = .next ((u.fieldsWritten Reg.ACC_CTRL (withBits w 2)).unseal.settle s) := by
  intro u hp hperf hw hw'
  have hwrite := writeAt_accCtrl s t p (withBits w 2) hp hperf
  rw [accWrite_unseal _ hw hw'] at hwrite
  exact congrArg Host.Outcome.next hwrite

/-- The row ACCESSION_COMPLETE (R234, R385). -/
theorem exec_accessionComplete : let u := s.advanceTo t
    u.mode.active = true → u.fld Reg.ACC_STATUS Fld.ACC_STATUS_SSTATE = 1 →
    exec (.accessionComplete t) s = .next ((u.accessionEnd.answerCommit false).settle s) := by
  intro u hm hst
  have hdo : (u.when (u.mode.active && decide (u.fld Reg.ACC_STATUS Fld.ACC_STATUS_SSTATE = 1)) fun x => x.accessionEnd.answerCommit false)
      = u.accessionEnd.answerCommit false := by simp [State.when, hm, hst]
  exact congrArg (fun x => Host.Outcome.next (State.settle x s)) hdo

/-- The row CAT_TABLE_WRITE (R293). -/
theorem exec_catTableWrite : let u := s.advanceTo t
    u.reaches p = true → u.performs Reg.CAT_TDATA w = true → exec (.catTableWrite t p w) s = .next ((u.catWrite w).settle s) := by
  intro u hp hperf
  have hbus := busWrite_catTdata u p w hperf
  exact congrArg Host.Outcome.next ((writeAt_reaches s t p _ _ hp).trans (congrArg (State.settle · s) hbus))

/-- The row CAT_TABLE_READ (R293). -/
theorem exec_catTableRead : let u := s.advanceTo t
    u.reaches p = true → u.readable Reg.CAT_TDATA = true →
    exec (.catTableRead t p) s = .next ((u.catStep.emit (.readWord Reg.CAT_TDATA u.catRead.1)).settle s) := by
  intro u hp hread
  have hbus := readAlone_catTdata u p hread
  exact congrArg Host.Outcome.next ((readAt_reaches s t p _ hp).trans (congrArg (State.settle · s) hbus))

end

/-- A rejection leaves folio memory. -/
theorem State.RejectedIn.folio {u v : State} {c : Nat} (h : u.RejectedIn c v) : v.folio = u.folio :=
  h.1.1 .folio (by simp) (by simp [ledgerParts])

/-- Settles O7: each row is one access, or the end of accession, whose effect its operation's lemma says. -/
theorem stagedSet : Obligations.StagedSet := by
  unfold Obligations.StagedSet
  intro s t p w u st shut
  refine ⟨fun e off he ho hp hperf => ?_, fun hp hperf hw => ?_, fun hm hst => ?_, fun hp hperf hw hw' => ?_, ?_⟩
  · intro a
    have hexec := exec_folioMemoryWrite s t p w (a := a) (decide_eq_true (by omega)) hp hperf
    have h4 : a % 4 = 0 := performs_aligned u hperf
    refine ⟨fun hb => ?_, fun hb hst => ?_, fun hb hst => ?_⟩
    · have hrej := folioMemWrite_live u e ho w he hb
      exact ⟨_, hexec, hrej.folio, hrej.2⟩
    · have hrej := folioMemWrite_sealed u e ho w hb hst
      exact ⟨_, hexec, hrej.folio, hrej.2⟩
    · have hread {b : Nat} (hb : 0x400000 ≤ b) (hb4 : b % 4 = 0) := folioStored_read u e ho w hb hb4 (by omega)
      refine ⟨_, hexec, ?_⟩
      rw [folioMemWrite_staged u e ho w hb hst]
      exact ⟨(hread (by omega) h4).trans (if_pos rfl), fun b h hb4 hne => (hread h hb4).trans (if_neg hne), setEngine_keeps u e _ _ _ (by simp)⟩
  · have hexec := exec_commit s t p w hp hperf hw
    obtain ⟨hstarts, hrej⟩ := commit_spec u (withBits w 1)
    exact ⟨fun h hm => ⟨_, hexec, hstarts h hm⟩, fun h => ⟨_, hexec, hrej h⟩⟩
  · have hexec := exec_accessionComplete s t hm hst
    exact ⟨fun code d0 d1 hf => ⟨_, hexec, accessionEnd_refused u hst hf⟩, fun hf => ⟨_, hexec, accessionEnd_accepted u hst hf⟩⟩
  · have hexec := exec_unseal s t p w hp hperf hw hw'
    obtain ⟨hopens, hrej⟩ := unseal_spec u (withBits w 2)
    exact ⟨fun h ha => ⟨_, hexec, hopens h ha⟩, fun h => ⟨_, hexec, hrej h⟩⟩
  · exact ⟨fun hp hperf => ⟨_, exec_catTableWrite s t p w hp hperf, catWrite_spec u w⟩,
      fun hp hread => ⟨_, exec_catTableRead s t p hp hread, catStep_emit_spec u _⟩⟩

end Sys2Proof.Machine
end

section
/-! One folio instruction alone in a bundle (R203, R205): what a table of instructions says of its rows, and what stored columns make of an engine. -/

namespace Sys2Proof.Machine

variable (s : State)

/-! ### Rows of a table of instructions -/

/-- A row of a vector table: where `ok`, the instruction writes `f` to the lanes of V[d], and otherwise it is a NOP (R205). -/
def State.VecRow (s : State) (e d : Nat) (c : Instr) (ok : Bool) (f : Nat → Nat) : Prop :=
  (ok = true → ∃ v : State, exec c s = .next v ∧ s.VecResult e d f v) ∧ (ok = false → exec c s = .next s)

/-- A row of a scalar table: where `ok`, the instruction writes `n` to S[d], and otherwise it is a NOP (R205). -/
def State.ScalRow (s : State) (e d : Nat) (c : Instr) (ok : Bool) (n : Nat) : Prop :=
  (ok = true → ∃ v : State, exec c s = .next v ∧ s.ScalResult e d n v) ∧ (ok = false → exec c s = .next s)

/-- An instruction whose slot has no result is a NOP. -/
theorem exec_nop {c : Instr} {e : Nat} {ws : List FolioWrite} (hc : exec c s = .next (s.folioWrites e ws)) (hws : ws = []) :
    exec c s = .next s := by
  rw [hc, hws]
  rfl

/-- An instruction whose slot has one vector result writes it. -/
theorem exec_vec {c : Instr} {e d : Nat} {ws : List FolioWrite} {f : Nat → Nat} (hc : exec c s = .next (s.folioWrites e ws))
    (hws : ws = [.vec d (lanes32 f)]) : ∃ v : State, exec c s = .next v ∧ s.VecResult e d f v :=
  ⟨_, hc, hws ▸ folioWrites_vec s e d f⟩

/-- An instruction whose slot has one scalar result writes it. -/
theorem exec_scal {c : Instr} {e d n : Nat} {ws : List FolioWrite} (hc : exec c s = .next (s.folioWrites e ws)) (hws : ws = [.scal d n]) :
    ∃ v : State, exec c s = .next v ∧ s.ScalResult e d n v :=
  ⟨_, hc, hws ▸ folioWrites_scal s e d n⟩

theorem vecRow_of_writes {c : Instr} {e d : Nat} {ok : Bool} {f : Nat → Nat} {ws : List FolioWrite}
    (hc : exec c s = .next (s.folioWrites e ws)) (hws : ws = if ok then [.vec d (lanes32 f)] else []) : s.VecRow e d c ok f :=
  ⟨fun h => exec_vec s hc (by rw [hws, h]; rfl), fun h => exec_nop s hc (by rw [hws, h]; rfl)⟩

theorem scalRow_of_writes {c : Instr} {e d : Nat} {ok : Bool} {n : Nat} {ws : List FolioWrite}
    (hc : exec c s = .next (s.folioWrites e ws)) (hws : ws = if ok then [.scal d n] else []) : s.ScalRow e d c ok n :=
  ⟨fun h => exec_scal s hc (by rw [hws, h]; rfl), fun h => exec_nop s hc (by rw [hws, h]; rfl)⟩

/-- A plane index out of range beside a vector result is counted (R190). -/
theorem folioWrites_vec_planeErr (e d : Nat) (f : Nat → Nat) : let v := s.folioWrites e [.vec d (lanes32 f), .planeErr]
    v.num (Reg.FOLIO_PLNERR e) = min 0xFFFFFFFF (s.num (Reg.FOLIO_PLNERR e) + 1) ∧ ∀ l, l < 32 → v.vreg e d l = f l % 65536 := by
  obtain ⟨hlanes, -⟩ := folioWrites_vec s e d f
  exact ⟨num_bump_self _ _, hlanes⟩

/-! ### Patterns and comparisons -/

/-- A 16-bit pattern read as signed or unsigned. -/
theorem lane16_eq (sgn : Bool) (v : Nat) : lane16 sgn v = if sgn = true then signed 16 v else ((v % 65536 : Nat) : Int) := by
  simp [lane16]

theorem lane16_decide (p : Prop) [Decidable p] (v : Nat) : lane16 (decide p) v = if p then signed 16 v else ((v % 65536 : Nat) : Int) := by
  simp [lane16_eq]

theorem b2n_decide (p : Prop) [Decidable p] : b2n (decide p) = if p then 1 else 0 := by
  simp [b2n]

/-- A comparison that answers 1 where `p` does not hold. -/
theorem b2n_decide_not (p : Prop) [Decidable p] : b2n (decide ¬p) = if p then 0 else 1 := by
  rw [b2n_decide, ite_not]

end Sys2Proof.Machine
end

section
/-! The vector operations (R208, R209, R215, R216), row by row of the table. -/

namespace Sys2Proof.Machine

variable (s : State)

/-- A result brought to 16 bits under MODE (R208). -/
theorem clampMode_eq (mode : Nat) (r : Int) :
    clampMode mode r = unsignedOf 16 (if mode = 0 then r else if mode = 1 ∨ mode = 4 then max 0 (min 65535 r) else max (-32768) (min 32767 r)) := by
  unfold clampMode
  split
  · rfl
  · split <;> rfl

/-- A row of the vector table with opcode `op`: what the table allows of MODE (`m`) and BK (`k`), and what it computes in a lane. -/
theorem vecRow (op : Nat) {c : Instr} {e d a b cc bk mode : Nat} {m k : Prop} [Decidable m] [Decidable k] {f : Nat → Nat}
    (hop : 1 ≤ op ∧ op ≤ 0x16) (hc : exec c s = .next (s.folioWrites e (s.aluSlot e ⟨op, d, a, b, cc, bk, mode, 0⟩)))
    (hok : vecAllowed op mode bk = (decide m && decide k))
    (hf : ∀ l, vecLane op mode cc (s.vreg e a l) (s.vecB e ⟨op, d, a, b, cc, bk, mode, 0⟩ l) (s.vreg e cc l) = f l) :
    s.VecRow e d c (decide (m ∧ k)) f := by
  refine vecRow_of_writes s hc ((if_pos hop).trans ?_)
  rw [hok, ← Bool.decide_and, funext hf]

/-- Settles O55: each row is its opcode's line of `vecAllowed` and of `vecLane`. -/
theorem vectorOperations : Obligations.VectorOperations := by
  unfold Obligations.VectorOperations
  intro s e d a b c bk mode av bv x y clamp
  have hx : x = fun l => lane16 (decide (mode = 2)) (av l) := funext fun l => (lane16_decide _ _).symm
  have hy : y = fun l => lane16 (decide (mode = 2 ∨ mode = 4)) (bv l) := funext fun l => (lane16_decide _ _).symm
  have hclamp : clamp = clampMode mode := funext fun r => (clampMode_eq mode r).symm
  clear_value x y clamp
  subst hx hy hclamp
  have round : (if 0 < c then 2 ^ (c - 1) else 0 : Int) = if c = 0 then 0 else 2 ^ (c - 1) := by
    cases c <;> rfl
  simp only [List.forall_mem_cons, List.not_mem_nil, false_implies, implies_true, and_true]
  exact ⟨vecRow s 0x01 (by decide) rfl rfl fun _ => rfl, vecRow s 0x02 (by decide) rfl rfl fun _ => rfl,
    vecRow s 0x03 (by decide) rfl rfl fun _ => by rw [round]; rfl, vecRow s 0x04 (by decide) rfl rfl fun _ => rfl,
    vecRow s 0x05 (by decide) rfl rfl fun _ => rfl, vecRow s 0x06 (by decide) rfl rfl fun _ => rfl,
    vecRow s 0x07 (by decide) rfl rfl fun _ => rfl, vecRow s 0x08 (by decide) rfl rfl fun _ => rfl,
    vecRow s 0x09 (by decide) rfl rfl fun _ => rfl, vecRow s 0x0A (by decide) rfl rfl fun _ => rfl,
    vecRow s 0x0B (by decide) rfl rfl fun _ => rfl, vecRow s 0x0C (by decide) rfl rfl fun _ => rfl,
    vecRow s 0x0D (by decide) rfl rfl fun _ => rfl, vecRow s 0x0E (by decide) rfl rfl fun _ => rfl,
    vecRow s 0x0F (by decide) rfl rfl fun _ => rfl, vecRow s 0x10 (by decide) rfl rfl fun _ => b2n_decide _,
    vecRow s 0x11 (by decide) rfl rfl fun _ => b2n_decide_not _, vecRow s 0x12 (by decide) rfl rfl fun _ => b2n_decide _,
    vecRow s 0x13 (by decide) rfl rfl fun _ => b2n_decide _, vecRow s 0x14 (by decide) rfl rfl fun _ => b2n_decide _,
    vecRow s 0x15 (by decide) rfl rfl fun _ => b2n_decide _, vecRow s 0x16 (by decide) rfl rfl fun _ => rfl⟩

end Sys2Proof.Machine
end

section
/-! The scalar operations (R208, R209, R215, R217), row by row of the table. -/

namespace Sys2Proof.Machine

variable (s : State)

/-- A scalar read under MODE (R208). -/
theorem scalarAs_eq (mode v : Nat) : scalarAs mode v = if mode = 2 then signed 32 v else ((v % 2 ^ 32 : Nat) : Int) := by
  simp [scalarAs]

/-- A result brought to 32 bits under MODE (R208). -/
theorem clampScalar_eq (mode : Nat) (r : Int) :
    clampScalar mode r =
      unsignedOf 32 (if mode = 0 then r else if mode = 1 then max 0 (min 0xFFFFFFFF r) else max (-2147483648) (min 2147483647 r)) := by
  unfold clampScalar
  split
  · rfl
  · split <;> rfl

/-- An arithmetic shift by 32 or more leaves copies of the sign. -/
theorem fdiv_signed32 (a b : Nat) :
    Int.fdiv (signed 32 a) (2 ^ min b 32) = if 32 ≤ b then (if signed 32 a < 0 then -1 else 0) else Int.fdiv (signed 32 a) (2 ^ b) := by
  have hrange : -(2 ^ 31) ≤ signed 32 a ∧ signed 32 a < 2 ^ 31 := by
    unfold signed
    split <;> omega
  split
  · next h =>
    rw [min_eq_right h, Int.fdiv_eq_ediv_of_nonneg _ (by norm_num)]
    split <;> omega
  · next h => rw [min_eq_left (by omega)]

/-- A row of the scalar table with opcode `op`: what the table allows of MODE (`m`) and of BK and B (`k`), and what it computes. -/
theorem scalRow (op : Nat) {c : Instr} {e d a b cc bk mode n : Nat} {m k : Bool} (hop : 0x20 ≤ op ∧ op ≤ 0x32 ∧ op ≠ 0x2D ∧ op ≠ 0x2E)
    (hc : exec c s = .next (s.folioWrites e (s.aluSlot e ⟨op, d, a, b, cc, bk, mode, 0⟩)))
    (hok : scalAllowed ⟨op, d, a, b, cc, bk, mode, 0⟩ = (m && k))
    (hf : scalarOp ⟨op, d, a, b, cc, bk, mode, 0⟩ (s.sreg e a) (if bk = 1 then s.sreg e b else imm8 32 b cc) (s.sreg e cc) (s.sreg e d) = n) :
    s.ScalRow e d c (m && k) n := by
  obtain ⟨h20, h32, h2D, h2E⟩ := hop
  have hvec : ¬(1 ≤ op ∧ op ≤ 0x16) := by omega
  refine scalRow_of_writes s hc ?_
  rw [← hok, ← hf]
  exact (if_neg hvec).trans ((if_neg (by simp [h2D, h2E])).trans (if_pos ⟨h20, h32⟩))

/-- A row whose MODE, BK and B the table states in one condition. -/
theorem scalRow_and (op : Nat) {c : Instr} {e d a b cc bk mode n : Nat} {m k : Prop} [Decidable m] [Decidable k]
    (hop : 0x20 ≤ op ∧ op ≤ 0x32 ∧ op ≠ 0x2D ∧ op ≠ 0x2E)
    (hc : exec c s = .next (s.folioWrites e (s.aluSlot e ⟨op, d, a, b, cc, bk, mode, 0⟩)))
    (hok : scalAllowed ⟨op, d, a, b, cc, bk, mode, 0⟩ = (decide m && decide k))
    (hf : scalarOp ⟨op, d, a, b, cc, bk, mode, 0⟩ (s.sreg e a) (if bk = 1 then s.sreg e b else imm8 32 b cc) (s.sreg e cc) (s.sreg e d) = n) :
    s.ScalRow e d c (decide (m ∧ k)) n :=
  Bool.decide_and m k ▸ scalRow s op hop hc hok hf

/-- Settles O56: each row is its opcode's line of `scalAllowed` and of `scalarOp`. -/
theorem scalarOperations : Obligations.ScalarOperations := by
  unfold Obligations.ScalarOperations
  intro s e d a b c bk mode imm av bv x y clamp second one three two
  have hx : x = scalarAs mode av := (scalarAs_eq mode av).symm
  have hy : y = scalarAs mode bv := (scalarAs_eq mode bv).symm
  have hclamp : clamp = clampScalar mode := funext fun r => (clampScalar_eq mode r).symm
  clear_value x y clamp
  subst hx hy hclamp
  have hssar : scalarOp ⟨0x25, d, a, b, c, bk, mode, 0⟩ av bv (s.sreg e c) (s.sreg e d) =
      unsignedOf 32 (if 32 ≤ bv then (if signed 32 av < 0 then -1 else 0) else Int.fdiv (signed 32 av) (2 ^ bv)) :=
    congrArg (unsignedOf 32) (fdiv_signed32 av bv)
  have hsshl := scalRow s 0x26 (c := .sshl e d a b c bk mode) (by decide) rfl rfl rfl
  refine fun row hrow => ⟨?_, hsshl.1, hsshl.2⟩
  revert row
  simp only [List.forall_mem_cons, List.not_mem_nil, false_implies, implies_true, and_true]
  exact ⟨scalRow s 0x20 (by decide) rfl rfl rfl, scalRow s 0x21 (by decide) rfl rfl rfl, scalRow s 0x22 (by decide) rfl rfl rfl,
    scalRow s 0x23 (by decide) rfl rfl rfl, scalRow s 0x24 (by decide) rfl rfl rfl, scalRow s 0x25 (by decide) rfl rfl hssar,
    scalRow s 0x27 (by decide) rfl rfl rfl, scalRow s 0x28 (by decide) rfl rfl rfl, scalRow s 0x29 (by decide) rfl rfl rfl,
    scalRow s 0x2A (by decide) rfl rfl rfl, scalRow s 0x2B (by decide) rfl rfl rfl, scalRow s 0x2C (by decide) rfl rfl rfl,
    ⟨fun _ => exec_scal s rfl rfl, nofun⟩, ⟨fun _ => exec_scal s rfl rfl, nofun⟩,
    scalRow_and s 0x2F (by decide) rfl rfl rfl, scalRow s 0x30 (by decide) rfl rfl (b2n_decide _),
    scalRow s 0x31 (by decide) rfl rfl (b2n_decide _), scalRow_and s 0x32 (by decide) rfl rfl rfl⟩

end Sys2Proof.Machine
end

section
/-! The window operations (R190, R205, R210 to R213): sorted samples, the least and the greatest of them, and the rows of the table. -/

namespace Sys2Proof.Machine

variable (s : State)

/-! ### Samples -/

theorem insertSample_eq_orderedInsert (x : Int) (l : List Int) : insertSample x l = l.orderedInsert (· ≤ ·) x := by
  induction l with
  | nil => rfl
  | cons y r ih => simp only [insertSample, List.orderedInsert_cons, ih]

/-- Sorting samples is the library's insertion sort. -/
theorem sortSamples_eq_insertionSort (l : List Int) : sortSamples l = l.insertionSort (· ≤ ·) := by
  induction l with
  | nil => rfl
  | cons x l ih => rw [List.insertionSort_cons, ← ih, ← insertSample_eq_orderedInsert]; rfl

/-- Sorted samples stand in rising order. -/
theorem sortSamples_pairwise (l : List Int) : (sortSamples l).Pairwise (· ≤ ·) :=
  sortSamples_eq_insertionSort l ▸ List.pairwise_insertionSort _ l

theorem sortSamples_perm (l : List Int) : (sortSamples l).Perm l :=
  sortSamples_eq_insertionSort l ▸ List.perm_insertionSort _ l

theorem sortSamples_ne_nil {l : List Int} (h : l ≠ []) : sortSamples l ≠ [] := fun hs =>
  h ((hs ▸ sortSamples_perm l).nil_eq).symm

/-- The least of samples is the library's minimum, whatever stands for none. -/
theorem leastOf_eq_min (k : Int) {l : List Int} (h : l ≠ []) : leastOf k l = l.min h := by
  cases l with
  | nil => exact absurd rfl h
  | cons x l => simp [leastOf, List.min]

theorem greatestOf_eq_max (k : Int) {l : List Int} (h : l ≠ []) : greatestOf k l = l.max h := by
  cases l with
  | nil => exact absurd rfl h
  | cons x l => simp [greatestOf, List.max]

/-- RANK 0 is the least sample. -/
theorem sortSamples_zero (k : Int) {l : List Int} (h : l ≠ []) : (sortSamples l)[0]? = some (leastOf k l) := by
  have hs := sortSamples_ne_nil h
  have hhead : l.min h = (sortSamples l).head hs :=
    (List.min_eq_iff h).mpr ⟨(sortSamples_perm l).subset (List.head_mem hs), fun b hb =>
      (sortSamples_pairwise l).rel_head ((sortSamples_perm l).symm.subset hb)⟩
  rw [leastOf_eq_min k h, hhead, ← List.head?_eq_getElem?, List.head?_eq_some_head]

/-- RANK n − 1 is the greatest sample. -/
theorem sortSamples_last (k : Int) {l : List Int} (h : l ≠ []) : (sortSamples l)[l.length - 1]? = some (greatestOf k l) := by
  have hs := sortSamples_ne_nil h
  have hlast : l.max h = (sortSamples l).getLast hs :=
    (List.max_eq_iff h).mpr ⟨(sortSamples_perm l).subset (List.getLast_mem hs), fun b hb =>
      (sortSamples_pairwise l).rel_getLast ((sortSamples_perm l).symm.subset hb)⟩
  rw [greatestOf_eq_max k h, hlast, ← (sortSamples_perm l).length_eq, ← List.getLast?_eq_getElem?, List.getLast?_eq_some_getLast]

/-- A window has a sample for each of its columns in each of its rows (R210). -/
theorem winSamples_length (e : Nat) (i : WinOp) (l : Nat) : (s.winSamples e i l).length = (2 * i.w + 1) * (2 * i.hh + 1) := by
  simp [State.winSamples, List.length_flatMap, Nat.mul_comm]

/-! ### The slot -/

/-- Is the source of a window one of the table's, with the fields that it does not use at 0 (R210)? -/
def WinOp.shapeOk (i : WinOp) : Bool := decide (i.src < 3) && (if i.src = 0 then decide (i.slot = 0) else decide (i.str = 0 ∧ i.hh = 0))

theorem winValid_unranked {i : WinOp} (h : 1 ≤ i.op ∧ i.op ≤ 0xC ∧ i.op ≠ 3 ∧ i.op ≠ 9) : winValid i = i.shapeOk := by
  simp [winValid, WinOp.shapeOk, h]

theorem winValid_ranked {i : WinOp} (h : i.op = 3 ∨ i.op = 9) : winValid i = (i.shapeOk && decide (i.arg < 256 ∧ i.arg < winCount i)) := by
  rcases h with h | h <;> simp [winValid, WinOp.shapeOk, h]

/-- The results of a valid slot whose plane index, where it has one, is in range. -/
theorem winSlot_inRange (e : Nat) {i : WinOp} (hv : winValid i = true) (h : i.src = 2 → s.sreg e i.slot < s.geom e Fld.FOLIO_GEOM_NPL) :
    s.winSlot e i = [.vec i.d (lanes32 fun l => s.winResult e i (s.winSamples e i l))] := by
  have herr : (i.src = 2 && (s.planeIndex e true i.slot).isNone) = false := by
    by_cases h2 : i.src = 2 <;> simp [State.planeIndex, h2, h]
  simp only [State.winSlot, hv, herr, if_true, Bool.false_eq_true, if_false]

/-- The results of one whose plane index is out of range (R190). -/
theorem winSlot_outOfRange (e : Nat) {i : WinOp} (hv : winValid i = true) (h2 : i.src = 2) (h : s.geom e Fld.FOLIO_GEOM_NPL ≤ s.sreg e i.slot) :
    s.winSlot e i = [.vec i.d (lanes32 fun l => s.winResult e i (s.winSamples e i l)), .planeErr] := by
  have herr : (i.src = 2 && (s.planeIndex e true i.slot).isNone) = true := by simp [State.planeIndex, h2, h]
  simp only [State.winSlot, hv, herr, if_true]

/-- A row of the window table. -/
theorem winRow {c : Instr} {e : Nat} {f : Nat → Nat} {ok : Bool} (i : WinOp) (hc : exec c s = .next (s.folioWrites e (s.winSlot e i)))
    (hok : winValid i = ok) (hf : ∀ l, s.winResult e i (s.winSamples e i l) = f l) :
    (ok = true → (i.src = 2 → s.sreg e i.slot < s.geom e Fld.FOLIO_GEOM_NPL) → ∃ v : State, exec c s = .next v ∧ s.VecResult e i.d f v) ∧
      (ok = true → i.src = 2 → s.geom e Fld.FOLIO_GEOM_NPL ≤ s.sreg e i.slot → ∃ v : State, exec c s = .next v ∧
        v.num (Reg.FOLIO_PLNERR e) = min 0xFFFFFFFF (s.num (Reg.FOLIO_PLNERR e) + 1) ∧ ∀ l, l < 32 → v.vreg e i.d l = f l % 65536) ∧
      (ok = false → exec c s = .next s) := by
  obtain rfl : (fun l => s.winResult e i (s.winSamples e i l)) = f := funext hf
  subst hok
  refine ⟨fun hv h => exec_vec s hc (winSlot_inRange s e hv h), fun hv h2 h => ⟨_, hc, ?_⟩,
    fun hv => exec_nop s hc (by simp [State.winSlot, hv])⟩
  rw [winSlot_outOfRange s e hv h2 h]
  exact folioWrites_vec_planeErr s e i.d _

/-- Settles O57: each row is its opcode's line of `winValid` and of `winResult`; a sorted window is the library's insertion sort. -/
theorem windowOperations : Obligations.WindowOperations := by
  unfold Obligations.WindowOperations
  intro s e d src slot str w hh stg arg i px up sp mean head taps conv inside shape ranks
  refine ⟨fun l => winSamples_length s e (i 0) l, fun ps => ⟨sortSamples_pairwise ps, sortSamples_perm ps, fun h => ⟨fun k => ?_,
    sortSamples_zero 0 h, sortSamples_last 0 h⟩, rfl, rfl⟩, ?_⟩
  · rw [leastOf_eq_min k h, greatestOf_eq_max k h]
    exact ⟨List.min_mem h, List.max_mem h, fun y hy => ⟨List.min_le_of_mem hy, List.le_max_of_mem hy⟩⟩
  · have hup : up = fun l => (px l).map (lane16 false) := funext fun l => List.map_congr_left fun p _ => (lane16_eq false p).symm
    have hconv (l : Nat) : s.conv e (32 * arg) (px l) = unsignedOf 16
        (if bit head 6 = true then max (-32768) (min 32767 (conv l)) else max 0 (min 65535 (conv l))) := by
      simp only [State.conv, Bool.and_eq_true, decide_eq_true_eq, lane16_eq]
      rfl
    have hsp : sp = fun l => (px l).map (lane16 true) := rfl
    clear_value up sp
    subst hup hsp
    have plain (op : Nat) (h : 1 ≤ op ∧ op ≤ 0xC ∧ op ≠ 3 ∧ op ≠ 9) : winValid (i op) = shape := winValid_unranked h
    have ranked (op : Nat) (h : op = 3 ∨ op = 9) : winValid (i op) = (shape && ranks) := winValid_ranked h
    simp only [List.forall_mem_cons, List.not_mem_nil, false_implies, implies_true, and_true]
    exact ⟨winRow s (i 1) rfl (plain 1 (by decide)) hconv,
      winRow s (i 2) rfl (plain 2 (by decide)) fun l => by simp only [mean, List.length_map]; rfl,
      winRow s (i 3) rfl (ranked 3 (by decide)) fun _ => rfl,
      winRow s (i 4) rfl (plain 4 (by decide)) fun _ => rfl,
      winRow s (i 5) rfl (plain 5 (by decide)) fun _ => rfl,
      winRow s (i 6) rfl (plain 6 (by decide)) fun _ => rfl,
      winRow s (i 7) rfl (plain 7 (by decide)) fun _ => rfl,
      winRow s (i 8) rfl (plain 8 (by decide)) fun l => by simp only [List.length_map]; rfl,
      winRow s (i 9) rfl (ranked 9 (by decide)) fun _ => rfl,
      winRow s (i 10) rfl (plain 10 (by decide)) fun _ => rfl,
      winRow s (i 11) rfl (plain 11 (by decide)) fun _ => rfl,
      winRow s (i 12) rfl (plain 12 (by decide)) fun l => by simp only [mean, List.length_map]; rfl⟩

end Sys2Proof.Machine
end

section
/-! The table look-ups (R218 to R220). -/

namespace Sys2Proof.Machine

variable (s : State)

/-- An entry of the live table memory is a half of a word of folio memory (R218). -/
theorem tableAt_eq (e : Nat) {k : Nat} (h : k < 32768) :
    s.tableAt e k = (Store.get (fun _ => (0 : Word)) ((0x10000 + 0x10000 * s.folioBank e + 2 * k) / 4) (s.engine e).mem).toNat
      / 65536 ^ (k % 2) % 65536 := by
  have hhalf : (0x10000 + 0x10000 * s.folioBank e + 2 * k) % 4 / 2 = k % 2 := by omega
  rw [State.tableAt, if_pos h, State.folioHalf, hhalf]

/-- A rounded part of a difference lies between 0 and the difference. -/
theorem fdiv_part_between (d r p : Int) (hr : 0 ≤ r ∧ r < 2 * p) :
    min 0 d ≤ Int.fdiv (d * r + p) (2 * p) ∧ Int.fdiv (d * r + p) (2 * p) ≤ max 0 d := by
  have hp : 0 < 2 * p := by omega
  rw [Int.fdiv_eq_ediv_of_nonneg _ hp.le, Int.le_ediv_iff_mul_le hp, ← Int.lt_add_one_iff (b := max 0 d), Int.ediv_lt_iff_lt_mul hp]
  rcases le_total 0 d with h | h
  · rw [min_eq_left h, max_eq_right h]
    constructor <;> nlinarith
  · rw [min_eq_right h, max_eq_left h]
    constructor <;> nlinarith

/-- An interpolated value lies between its two entries (R220). -/
theorem interpolated_between (t0 t1 r : Nat) {sh : Nat} (hsh : sh ≠ 0) (hr : r < 2 ^ sh) :
    let v := ((t0 : Int) + Int.fdiv (((t1 : Int) - t0) * (r : Int) + 2 ^ (sh - 1)) (2 ^ sh)).toNat
    min t0 t1 ≤ v ∧ v ≤ max t0 t1 := by
  have hpow : (2 : Int) ^ sh = 2 * 2 ^ (sh - 1) := by rw [← pow_succ', Nat.sub_add_cancel (by omega)]
  have hr' : (r : Int) < 2 ^ sh := by exact_mod_cast hr
  obtain ⟨h1, h2⟩ := fdiv_part_between ((t1 : Int) - t0) r (2 ^ (sh - 1)) ⟨by omega, hpow ▸ hr'⟩
  rw [← hpow] at h1 h2
  constructor <;> omega

/-- The results of LUT, LUTS and LUTI with a table of more than one entry. -/
theorem lutSlot_vec (e : Nat) {i : LutOp} (h : (1 ≤ i.op ∧ i.op ≤ 3 ∧ i.lg ≠ 0) ∨ i.op = 4) :
    s.lutSlot e i = [.vec i.d (lanes32 fun l => s.lutLane e i (s.vreg e i.a l) (s.vreg e i.b l))] := if_pos h

/-- LG 0 is refused, but for LUT2, which has none. -/
theorem lutSlot_nop (e : Nat) {i : LutOp} (hlg : i.lg = 0) (h4 : i.op ≠ 4) : s.lutSlot e i = [] := by
  simp [State.lutSlot, hlg, h4]

/-- Settles O58: each row is its opcode's line of `lutLane`; an interpolated value lies between its entries (`interpolated_between`). -/
theorem tableLookups : Obligations.TableLookups := by
  unfold Obligations.TableLookups
  intro s e d a b base lg sh na nb t n av interp
  refine ⟨fun k hk => tableAt_eq s e hk, fun hlg => ⟨exec_vec s rfl (lutSlot_vec s e (by simp [hlg])),
    exec_vec s rfl (lutSlot_vec s e (by simp [hlg])), exec_vec s rfl (lutSlot_vec s e (by simp [hlg])),
    exec_scal s rfl (by simp [State.lutSlot, hlg]; rfl), ?_⟩, fun hlg => ⟨exec_nop s rfl (lutSlot_nop s e hlg (by simp)),
    exec_nop s rfl (lutSlot_nop s e hlg (by simp)), exec_nop s rfl (lutSlot_nop s e hlg (by simp)),
    exec_nop s rfl (lutSlot_nop s e hlg (by simp))⟩, exec_vec s rfl (lutSlot_vec s e (.inr rfl))⟩
  rintro l q rfl hq hsh
  have hbelow : ¬(n - 1 ≤ av l / 2 ^ sh ∨ sh = 0) := by omega
  simp only [interp, if_neg hbelow]
  exact interpolated_between _ _ _ hsh (Nat.mod_lt _ (by positivity))

end Sys2Proof.Machine
end

section
/-! Values that lanes store at sweep columns (R177, R190, R224): the planes and the outputs of an engine. -/

namespace Sys2Proof.Machine

variable (s : State)

/-! ### Tables of columns -/

/-- The table after values are stored at columns from key `b` on. -/
def storeCols (b : Nat) (vs : List (Nat × Nat)) (m : Store Nat) : Store Nat :=
  vs.foldl (fun m x => Store.set (fun _ => 0) (b + x.1) x.2 m) m

/-- A key at which no column stands is as it was. -/
theorem get_storeCols_out (b k : Nat) (vs : List (Nat × Nat)) (m : Store Nat) (h : ∀ x ∈ vs, b + x.1 ≠ k) :
    Store.get (fun _ => 0) k (storeCols b vs m) = Store.get (fun _ => 0) k m := by
  induction vs generalizing m with
  | nil => rfl
  | cons x vs ih =>
    obtain ⟨hx, hvs⟩ := List.forall_mem_cons.mp h
    exact (ih _ hvs).trans (Store.get_set_ne _ hx.symm _ m)

/-- A column reads as what was stored there, where all that was stored there is one value. -/
theorem get_storeCols_in (b c v : Nat) (vs : List (Nat × Nat)) (m : Store Nat) (hmem : (c, v) ∈ vs) (h : ∀ x ∈ vs, x.1 = c → x.2 = v) :
    Store.get (fun _ => 0) (b + c) (storeCols b vs m) = v := by
  induction vs generalizing m with
  | nil => exact absurd hmem List.not_mem_nil
  | cons x vs ih =>
    obtain ⟨hx, hvs⟩ := List.forall_mem_cons.mp h
    by_cases hin : (c, v) ∈ vs
    · exact ih _ hin hvs
    · obtain rfl : (c, v) = x := (List.mem_cons.mp hmem).resolve_right hin
      have hout : ∀ y ∈ vs, b + y.1 ≠ b + c := fun y hy hyc =>
        have hy1 : y.1 = c := Nat.add_left_cancel hyc
        have hyv : y = (c, v) := Prod.ext hy1 (hvs y hy hy1)
        hin (hyv ▸ hy)
      exact (get_storeCols_out b (b + c) vs _ hout).trans (Store.get_set_self _ _ v m)

/-! ### Lanes of the sweep -/

/-- The columns of the lanes that are not void, with their values. -/
theorem mem_colPairs (e k : Nat) (f : Nat → Nat) (x : Nat × Nat) : x ∈ s.colPairs e k (s.laneReal e k) f ↔
    ∃ l, l < 32 ∧ s.laneReal e k l = true ∧ ((s.laneCol e k l).toNat, f l) = x := by
  simp [State.colPairs]

theorem laneReal_iff (e k l : Nat) : s.laneReal e k l = true ↔ 0 ≤ s.laneCol e k l ∧ s.laneCol e k l < s.sweepWidth e := decide_eq_true_iff

/-- Two lanes of the sweep in one column are one lane. -/
theorem lane_of_column {e k l l' : Nat} (h : s.laneReal e k l = true) (h' : s.laneReal e k l' = true)
    (hc : (s.laneCol e k l).toNat = (s.laneCol e k l').toNat) : l = l' := by
  obtain ⟨h0, -⟩ := (laneReal_iff s e k l).mp h
  obtain ⟨h0', -⟩ := (laneReal_iff s e k l').mp h'
  unfold State.laneCol at *
  omega

/-- A column of the sweep is its own nearest column inside (R174). -/
theorem edgeCol_of_real {e k l : Nat} (h : s.laneReal e k l = true) : edgeCol (s.sweepWidth e) (s.laneCol e k l) = (s.laneCol e k l).toNat := by
  obtain ⟨h0, h1⟩ := (laneReal_iff s e k l).mp h
  unfold edgeCol
  omega

theorem edgeCol_lt {w : Nat} (h : w ≤ 2 ^ 16) (y : Int) : edgeCol w y < 2 ^ 16 := by
  unfold edgeCol
  omega

theorem laneCol_lt {e k l : Nat} (hw : s.sweepWidth e ≤ 2 ^ 16) (h : s.laneReal e k l = true) : (s.laneCol e k l).toNat < 2 ^ 16 := by
  obtain ⟨-, h1⟩ := (laneReal_iff s e k l).mp h
  omega

/-- The lanes of the sweep read what they stored at their columns. -/
theorem get_lanes_stored (e k b : Nat) (f : Nat → Nat) (m : Store Nat) {l : Nat} (hl : l < 32) (h : s.laneReal e k l = true) :
    Store.get (fun _ => 0) (b + (s.laneCol e k l).toNat) (storeCols b (s.colPairs e k (s.laneReal e k) f) m) = f l := by
  refine get_storeCols_in _ _ _ _ _ ((mem_colPairs s e k f _).mpr ⟨l, hl, h, rfl⟩) fun x hx hc => ?_
  obtain ⟨l', -, h', rfl⟩ := (mem_colPairs s e k f x).mp hx
  rw [lane_of_column s h' h hc]

/-- What they store leaves every other column, and every other slot or output, as it was. -/
theorem get_lanes_kept (e k a o x : Nat) (f : Nat → Nat) (m : Store Nat) (hw : s.sweepWidth e ≤ 2 ^ 16) (hx : x < 2 ^ 16)
    (h : o ≠ a ∨ ∀ l, l < 32 → s.laneReal e k l = true → (s.laneCol e k l).toNat ≠ x) :
    Store.get (fun _ => 0) (o * 2 ^ 16 + x) (storeCols (a * 2 ^ 16) (s.colPairs e k (s.laneReal e k) f) m)
      = Store.get (fun _ => 0) (o * 2 ^ 16 + x) m := by
  refine get_storeCols_out _ _ _ _ fun y hy hk => ?_
  obtain ⟨l, hl, hr, rfl⟩ := (mem_colPairs s e k f y).mp hy
  have hcol := laneCol_lt s hw hr
  simp only at hk
  rcases h with h | h
  · omega
  · exact h l hl hr (by omega)

/-! ### Planes and outputs -/

/-- An output instruction writes its output in the lanes of the sweep, and nothing else (R224). -/
theorem outWrite_spec (e out : Nat) (i : XferOp) (f : Nat → Nat) (hw : s.sweepWidth e ≤ 2 ^ 16) :
    s.OutResult e i.stg out f (s.folioWrites e (s.outWrite e i out f)) := by
  have houts (o x : Nat) : (s.folioWrites e (s.outWrite e i out f)).folioOut e o x = Store.get (fun _ => 0) (o * 2 ^ 16 + x)
      (storeCols (out * 2 ^ 16) (s.colPairs e i.stg (s.laneReal e i.stg) f) (s.engine e).outs) := by
    simp only [State.folioWrites, State.outWrite, List.foldl_cons, List.foldl_nil, State.folioWrite, State.folioOut, engine_setEngine_self]
    rfl
  refine ⟨fun l hl hr => (houts _ _).trans (get_lanes_stored s e i.stg _ f _ hl hr),
    fun o x h _ hx => (houts o x).trans (get_lanes_kept s e i.stg out o x f _ hw hx h), ?_, ?_, ?_,
    ⟨?_, fun g hg => folioWrites_engine_ne s hg _⟩, setEngine_keeps s e _ _ _ (by simp)⟩
  all_goals simp [State.folioWrites, State.folioWrite, State.outWrite]

/-- The store of the lanes of the sweep into a plane slot, and nothing else (R190). -/
theorem folioWrites_plane (e k p : Nat) (f : Nat → Nat) (hw : s.sweepWidth e ≤ 2 ^ 16) :
    let v := s.folioWrites e [.cols true p (s.colPairs e k (s.laneReal e k) f)]
    (∀ l, l < 32 → s.laneReal e k l = true → v.planeAt e p (s.laneCol e k l) = f l) ∧
      (∀ q y, q ≠ p ∨ (∀ l, l < 32 → s.laneReal e k l = true → (edgeCol (s.sweepWidth e) y : Int) ≠ s.laneCol e k l) →
        v.planeAt e q y = s.planeAt e q y) ∧
      (v.engine e).v = (s.engine e).v ∧ (v.engine e).sc = (s.engine e).sc ∧ (v.engine e).outs = (s.engine e).outs ∧ s.engineFixed e v ∧
      s.Keeps [.folio] noReg v := by
  intro v
  have hplane (q : Nat) (y : Int) : v.planeAt e q y = Store.get (fun _ => 0) (q * 2 ^ 16 + edgeCol (s.sweepWidth e) y)
      (storeCols (p * 2 ^ 16) (s.colPairs e k (s.laneReal e k) f) (s.engine e).planes) := by
    simp only [v, State.folioWrites, List.foldl_cons, List.foldl_nil, State.folioWrite, State.planeAt, engine_setEngine_self]
    rfl
  refine ⟨fun l hl hr => ?_, fun q y h => (hplane q y).trans ?_, ?_, ?_, ?_,
    ⟨?_, fun g hg => folioWrites_engine_ne s hg _⟩, setEngine_keeps s e _ _ _ (by simp)⟩
  · rw [hplane, edgeCol_of_real s hr]
    exact get_lanes_stored s e k _ f _ hl hr
  · refine get_lanes_kept s e k p q _ f _ hw (edgeCol_lt hw y) (h.imp_right fun h l hl hr hc => h l hl hr ?_)
    obtain ⟨h0, -⟩ := (laneReal_iff s e k l).mp hr
    omega
  all_goals simp [v, State.folioWrites, State.folioWrite]

end Sys2Proof.Machine
end

section
/-! The transfers (R190, R205, R222 to R227), row by row. -/

namespace Sys2Proof.Machine

variable (s : State)

/-! ### The slot -/

/-- A transfer with a refused value has no result (R205). -/
theorem xferSlot_refused (e : Nat) {i : XferOp} (h : xferValid i = false) : s.xferSlot e i = [] := by
  simp [State.xferSlot, h]

/-- A refused value of RROW's signed fields. -/
theorem xferValid_rrow (d a stg x : Nat) : xferValid ⟨1, d, a, stg, x⟩ = decide (signed 4 x ≠ -8 ∧ signed 4 (x / 2 ^ 4) ≠ -8) := by
  simp [xferValid, xferSigned]

theorem xferValid_pld (d a stg x : Nat) :
    xferValid ⟨2, d, a, stg, x⟩ = (decide (x % 4 = 1 ∨ x % 4 = 2) && decide (signed 4 (x / 2 ^ 6) ≠ -8)) := Bool.decide_and _ _

theorem xferValid_pst (d a stg x : Nat) :
    xferValid ⟨3, d, a, stg, x⟩ = (decide (x % 4 = 1 ∨ x % 4 = 2) && decide (x / 2 ^ 6 % 16 = 0)) := rfl

theorem xferValid_ctx (d a stg x : Nat) : xferValid ⟨0xB, d, a, stg, x⟩ = decide (x % 16 < 5 ∨ 8 ≤ x % 16) := rfl

/-- The plane slot that a word names, direct or by a scalar in range (R190). -/
theorem planeIndex_inRange (e slot : Nat) (p : Prop) [Decidable p] (h : p → s.sreg e slot < s.geom e Fld.FOLIO_GEOM_NPL) :
    s.planeIndex e (decide p) slot = some (if p then s.sreg e slot else slot) := by
  by_cases hp : p <;> simp [State.planeIndex, hp, h]

/-- A scalar out of range names none. -/
theorem planeIndex_outOfRange (e slot : Nat) (p : Prop) [Decidable p] (h : ¬(p → s.sreg e slot < s.geom e Fld.FOLIO_GEOM_NPL)) :
    s.planeIndex e (decide p) slot = none := by
  obtain ⟨hp, hle⟩ := Classical.not_imp.mp h
  simp [State.planeIndex, hp, hle]

section
variable (e d a stg x : Nat)

theorem xferSlot_rrow (h : xferValid ⟨1, d, a, stg, x⟩ = true) : s.xferSlot e ⟨1, d, a, stg, x⟩ =
    [.vec d (lanes32 fun l => s.ringAt e (signed 4 x * (if bit x 8 = true then s.webPhases else 1 : Nat))
      (s.laneCol e stg l + signed 4 (x / 2 ^ 4)))] := by
  simp [State.xferSlot, h, xferSigned, apply_ite (Nat.cast (R := Int))]

theorem xferSlot_pld_some (h : xferValid ⟨2, d, a, stg, x⟩ = true) {p : Nat} (hp : s.planeIndex e (decide (x % 4 = 2)) (x / 4 % 16) = some p) :
    s.xferSlot e ⟨2, d, a, stg, x⟩ = [.vec d (lanes32 fun l => s.planeAt e p (s.laneCol e stg l + signed 4 (x / 2 ^ 6)))] := by
  simp [State.xferSlot, h, hp, xferSigned]

theorem xferSlot_pld_none (h : xferValid ⟨2, d, a, stg, x⟩ = true) (hp : s.planeIndex e (decide (x % 4 = 2)) (x / 4 % 16) = none) :
    s.xferSlot e ⟨2, d, a, stg, x⟩ = [.vec d (lanes32 fun _ => 0), .planeErr] := by
  simp [State.xferSlot, h, hp]

theorem xferSlot_pst_some (h : xferValid ⟨3, d, a, stg, x⟩ = true) {p : Nat} (hp : s.planeIndex e (decide (x % 4 = 2)) (x / 4 % 16) = some p) :
    s.xferSlot e ⟨3, d, a, stg, x⟩ = [.cols true p (s.colPairs e stg (s.laneReal e stg) fun l => s.vreg e a l)] := by
  simp [State.xferSlot, h, hp]

theorem xferSlot_pst_none (h : xferValid ⟨3, d, a, stg, x⟩ = true) (hp : s.planeIndex e (decide (x % 4 = 2)) (x / 4 % 16) = none) :
    s.xferSlot e ⟨3, d, a, stg, x⟩ = [.planeErr] := by
  simp [State.xferSlot, h, hp]

theorem xferSlot_ctx (h : x % 16 < 5 ∨ 8 ≤ x % 16) : s.xferSlot e ⟨0xB, d, a, stg, x⟩ = [.scal d (s.context e (x % 16))] := by
  simp [State.xferSlot, xferValid_ctx, h]

end

/-! ### Context sources -/

/-- A context source that the ring row at the lag answers (R183, R227). -/
theorem context_row (e : Nat) {r : RingRow} (h : (s.engine e).ring[s.lag e]? = some r) :
    s.context e 0 = unsignedOf 32 r.line ∧ s.context e 1 = r.phase := by
  have hrow : rowOfAge (s.engine e).ring (s.lag e) = some r := by simp [rowOfAge, h]
  simp [State.context, hrow]

theorem context_newest (e : Nat) {r : RingRow} (h : (s.engine e).ring.head? = some r) : s.context e 2 = r.phase := by
  simp [State.context, h]

theorem context_param (e : Nat) {code : Nat} (h : 8 ≤ code) : s.context e code = ((s.engine e).params[code - 8]?).getD 0 := by
  simp only [State.context]
  repeat rw [if_neg (by omega)]

/-- CTX with a source that the table has. -/
theorem exec_ctx (e d a stg x : Nat) {code n : Nat} (hx : x % 16 = code) (hok : code < 5 ∨ 8 ≤ code) (hn : s.context e code = n) :
    ∃ v : State, exec (.ctx e d a stg x) s = .next v ∧ s.ScalResult e d n v := by
  subst hx hn
  exact exec_scal s rfl (xferSlot_ctx s e d a stg x hok)

/-- Settles O59: each row is its line of `xferSlot`; lanes store at distinct columns (`lane_of_column`). -/
theorem transfers : Obligations.Transfers := by
  unfold Obligations.Transfers
  intro s e d a stg x col rho nib slot ok p inRange
  have rrowValid : xferValid ⟨1, d, a, stg, x⟩ = decide (rho ≠ -8 ∧ nib 4 ≠ -8) := xferValid_rrow d a stg x
  have pldValid : xferValid ⟨2, d, a, stg, x⟩ = (ok && decide (nib 6 ≠ -8)) := xferValid_pld d a stg x
  have pstValid : xferValid ⟨3, d, a, stg, x⟩ = (ok && decide (x / 2 ^ 6 % 16 = 0)) := xferValid_pst d a stg x
  have hin (h : inRange = true) : s.planeIndex e (decide (x % 4 = 2)) slot = some p :=
    planeIndex_inRange s e slot (x % 4 = 2) (of_decide_eq_true h)
  have hout (h : inRange = false) : s.planeIndex e (decide (x % 4 = 2)) slot = none :=
    planeIndex_outOfRange s e slot (x % 4 = 2) (of_decide_eq_false h)
  refine ⟨fun hr hc => exec_vec s rfl (xferSlot_rrow s e d a stg x (by simp [rrowValid, hr, hc])),
    fun h => exec_nop s rfl (xferSlot_refused s e (by simpa [rrowValid, Decidable.imp_iff_not_or] using h)),
    fun hok hc => ?_, fun h => exec_nop s rfl (xferSlot_refused s e (by rw [pldValid, Bool.and_eq_false_iff]; simpa using h)),
    fun hok hz => ?_, fun h => exec_nop s rfl (xferSlot_refused s e (by rw [pstValid, Bool.and_eq_false_iff]; simpa using h)),
    fun hw => ⟨⟨_, rfl, outWrite_spec s e 0 ⟨4, d, a, stg, x⟩ _ hw⟩, ⟨_, rfl, outWrite_spec s e 1 ⟨5, d, a, stg, x⟩ _ hw⟩,
      ⟨_, rfl, outWrite_spec s e (2 + x % 4) ⟨6, d, a, stg, x⟩ _ hw⟩⟩,
    ?_, exec_vec s rfl rfl, ?_, exec_scal s rfl rfl,
    fun r hr => ⟨fun hx => exec_ctx s e d a stg x hx (by decide) (context_row s e hr).1,
      fun hx => exec_ctx s e d a stg x hx (by decide) (context_row s e hr).2⟩,
    fun r hr hx => exec_ctx s e d a stg x hx (by decide) (context_newest s e hr),
    fun hx => exec_ctx s e d a stg x hx (by decide) rfl, fun hx => exec_ctx s e d a stg x hx (by decide) rfl,
    fun h5 h8 => exec_nop s rfl (xferSlot_refused s e ((xferValid_ctx d a stg x).trans (decide_eq_false (by omega)))),
    fun h8 => exec_ctx s e d a stg x rfl (.inr h8) (context_param s e h8)⟩
  case refine_1 =>
    have hv : xferValid ⟨2, d, a, stg, x⟩ = true := pldValid.trans (Bool.and_eq_true_iff.mpr ⟨hok, decide_eq_true hc⟩)
    refine ⟨fun h => exec_vec s rfl (xferSlot_pld_some s e d a stg x hv (hin h)), fun h => ⟨_, rfl, ?_⟩⟩
    rw [xferSlot_pld_none s e d a stg x hv (hout h)]
    exact (folioWrites_vec_planeErr s e d _).symm
  case refine_2 =>
    have hv : xferValid ⟨3, d, a, stg, x⟩ = true := pstValid.trans (Bool.and_eq_true_iff.mpr ⟨hok, decide_eq_true hz⟩)
    refine ⟨fun h hw => ⟨_, rfl, ?_⟩, fun h => ⟨_, rfl, ?_⟩⟩
    · rw [xferSlot_pst_some s e d a stg x hv (hin h)]
      exact folioWrites_plane s e stg p _ hw
    · rw [xferSlot_pst_none s e d a stg x hv (hout h)]
      exact ⟨rfl, num_bump_self _ _⟩
  case refine_3 =>
    refine exec_vec s rfl (congrArg (fun f => [FolioWrite.vec d (lanes32 f)]) (funext fun l => ?_))
    simp [State.laneCol, pat16]
  case refine_4 =>
    obtain ⟨v, hv, hlanes, hrest⟩ := exec_vec s (c := .vbc e d a stg x) rfl rfl
    exact ⟨v, hv, fun l hl => (hlanes l hl).trans (Nat.mod_mod _ _), hrest⟩

end Sys2Proof.Machine
end

section
/-! The reductions (R226), row by row of the table. -/

namespace Sys2Proof.Machine

variable (s : State)

/-- The low 32 bits of an integer that is no less than 0. -/
theorem toNat_mod_eq_unsignedOf {x : Int} (h : 0 ≤ x) : x.toNat % 2 ^ 32 = unsignedOf 32 x := by
  unfold unsignedOf
  omega

theorem unsignedOf_mod (x : Int) : unsignedOf 32 x % 2 ^ 32 = unsignedOf 32 x := Nat.mod_eq_of_lt (unsignedOf_lt 32 x)

/-- A reduction folds the territory lanes where there is one, and is a NOP where there is none. -/
theorem exec_reduction {c : Instr} {e d a stg rop : Nat} {r : Int} (ls : List Nat) (hls : s.terrLanes e ⟨7, d, a, stg, rop⟩ = ls)
    (hc : exec c s = .next (s.folioWrites e (s.xferSlot e ⟨7, d, a, stg, rop⟩)))
    (hr : ls ≠ [] → reduceInto (rop % 8) (s.sreg e d) ls % 2 ^ 32 = unsignedOf 32 r) :
    (ls ≠ [] → ∃ v : State, exec c s = .next v ∧ s.ScalResult e d (unsignedOf 32 r) v) ∧ (ls = [] → exec c s = .next s) := by
  have hslot : s.xferSlot e ⟨7, d, a, stg, rop⟩ = if ls.isEmpty then [] else [.scal d (reduceInto (rop % 8) (s.sreg e d) ls)] := by
    rw [← hls]
    rfl
  refine ⟨fun h => ?_, fun h => exec_nop s hc (by simp [hslot, h])⟩
  obtain ⟨v, hv, hd, hrest⟩ := exec_scal s hc (hslot.trans (if_neg (by simpa using h)))
  refine ⟨v, hv, ?_, hrest⟩
  rw [hd, hr h, unsignedOf_mod]

theorem min_leastOf (g : Int) {l : List Int} (h : l ≠ []) : min g (leastOf g l) = l.foldl min g := by
  rw [leastOf_eq_min g h, List.foldl_min_eq_min h]

theorem max_greatestOf (g : Int) {l : List Int} (h : l ≠ []) : max g (greatestOf g l) = l.foldl max g := by
  rw [greatestOf_eq_max g h, List.foldl_max_eq_max h]

/-- The least of numbers is no less than 0. -/
theorem leastOf_nonneg (k : Int) {l : List Int} (hl : ∀ x ∈ l, 0 ≤ x) (h : l ≠ []) : 0 ≤ leastOf k l := by
  rw [leastOf_eq_min k h]
  exact hl _ (List.min_mem h)

/-- Settles O60: each row is its line of `reduceInto`. -/
theorem reductions : Obligations.Reductions := by
  unfold Obligations.Reductions
  intro s e d a stg ls u g ul sl top
  -- The statement's list is written through a coercion of `ls`.
  have hul : ul = ls.map fun v : Nat => (v : Int) := by simp [ul, List.map_eq_flatMap]
  clear_value ul
  subst hul
  have hu : 0 ≤ u := Int.natCast_nonneg _
  have htop {n : Int} (h : 0 ≤ n) : (min 0xFFFFFFFF n).toNat % 2 ^ 32 = unsignedOf 32 (top n) :=
    toNat_mod_eq_unsignedOf (le_min (by norm_num) h)
  have hsum : 0 ≤ (ls.map fun v : Nat => (v : Int)).sum := List.sum_nonneg (by simp)
  have hsq : 0 ≤ ((ls.map fun v : Nat => (v : Int)).map fun v => v * v).sum := List.sum_nonneg (by simp [mul_self_nonneg])
  have hcount : ((ls.map fun v : Nat => (v : Int)).filter fun v => v ≠ 0).length = (ls.filter fun v => v ≠ 0).length := by
    simp [List.filter_map, Function.comp_def]
  have hne (h : ls ≠ []) : (ls.map fun v : Nat => (v : Int)) ≠ [] := by simp [h]
  have hsl (h : ls ≠ []) : sl ≠ [] := by simp [sl, h]
  simp only [List.forall_mem_cons, List.not_mem_nil, false_implies, implies_true, and_true]
  exact ⟨exec_reduction s ls rfl rfl fun _ => htop (by omega),
    exec_reduction s ls rfl rfl fun _ => unsignedOf_mod _,
    exec_reduction s ls rfl rfl fun _ => htop (by omega),
    exec_reduction s ls rfl rfl fun h => min_leastOf u (hne h) ▸ toNat_mod_eq_unsignedOf (le_min hu (leastOf_nonneg _ (by simp) (hne h))),
    exec_reduction s ls rfl rfl fun h => max_greatestOf u (hne h) ▸ toNat_mod_eq_unsignedOf (le_max_of_le_left hu),
    exec_reduction s ls rfl rfl fun h => min_leastOf g (hsl h) ▸ unsignedOf_mod _,
    exec_reduction s ls rfl rfl fun h => max_greatestOf g (hsl h) ▸ unsignedOf_mod _,
    exec_reduction s ls rfl rfl fun _ => hcount ▸ htop (by omega)⟩

end Sys2Proof.Machine
end
